-- ==== Sys2Proof/Word.lean ====
section
/-! DEFINITION. The plain words of the model: bytes, HB24 words, accumulators, the three bands and the per-band triple. -/

namespace Sys2Proof

/-- An 8-bit byte. -/
abbrev Byte := BitVec 8

/-- An HB24 data word (15 R369). -/
abbrev Word24 := BitVec 24

/-- An HB24 accumulator (15 R371). -/
abbrev Acc := BitVec 56

/-- A 16-bit instruction parcel (15 R369). -/
abbrev Parcel := BitVec 16

/-- The bands U, M and L (00 headline figures). -/
inductive Band where
  | u | m | l
deriving DecidableEq, Repr

/-- The band code: 0 U, 1 M, 2 L. -/
def Band.code : Band → Nat
  | .u => 0 | .m => 1 | .l => 2

/-- The band of a code 0..2. -/
def Band.ofCode : Nat → Option Band
  | 0 => some .u | 1 => some .m | 2 => some .l | _ => none

/-- One value per band. -/
structure PerBand (α : Type) where
  u : α
  m : α
  l : α
deriving DecidableEq, Repr

/-- The value of a band. -/
def PerBand.get {α : Type} (p : PerBand α) : Band → α
  | .u => p.u | .m => p.m | .l => p.l

/-- Replaces the value of a band. -/
def PerBand.set {α : Type} (p : PerBand α) (b : Band) (v : α) : PerBand α :=
  match b with
  | .u => { p with u := v }
  | .m => { p with m := v }
  | .l => { p with l := v }

/-- Applies a function to the value of a band. -/
def PerBand.upd {α : Type} (p : PerBand α) (b : Band) (f : α → α) : PerBand α := p.set b (f (p.get b))

/-- Applies a function to the three values. -/
def PerBand.map {α β : Type} (f : α → β) (p : PerBand α) : PerBand β := ⟨f p.u, f p.m, f p.l⟩

end Sys2Proof
end

