-- ==== Sys2Proof/Syntax.lean ====
section
/-! DEFINITION. The commands of the block, one constructor per row of spec/opcode_table.json, and the shapes of their operands.
Prefix `ev`: a timed or outside event, carrying what arrives from outside; `hb`: an HB24 instruction that a core executes, with the
operand form of its encoding, reserved fields included (15 R376, R377); `reg`: an access to an I/O register; `cmd`: a command packet
of the command channel (12 R296). -/

namespace Sys2Proof

/-- The forms of the two ALU tables (15): `ALU2 d, s` and `ALU3 d, a, b` with its reserved field `z` (q[3:0]). -/
inductive AluForm where
  | two (d s : Fin 16)
  | three (d a b : Fin 16) (z : Fin 16)
deriving DecidableEq, Repr

/-- `ADDI`: the 16-bit form with 8 bits and the 32-bit form with 20 bits. -/
inductive AddiForm where
  | short (i : BitVec 8)
  | long (i : BitVec 20)
deriving DecidableEq, Repr

/-- `LD` and `ST` forms: x with [p+u], x with [p] and a post-modify code, g with [p+o]. -/
inductive MemForm where
  | disp (x : Fin 8) (p : Fin 8) (u : BitVec 7)
  | post (x : Fin 8) (p : Fin 8) (pm : Fin 8)
  | off (g : Fin 16) (p : Fin 8) (o : BitVec 16)
deriving DecidableEq, Repr

/-- `CB.eq` and `CB.ne`: the 16-bit form over x and the 32-bit form over g. -/
inductive CbForm where
  | short (d s : Fin 8) (o : BitVec 6)
  | long (a b : Fin 16) (o : BitVec 16)
deriving DecidableEq, Repr

/-- `CBZ` and `CBNZ`: the 16-bit form over x and the 32-bit form over g with its reserved field (f[3:1]). -/
inductive CbzForm where
  | short (x : Fin 8) (o : BitVec 8)
  | long (g : Fin 16) (o : BitVec 16) (z : Fin 8)
deriving DecidableEq, Repr

/-- `REP` and `REPI`: 16-bit form, 32-bit immediate form, 32-bit register form; `z` is f[5:4]. -/
inductive RepForm where
  | short (n : BitVec 9)
  | imm (n : BitVec 16) (g : Fin 16) (z : Fin 4)
  | reg (g : Fin 16) (n : BitVec 16) (z : Fin 4)
deriving DecidableEq, Repr

/-- `IN` and `OUT`: through a pointer with a signed offset, or at an absolute I/O address with its reserved field (f[2:0]). -/
inductive IoForm where
  | ptr (g : Fin 16) (p : Fin 8) (o : BitVec 16)
  | abs (g : Fin 16) (io : BitVec 16) (z : Fin 8)
deriving DecidableEq, Repr

/-- `SEV`: immediate mask of 17 bits with reserved f[7:1], or a register with reserved f[3:0] and q. -/
inductive SevForm where
  | imm (mask : BitVec 17) (z : Fin 128)
  | reg (g : Fin 16) (z : Nat)
deriving DecidableEq, Repr

/-- `NOP`, and the encodings that no table of 15 defines (15 R375), 16 or 32 bits long. -/
inductive NopForm where
  | plain
  | undefined (long : Bool)
deriving DecidableEq, Repr

/-- A command packet as it reached the packet buffer (12 R296): the transport it came by, its source (16 address bytes as 13 R574 gives
them, then the port), the header's fields but for `OPCODE`, which the row gives, the payload, the tag and the number of further bytes. -/
structure Packet where
  transport : Nat
  source : List Byte
  magic : Nat
  vmaj : Nat
  vmin : Nat
  flags : Nat
  seq : Nat
  tenant : Nat
  role : Nat
  plen : Nat
  sid : Nat
  hcrc : Nat
  payload : List Byte
  tag : List Byte
  extra : Nat
deriving DecidableEq, Repr

/-- One item of a lane's line (02 R28): a character after 8b/10b decoding, control or data; or a block after descrambling, with the two bits
of its sync header in the order sent. -/
inductive LineItem where
  | char (k : Bool) (b : Byte)
  | block (sync : BitVec 2) (b : List Byte)
deriving DecidableEq, Repr

/-- An uplink frame at the adit (02 R28, R29): the line's items from `FRAME_START` to `FRAME_END`, and the arrival of its reference point in
1/16 UI. -/
structure RawFrame where
  items : List LineItem
  arrival : Nat
deriving DecidableEq, Repr

/-- A frame received on an Ethernet port (21): its bytes from the destination address to the last before the FCS, and whether the FCS is valid. -/
structure EthFrame where
  port : Fin 2
  bytes : List Byte
  fcsOk : Bool
deriving DecidableEq, Repr

/-- The place of an operand of a row that takes nothing from outside: all that it works on stands in the state. It has one value and no meaning
reads it. -/
abbrev NoInput := Unit

/-- A UART character as sampled (20 R482): samples 7, 8 and 9 (bits 0, 1 and 2) of each bit from the start bit on, in the order on the line, and how
long RXD was at mark before its falling edge, in sixteenths of a bit. -/
structure UartChar where
  bits : List (BitVec 3)
  mark : Nat
deriving DecidableEq, Repr

/-- An edge on an event input (20 R498): its TCNT tick and 1/256 fraction, direction, and how long the new level held (ns). -/
structure EvEdge where
  tick : Nat
  frac : Nat
  rising : Bool
  held : Nat
deriving DecidableEq, Repr

/-- What the CFG_STRAP measurement finds at a POWER-ON RESET (14 R351): the resistance class 0..15, or none outside every class. -/
structure Strap where
  code : Option (Fin 16)
deriving DecidableEq, Repr

/-- What a boot finds in flash that no command writes: in the firmware areas (14 R353), for each image that verifies, its version (major,
minor, patch) and its baseline range; in `PROV`, the bytes that a flash programmer left (14 R354). -/
structure BootFound where
  fw : List (Option (Nat × Nat × Nat × Nat × Nat))
  prov : List Byte := []
deriving DecidableEq, Repr

/-- A ring's reading (22 R519): the wear entry of its unit and the frequency loss in 0.01 %. -/
structure WearReading where
  unit : Nat
  value : Int
deriving DecidableEq, Repr

/-- The commands of the GV9600: one constructor per row of the table of operations and events. -/
inductive Instr where
  /-- EPOCH_BOUNDARY (R18): When TCNT reaches an epoch boundary tick, the changeover window applies every change deferred to that boundary in the commit order. -/
  | evEpochBoundary
  /-- HAULAGE_BLOCK_RELEASE (R15): At its release time the haulage delivers a block of each stream to the named stopes and to armed captures. -/
  | evHaulageBlockRelease (counts : List Nat)
  /-- CAPTURE_TIME_TRIGGER (R69): A region armed with trigger 1 triggers at the block that contains TTIME. -/
  | evCaptureTimeTrigger (region : Fin 8)
  /-- STRIDE_START (R179): A stope starts a stride at its ready time and runs the ops of its template in order; `frep`: the highest frequency
  in MHz that its replica passes at that time, as far as the generator has followed it (R426). -/
  | evStrideStart (ls : Fin 32) (frep : Nat)
  /-- D1_DEADLINE (R212): At D1 every entry that has not landed is voided and reported. -/
  | evD1Deadline
  /-- D2_DEADLINE (R213): At D2 channels without COMMIT are void, and missing assay reductions are discarded. -/
  | evD2Deadline
  /-- DEPUTY_LOOP_UPDATE (R418): After the D1 wait the deputy runtime reads entries, forms discriminators, runs filters and kernels, and commits updates. -/
  | evDeputyLoopUpdate (ld : Fin 16) (u : NoInput)
  /-- ASSAY_FOLD (R105): Assay observations held for AHOLD are folded into the estimator. -/
  | evAssayFold (u : NoInput)
  /-- CAL_GENERATION (R109): Every AGEN epochs the Overman publishes a calibration generation. -/
  | evCalGeneration
  /-- QUARANTINE_EXPIRY (R114): An element-band not admitted within QMAX is rejected. -/
  | evQuarantineExpiry (el : Fin 96) (band : Band)
  /-- CAL_TABLE_SAVE (R120): Every 600 s the calibration table is written to flash. -/
  | evCalTableSave
  /-- EPHEMERIS_SAVE (R162): Every 600 s almanacs and ephemerides are saved to flash. -/
  | evEphemerisSave
  /-- SWEEP_END (R122): At the end of SWEEP_T the fresh solution is compared with the running one. -/
  | evSweepEnd (u : NoInput)
  /-- CODE_LIBRARY_CHECK (R128): Every 10 s the code library is checked against its CRC, and reloaded on failure. -/
  | evCodeLibraryCheck (flips : List (Nat × Byte))
  /-- INTERFERENCE_SURVEY (R92): A survey forms a site covariance and finds interferer signatures. -/
  | evInterferenceSurvey (site : Fin 12) (band : Band) (u : NoInput)
  /-- PULLIN_TIMEOUT (R147): A channel that stays in PULLIN for 2 000 epochs goes to LOST. -/
  | evPullinTimeout (ch : Fin 384)
  /-- COAST_TIMEOUT (R146): A channel that coasts longer than COAST_T goes to LOST. -/
  | evCoastTimeout (ch : Fin 384)
  /-- SEARCH_COMPLETE (R165): A search detects cells above threshold and refines its peaks. -/
  | evSearchComplete (u : NoInput)
  /-- CONFIRMATION (R168): A hot search CONF_GAP later confirms or discards a candidate. -/
  | evConfirmation (a b : NoInput)
  /-- BACKGROUND_COLD_SEARCH (R163): Every BG_PERIOD a background cold search is queued. -/
  | evBackgroundColdSearch
  /-- SOLUTION (R239): Every SOL_INT epochs the Overman solves, runs the integrity tests and issues the solution record. -/
  | evSolution (u : NoInput)
  /-- SUSPICION_EXPIRY (R254): A suspicion ends 60 s after its condition stops. -/
  | evSuspicionExpiry (index : Nat)
  /-- MEASUREMENT_RECORD (R243): The measurement record of each epoch is placed in each tenant's stream. -/
  | evMeasurementRecord
  /-- RTCM_EPOCH (R247): Every RTCM_INT an MSM epoch is produced. -/
  | evRtcmEpoch
  /-- NMEA_GROUP (R248): Each UTC second a group of NMEA sentences is sent. -/
  | evNmeaGroup
  /-- UPLINK_FRAME (R48): An uplink frame arrives and is checked, unpacked, and used for echoes and bring-up. -/
  | evUplinkFrame (el : Fin 96) (frame : RawFrame)
  /-- CAP_FRAME (R36): A capability frame in OFFER leads to the choice and sending of SELECT. -/
  | evCapFrame (el : Fin 96) (frame : RawFrame)
  /-- ALIGNMENT_GAINED (R44): 64 valid characters or blocks align the lane and start OFFER. -/
  | evAlignmentGained (el : Fin 96)
  /-- ALIGNMENT_LOST (R48): Loss of symbol or block alignment is a lane loss. -/
  | evAlignmentLost (el : Fin 96)
  /-- FRAMES_MISSING (R48): No valid frame for 8 frame periods is a lane loss. -/
  | evFramesMissing (el : Fin 96)
  /-- OFFER (R44): Every 100 µs in OFFER the GV9600 sends OFFER. -/
  | evOffer (el : Fin 96)
  /-- RATE_SWITCH (R44): 200 µs after the acknowledgement frame both ends change rate and coding. -/
  | evRateSwitch (el : Fin 96)
  /-- LANE_STATE_TIMEOUT (R46): A bring-up state that times out falls back to a lower combination or to DARK. -/
  | evLaneStateTimeout (el : Fin 96)
  /-- MARK (R40): Four times per epoch a MARK is sent at its scheduled reference point. -/
  | evMark (el : Fin 96) (departure : Nat)
  /-- CTRL_RETRY (R38): An unacknowledged control word is resent after 50 µs, and fails after four sends. -/
  | evCtrlRetry (el : Fin 96)
  /-- STANDBY_TIMEOUT (R51): 20 ms of downlink without a LAMP wake ends STANDBY. -/
  | evStandbyTimeout (el : Fin 96)
  /-- SCRUB_COPY_COMPLETE (R75): When the copy completes, the lode bank map is switched between two lode cycles. -/
  | evScrubCopyComplete
  /-- BANK_TEST_COMPLETE (R75): The released bank's deep test ends by keeping it as a spare or retiring it. -/
  | evBankTestComplete (pass : Bool)
  /-- DEPUTY_COPY_COMPLETE (R223): When the copy completes, the reserve deputy takes the logical deputy at the next boundary. -/
  | evDeputyCopyComplete
  /-- DEEP_TEST_COMPLETE (R524): A deep test of a reserve unit ends PASS, FAIL or INCOMPLETE. -/
  | evDeepTestComplete (matched : Bool) (frep : Nat)
  /-- PLAN_VERIFY_RESULT (R199): The final reply of a plan verification is sent. -/
  | evPlanVerifyResult
  /-- TALLY_VERIFY_RESULT (R345): The final reply of a chain walk is sent. -/
  | evTallyVerifyResult
  /-- PORT_CAL_RESULT (R279): A calibration burst ends, and RTT is set or left unchanged. -/
  | evPortCalResult (tp : Fin 32)
  /-- PORT_START (R274): A port starts at the first whole second at least 10 ms after its commit. -/
  | evPortStart (tp : Fin 32)
  /-- ECHO (R277): A returned edge is timestamped and updates the RTT. -/
  | evEcho (tp : Fin 32) (rt : Nat)
  /-- ECHO_MISSING (R280): ECHO_LOSS consecutive missing echoes cause an echo fault. -/
  | evEchoMissing (tp : Fin 32)
  /-- RETURN_STUCK (R280): A clock return held at one level for 1 ms causes an echo fault. -/
  | evReturnStuck (tp : Fin 32) (active : Bool)
  /-- PATH_CALIBRATION (R276): Every 600 s the internal port paths and the bank skew are measured. -/
  | evPathCalibration (paths : List Int) (skews : List Int)
  /-- TOD_MESSAGE (R289): A time-of-day message starts at the second plus TODOFF. -/
  | evTodMessage (tp : Fin 32)
  /-- REF_LOSS (R284): Loss of REFIN freezes the synthesizers and gates or coasts the ports. -/
  | evRefLoss
  /-- SYN_UNLOCK (R284): A synthesizer that loses lock coasts, and its ports gate. -/
  | evSynUnlock (syn : Fin 5)
  /-- REF_COAST_EXPIRY (R285): TP0–TP3 gate off after REF_COAST without reference. -/
  | evRefCoastExpiry
  /-- REF_RESTORE (R286): After 100 ms of clean REFIN the synthesizers relock and the ports resume. -/
  | evRefRestore
  /-- SESSION_IDLE_TIMEOUT (R309): A session without a valid request for IDLE_T closes. -/
  | evSessionIdleTimeout (sid : Nat)
  /-- AUTH_TIMEOUT (R306): A session not authenticated within 10 s of HELLO closes. -/
  | evAuthTimeout (sid : Nat)
  /-- LOCKOUT_EXPIRY (R307): The 60 s lockout of a source ends. -/
  | evLockoutExpiry (transport : Nat) (source : List Byte)
  /-- RESET_DELAY_EXPIRY (R445): The reset requested by DEV_RESET takes place after DELAY. -/
  | evResetDelayExpiry
  /-- TALLY_FLASH_WRITE (R341): A queued tally record is written to flash, and the head is updated. -/
  | evTallyFlashWrite
  /-- POWER_ON_RESET (R442): Valid main supplies start a POWER-ON RESET. -/
  | evPowerOnReset (strap : Strap)
  /-- BROWN_OUT (R442): A rail below its brown-out threshold for 2 µs causes a POWER-ON RESET. -/
  | evBrownOut (strap : Strap)
  /-- RESET_N (R450): RESET_N low for 1 µs holds the device in SYSTEM RESET until it rises. -/
  | evResetN (low : Bool)
  /-- DBG_SYS (R442): A system reset request at the debug port causes a SYSTEM RESET. -/
  | evDbgSys
  /-- DBG_CORE (R442): A core reset request at the debug port causes a CORE RESET. -/
  | evDbgCore
  /-- WATCHDOG (R443): The Overman watchdog expires after 2 s without a kick and causes a CORE RESET. -/
  | evWatchdog
  /-- THERMAL_TRIP_RELEASE (R444): A thermal trip ends 15 °C below the trip point, and boot follows. -/
  | evThermalTripRelease
  /-- BOOT (R353): On reset release the GV9600 verifies firmware, provisions, validates the charter and enters RUN or HOLD. -/
  | evBoot (found : BootFound)
  /-- FIRMWARE_RETRY (R353): Without a qualifying image the firmware choice is retried every 10 s. -/
  | evFirmwareRetry (found : BootFound)
  /-- POWER_ENTRY (R454): At the boundary after DEV_POWER, entry to RETAIN, LAMP or BACKUP runs. -/
  | evPowerEntry
  /-- EDGE_WINDOW_CLOSE (R457): At the close of the edge window, level wakes are sampled. -/
  | evEdgeWindowClose (ev : BitVec 8) (bev : BitVec 2)
  /-- POWER_EXIT (R458): A wake source ends the power state, and exit to RUN runs. -/
  | evPowerExit (code : Nat) (index : Nat)
  /-- LAMP_CYCLE (R460): A LAMP cycle powers up, captures, searches, compares time and returns to sleep. -/
  | evLampCycle (u : NoInput)
  /-- BLOCK_RESET_DONE (R451): A single-block reset completes. -/
  | evBlockResetDone
  /-- STOPE_STALL (R427): f_rep below 600 MHz stops the stope clock. -/
  | evStopeStall (st : Fin 36)
  /-- STALL_RESTART (R427): The stope clock restarts after f_rep holds at 620 MHz for 10 µs. -/
  | evStallRestart (st : Fin 36)
  /-- GENERATOR_UNLOCK (R428): A locked generator that loses lock holds its control value. -/
  | evGeneratorUnlock (isl : Fin 156)
  /-- GENERATOR_RELOCK (R428): A locked generator that regains lock clears UNLOCKED. -/
  | evGeneratorRelock (isl : Fin 156)
  /-- FORCED_CROSSING (R436): After 16 disagreeing sample pairs the value is frozen and accepted. -/
  | evForcedCrossing (src dst : Fin 156)
  /-- SEAM_TIMEOUT (R437): An acknowledge missing for 1 µs marks the seam broken. -/
  | evSeamTimeout (src dst : Fin 156)
  /-- BACKUP_POWER_ON (R464): PD_BK below 1.45 V resets the backup domain. -/
  | evBackupPowerOn
  /-- BACKUP_SUPPLY_SWITCH (R463): PD_BK switches between VDD_IO and VBAT without losing a tick. -/
  | evBackupSupplySwitch (onVbat : Bool)
  /-- TRIM_UPDATE (R471): Every 32 768 ticks the trim r and BK_PADJ are added to the fraction. -/
  | evTrimUpdate (temp : Int)
  /-- HALT_TIMEOUT (R468): A halt held for 65 535 ticks releases itself and sets TICK_ERR. -/
  | evHaltTimeout
  /-- PERIODIC_WAKE (R474): The count passing a multiple of the period sets PW_FLAG or wakes the device. -/
  | evPeriodicWake
  /-- BEV_EDGE (R475): A confirmed BEV edge is timestamped into its FIFO. -/
  | evBevEdge (n : Fin 2) (rising : Bool)
  /-- COUNTER_ALIGN (R467): Every 16 s the backup count is aligned to device time. -/
  | evCounterAlign
  /-- TRIM_LEARN (R473): A 1 000 s window of rate error updates the trim curve and TRIM_UNC. -/
  | evTrimLearn (a b c : NoInput)
  /-- VBAT_MEASURE (R477): VBAT is measured once per minute, and VBAT_LOW is reported below 1 800 mV. -/
  | evVbatMeasure (mv : Nat)
  /-- UART_CHARACTER (R482): A received character is sampled, checked and delivered or counted. -/
  | evUartCharacter (n : Fin 4) (c : UartChar)
  /-- LINE_DEAD (R488): RXD low for 64 character times puts the UART in DEAD. -/
  | evLineDead (n : Fin 4)
  /-- LINE_RECOVER (R488): RXD at mark for one character time leaves DEAD. -/
  | evLineRecover (n : Fin 4)
  /-- UART_TRANSMIT (R487): After the turn gap, queued characters are sent with the driver enable around them. -/
  | evUartTransmit (n : Fin 4)
  /-- U0_GAP_TIMEOUT (R491): A gap above 10 ms discards the U0 frame in progress. -/
  | evU0GapTimeout
  /-- SPI_WR (R493): A write transfer queues a packet, or is discarded for its CRC, length or lack of room. -/
  | evSpiWr (bytes : List Byte) (whole : Bool)
  /-- SPI_RD (R494): A read transfer sends the head outgoing packet, which leaves only on a complete read. -/
  | evSpiRd (complete : Bool)
  /-- SPI_ST (R492): A status transfer returns SPST and NEXTL. -/
  | evSpiSt
  /-- WAKE_PORT_MATCH (R495): An address match on the wake port acknowledges and wakes the device or starts a transaction. -/
  | evWakePortMatch (addr : BitVec 7) (read : Bool)
  /-- WAKE_PORT_READ (R496): A matched read in RUN returns state, grade, holdover and LASTWAKE. -/
  | evWakePortRead (count : Nat)
  /-- BUS_CLEAR (R497): SDA held low for 35 ms starts a bus clear. -/
  | evBusClear (risesAt : Option Nat)
  /-- SCL_STUCK (R497): SCL held low for 35 ms clears the matcher and raises FLT_LINE_DEAD. -/
  | evSclStuck
  /-- EVENT_EDGE (R498): An edge on an event input is stamped, or merged under the storm rules. -/
  | evEventEdge (n : Fin 8) (edge : EvEdge)
  /-- MAGIC_FRAME (R455): A magic frame wakes the GV9600 and is not executed. -/
  | evMagicFrame (f : EthFrame)
  /-- PTP_FRAME (R505): A received PTP event message is stamped and delivered to the PTP streams. -/
  | evPtpFrame (port : Fin 2) (frame : List Byte) (fcsOk : Bool)
  /-- PAUSE_FRAME (R515): A received PAUSE frame is ignored or honoured according to PAUSE_RX. -/
  | evPauseFrame (port : Fin 2) (quanta : Nat)
  /-- LINK_DOWN (R516): A link loss drops timed records past their deadline. -/
  | evLinkDown (port : Fin 2)
  /-- LINK_UP (R516): The link returns, and the streams resume sending. -/
  | evLinkUp (port : Fin 2)
  /-- EGRESS (R512): When the wire is free, the scheduler sends the next frame by class and bucket. -/
  | evEgress (port : Fin 2)
  /-- RING_MONITOR (R519): Every 60 s the ageing rings are measured, and wear and end of life are predicted. -/
  | evRingMonitor (readings : List WearReading)
  /-- SRAM_MARGIN_TEST (R523): The daily margin test of each bank may spare rows. -/
  | evSramMarginTest (unit : Nat) (margin : Int) (failedRow : Option Nat)
  /-- EYE_MONITOR (R519): The receive eye of each lane is averaged over 1 s. -/
  | evEyeMonitor (el : Fin 98) (eye : Nat)
  /-- THERMAL_SAMPLE (R526): Every 1 ms the sensors are sampled, Tj is formed, and faulty sensors are removed. -/
  | evThermalSample (readings : List Int)
  /-- THROTTLE_CHANGE (R527): A threshold crossing held for 16 ms changes the throttle state and the caps. -/
  | evThrottleChange
  /-- THERMAL_TRIP (R530): Tj at T_TRIP for 16 ms causes a SYSTEM RESET. -/
  | evThermalTrip
  /-- THERMAL_RETURN (R529): After THERM_BACK a swap back to the original plan is proposed. -/
  | evThermalReturn
  /-- INTERRUPT (R404): A pending enabled line is taken at an instruction boundary through its vector. -/
  | evInterrupt (core : Fin 19) (lines : BitVec 16)
  /-- KCYC_LIM_EXPIRY (R421): The user cycle budget reaching 0 raises vector 7. -/
  | evKcycLimExpiry (core : Fin 19)
  /-- WAIT_RELEASE (R394): A waiting WFE, WAITT or WFET resumes on its event or time. -/
  | evWaitRelease (core : Fin 19)
  /-- NOP (R376): No operation. -/
  | hbNop (core : Fin 19) (form : NopForm)
  /-- RET (R379): Returns through the stack after one delay slot. -/
  | hbRet (core : Fin 19)
  /-- RETI (R379): Pops st and pc, resuming a delay slot when DS is set. -/
  | hbReti (core : Fin 19)
  /-- WFE (R392): Waits for the event latch and clears it. -/
  | hbWfe (core : Fin 19)
  /-- BRK (R403): Raises the breakpoint trap. -/
  | hbBrk (core : Fin 19)
  /-- SETM (R382): Sets mode bits in st after the mode-change shadow. -/
  | hbSetm (core : Fin 19) (b : BitVec 4)
  /-- CLRM (R382): Clears mode bits in st after the mode-change shadow. -/
  | hbClrm (core : Fin 19) (b : BitVec 4)
  /-- PUSH (R384): Decrements sp and stores a register. -/
  | hbPush (core : Fin 19) (g : Fin 16)
  /-- POP (R384): Loads a register from the stack with the load delay and increments sp. -/
  | hbPop (core : Fin 19) (g : Fin 16)
  /-- JR (R379): Jumps to a register target after one delay slot. -/
  | hbJr (core : Fin 19) (g : Fin 16)
  /-- CALLR (R379): Calls a register target after one delay slot. -/
  | hbCallr (core : Fin 19) (g : Fin 16)
  /-- J (R379): Jumps to an absolute target after one delay slot. -/
  | hbJ (core : Fin 19) (target : Word24)
  /-- CALL (R379): Calls an absolute target after one delay slot. -/
  | hbCall (core : Fin 19) (target : Word24)
  /-- MOV (R377): Copies a register. -/
  | hbMov (core : Fin 19) (d s : Fin 16)
  /-- ADD (R378): Adds registers modulo 2^24. -/
  | hbAdd (core : Fin 19) (form : AluForm)
  /-- SUB (R378): Subtracts registers modulo 2^24. -/
  | hbSub (core : Fin 19) (form : AluForm)
  /-- AND (R377): Bitwise AND. -/
  | hbAnd (core : Fin 19) (form : AluForm)
  /-- OR (R377): Bitwise OR. -/
  | hbOr (core : Fin 19) (form : AluForm)
  /-- XOR (R377): Bitwise XOR. -/
  | hbXor (core : Fin 19) (form : AluForm)
  /-- NOT (R377): Bitwise complement. -/
  | hbNot (core : Fin 19) (d s : Fin 16)
  /-- NEG (R378): Negates a register. -/
  | hbNeg (core : Fin 19) (d s : Fin 16)
  /-- SHL (R378): Shifts left by a register count. -/
  | hbShl (core : Fin 19) (form : AluForm)
  /-- SHR (R378): Shifts right with zero fill. -/
  | hbShr (core : Fin 19) (form : AluForm)
  /-- SAR (R378): Shifts right with sign fill. -/
  | hbSar (core : Fin 19) (form : AluForm)
  /-- ADDS (R378): Adds with saturation. -/
  | hbAdds (core : Fin 19) (form : AluForm)
  /-- SUBS (R378): Subtracts with saturation. -/
  | hbSubs (core : Fin 19) (form : AluForm)
  /-- MIN (R377): Signed minimum. -/
  | hbMin (core : Fin 19) (form : AluForm)
  /-- MAX (R377): Signed maximum. -/
  | hbMax (core : Fin 19) (form : AluForm)
  /-- ABS (R378): Saturated absolute value. -/
  | hbAbs (core : Fin 19) (d s : Fin 16)
  /-- MUL (R377): Low 24 bits of the signed product. -/
  | hbMul (core : Fin 19) (d a b : Fin 16) (z : Fin 16)
  /-- MULH (R377): High 24 bits of the signed product. -/
  | hbMulh (core : Fin 19) (d a b : Fin 16) (z : Fin 16)
  /-- MULHU (R377): High 24 bits of the unsigned product. -/
  | hbMulhu (core : Fin 19) (d a b : Fin 16) (z : Fin 16)
  /-- ADDI (R378): Adds a signed immediate. -/
  | hbAddi (core : Fin 19) (g : Fin 16) (form : AddiForm)
  /-- MOVI (R377): Loads a sign-extended immediate. -/
  | hbMovi (core : Fin 19) (g : Fin 16) (i : BitVec 8)
  /-- LDI (R377): Loads a 24-bit immediate. -/
  | hbLdi (core : Fin 19) (g : Fin 16) (i : Word24)
  /-- ANDI (R377): AND with a zero-extended immediate. -/
  | hbAndi (core : Fin 19) (g : Fin 16) (i : BitVec 16)
  /-- ORI (R377): OR with a zero-extended immediate. -/
  | hbOri (core : Fin 19) (g : Fin 16) (i : BitVec 16)
  /-- XORI (R377): XOR with a zero-extended immediate. -/
  | hbXori (core : Fin 19) (g : Fin 16) (i : BitVec 16)
  /-- SHLI (R377): Shifts left by an immediate. -/
  | hbShli (core : Fin 19) (g : Fin 16) (i : BitVec 16)
  /-- SHRI (R377): Shifts right by an immediate with zero fill. -/
  | hbShri (core : Fin 19) (g : Fin 16) (i : BitVec 16)
  /-- SARI (R377): Shifts right by an immediate with sign fill. -/
  | hbSari (core : Fin 19) (g : Fin 16) (i : BitVec 16)
  /-- BSET (R377): Sets one bit. -/
  | hbBset (core : Fin 19) (g : Fin 16) (i : BitVec 16)
  /-- BCLR (R377): Clears one bit. -/
  | hbBclr (core : Fin 19) (g : Fin 16) (i : BitVec 16)
  /-- BTGL (R377): Toggles one bit. -/
  | hbBtgl (core : Fin 19) (g : Fin 16) (i : BitVec 16)
  /-- LD (R381): Loads from data memory with the load delay and post-modify. -/
  | hbLd (core : Fin 19) (form : MemForm)
  /-- ST (R373): Stores to data memory with post-modify. -/
  | hbSt (core : Fin 19) (form : MemForm)
  /-- CB_EQ (R379): Branches if equal, after one delay slot. -/
  | hbCbEq (core : Fin 19) (form : CbForm)
  /-- CB_NE (R379): Branches if not equal, after one delay slot. -/
  | hbCbNe (core : Fin 19) (form : CbForm)
  /-- CB_LT (R378): Branches if signed less than. -/
  | hbCbLt (core : Fin 19) (a b : Fin 16) (o : BitVec 16)
  /-- CB_GE (R378): Branches if signed greater than or equal. -/
  | hbCbGe (core : Fin 19) (a b : Fin 16) (o : BitVec 16)
  /-- CB_LTU (R378): Branches if unsigned less than. -/
  | hbCbLtu (core : Fin 19) (a b : Fin 16) (o : BitVec 16)
  /-- CB_GEU (R378): Branches if unsigned greater than or equal. -/
  | hbCbGeu (core : Fin 19) (a b : Fin 16) (o : BitVec 16)
  /-- CBZ (R379): Branches if zero. -/
  | hbCbz (core : Fin 19) (form : CbzForm)
  /-- CBNZ (R379): Branches if not zero. -/
  | hbCbnz (core : Fin 19) (form : CbzForm)
  /-- MAC (R399): Accumulates a product. -/
  | hbMac (core : Fin 19) (a : Fin 4) (s t : Fin 8)
  /-- MSU (R399): Subtracts a product from the accumulator. -/
  | hbMsu (core : Fin 19) (a : Fin 4) (s t : Fin 8)
  /-- MPY (R399): Writes a product to the accumulator. -/
  | hbMpy (core : Fin 19) (a : Fin 4) (s t : Fin 8)
  /-- MACR (R399): Accumulates a product with rounding. -/
  | hbMacr (core : Fin 19) (a : Fin 4) (s t : Fin 8)
  /-- MSUR (R399): Subtracts a product with rounding. -/
  | hbMsur (core : Fin 19) (a : Fin 4) (s t : Fin 8)
  /-- MPYR (R399): Writes a rounded product. -/
  | hbMpyr (core : Fin 19) (a : Fin 4) (s t : Fin 8)
  /-- MACM (R415): Performs a MAC op on two memory operands with post-modify. -/
  | hbMacm (core : Fin 19) (op : Fin 8) (a : Fin 4) (pa pb : Fin 8) (k1 k2 : Fin 8) (z : Fin 128)
  /-- REP (R386): Repeats the next instruction n times without interruption. -/
  | hbRep (core : Fin 19) (form : RepForm)
  /-- REPI (R388): Repeats the next instruction interruptibly under lc and RPT. -/
  | hbRepi (core : Fin 19) (form : RepForm)
  /-- IN (R398): Reads an I/O register with the load delay. -/
  | hbIn (core : Fin 19) (form : IoForm)
  /-- OUT (R398): Writes an I/O register as a posted write. -/
  | hbOut (core : Fin 19) (form : IoForm)
  /-- MOVS (R382): Moves between a general and a special register. -/
  | hbMovs (core : Fin 19) (s : Fin 64) (dir : Fin 4) (g : Fin 16) (z : BitVec 12)
  /-- CLR (R377): Clears an accumulator. -/
  | hbClr (core : Fin 19) (a : Fin 4) (z : Fin 32)
  /-- MOVA (R377): Copies an accumulator. -/
  | hbMova (core : Fin 19) (a b : Fin 4) (z : Fin 32)
  /-- ADDA (R399): Adds accumulators. -/
  | hbAdda (core : Fin 19) (a b : Fin 4) (z : Fin 32)
  /-- SUBA (R399): Subtracts accumulators. -/
  | hbSuba (core : Fin 19) (a b : Fin 4) (z : Fin 32)
  /-- NEGA (R399): Negates an accumulator. -/
  | hbNega (core : Fin 19) (a b : Fin 4) (z : Fin 32)
  /-- ABSA (R399): Absolute value of an accumulator. -/
  | hbAbsa (core : Fin 19) (a b : Fin 4) (z : Fin 32)
  /-- SHLA (R399): Shifts an accumulator left. -/
  | hbShla (core : Fin 19) (a : Fin 4) (sh : Fin 32) (z : Fin 32)
  /-- SARA (R400): Shifts an accumulator right arithmetically. -/
  | hbSara (core : Fin 19) (a : Fin 4) (sh : Fin 32) (z : Fin 32)
  /-- RND (R399): Rounds an accumulator at bit 24. -/
  | hbRnd (core : Fin 19) (a : Fin 4) (z : Fin 32)
  /-- SATA (R399): Saturates an accumulator to 48 bits. -/
  | hbSata (core : Fin 19) (a : Fin 4) (z : Fin 32)
  /-- NORM (R401): Normalises an accumulator. -/
  | hbNorm (core : Fin 19) (a : Fin 4) (z : Fin 32)
  /-- EXP (R401): Writes the normalising exponent to a register. -/
  | hbExp (core : Fin 19) (g : Fin 16) (a : Fin 4) (z : Fin 32)
  /-- SHI (R400): Writes the high part of an accumulator to a register. -/
  | hbShi (core : Fin 19) (g : Fin 16) (a : Fin 4) (z : Fin 32)
  /-- LDA (R377): Loads an accumulator from a register shifted by 24. -/
  | hbLda (core : Fin 19) (a : Fin 4) (g : Fin 16) (z : Fin 32)
  /-- LDAL (R377): Loads an accumulator from a sign-extended register. -/
  | hbLdal (core : Fin 19) (a : Fin 4) (g : Fin 16) (z : Fin 32)
  /-- SCALE (R401): Shifts an accumulator by ex. -/
  | hbScale (core : Fin 19) (a : Fin 4) (z : Fin 32)
  /-- BMOV (R389): Copies lc words interruptibly. -/
  | hbBmov (core : Fin 19) (pd ps : Fin 8) (kd ks : Fin 8) (z : Nat) (upTo : Option Nat)
  /-- BEXP (R390): Scans lc words for the block exponent. -/
  | hbBexp (core : Fin 19) (p : Fin 8) (k : Fin 8) (z : Nat) (upTo : Option Nat)
  /-- WAITT (R394): Waits until TCNT reaches T. -/
  | hbWaitt (core : Fin 19) (q : Fin 4) (z : Nat)
  /-- WFET (R394): Waits for the event latch or time T, whichever comes first. -/
  | hbWfet (core : Fin 19) (q : Fin 4) (xd : Fin 8) (z : Nat)
  /-- SEV (R392): Sets the event latches of the named cores. -/
  | hbSev (core : Fin 19) (form : SevForm)
  /-- TRAP (R403): Raises the trap exception with n; TRAP 0 ends a kernel. -/
  | hbTrap (core : Fin 19) (n : BitVec 8) (z : BitVec 16)
  /-- TCNT_LO (R393): A read returns TCNT[23:0] and latches TCNT_HI. -/
  | regTcntLo (core : Fin 19)
  /-- BND_LO (R417): A read returns the boundary tick and latches BND_HI. -/
  | regBndLo (core : Fin 19)
  /-- INT_PEND (R405): Writing 1 clears pending interrupt lines. -/
  | regIntPend (core : Fin 19) (value : Word24)
  /-- COMMIT (R139): Writing COMMIT stages a channel update for the next boundary, or discards it after D2. -/
  | regCommit (core : Fin 18) (slot : Fin 32) (value : Word24)
  /-- BLOCK_RESET (R451): Writing GO resets one block if it is idle, or refuses. -/
  | regBlockReset (value : Word24)
  /-- BK_CNT_LO (R466): A read latches the high count and the fraction. -/
  | regBkCntLo
  /-- TICK_HALT (R468): Writing TICK_HALT 1 freezes the backup count. -/
  | regTickHalt
  /-- TICK_RELEASE (R468): Writing TICK_HALT 0 loads BK_NEW plus the held ticks. -/
  | regTickRelease
  /-- BK_DST (R470): A write moves the local offset by one hour. -/
  | regBkDst (value : Word24)
  /-- BK_PADJ (R471): A write stages a phase adjustment of the backup count. -/
  | regBkPadj (value : Word24)
  /-- BK_STAT (R464): Writing 1 clears TICK_ERR or PW_FLAG. -/
  | regBkStat (value : Word24)
  /-- BEV_TS_LO (R475): A read pops the oldest BEV timestamp and latches its high part. -/
  | regBevTsLo (n : Fin 2)
  /-- BEV_MERGE (R475): A read returns and clears the merged-event counts. -/
  | regBevMerge
  /-- REGISTER_WRITE (R6): A write to a register without behaviour of its own takes effect by its access code. -/
  | regRegisterWrite (core : Fin 19) (addr : BitVec 16) (value : Word24)
  /-- HELLO (R301): Opens a session at the negotiated version. -/
  | cmdHello (p : Packet)
  /-- AUTH (R304): Authenticates a session and derives its key. -/
  | cmdAuth (p : Packet)
  /-- BYE (R309): Closes the session after the reply. -/
  | cmdBye (p : Packet)
  /-- PING (R323): Echoes bytes with the reception tick. -/
  | cmdPing (p : Packet)
  /-- SESS_LIST (R323): Lists sessions. -/
  | cmdSessList (p : Packet)
  /-- EVT_SUBSCRIBE (R326): Sets the session's report subscription. -/
  | cmdEvtSubscribe (p : Packet)
  /-- EVT_READ (R326): Returns stored reports from a sequence number. -/
  | cmdEvtRead (p : Packet)
  /-- SESS_PARAMS (R323): Sets IDLE_T of the session. -/
  | cmdSessParams (p : Packet)
  /-- DEV_INFO (R324): Returns device identity and versions. -/
  | cmdDevInfo (p : Packet)
  /-- DEV_STATE (R324): Returns device state. -/
  | cmdDevState (p : Packet)
  /-- DEV_RESET (R445): Schedules a SYSTEM or CORE RESET after DELAY. -/
  | cmdDevReset (p : Packet)
  /-- DEV_POWER (R454): Requests a power state with its wake parameters. -/
  | cmdDevPower (p : Packet)
  /-- RST_CLEAR (R446): Clears RST_CAUSE bits. -/
  | cmdRstClear (p : Packet)
  /-- DEV_FEATURES (R324): Returns the device features. -/
  | cmdDevFeatures (p : Packet)
  /-- CHARTER_STATUS (R368): Returns charter state, and clears LOCK_VIOLATION for the installer. -/
  | cmdCharterStatus (p : Packet)
  /-- CHARTER_LOAD (R357): Writes the standby charter copy. -/
  | cmdCharterLoad (p : Packet)
  /-- CHARTER_VERIFY (R359): Checks the standby copy. -/
  | cmdCharterVerify (p : Packet)
  /-- CHARTER_COMMIT (R360): Seals the standby copy for reset or live commit. -/
  | cmdCharterCommit (p : Packet)
  /-- CHARTER_READ (R357): Returns a byte range of a charter copy. -/
  | cmdCharterRead (p : Packet)
  /-- FUSE_READ (R366): Returns the fuse fields. -/
  | cmdFuseRead (p : Packet)
  /-- FUSE_WRITE (R366): Blows one write-once fuse field. -/
  | cmdFuseWrite (p : Packet)
  /-- SITE_LIST (R320): Returns site entries. -/
  | cmdSiteList (p : Packet)
  /-- ELEM_LIST (R320): Returns element entries. -/
  | cmdElemList (p : Packet)
  /-- LANE_STATUS (R50): Returns lane status blocks. -/
  | cmdLaneStatus (p : Packet)
  /-- LANE_CLEAR (R50): Clears lane counters. -/
  | cmdLaneClear (p : Packet)
  /-- LODE_ARM (R71): Arms a capture region. -/
  | cmdLodeArm (p : Packet)
  /-- LODE_TRIG (R70): Fires trigger 4 for a region. -/
  | cmdLodeTrig (p : Packet)
  /-- LODE_DISARM (R322): Returns a region to IDLE. -/
  | cmdLodeDisarm (p : Packet)
  /-- LODE_STATUS (R322): Returns a capture descriptor. -/
  | cmdLodeStatus (p : Packet)
  /-- ADIT_SET (R62): Writes an adit conditioning block for the next boundary. -/
  | cmdAditSet (p : Packet)
  /-- NOTCH_SET (R58): Sets a notch entry in every adit. -/
  | cmdNotchSet (p : Packet)
  /-- BEAM_LIST (R99): Returns beam descriptors. -/
  | cmdBeamList (p : Packet)
  /-- BAND_COHERENCE (R88): Returns groups and mode counts per band. -/
  | cmdBandCoherence (p : Packet)
  /-- NULL_LIST (R94): Returns nulls per site and band. -/
  | cmdNullList (p : Packet)
  /-- BEAM_POLICY (R91): Sets a band's beam policy. -/
  | cmdBeamPolicy (p : Packet)
  /-- SITE_MASK (R322): Sets a site's elevation mask and blockage sectors. -/
  | cmdSiteMask (p : Packet)
  /-- BEAM_DEFINE (R99): Defines a host-owned beam slot. -/
  | cmdBeamDefine (p : Packet)
  /-- BEAM_WEIGHTS (R77): Writes a weight set to a host-owned slot. -/
  | cmdBeamWeights (p : Packet)
  /-- NULL_PARAMS (R99): Sets the null survey parameters. -/
  | cmdNullParams (p : Packet)
  /-- COHERENCE_PARAMS (R87): Sets a band's coherence parameters. -/
  | cmdCoherenceParams (p : Packet)
  /-- ASSAY_STATUS (R123): Returns assay state per band. -/
  | cmdAssayStatus (p : Packet)
  /-- CAL_READ (R119): Returns the calibration table. -/
  | cmdCalRead (p : Packet)
  /-- QUAR_LIST (R123): Lists quarantined element-bands. -/
  | cmdQuarList (p : Packet)
  /-- ASSAY_SWEEP (R122): Starts a full assay sweep. -/
  | cmdAssaySweep (p : Packet)
  /-- ELEM_REQUAL (R114): Clears a rejection and restarts quarantine. -/
  | cmdElemRequal (p : Packet)
  /-- CAL_ACCEPT (R118): Adopts fitted or swept values for a site. -/
  | cmdCalAccept (p : Packet)
  /-- CAL_SAVE (R120): Writes the calibration table to flash. -/
  | cmdCalSave (p : Packet)
  /-- ASSAY_PARAMS (R124): Sets the assay parameters. -/
  | cmdAssayParams (p : Packet)
  /-- ASSAY_SIGNALS (R104): Pins or excludes assay signals. -/
  | cmdAssaySignals (p : Packet)
  /-- CAL_SEED (R108): Seeds entries of element-bands whose lane is not LIVE. -/
  | cmdCalSeed (p : Packet)
  /-- CH_LIST (R153): Returns channel descriptors. -/
  | cmdChList (p : Packet)
  /-- CH_STATUS (R153): Returns one channel's full state. -/
  | cmdChStatus (p : Packet)
  /-- CH_PIN (R150): Pins signals for tracking. -/
  | cmdChPin (p : Packet)
  /-- CH_RELEASE (R153): Ends tracking of a channel. -/
  | cmdChRelease (p : Packet)
  /-- SIG_POLICY (R322): Enables signal types by mask. -/
  | cmdSigPolicy (p : Packet)
  /-- CH_LOOP (R141): Sets a channel's loop parameters. -/
  | cmdChLoop (p : Packet)
  /-- CH_ARMS (R135): Sets a channel's arm set. -/
  | cmdChArms (p : Packet)
  /-- CH_KERNEL (R338): Binds or unbinds a loop kernel on channels. -/
  | cmdChKernel (p : Packet)
  /-- ACQ_STATUS (R173): Returns acquisition status. -/
  | cmdAcqStatus (p : Packet)
  /-- ACQ_RESULTS (R170): Returns acquisition result entries. -/
  | cmdAcqResults (p : Packet)
  /-- ACQ_START (R322): Queues a search of systems in a mode. -/
  | cmdAcqStart (p : Packet)
  /-- ACQ_ASSIST (R322): Sets time and position assistance. -/
  | cmdAcqAssist (p : Packet)
  /-- ACQ_SECTORS (R154): Sets NSECT of a site. -/
  | cmdAcqSectors (p : Packet)
  /-- ACQ_PARAMS (R173): Sets the acquisition parameters. -/
  | cmdAcqParams (p : Packet)
  /-- ACQ_SEARCH (R322): Queues one host search. -/
  | cmdAcqSearch (p : Packet)
  /-- PLAN_STATUS (R211): Returns plan slots and stope status. -/
  | cmdPlanStatus (p : Packet)
  /-- PLAN_LOAD (R202): Writes bytes to a staging slot. -/
  | cmdPlanLoad (p : Packet)
  /-- PLAN_VERIFY (R199): Starts the checks of a plan slot. -/
  | cmdPlanVerify (p : Packet)
  /-- PLAN_ACTIVATE (R203): Arms a verified plan for a swap. -/
  | cmdPlanActivate (p : Packet)
  /-- PLAN_DISCARD (R209): Cancels a pending swap or clears a slot. -/
  | cmdPlanDiscard (p : Packet)
  /-- PLAN_READ (R211): Returns a byte range of a plan slot. -/
  | cmdPlanRead (p : Packet)
  /-- PLAN_DERATED (R210): Designates or releases the derated plan. -/
  | cmdPlanDerated (p : Packet)
  /-- PLAN_MODEL (R322): Evaluates the timing model at stated clocks. -/
  | cmdPlanModel (p : Packet)
  /-- MEAS_STATUS (R261): Returns observation counts per system. -/
  | cmdMeasStatus (p : Packet)
  /-- SOL_STATUS (R261): Returns the latest solution and holdover state. -/
  | cmdSolStatus (p : Packet)
  /-- INTEG_STATUS (R261): Returns integrity state. -/
  | cmdIntegStatus (p : Packet)
  /-- SURVEY_START (R242): Starts a self-survey. -/
  | cmdSurveyStart (p : Packet)
  /-- HOLD_FORCE (R258): Sets or clears forced holdover. -/
  | cmdHoldForce (p : Packet)
  /-- SAT_EXCLUDE (R261): Excludes satellites from the solution. -/
  | cmdSatExclude (p : Packet)
  /-- SOL_PARAMS (R262): Sets the solution parameters. -/
  | cmdSolParams (p : Packet)
  /-- INTEG_PARAMS (R262): Sets the integrity parameters. -/
  | cmdIntegParams (p : Packet)
  /-- HOLD_PARAMS (R262): Sets the holdover parameters. -/
  | cmdHoldParams (p : Packet)
  /-- RTCM_PARAMS (R262): Sets the RTCM parameters. -/
  | cmdRtcmParams (p : Packet)
  /-- STREAM_OPEN (R514): Opens a stream after the admission check. -/
  | cmdStreamOpen (p : Packet)
  /-- STREAM_CLOSE (R518): Closes a stream. -/
  | cmdStreamClose (p : Packet)
  /-- STREAM_STATUS (R518): Returns stream status entries. -/
  | cmdStreamStatus (p : Packet)
  /-- SNAP_EXPORT (R518): Opens a SNAP stream for a HELD region. -/
  | cmdSnapExport (p : Packet)
  /-- STREAM_PARAMS (R518): Sets the Ethernet port parameters. -/
  | cmdStreamParams (p : Packet)
  /-- SYN_STATUS (R291): Returns synthesizer state. -/
  | cmdSynStatus (p : Packet)
  /-- PORT_STATUS (R291): Returns port configuration and status. -/
  | cmdPortStatus (p : Packet)
  /-- PORT_SET (R273): Writes a port's configuration. -/
  | cmdPortSet (p : Packet)
  /-- PORT_ENABLE (R274): Sets or clears ENABLE of ports. -/
  | cmdPortEnable (p : Packet)
  /-- PORT_CABLE (R291): Writes a port's cable and return settings. -/
  | cmdPortCable (p : Packet)
  /-- PORT_CAL (R279): Runs a calibration burst, accepts a jump or clears ECHO_MISS. -/
  | cmdPortCal (p : Packet)
  /-- SYN_DITHER (R269): Sets dither enables and seeds. -/
  | cmdSynDither (p : Packet)
  /-- SERVO_PARAMS (R292): Sets the servo and port parameters. -/
  | cmdServoParams (p : Packet)
  /-- TIME_STATUS (R479): Returns the backup counter state and LAMP records. -/
  | cmdTimeStatus (p : Packet)
  /-- TICK_SET (R469): Sets the backup count. -/
  | cmdTickSet (p : Packet)
  /-- TICK_DST (R470): Moves the local offset by an hour. -/
  | cmdTickDst (p : Packet)
  /-- WAKE_SET (R474): Sets the periodic wake. -/
  | cmdWakeSet (p : Packet)
  /-- BRAM_READ (R476): Reads backup RAM. -/
  | cmdBramRead (p : Packet)
  /-- BRAM_WRITE (R476): Writes backup RAM. -/
  | cmdBramWrite (p : Packet)
  /-- CHARGER_SET (R477): Configures the trickle charger. -/
  | cmdChargerSet (p : Packet)
  /-- TRIM_CURVE (R472): Writes the trim curve. -/
  | cmdTrimCurve (p : Packet)
  /-- HEALTH_STATUS (R534): Returns island status blocks. -/
  | cmdHealthStatus (p : Packet)
  /-- THERMAL_STATUS (R534): Returns thermal state. -/
  | cmdThermalStatus (p : Packet)
  /-- WEAR_LIST (R519): Returns wear entries. -/
  | cmdWearList (p : Packet)
  /-- SPARE_LIST (R525): Returns proposals and reserve units. -/
  | cmdSpareList (p : Packet)
  /-- THERMAL_PARAMS (R530): Sets the thermal parameters. -/
  | cmdThermalParams (p : Packet)
  /-- CANARY_PARAMS (R534): Sets the canary parameters. -/
  | cmdCanaryParams (p : Packet)
  /-- MAINT_STATUS (R230): Returns maintenance activities and queue. -/
  | cmdMaintStatus (p : Packet)
  /-- DL_STATUS (R230): Returns deadline state. -/
  | cmdDlStatus (p : Packet)
  /-- STOPE_SWAP (R221): Substitutes a reserve stope. -/
  | cmdStopeSwap (p : Packet)
  /-- DEPUTY_SWAP (R223): Substitutes a reserve deputy. -/
  | cmdDeputySwap (p : Packet)
  /-- DEEP_TEST (R524): Starts a deep test of a reserve unit. -/
  | cmdDeepTest (p : Packet)
  /-- LODE_SWAP (R75): Starts a scrub-and-swap of a lode bank. -/
  | cmdLodeSwap (p : Packet)
  /-- LANE_RENEG (R47): Renegotiates a LIVE lane. -/
  | cmdLaneReneg (p : Packet)
  /-- ELEM_OUT (R224): Removes an element. -/
  | cmdElemOut (p : Packet)
  /-- ELEM_IN (R224): Returns an element through quarantine. -/
  | cmdElemIn (p : Packet)
  /-- MAINT_CANCEL (R230): Removes a queued request or aborts an activity. -/
  | cmdMaintCancel (p : Packet)
  /-- DL_CLEAR (R230): Clears the miss counters. -/
  | cmdDlClear (p : Packet)
  /-- DL_PARAMS (R230): Sets the deadline parameters. -/
  | cmdDlParams (p : Packet)
  /-- TALLY_STATUS (R345): Returns the tally book state. -/
  | cmdTallyStatus (p : Packet)
  /-- TALLY_READ (R345): Returns raw tally region bytes. -/
  | cmdTallyRead (p : Packet)
  /-- TALLY_EXPORT (R344): Exports records and may confirm the export. -/
  | cmdTallyExport (p : Packet)
  /-- TALLY_VERIFY (R345): Starts a walk of the chain. -/
  | cmdTallyVerify (p : Packet)
  /-- TENANT_LIST (R319): Returns the tenants. -/
  | cmdTenantList (p : Packet)
  /-- TENANT_ADD (R330): Adds a tenant with its quota. -/
  | cmdTenantAdd (p : Packet)
  /-- TENANT_REMOVE (R225): Removes a tenant at the next boundary. -/
  | cmdTenantRemove (p : Packet)
  /-- TENANT_QUOTA (R332): Sets a tenant's quota. -/
  | cmdTenantQuota (p : Packet)
  /-- ROLE_SECRET (R350): Sets a role secret in the overlay. -/
  | cmdRoleSecret (p : Packet)
  /-- UART_SET (R484): Sets the UART parameters. -/
  | cmdUartSet (p : Packet)
  /-- UART_STATUS (R490): Returns UART status and exchanges site-link bytes. -/
  | cmdUartStatus (p : Packet)
  /-- EVIN_SET (R498): Sets the event input parameters. -/
  | cmdEvinSet (p : Packet)
  /-- EVIN_STATUS (R322): Returns event input status. -/
  | cmdEvinStatus (p : Packet)
  /-- WAKEPORT_SET (R496): Enables or disables the wake port. -/
  | cmdWakeportSet (p : Packet)
  /-- LINE_CLEAR (R490): Clears a line's counters or resets the UART. -/
  | cmdLineClear (p : Packet)
  /-- UART_TIMING (R487): Sets the driver-enable timing. -/
  | cmdUartTiming (p : Packet)
  /-- KERNEL_LIST (R336): Lists kernels. -/
  | cmdKernelList (p : Packet)
  /-- KERNEL_LOAD (R336): Writes bytes of a kernel image. -/
  | cmdKernelLoad (p : Packet)
  /-- KERNEL_VERIFY (R336): Verifies a kernel and copies it to the deputies. -/
  | cmdKernelVerify (p : Packet)
  /-- KERNEL_DELETE (R339): Deletes a kernel, deferred if it is bound. -/
  | cmdKernelDelete (p : Packet)
  /-- KERNEL_BUDGET (R337): Sets a tenant's kernel limits. -/
  | cmdKernelBudget (p : Packet)
  /-- MAKER_OPEN (R347): Blows the maker mark, enters HOLD and enables private opcodes. -/
  | cmdMakerOpen (p : Packet)
  /-- MAKER_CLOSE (R349): Records the close and performs a SYSTEM RESET. -/
  | cmdMakerClose (p : Packet)
  /-- MAKER_MARK (R349): Appends a maker note. -/
  | cmdMakerMark (p : Packet)
  /-- DISCARDED_PACKET (R298): A received packet or frame that fails the header, length, FCS, session, tag or sequence checks is discarded and counted, and a packet with an opcode undefined for the session's version is answered with BAD_OPCODE. -/
  | evDiscardedPacket (transport : Nat) (source : List Byte) (bytes : List Byte) (fcsOk : Bool)
  /-- PORT_EDGE (R274): At each scheduled output edge of a PULSE or CLOCK port the edge leaves at T + D, a port being disabled or gated reaches its inactive level, and a pending D step takes effect. -/
  | evPortEdge (tp : Fin 32)
  /-- SEAM_ACKNOWLEDGE (R437): An acknowledge returns on a seam marked broken, the seam carries transfers again and FAULT_CLEAR is sent. -/
  | evSeamAcknowledge (src dst : Fin 156)
  /-- SYN_RELOCK (R286): A synthesizer that lost lock while REFIN stayed valid regains lock, stops coasting and lets its gated ports restart. -/
  | evSynRelock (syn : Fin 5)
  /-- BK_CAPT_LO (R466): A read of BK_CAPT_LO returns the low part of the TCNT captured at the last backup tick edge and latches the high part into BK_CAPT_HI. -/
  | regBkCaptLo
deriving DecidableEq, Repr

end Sys2Proof
end

