-- ==== Sys2Proof/WellFormed.lean ====
section
/-! DEFINITION. Which terms of the syntax stand for something that can reach the block: field widths of packets and frames, reserved
fields of encodings, bounds of what arrives from outside. -/

namespace Sys2Proof

/-- The fields of a packet fit their widths (12 R295, R296): payload of at most 1 408 bytes, a tag of none or 16 bytes. -/
def Packet.wf (p : Packet) : Bool :=
  decide (p.transport < 6) && decide (p.source.length = 18) && decide (p.magic < 2 ^ 16) && decide (p.vmaj < 256) &&
  decide (p.vmin < 256) && decide (p.flags < 2 ^ 16) && decide (p.seq < 2 ^ 32) && decide (p.tenant < 256) &&
  decide (p.role < 256) && decide (p.plen < 2 ^ 16) && decide (p.sid < 2 ^ 32) && decide (p.hcrc < 2 ^ 16) &&
  decide (p.payload.length ≤ 1408) && (decide (p.tag.length = 0) || decide (p.tag.length = 16))

/-- The reserved fields of an encoding are 0 (15 R375). -/
def AluForm.wf : AluForm → Bool
  | .two _ _ => true
  | .three _ _ _ z => decide (z = 0)

/-- Post-modify code 3 is reserved (15 R373). -/
def MemForm.wf : MemForm → Bool
  | .disp _ _ _ => true
  | .post _ _ pm => decide (pm.val ≠ 3)
  | .off _ _ _ => true

/-- Both forms of a compare and branch are encodings. -/
def CbForm.wf : CbForm → Bool
  | .short _ _ _ => true
  | .long _ _ _ => true

/-- f[3:1] of the long form is 0. -/
def CbzForm.wf : CbzForm → Bool
  | .short _ _ => true
  | .long _ _ z => decide (z = 0)

/-- f[5:4] of the long forms is 0. -/
def RepForm.wf : RepForm → Bool
  | .short _ => true
  | .imm _ _ z => decide (z = 0)
  | .reg _ _ z => decide (z = 0)

/-- f[2:0] of the absolute form is 0. -/
def IoForm.wf : IoForm → Bool
  | .ptr _ _ _ => true
  | .abs _ _ z => decide (z = 0)

/-- The reserved bits of both forms are 0. -/
def SevForm.wf : SevForm → Bool
  | .imm _ z => decide (z = 0)
  | .reg _ z => decide (z = 0)

/-- An undefined encoding is no well-formed `NOP`. -/
def NopForm.wf : NopForm → Bool
  | .plain => true
  | .undefined _ => false

/-- A block of a lane carries eight bytes (02 R28). -/
def RawFrame.wf (f : RawFrame) : Bool := f.items.all (fun x => match x with | .char _ _ => true | .block _ b => b.length == 8)

/-- A character has a start bit, at least one more, and at most twelve bits (20 R484). -/
def UartChar.wf (c : UartChar) : Bool := decide (2 ≤ c.bits.length ∧ c.bits.length ≤ 12)

/-- An edge's tick has 48 bits and its fraction 8 (20 R498). -/
def EvEdge.wf (e : EvEdge) : Bool := decide (e.tick < 2 ^ 48) && decide (e.frac < 256)

/-- Every reading of the strap is possible. -/
def Strap.wf (_ : Strap) : Bool := true

/-- There are two firmware images (14 R353). -/
def BootFound.wf (b : BootFound) : Bool := decide (b.fw.length = 2)

/-- What a well-formed command is. -/
def Instr.wf (i : Instr) : Bool :=
  match i with
  | .evEpochBoundary => true
  | .evHaulageBlockRelease _ => true
  | .evCaptureTimeTrigger _ => true
  | .evStrideStart _ _ => true
  | .evD1Deadline => true
  | .evD2Deadline => true
  | .evDeputyLoopUpdate _ _ => true
  | .evAssayFold _ => true
  | .evCalGeneration => true
  | .evQuarantineExpiry _ _ => true
  | .evCalTableSave => true
  | .evEphemerisSave => true
  | .evSweepEnd _ => true
  | .evCodeLibraryCheck _ => true
  | .evInterferenceSurvey _ _ _ => true
  | .evPullinTimeout _ => true
  | .evCoastTimeout _ => true
  | .evSearchComplete _ => true
  | .evConfirmation _ _ => true
  | .evBackgroundColdSearch => true
  | .evSolution _ => true
  | .evSuspicionExpiry _ => true
  | .evMeasurementRecord => true
  | .evRtcmEpoch => true
  | .evNmeaGroup => true
  | .evUplinkFrame _ frame => frame.wf
  | .evCapFrame _ frame => frame.wf
  | .evAlignmentGained _ => true
  | .evAlignmentLost _ => true
  | .evFramesMissing _ => true
  | .evOffer _ => true
  | .evRateSwitch _ => true
  | .evLaneStateTimeout _ => true
  | .evMark _ _ => true
  | .evCtrlRetry _ => true
  | .evStandbyTimeout _ => true
  | .evScrubCopyComplete => true
  | .evBankTestComplete _ => true
  | .evDeputyCopyComplete => true
  | .evDeepTestComplete _ _ => true
  | .evPlanVerifyResult => true
  | .evTallyVerifyResult => true
  | .evPortCalResult _ => true
  | .evPortStart _ => true
  | .evEcho _ _ => true
  | .evEchoMissing _ => true
  | .evReturnStuck _ _ => true
  | .evPathCalibration _ _ => true
  | .evTodMessage _ => true
  | .evRefLoss => true
  | .evSynUnlock _ => true
  | .evRefCoastExpiry => true
  | .evRefRestore => true
  | .evSessionIdleTimeout _ => true
  | .evAuthTimeout _ => true
  | .evLockoutExpiry transport source => decide (transport < 6) && decide (source.length = 18)
  | .evResetDelayExpiry => true
  | .evTallyFlashWrite => true
  | .evPowerOnReset strap => strap.wf
  | .evBrownOut strap => strap.wf
  | .evResetN _ => true
  | .evDbgSys => true
  | .evDbgCore => true
  | .evWatchdog => true
  | .evThermalTripRelease => true
  | .evBoot found => found.wf
  | .evFirmwareRetry found => found.wf
  | .evPowerEntry => true
  | .evEdgeWindowClose _ _ => true
  | .evPowerExit _ _ => true
  | .evLampCycle _ => true
  | .evBlockResetDone => true
  | .evStopeStall _ => true
  | .evStallRestart _ => true
  | .evGeneratorUnlock _ => true
  | .evGeneratorRelock _ => true
  | .evForcedCrossing _ _ => true
  | .evSeamTimeout _ _ => true
  | .evBackupPowerOn => true
  | .evBackupSupplySwitch _ => true
  | .evTrimUpdate _ => true
  | .evHaltTimeout => true
  | .evPeriodicWake => true
  | .evBevEdge _ _ => true
  | .evCounterAlign => true
  | .evTrimLearn _ _ _ => true
  | .evVbatMeasure _ => true
  | .evUartCharacter _ c => c.wf
  | .evLineDead _ => true
  | .evLineRecover _ => true
  | .evUartTransmit _ => true
  | .evU0GapTimeout => true
  | .evSpiWr _ _ => true
  | .evSpiRd _ => true
  | .evSpiSt => true
  | .evWakePortMatch _ _ => true
  | .evWakePortRead _ => true
  | .evBusClear _ => true
  | .evSclStuck => true
  | .evEventEdge _ edge => edge.wf
  | .evMagicFrame _ => true
  | .evPtpFrame _ _ _ => true
  | .evPauseFrame _ _ => true
  | .evLinkDown _ => true
  | .evLinkUp _ => true
  | .evEgress _ => true
  | .evRingMonitor _ => true
  | .evSramMarginTest _ _ _ => true
  | .evEyeMonitor _ _ => true
  | .evThermalSample _ => true
  | .evThrottleChange => true
  | .evThermalTrip => true
  | .evThermalReturn => true
  | .evInterrupt _ _ => true
  | .evKcycLimExpiry _ => true
  | .evWaitRelease _ => true
  | .hbNop _ form => form.wf
  | .hbRet _ => true
  | .hbReti _ => true
  | .hbWfe _ => true
  | .hbBrk _ => true
  | .hbSetm _ _ => true
  | .hbClrm _ _ => true
  | .hbPush _ _ => true
  | .hbPop _ _ => true
  | .hbJr _ _ => true
  | .hbCallr _ _ => true
  | .hbJ _ _ => true
  | .hbCall _ _ => true
  | .hbMov _ _ _ => true
  | .hbAdd _ form => form.wf
  | .hbSub _ form => form.wf
  | .hbAnd _ form => form.wf
  | .hbOr _ form => form.wf
  | .hbXor _ form => form.wf
  | .hbNot _ _ _ => true
  | .hbNeg _ _ _ => true
  | .hbShl _ form => form.wf
  | .hbShr _ form => form.wf
  | .hbSar _ form => form.wf
  | .hbAdds _ form => form.wf
  | .hbSubs _ form => form.wf
  | .hbMin _ form => form.wf
  | .hbMax _ form => form.wf
  | .hbAbs _ _ _ => true
  | .hbMul _ _ _ _ z => decide (z = 0)
  | .hbMulh _ _ _ _ z => decide (z = 0)
  | .hbMulhu _ _ _ _ z => decide (z = 0)
  | .hbAddi _ _ _ => true
  | .hbMovi _ _ _ => true
  | .hbLdi _ _ _ => true
  | .hbAndi _ _ _ => true
  | .hbOri _ _ _ => true
  | .hbXori _ _ _ => true
  | .hbShli _ _ _ => true
  | .hbShri _ _ _ => true
  | .hbSari _ _ _ => true
  | .hbBset _ _ _ => true
  | .hbBclr _ _ _ => true
  | .hbBtgl _ _ _ => true
  | .hbLd _ form => form.wf
  | .hbSt _ form => form.wf
  | .hbCbEq _ form => form.wf
  | .hbCbNe _ form => form.wf
  | .hbCbLt _ _ _ _ => true
  | .hbCbGe _ _ _ _ => true
  | .hbCbLtu _ _ _ _ => true
  | .hbCbGeu _ _ _ _ => true
  | .hbCbz _ form => form.wf
  | .hbCbnz _ form => form.wf
  | .hbMac _ _ _ _ => true
  | .hbMsu _ _ _ _ => true
  | .hbMpy _ _ _ _ => true
  | .hbMacr _ _ _ _ => true
  | .hbMsur _ _ _ _ => true
  | .hbMpyr _ _ _ _ => true
  | .hbMacm _ _ _ _ _ _ _ z => decide (z = 0)
  | .hbRep _ form => form.wf
  | .hbRepi _ form => form.wf
  | .hbIn _ form => form.wf
  | .hbOut _ form => form.wf
  | .hbMovs _ s dir _ z => decide (s.val < 0x14) && decide (dir.val < 2) && decide (z = 0)
  | .hbClr _ _ z => decide (z = 0)
  | .hbMova _ _ _ z => decide (z = 0)
  | .hbAdda _ _ _ z => decide (z = 0)
  | .hbSuba _ _ _ z => decide (z = 0)
  | .hbNega _ _ _ z => decide (z = 0)
  | .hbAbsa _ _ _ z => decide (z = 0)
  | .hbShla _ _ _ z => decide (z = 0)
  | .hbSara _ _ _ z => decide (z = 0)
  | .hbRnd _ _ z => decide (z = 0)
  | .hbSata _ _ z => decide (z = 0)
  | .hbNorm _ _ z => decide (z = 0)
  | .hbExp _ _ _ z => decide (z = 0)
  | .hbShi _ _ _ z => decide (z = 0)
  | .hbLda _ _ _ z => decide (z = 0)
  | .hbLdal _ _ _ z => decide (z = 0)
  | .hbScale _ _ z => decide (z = 0)
  | .hbBmov _ _ _ _ _ z _ => decide (z = 0)
  | .hbBexp _ _ _ z _ => decide (z = 0)
  | .hbWaitt _ _ z => decide (z = 0)
  | .hbWfet _ _ _ z => decide (z = 0)
  | .hbSev _ form => form.wf
  | .hbTrap _ _ z => decide (z = 0)
  | .regTcntLo _ => true
  | .regBndLo _ => true
  | .regIntPend _ _ => true
  | .regCommit _ _ _ => true
  | .regBlockReset _ => true
  | .regBkCntLo => true
  | .regTickHalt => true
  | .regTickRelease => true
  | .regBkDst _ => true
  | .regBkPadj _ => true
  | .regBkStat _ => true
  | .regBevTsLo _ => true
  | .regBevMerge => true
  | .regRegisterWrite _ _ _ => true
  | .cmdHello p => p.wf
  | .cmdAuth p => p.wf
  | .cmdBye p => p.wf
  | .cmdPing p => p.wf
  | .cmdSessList p => p.wf
  | .cmdEvtSubscribe p => p.wf
  | .cmdEvtRead p => p.wf
  | .cmdSessParams p => p.wf
  | .cmdDevInfo p => p.wf
  | .cmdDevState p => p.wf
  | .cmdDevReset p => p.wf
  | .cmdDevPower p => p.wf
  | .cmdRstClear p => p.wf
  | .cmdDevFeatures p => p.wf
  | .cmdCharterStatus p => p.wf
  | .cmdCharterLoad p => p.wf
  | .cmdCharterVerify p => p.wf
  | .cmdCharterCommit p => p.wf
  | .cmdCharterRead p => p.wf
  | .cmdFuseRead p => p.wf
  | .cmdFuseWrite p => p.wf
  | .cmdSiteList p => p.wf
  | .cmdElemList p => p.wf
  | .cmdLaneStatus p => p.wf
  | .cmdLaneClear p => p.wf
  | .cmdLodeArm p => p.wf
  | .cmdLodeTrig p => p.wf
  | .cmdLodeDisarm p => p.wf
  | .cmdLodeStatus p => p.wf
  | .cmdAditSet p => p.wf
  | .cmdNotchSet p => p.wf
  | .cmdBeamList p => p.wf
  | .cmdBandCoherence p => p.wf
  | .cmdNullList p => p.wf
  | .cmdBeamPolicy p => p.wf
  | .cmdSiteMask p => p.wf
  | .cmdBeamDefine p => p.wf
  | .cmdBeamWeights p => p.wf
  | .cmdNullParams p => p.wf
  | .cmdCoherenceParams p => p.wf
  | .cmdAssayStatus p => p.wf
  | .cmdCalRead p => p.wf
  | .cmdQuarList p => p.wf
  | .cmdAssaySweep p => p.wf
  | .cmdElemRequal p => p.wf
  | .cmdCalAccept p => p.wf
  | .cmdCalSave p => p.wf
  | .cmdAssayParams p => p.wf
  | .cmdAssaySignals p => p.wf
  | .cmdCalSeed p => p.wf
  | .cmdChList p => p.wf
  | .cmdChStatus p => p.wf
  | .cmdChPin p => p.wf
  | .cmdChRelease p => p.wf
  | .cmdSigPolicy p => p.wf
  | .cmdChLoop p => p.wf
  | .cmdChArms p => p.wf
  | .cmdChKernel p => p.wf
  | .cmdAcqStatus p => p.wf
  | .cmdAcqResults p => p.wf
  | .cmdAcqStart p => p.wf
  | .cmdAcqAssist p => p.wf
  | .cmdAcqSectors p => p.wf
  | .cmdAcqParams p => p.wf
  | .cmdAcqSearch p => p.wf
  | .cmdPlanStatus p => p.wf
  | .cmdPlanLoad p => p.wf
  | .cmdPlanVerify p => p.wf
  | .cmdPlanActivate p => p.wf
  | .cmdPlanDiscard p => p.wf
  | .cmdPlanRead p => p.wf
  | .cmdPlanDerated p => p.wf
  | .cmdPlanModel p => p.wf
  | .cmdMeasStatus p => p.wf
  | .cmdSolStatus p => p.wf
  | .cmdIntegStatus p => p.wf
  | .cmdSurveyStart p => p.wf
  | .cmdHoldForce p => p.wf
  | .cmdSatExclude p => p.wf
  | .cmdSolParams p => p.wf
  | .cmdIntegParams p => p.wf
  | .cmdHoldParams p => p.wf
  | .cmdRtcmParams p => p.wf
  | .cmdStreamOpen p => p.wf
  | .cmdStreamClose p => p.wf
  | .cmdStreamStatus p => p.wf
  | .cmdSnapExport p => p.wf
  | .cmdStreamParams p => p.wf
  | .cmdSynStatus p => p.wf
  | .cmdPortStatus p => p.wf
  | .cmdPortSet p => p.wf
  | .cmdPortEnable p => p.wf
  | .cmdPortCable p => p.wf
  | .cmdPortCal p => p.wf
  | .cmdSynDither p => p.wf
  | .cmdServoParams p => p.wf
  | .cmdTimeStatus p => p.wf
  | .cmdTickSet p => p.wf
  | .cmdTickDst p => p.wf
  | .cmdWakeSet p => p.wf
  | .cmdBramRead p => p.wf
  | .cmdBramWrite p => p.wf
  | .cmdChargerSet p => p.wf
  | .cmdTrimCurve p => p.wf
  | .cmdHealthStatus p => p.wf
  | .cmdThermalStatus p => p.wf
  | .cmdWearList p => p.wf
  | .cmdSpareList p => p.wf
  | .cmdThermalParams p => p.wf
  | .cmdCanaryParams p => p.wf
  | .cmdMaintStatus p => p.wf
  | .cmdDlStatus p => p.wf
  | .cmdStopeSwap p => p.wf
  | .cmdDeputySwap p => p.wf
  | .cmdDeepTest p => p.wf
  | .cmdLodeSwap p => p.wf
  | .cmdLaneReneg p => p.wf
  | .cmdElemOut p => p.wf
  | .cmdElemIn p => p.wf
  | .cmdMaintCancel p => p.wf
  | .cmdDlClear p => p.wf
  | .cmdDlParams p => p.wf
  | .cmdTallyStatus p => p.wf
  | .cmdTallyRead p => p.wf
  | .cmdTallyExport p => p.wf
  | .cmdTallyVerify p => p.wf
  | .cmdTenantList p => p.wf
  | .cmdTenantAdd p => p.wf
  | .cmdTenantRemove p => p.wf
  | .cmdTenantQuota p => p.wf
  | .cmdRoleSecret p => p.wf
  | .cmdUartSet p => p.wf
  | .cmdUartStatus p => p.wf
  | .cmdEvinSet p => p.wf
  | .cmdEvinStatus p => p.wf
  | .cmdWakeportSet p => p.wf
  | .cmdLineClear p => p.wf
  | .cmdUartTiming p => p.wf
  | .cmdKernelList p => p.wf
  | .cmdKernelLoad p => p.wf
  | .cmdKernelVerify p => p.wf
  | .cmdKernelDelete p => p.wf
  | .cmdKernelBudget p => p.wf
  | .cmdMakerOpen p => p.wf
  | .cmdMakerClose p => p.wf
  | .cmdMakerMark p => p.wf
  | .evDiscardedPacket transport source _ _ => decide (transport < 6) && decide (source.length = 18)
  | .evPortEdge _ => true
  | .evSeamAcknowledge _ _ => true
  | .evSynRelock _ => true
  | .regBkCaptLo => true

end Sys2Proof
end

