-- ==== Sys2Proof/Config.lean ====
section
/-! DEFINITION. What an implementation or the manufacture fixes, and the free values: constants without a body, so that nothing can be
proved of their values. A free value is a constant here applied to the free-value counter of the state, or to the operands it depends
on (log 4). -/

namespace Sys2Proof

/-- A free 24-bit word, by the free-value counter (log 4). -/
opaque Config.freeWord : Nat → BitVec 24

/-- A free natural number, by the free-value counter (log 4). -/
opaque Config.freeNat : Nat → Nat

/-- A free integer, by the free-value counter (log 4). -/
opaque Config.freeInt : Nat → Int

/-- A free list of bytes, by the free-value counter and the number of bytes wanted, which its users take (log 4). -/
opaque Config.freeByte : Nat → Nat → Byte

/-- The extended grade, GV9600-FBX, rather than the standard GV9600-FB (00 ordering codes; log 5). -/
opaque Config.extended : Bool

/-- SERIAL, fused at manufacture: 16 ASCII bytes (14 R366; log 5). -/
opaque Config.serial : List Byte

/-- MAC_BASE, fused at manufacture (14 R366; log 5). -/
opaque Config.macBase : Nat

/-- FW_KEY_HASH, SHA-384 of the firmware key, fused at manufacture (14 R366; log 5). -/
opaque Config.fwKeyHash : List Byte

/-- RET_KEY_HASH, SHA-384 of the Relwa return key, fused at manufacture (14 R366; log 5). -/
opaque Config.retKeyHash : List Byte

/-- The Relwa return key, whose SHA-384 is `RET_KEY_HASH` (13 R346; log 5). -/
opaque Config.retKey : List Byte

/-- What a fuse field reads back after it is blown: field code, the value blown, the free-value counter (13 R347, 14 R366; log 4). -/
opaque Config.fuseBack : Nat → Nat → Nat → Nat

/-- The highest minor m of GCP 3.m that the firmware speaks (12 R301; log 5). -/
opaque Config.gcpMinor : Nat

/-- Rounding where the spec gives a quotient and no rounding: true takes the next integer (log 6). -/
opaque Config.roundUp : Int → Int → Bool

/-- The fraction of a tick at which a `SYNC` departs, in ps, by the free-value counter (02 R43; log 16). -/
opaque Config.departPs : Nat → Nat

/-- What a read of a lode word meets, by the free-value counter and the word's byte address: remainder 0 a good word, 1 an error of one bit, 2 an
uncorrectable word (03 R74; log 47). -/
opaque Config.lodeWord : Nat → Nat → Nat

/-- How the 3 dB width of a notch is shared between its two poles, by width code (03 R58; log 15). -/
opaque Config.notchSplit : Nat → Nat

/-- A coefficient of the 12-tap interpolator in Q30: the fraction in 1/65 536 tick, the tap, newest first (03 R60; log 15). -/
opaque Config.interpTap : Nat → Nat → Int

/-- A beam weight set of an aim whose direction nothing predicts, by the free-value counter: 96 weights and 12 site delays (04; log 4). -/
opaque Config.weights : Nat → List (Int × Int) × List Nat

/-- The magnitude less 1 that an element's weight takes for its signal gain in 0.01 dB, by the free-value counter (05 R107; log 4). -/
opaque Config.weightSize : Nat → Int → Nat

/-- The local axes east, north and up in ECEF axes, in Q60, at an ECEF position in 0.1 mm (log 26). -/
opaque Config.enuAxes : Int × Int × Int → (Int × Int × Int) × (Int × Int × Int) × (Int × Int × Int)

/-- The tropospheric mapping function at an elevation in 0.01 degree, in Q60 (05 `m_k`; log 4). -/
opaque Config.mapping : Int → Int

/-- `NONULL` as the payload of `BEAM_WEIGHTS` carries it (04 R95; log 7). -/
opaque Config.weightNonull : List Byte → Bool

/-- A power in a field that the spec gives no value for: one of 0, or one outside the field's range (04 `PWR`; log 4). -/
opaque Config.noPower : Nat → Nat → Nat

/-- Code phase (1/256 chip) and Doppler (mHz) that the ephemerides held predict for a signal, with its GLONASS channel, at a tick
(07 R158, 18 R459; log 4). -/
opaque Config.predictCode : Nat → Int → Nat → Nat × Int

/-- Direction of a satellite signal from the array by the ephemerides held: signal, GLONASS channel, device ms; azimuth and elevation in
0.01 degree, none while nothing predicts it (07; log 4). -/
opaque Config.direction : Nat → Int → Nat → Option (Nat × Int)

/-- The weights in Q20 whose smallest array gain in a sector is largest (07 R154): the elements with their offsets in 0.1 mm and gains, the carrier in Hz,
the sector's azimuths and elevations in 0.01 degree (log 54). -/
opaque Config.sectorWeights : List (Nat × (Int × Int × Int) × Int) → Int → (Nat × Nat) × (Int × Int) → List (Nat × Int × Int)

/-- The noise level of a Doppler bin in which no cell lies beyond 2 chips of one above the threshold, less 1, by the bin's cell powers (07 R165;
log 54). -/
opaque Config.noiseLevel : List Nat → Nat

/-- A satellite of BeiDou sends D2 rather than D1 (06 R126; log 49). -/
opaque Config.sendsD2 : Nat → Bool

/-- A chip of a primary code that the stopes compute, by the signal's document: component, chip (06 R125, R128; log 49). -/
opaque Config.primaryChip : Nat → Nat → Bool

/-- A chip of a secondary code that the stopes compute, by the signal's document: component, chip (06 R125, R128; log 49). -/
opaque Config.secondaryChip : Nat → Nat → Bool

/-- The subcarrier of a component with a modulation beyond BOC(1,1): type, chip, the fraction of a chip in 2^-48 (06 R125, R126; log 49). -/
opaque Config.subcarrier : Nat → Nat → Nat → Int

/-- A byte of the code library in the firmware image (06 R128; log 49). -/
opaque Config.codeLibrary : Nat → Byte

/-- The carrier filter (06 R141): PLL bandwidth and order, FLL bandwidth in effect, state, `DPH`, `DFR`; the change of `CRATE` and the new state
(log 50). -/
opaque Config.carrierLoop : Nat → Nat → Nat → List Int → Int → Int → Int × List Int

/-- The code filter (06 R141): DLL bandwidth, state, `DCODE`; the correction of the aided `KRATE` and the new state (log 50). -/
opaque Config.codeLoop : Nat → List Int → Int → Int × List Int

/-- A discriminator that has nothing to divide by: the record's word, the `DUMPSEQ` (06 discriminator record; log 50). -/
opaque Config.noDiscriminator : Nat → Nat → Int

/-- A fit of a direct and one reflected path: the arms' offsets, each arm's sum against the prompt; `MPDLY` and `MPAMP` (06 R142; log 50). -/
opaque Config.multipath : List Int → List (Int × Int) → Int × Nat

/-- What a reflected path adds to `DCODE`: early and late offset, `MPDLY`, `MPAMP` (06 R142; log 50). -/
opaque Config.multipathCode : Int → Int → Int → Nat → Int

/-- Bit sync: signal, dumps of the data component with their `DUMPSEQ`, newest first; the first dump of a symbol modulo its dumps (06 R148; log 51). -/
opaque Config.bitSync : Nat → List ((Int × Int) × Nat) → Option Nat

/-- Secondary sync: tracked component, dumps of the prompt, newest first; the secondary chip of the newest (06 R148; log 51). -/
opaque Config.secondarySync : Nat → List (Int × Int) → Option Nat

/-- A soft symbol from its dumps, oldest first, their secondary chips taken off, and the noise power of a dump (06 R148; log 51). -/
opaque Config.softSymbol : Nat → List (Int × Int) → Nat → Int

/-- The preamble in a signal's symbols, newest first, where one ends with the newest: whether its polarity is inverted (06 R149; log 51). -/
opaque Config.preamble : Nat → List Int → Option Bool

/-- Where a verified kernel lies in a deputy's kernel areas, by tenant and slot: parcels and words above their bases (13 R337; log 52). -/
opaque Config.kernelPlace : Nat → Nat → Nat × Nat

/-- The synchronisation bound in ns that the OSNMA receiver guidelines give for the chain in use (10 R252; log 56). -/
opaque Config.osnmaBound : Nat

/-- The integer L0 of a lock that begins while the signal has no pseudorange: signal index, device ms (10 R234; log 4). -/
opaque Config.lockInteger : Nat → Nat → Int

/-- 1-sigma of a pseudorange in mm: signal, `CN0`, device ms (10 R244; log 4). -/
opaque Config.rangeSigma : Nat → Nat → Nat → Nat

/-- UTC as the parameters of a source give it at a device ms: UTC minus GPS time less whole seconds in ps, whole seconds of GPS time minus UTC, the
announced leap second (10 R240; log 56). -/
opaque Config.utcOf : Nat → Nat → Int × Int × Int

/-- The offset in ps that the solver's state predicts for a system at a device ms (10 R254; log 56). -/
opaque Config.offsetPrediction : List Int → Nat → Nat → Int

/-- The MSM signal ID that RTCM 3.3 assigns to a signal type (10 R246; log 7). -/
opaque Config.msmSignal : Nat → Option Nat

/-- The entries of a `CAL_SEED` request, whose layout the spec does not give: element, band code, delay, phase, gain (05 R123; log 7). -/
opaque Config.seedEntries : List Byte → List (Nat × Nat × Int × Nat × Int)

/-- The field layout of a reply that the spec describes by its contents only: opcode, the values in the spec's order (log 7). -/
opaque Config.encodeFields : Nat → List Int → List Byte

end Sys2Proof
end

