-- ==== Sys2Proof/Machine/Hash.lean ====
section
/-! DEFINITION. The checks and hashes that the spec names: CRC-32 of 02 R33, CRC-16 of 11 R289 and 12 R297, CRC-8 of 02 R37, SHA-256,
SHA-384, HMAC-SHA-256 (12 R304), and ECDSA and ECDH over P-384 (12 R305). The algorithms are the published standards' own. -/

namespace Sys2Proof.Machine

/-- Number of bytes as a natural number, little-endian. -/
def leNat : List Byte → Nat
  | [] => 0
  | b :: r => b.toNat + 256 * leNat r

/-- `n` bytes of a number, little-endian. -/
def leBytes : Nat → Nat → List Byte
  | 0, _ => []
  | n + 1, v => BitVec.ofNat 8 v :: leBytes n (v / 256)

/-- Number of bytes as a natural number, big-endian. -/
def beNat (l : List Byte) : Nat := l.foldl (fun a b => 256 * a + b.toNat) 0

/-- `n` bytes of a number, big-endian. -/
def beBytes (n v : Nat) : List Byte := (leBytes n v).reverse

/-- One bit step of the CRC-32 register, reflected. -/
def crc32Bit (c : BitVec 32) : BitVec 32 := if c.getLsbD 0 then (c >>> 1) ^^^ 0xEDB88320#32 else c >>> 1

/-- CRC-32 of 02 R33 (IEEE 802.3: polynomial 0x04C1_1DB7 reflected, initial value and final XOR all ones). -/
def crc32 (l : List Byte) : Nat :=
  (~~~ (l.foldl (fun c b => (List.range 8).foldl (fun c _ => crc32Bit c) (c ^^^ (b.setWidth 32 : BitVec 32))) (0xFFFFFFFF#32))).toNat

/-- One bit step of the CRC-16 register. -/
def crc16Bit (c : BitVec 16) : BitVec 16 := if c.getLsbD 15 then (c <<< 1) ^^^ 0x1021#16 else c <<< 1

/-- CRC-16 of 12 R297: polynomial 0x1021, initial value 0xFFFF, no reflection, no final XOR. -/
def crc16 (l : List Byte) : Nat :=
  (l.foldl (fun c b => (List.range 8).foldl (fun c _ => crc16Bit c) (c ^^^ (BitVec.ofNat 16 (256 * b.toNat)))) (0xFFFF#16)).toNat

/-- One bit step of the CRC-8 register. -/
def crc8Bit (c : BitVec 8) : BitVec 8 := if c.getLsbD 7 then (c <<< 1) ^^^ 0x07#8 else c <<< 1

/-- CRC-8 of 02 R37: polynomial x^8 + x^2 + x + 1, initial value 0. -/
def crc8 (l : List Byte) : Byte := l.foldl (fun c b => (List.range 8).foldl (fun c _ => crc8Bit c) (c ^^^ b)) 0#8

/-- The greatest `r` of `b` further bits whose `k`th power is at most `n`. -/
def rootBits (k n : Nat) : Nat → Nat → Nat
  | 0, r => r
  | b + 1, r => rootBits k n b (if (r + 2 ^ b) ^ k ≤ n then r + 2 ^ b else r)

/-- The first `w` bits of the fraction of the `k`th root of `p`, the root being below 16: the source of the constants of SHA-2. -/
def rootFrac (k w p : Nat) : BitVec w := BitVec.ofNat w (rootBits k (p * 2 ^ (k * w)) (w + 4) 0)

/-- The primes below 410: the first eighty. -/
def shaPrimes : List Nat := (List.range 410).filter (fun n => decide (2 ≤ n) && (List.range 21).all (fun d => decide (d < 2 ∨ n < d * d) || n % d != 0))

/-- The round constants of SHA-512 and SHA-384, the fractions of cube roots; those of SHA-256 are over the first 64. -/
def sha512K : List (BitVec 64) := shaPrimes.map (rootFrac 3 64)
def sha256K : List (BitVec 32) := (shaPrimes.take 64).map (rootFrac 3 32)

/-- A linear word function of SHA-2: the exclusive or of a word turned right by each of `turns` and moved right by each of `moves`. -/
def shaMix {w : Nat} (turns moves : List Nat) (x : BitVec w) : BitVec w :=
  (turns.map x.rotateRight ++ moves.map (x >>> ·)).foldl (· ^^^ ·) 0

/-- What tells the two widths of SHA-2 apart: the word functions of the round, on the newest word of each stream, and of the schedule. -/
structure ShaKind (w : Nat) where
  onA : BitVec w → BitVec w
  onE : BitVec w → BitVec w
  near : BitVec w → BitVec w
  far : BitVec w → BitVec w
  consts : List (BitVec w)

def kind256 : ShaKind 32 :=
  { onA := shaMix [2, 13, 22] [], onE := shaMix [6, 11, 25] [], near := shaMix [17, 19] [10], far := shaMix [7, 18] [3]
    consts := sha256K }
def kind512 : ShaKind 64 :=
  { onA := shaMix [28, 34, 39] [], onE := shaMix [14, 18, 41] [], near := shaMix [19, 61] [6], far := shaMix [1, 8] [7]
    consts := sha512K }

/-- The message schedule from a window of its sixteen newest words, oldest first: the words of `n` rounds. -/
def shaWords {w : Nat} (k : ShaKind w) : Nat → List (BitVec w) → List (BitVec w)
  | n + 1, old :: rest =>
    let at_ (i : Nat) : BitVec w := rest.getD i 0
    old :: shaWords k n (rest ++ [k.near (at_ 13) + at_ 8 + k.far (at_ 0) + old])
  | _, _ => []

/-- Eight chaining words as the last four of two streams, newest first: the first four words are one stream, the others the second. -/
abbrev ShaPair (w : Nat) := List (BitVec w) × List (BitVec w)

/-- One round: each stream gains a word. Where a bit of the newest `E` word is 1 it chooses the second's, else the third's; the majority of
three is what two agree on. -/
def shaRound {w : Nat} (k : ShaKind w) (s : ShaPair w) (word : BitVec w) : ShaPair w :=
  match s with
  | ([a0, a1, a2, a3], [e0, e1, e2, e3]) =>
    let inject := word + e3 + k.onE e0 + (e2 ^^^ (e0 &&& (e1 ^^^ e2)))
    ([inject + k.onA a0 + ((a0 &&& (a1 ||| a2)) ||| (a1 &&& a2)), a0, a1, a2], [a3 + inject, e0, e1, e2])
  | other => other

/-- One block: the rounds over sixteen message words, added word by word to the chaining value. -/
def shaBlock {w : Nat} (k : ShaKind w) (s : ShaPair w) (m : List (BitVec w)) : ShaPair w :=
  let last := (k.consts.zip (shaWords k k.consts.length m)).foldl (fun x cw => shaRound k x (cw.1 + cw.2)) s
  (List.zipWith (· + ·) s.1 last.1, List.zipWith (· + ·) s.2 last.2)

/-- Splits a list into `n` chunks of `k` elements. -/
def chunks {α : Type} (k : Nat) : Nat → List α → List (List α)
  | 0, _ => []
  | n + 1, l => l.take k :: chunks k n (l.drop k)

/-- The bytes that follow a message of `n` bytes: a 1 bit, zeros up to a whole block with the length, the length in bits in `wide` bytes. -/
def shaTail (block wide n : Nat) : List Byte :=
  let used := (n + 1 + wide) % block
  [0x80#8] ++ List.replicate (if used = 0 then 0 else block - used) 0#8 ++ beBytes wide (n * 8)

/-- The chaining value before the first block: the fractions of the square roots of eight primes. -/
def shaStart {w : Nat} (primes : List Nat) : ShaPair w :=
  ((primes.take 4).map (rootFrac 2 w), ((primes.drop 4).take 4).map (rootFrac 2 w))

/-- The chaining value after a message, as bytes: words of `wb` bytes, sixteen to a block. -/
def shaDigest {w : Nat} (k : ShaKind w) (wb : Nat) (primes : List Nat) (msg : List Byte) : List Byte :=
  let whole := msg ++ shaTail (16 * wb) (2 * wb) msg.length
  let words := (chunks wb (whole.length / wb) whole).map (fun x => BitVec.ofNat w (beNat x))
  let last := (chunks 16 (words.length / 16) words).foldl (shaBlock k) (shaStart primes)
  (last.1 ++ last.2).flatMap (fun x => beBytes wb x.toNat)

/-- SHA-256. -/
def sha256 (l : List Byte) : List Byte := shaDigest kind256 4 shaPrimes l

/-- SHA-384: the first 48 bytes of the wider chaining value, started from the ninth prime. -/
def sha384 (l : List Byte) : List Byte := (shaDigest kind512 8 (shaPrimes.drop 8) l).take 48

/-- HMAC-SHA-256: the key, hashed where it is longer than a block, over the hash of the message under its other mask. -/
def hmac256 (key msg : List Byte) : List Byte :=
  let short := if 64 < key.length then sha256 key else key
  let masked (m : Byte) : List Byte := (List.range 64).map (fun i => short.getD i 0 ^^^ m)
  sha256 (masked 0x5c#8 ++ sha256 (masked 0x36#8 ++ msg))

/-- The prime, the coefficient b, the base point and the order of P-384. -/
def p384p : Nat := 2 ^ 384 - 2 ^ 128 - 2 ^ 96 + 2 ^ 32 - 1
def p384b : Nat := 0xb3312fa7e23ee7e4988e056be3f82d19181d9c6efe8141120314088f5013875ac656398d8a2ed19d2a85c8edd3ec2aef
def p384n : Nat := 0xffffffffffffffffffffffffffffffffffffffffffffffffc7634d81f4372ddf581a0db248b0a77aecec196accc52973
def p384g : Nat × Nat :=
  (0xaa87ca22be8b05378eb1c71ef320ad746e1d3b628ba79b9859f741e082542a385502f25dbf55296c3a545e3872760ab7,
   0x3617de4a96262c6f5d9e98bf9292dc29f8f41dbd289a147ce9da3113b5f0b8c00a60b1ce1d7e819d7a431d7c90ea0e5f)

/-- x to the power of the low `n` bits of e, modulo m. -/
def powMod (m : Nat) : Nat → Nat → Nat → Nat
  | 0, _, _ => 1 % m
  | n + 1, x, e => let r := powMod m n (x * x % m) (e / 2); if e % 2 = 1 then r * x % m else r

/-- Inverse modulo a prime of at most 384 bits. -/
def invMod (m x : Nat) : Nat := powMod m 384 (x % m) (m - 2)

/-- Affine points of P-384; none is the point at infinity. -/
abbrev EcPoint := Option (Nat × Nat)

/-- Point addition on P-384. -/
def ecAdd (a b : EcPoint) : EcPoint :=
  match a, b with
  | none, q => q
  | p, none => p
  | some (x1, y1), some (x2, y2) =>
    let q := p384p
    if x1 = x2 ∧ (y1 + y2) % q = 0 then none
    else
      let lam := if x1 = x2 then (3 * x1 * x1 + (q - 3)) * invMod q (2 * y1) % q
        else (y2 + q - y1) * invMod q (x2 + q - x1) % q
      let x3 := (lam * lam + 2 * q - x1 - x2) % q
      some (x3, (lam * (x1 + q - x3) + q - y1) % q)

/-- The product of a point by the low `n` bits of k. -/
def ecMul : Nat → Nat → EcPoint → EcPoint
  | 0, _, _ => none
  | n + 1, k, p => let r := ecMul n (k / 2) (ecAdd p p); if k % 2 = 1 then ecAdd r p else r

/-- Whether a point lies on P-384 with coordinates in range. -/
def ecOn (x y : Nat) : Bool :=
  decide (x < p384p ∧ y < p384p ∧ y * y % p384p = (x * x * x + (p384p - 3) * x + p384b) % p384p)

/-- A 97-byte public key 0x04 ‖ X ‖ Y (12 R302), when it names a point of the curve. -/
def ecPub (l : List Byte) : Option (Nat × Nat) :=
  let x := beNat ((l.drop 1).take 48)
  let y := beNat ((l.drop 49).take 48)
  if l.length = 97 ∧ l.getD 0 0 = 4#8 ∧ ecOn x y then some (x, y) else none

/-- The 97 bytes of a point. -/
def ecBytes : EcPoint → List Byte
  | none => List.replicate 97 0
  | some (x, y) => 4#8 :: beBytes 48 x ++ beBytes 48 y

/-- ECDSA P-384 verification over a SHA-384 hash, r and s given as numbers. -/
def ecdsaOk (pub : Nat × Nat) (hash : List Byte) (r s : Nat) : Bool :=
  if r = 0 ∨ s = 0 ∨ p384n ≤ r ∨ p384n ≤ s then false
  else
    let w := invMod p384n s
    let u1 := beNat hash * w % p384n
    let u2 := r * w % p384n
    match ecAdd (ecMul 384 u1 (some p384g)) (ecMul 384 u2 (some pub)) with
    | none => false
    | some (x, _) => decide (x % p384n = r)

/-- The ASCII bytes of a string, without a terminator (12 R304). -/
def ascii (s : String) : List Byte := s.toList.map (fun c => BitVec.ofNat 8 c.toNat)

end Sys2Proof.Machine
end

