-- ==== Sys2Proof/Machine/StArray.lean ====
section
/-! DEFINITION. The state of the array: beams, interference nulls, coherence groups (spec/04_beams.md) and assay
(spec/05_assay.md). Plain data; the defaults are the reset values. -/

namespace Sys2Proof.Machine

/-- A complex weight, each component −127..127 (04 R77). -/
structure Weight where
  i : Int := 0
  q : Int := 0
deriving DecidableEq, Repr

/-- A weight set: 96 weights, 12 site delays 0..1023 (04 R77, R78) and the generation it was computed from (05 R109). -/
structure WeightSet where
  w : List Weight := []
  bdly : List Nat := []
  /-- sites whose delay lies beyond 1 023 ticks (04 R78, 05 R102). -/
  far : List Nat := []
  /-- by how much the elements' code lies early after their delays, the mean weighted by |w|, in 1/65 536 tick (04 worked example, 05 R107). -/
  bias : Int := 0
  /-- the calibration generation that it was computed from (05 R109). -/
  gen : Nat := 0
  /-- by how much the wave leads at each site the site at which it arrives last, in 1/65 536 tick (04 R78, 10 R232); empty where no direction is known. -/
  leads : List Int := []
deriving DecidableEq, Repr

/-- Beam flags (04 beam descriptor FLAGS). -/
structure BeamFlags where
  empty : Bool := false
  nullDegraded : Bool := false
  dlyRange : Bool := false
  masked : Bool := false
  sat : Bool := false
  nonull : Bool := false
deriving DecidableEq, Repr

/-- One beam (04 R99, beam descriptor). -/
structure BeamState where
  /-- KIND (u8; 04 beam descriptor; reset 0xFF). -/
  kind : Nat := 0xFF
  /-- BAND (u8; 04; reset by the plan, 0 before one: DESIGN CHOICE log 2). -/
  band : Nat := 0
  /-- MODE (u8; 04; reset 0xFF). -/
  mode : Nat := 0xFF
  /-- GROUP (u8; 04; reset 0xFF). -/
  group : Nat := 0xFF
  /-- OWNER (u8; 04; reset 0x10). -/
  owner : Nat := 0x10
  /-- SITES (u16; 04; reset 0). -/
  sites : Nat := 0
  /-- AZ (u16; 04; reset 0). -/
  az : Nat := 0
  /-- EL (i16; 04; reset 0). -/
  el : Int := 0
  /-- BSHIFT (u8, 0..22; 04 R80; reset 0). -/
  bshift : Nat := 0
  /-- NNULL (u8; 04; reset 0). -/
  nnull : Nat := 0
  /-- FLAGS (u16; 04; reset 0). -/
  flags : BeamFlags := {}
  /-- PWR (u16; 04; reset 0). -/
  pwr : Nat := 0
  /-- BLANKF (u8; 04; reset 0). -/
  blankf : Nat := 0
  /-- weight set in force (96 × 2 × i8, 12 × u10; 04 R77; reset empty, weight 0: DESIGN CHOICE log 2). -/
  ws : WeightSet := {}
  /-- weight set and BSHIFT of the epoch before, which its last strides use (08 R181; reset empty, 0). -/
  wsBefore : WeightSet := {}
  bshiftBefore : Nat := 0
  /-- weight set staged for the next boundary (04 R83; reset none). -/
  staged : Option WeightSet := none
  /-- descriptor fields staged by BEAM_DEFINE: kind, sites, az, el (04 R99; reset none). -/
  stagedDef : Option (Nat × Nat × Nat × Int) := none
  /-- NONULL flag staged with a host weight set (04 R95; reset none). -/
  stagedNonull : Option Bool := none
  /-- the staged set was written with elements that have left: the nulls at their sites are lost in it too (04 R84; reset false). -/
  stagedOld : Bool := false
  /-- the weight set that the host wrote, before the nulls in force are projected out of it (04 R95; reset none). -/
  hostSet : Option WeightSet := none
  /-- sum of |S|² and outputs of the last epoch worked through (04 R80; reset 0). -/
  sumSq : Nat := 0
  nOut : Nat := 0
  /-- the same, saturated outputs, sum of |y|² and blanked ticks per element of the epoch in progress (04 R80, R79; reset 0). -/
  sumRun : Nat := 0
  nRun : Nat := 0
  satRun : Nat := 0
  pwrRun : Nat := 0
  blankRun : List Nat := []
  /-- signal index tracked, for track beams, and its GLONASS channel (04 beam descriptor AZ, 07 R161; reset none, 0). -/
  signal : Option Nat := none
  glok : Int := 0
  /-- carrier in Hz of the signal that a search beam seeks; none takes the band centre (05 R107; reset none). -/
  seeks : Option Int := none
  /-- the live-search area of a slot with BOUTW 1: outputs of 4 bits of the epoch in progress, and the first tick and outputs of the last epoch
  worked through (07 R155, 08 R177; reset empty). -/
  liveRun : List (Int × Int) := []
  live : Option (Nat × List (Int × Int)) := none
deriving DecidableEq, Repr

/-- An interferer signature of a site and band (04 R93, R94, R98): components of the site's elements in Q60, interferer-to-noise ratio in 0.25 dB,
age in surveys, surveys below the lower threshold, whether the last two signatures agree (R96), the null-monitor beam that watches it, and what
that beam reports: power and residual in 1/256 dB relative to 1 LSB², and a failed depth check. -/
structure NullEntry where
  sig : List (Nat × Int × Int)
  power : Nat
  age : Nat := 0
  below : Nat := 0
  steady : Bool := false
  monitor : Option Nat := none
  watch : Option (Int × Int) := none
  depthFail : Bool := false
deriving DecidableEq, Repr

/-- Interference state of a site and band (04 R92–R98). -/
structure NullSite where
  /-- nulls held (up to 8; 04 R94; reset empty). -/
  nulls : List NullEntry := []
  /-- signatures left unnulled (04 R94; reset empty). -/
  spare : List NullEntry := []
  /-- the signatures nulled at the last D2, which the weights of the next boundary are computed with (04 R95; reset empty). -/
  atD2 : List (List (Nat × Int × Int)) := []
  /-- epochs until the next survey (04 R92; reset staggered over sites and bands, DESIGN CHOICE log 2). -/
  due : Nat := 0
  /-- seconds·1000 for which the ratio has stayed below JAM_FREEZE − 3 dB (05 R121; reset 0). -/
  calm : Nat := 0
  /-- the site's quantities are held for the band (05 R121; reset false). -/
  frozen : Bool := false
deriving DecidableEq, Repr

/-- Qualified signatures left unnulled (04 R94). -/
def NullSite.unnulled (x : NullSite) : Nat := x.spare.length

/-- Coherence parameters of a band (04 R87 table). -/
structure CohParams where
  tauIn : Nat := 8
  phiIn : Nat := 8
  dwellIn : Nat := 1000
  tauOut : Nat := 15
  phiOut : Nat := 15
  dwellOut : Nat := 50
  srchMin : Nat := 2
deriving DecidableEq, Repr

/-- Null survey parameters (04 R92–R94). -/
structure NullParams where
  nref : Nat := 4
  jthr : Nat := 6
  nhold : Nat := 25
  limit : Nat := 24
deriving DecidableEq, Repr

/-- Beam policy of a band (04 R91). -/
inductive Policy where
  | auto | siteOnly | noSplit
deriving DecidableEq, Repr

def Policy.code : Policy → Nat
  | .auto => 0 | .siteOnly => 1 | .noSplit => 2

/-- Coherence state of a band (04 R87, R91). -/
structure BandCoh where
  /-- coherence parameters in force (04 R87; resets in the table). -/
  params : CohParams := {}
  /-- coherence parameters staged (04 R99; reset none). -/
  paramsStaged : Option CohParams := none
  /-- policy in force (04 R91; reset AUTO, DESIGN CHOICE log 2). -/
  policy : Policy := .auto
  /-- policy staged (04 R91; reset none). -/
  policyStaged : Option Policy := none
  /-- sites in group 0 besides the reference site (12 bits; 04 R87; reset none). -/
  inGroup : Vector Bool 12 := Vector.replicate 12 false
  /-- consecutive epochs within TAU_IN and PHI_IN (04 R87; reset 0). -/
  dwellIn : Vector Nat 12 := Vector.replicate 12 0
  /-- consecutive epochs outside TAU_OUT or PHI_OUT (04 R87; reset 0). -/
  dwellOut : Vector Nat 12 := Vector.replicate 12 0
  /-- sites that leave group 0 at the next boundary because their swept solution differs (05 R122; reset none). -/
  leave : Vector Bool 12 := Vector.replicate 12 false
  /-- tracked signals with their GLONASS channel, and the mode and group count each is served in (04 R88; reset empty). -/
  modes : List (Nat × Int × Nat × Nat) := []
deriving DecidableEq, Repr

/-- Sky mask of a site (04 SITE_MASK): elevation mask in degrees and azimuth blockage sectors. -/
structure SkyMask where
  mask : Nat := 0
  sectors : List (Nat × Nat × Int) := []
deriving DecidableEq, Repr

/-- An assay entry (05 R103). -/
structure AssayEntry where
  sigid : Nat := 0
  ch : Nat := 0
  band : Nat := 0
  valid : Bool := false
  sat : Bool := false
  dither : Nat := 0
  epoch : Nat := 0
  /-- I and Q of A_{e,k} for E0..E95 (05 R102). -/
  sum : List (Int × Int) := []
  nval : List Nat := []
deriving DecidableEq, Repr

/-- A site entry of the calibration table (05 R119); `SSTATE`, `NFIX` and `SCAUSE` follow from the state of assay. -/
structure SiteEntry where
  bx : Int := 0
  by_ : Int := 0
  bz : Int := 0
  sigPos : Nat := 0
  ztd : Int := 0
  clk : PerBand Int := ⟨0, 0, 0⟩
  sigClk : PerBand Nat := ⟨0xFFFF, 0xFFFF, 0xFFFF⟩
  sigPh : PerBand Nat := ⟨0xFF, 0xFF, 0xFF⟩
  refb : Nat := 0
deriving DecidableEq, Repr

/-- An identity entry (05 R119). -/
structure IdEntry where
  vendor : Nat := 0
  model : Nat := 0
  serial : Nat := 0
deriving DecidableEq, Repr

/-- An element-band entry (05 R119). -/
structure EbEntry where
  dly : Int := 0
  sigDly : Nat := 0xFFFF
  ph : Nat := 0
  gain : Int := 0
  sigPh : Nat := 0xFF
  ebstate : Nat := 2
  nsig : Nat := 0
  cause : Nat := 0
  qage : Nat := 0
deriving DecidableEq, Repr

/-- The calibration table (05 R119). -/
structure CalTable where
  ctVer : Nat := 1
  refSite : Nat := 0
  ctFlags : Nat := 7
  ctGen : Nat := 0
  ctEpoch : Nat := 0
  refPos : Int × Int × Int := (0, 0, 0)
  ntgt : Nat := 28
  /-- what the changes of the reference have taken off every τ + c of a band, which the adit settings keep (05 R106, R112; 0.01 ps; reset 0). -/
  shift : PerBand Int := ⟨0, 0, 0⟩
  sites : Vector SiteEntry 12 := Vector.replicate 12 {}
  ids : Vector IdEntry 96 := Vector.replicate 96 {}
  ebs : Vector (PerBand EbEntry) 96 := Vector.replicate 96 ⟨{}, {}, {}⟩
deriving DecidableEq, Repr

/-- Assay parameters (05 R124). -/
structure AssayParams where
  qmin : Nat := 60
  qsig : Nat := 6
  qmax : Nat := 600
  tauAdmit : Nat := 20
  phiAdmit : Nat := 5
  gainAdmit : Nat := 5
  resAdmit : Nat := 15
  cn0Win : Nat := 6
  agen : Nat := 100
  ahold : Nat := 2
  assayMask : Nat := 15
  surveyTol : Nat := 50
  jamFreeze : Nat := 30
  sweepT : Nat := 300
deriving DecidableEq, Repr

/-- The estimator's working figures of an element-band beside its table entry (05 R113–R116). -/
structure EbWork where
  /-- boundaries since quarantine was entered, or since admission, the one at which the clock starts included (05 R113; reset 0). -/
  qclock : Nat := 0
  /-- rejected by R114 and not yet requalified (05 R114; reset false). -/
  rejected : Bool := false
  /-- post-fit residual RMS in 0.1 degree: 10 s mean over signals (05 R113; reset 0). -/
  res10 : Nat := 0
  /-- post-fit residual RMS over the last 1 s, in 0.1 degree (05 R116; reset 0). -/
  res1 : Nat := 0
  /-- 1-sigma of the gain in 0.01 dB (05 R113; reset 0xFFFF, no estimate). -/
  sigGain : Nat := 0xFFFF
  /-- τ estimates of the last 10 s with their ms, in 0.01 ps (05 R116; reset empty). -/
  tauHist : List (Nat × Int) := []
  /-- epochs for which phase and delay have been held since their uncertainty last grew (05 R111; reset 0). -/
  phHeld : Nat := 0
  dlyHeld : Nat := 0
  /-- valid folded sums in ms, per signal (05 R113; reset empty). -/
  folded : List (Nat × Nat) := []
deriving DecidableEq, Repr

/-- A held observation (05 R105): signal with its GLONASS channel, its channel, band, carrier in Hz, epoch ms, the valid sums of R111 by element. -/
structure HeldObs where
  sigid : Nat
  glok : Int
  ch : Nat
  band : Band
  car : Int
  epoch : Nat
  /-- generation in force in the epoch (05 R109). -/
  gen : Nat
  /-- sign of the data on the larger side of the epoch's symbol edge (06 R136); none while the dump that shows it is not complete. -/
  sign : Option Int
  /-- `DUMPSEQ` of that dump. -/
  signSeq : Nat
  /-- a signal beyond the assay selection, which the sweep alone uses (05 R122). -/
  extra : Bool
  data : List (Nat × Int × Int)
deriving DecidableEq, Repr

/-- The ambiguity N of a site and signal (05 R111): its integer, whether it is fixed, consecutive epochs in which the ratio test held, and whether
it was fixed before `AMB_LOST` (R118). -/
structure Amb where
  site : Nat
  sigid : Nat
  glok : Int
  n : Int := 0
  isFixed : Bool := false
  good : Nat := 0
  lost : Bool := false
deriving DecidableEq, Repr

/-- Working figures of a site: epochs for which clock offsets, position and zenith delay have been held since their uncertainty last grew (05 R111). -/
structure SiteWork where
  clkHeld : PerBand Nat := ⟨0, 0, 0⟩
  posHeld : Nat := 0
  ztdHeld : Nat := 0
  /-- 1-sigma of z_s in 0.1 mm (05 R111; reset 0xFFFF, no estimate: DESIGN CHOICE log 2). -/
  sigZtd : Nat := 0xFFFF
  /-- p_s has started (05 R117; reset false). -/
  started : Bool := false
deriving DecidableEq, Repr

/-- A site's fresh solution of a sweep (05 R122): position, zenith delay, clock offsets, ambiguities. -/
structure SweepSite where
  site : Nat
  pos : Int × Int × Int
  ztd : Int
  clk : PerBand Int
  ambs : List Amb
deriving DecidableEq, Repr

/-- What a generation writes into an adit (05 R107): delay in 1/65 536 tick, phase, magnitude. -/
structure GenWrite where
  el : Nat
  delay : Int
  gph : PerBand Nat
  gmag : PerBand Nat
deriving DecidableEq, Repr

/-- A published generation (05 R109): number, the ms at which it commits, the table it was taken from, and the adit writes. -/
structure CalGen where
  num : Nat
  commit : Nat
  table : CalTable
  writes : List GenWrite
deriving DecidableEq, Repr

/-- Assay accumulators of a signal slot for the epoch being worked through (05 R101, R102): sums and unblanked ticks of E0..E95. -/
structure AsyAcc where
  sum : List (Int × Int) := []
  n : List Nat := []
  sat : Bool := false
deriving DecidableEq, Repr

/-- Assay (05). -/
structure AssayState where
  /-- assay entries of the two result banks (2 × 160 × 896 bytes; 05 R103; reset 0). -/
  entries : Vector (Vector AssayEntry 160) 2 := Vector.replicate 2 (Vector.replicate 160 {})
  /-- signal slots: signal and channel of each assay slot (160; 05 R104; reset none). -/
  slots : Vector (Option (Nat × Nat)) 160 := Vector.replicate 160 none
  /-- the slots of the epoch before (08 R181; reset none). -/
  slotsBefore : Vector (Option (Nat × Nat)) 160 := Vector.replicate 160 none
  /-- accumulators of the slots (05 R102; reset 0). -/
  acc : Vector AsyAcc 160 := Vector.replicate 160 {}
  /-- bands dithered in the epoch before (05 R115; reset none). -/
  ditherBefore : PerBand Bool := ⟨false, false, false⟩
  /-- the calibration table (6 000 bytes; 05 R119; resets in the table). -/
  table : CalTable := {}
  /-- the copy of the table in flash (6 000 bytes; 05 R120; reset none). -/
  stored : Option CalTable := none
  /-- estimator working figures per element-band (05). -/
  work : Vector (PerBand EbWork) 96 := Vector.replicate 96 ⟨{}, {}, {}⟩
  /-- site position fit not adopted: fitted baseline per site (05 R117, R122; reset none). -/
  fitted : Vector (Option (Int × Int × Int)) 12 := Vector.replicate 12 none
  /-- the positions that the installer has accepted in place of the survey (05 R118; reset none). -/
  accepted : Vector (Option (Int × Int × Int)) 12 := Vector.replicate 12 none
  /-- ambiguities of the assay signals (05 R111; reset empty). -/
  ambs : List Amb := []
  /-- a site's calibration for a band is invalid with cause `AMB_LOST` (05 R118; reset none). -/
  invalid : Vector (PerBand Bool) 12 := Vector.replicate 12 ⟨false, false, false⟩
  /-- a site's calibration is invalid with cause `SURVEY_CONFLICT` (05 R117; reset none). -/
  conflict : Vector Bool 12 := Vector.replicate 12 false
  /-- the estimator's own state (05; reset empty). -/
  est : List Int := []
  /-- the ms of the first epoch not yet folded (05 R105; reset none). -/
  foldedTo : Option Nat := none
  /-- elements that the stored table has still to seed after this boot (05 R120; reset all). -/
  seedDue : Vector Bool 96 := Vector.replicate 96 true
  /-- signals tracked at the last boundary, with their channels (05 R104; reset none). -/
  tracked : List (Nat × Nat) := []
  /-- assay parameters in force (05 R124). -/
  params : AssayParams := {}
  /-- assay parameters staged for the next boundary (05 R124; reset none). -/
  paramsStaged : Option AssayParams := none
  /-- observations held for AHOLD, oldest first (05 R105; reset empty). -/
  held : List HeldObs := []
  /-- pinned signals (up to 16; 05 R123; reset empty). -/
  pinned : List Nat := []
  /-- excluded signals (up to 32; 05 R123; reset empty). -/
  excluded : List Nat := []
  /-- pins and exclusions staged (05 R123; reset none). -/
  signalsStaged : Option (List Nat × List Nat) := none
  /-- a signal left tracking since the last selection (05 R104; reset false). -/
  reselect : Bool := false
  /-- ms of the last reselection (05 R104; reset 0). -/
  lastSelect : Nat := 0
  /-- epochs since the last generation (05 R109; reset 0). -/
  sinceGen : Nat := 0
  /-- generations published and not yet committed (05 R109; reset none). -/
  pendingGen : List CalGen := []
  /-- the table as the generation in force took it (05 R109; reset none, before the first one). -/
  genTable : Option CalTable := none
  /-- working figures of the sites (05 R111; reset 0). -/
  siteWork : Vector SiteWork 12 := Vector.replicate 12 {}
  /-- sweep running: start ms (05 R122; reset none). -/
  sweep : Option Nat := none
  /-- the sweep's estimator state and ambiguities (05 R122; reset empty). -/
  sweepEst : List Int := []
  sweepAmbs : List Amb := []
  /-- the sweep's correlators of signals beyond the assay selection: channel and sums of the epoch (05 R122; reset empty). -/
  sweepAcc : List (Nat × AsyAcc) := []
  /-- entries of those correlators in the two result banks (05 R122; reset empty). -/
  sweepEntries : Vector (List AssayEntry) 2 := Vector.replicate 2 []
  /-- sites whose swept solutions await CAL_ACCEPT (05 R122; reset empty). -/
  sweepDiff : List SweepSite := []
  /-- staged element actions: requalifications (element, band) and CAL_ACCEPT sites (05 R123; reset empty). -/
  requal : List (Nat × Band) := []
  acceptSites : List Nat := []
  /-- ms of the last flash save (05 R120; reset 0). -/
  lastSave : Nat := 0
  /-- bands whose dither ends at the next boundary (05 R115; reset none). -/
  ditherEnd : PerBand Bool := ⟨false, false, false⟩
deriving DecidableEq, Repr

/-- The array: beams, nulls, coherence, assay. -/
structure ArrayState where
  /-- beams B0..B255 (04). -/
  beams : Vector BeamState 256 := Vector.replicate 256 {}
  /-- nulls per site and band (04 R94). -/
  nulls : Vector (PerBand NullSite) 12 := Vector.ofFn (fun i =>
    ⟨{ due := 3 * i.val % 4 }, { due := (3 * i.val + 1) % 4 }, { due := (3 * i.val + 2) % 4 }⟩)
  /-- null survey parameters in force (04 R92–R94). -/
  nullParams : NullParams := {}
  /-- coherence state per band (04 R87). -/
  coh : PerBand BandCoh := ⟨{}, {}, {}⟩
  /-- sky masks per site (04 SITE_MASK; reset from the charter, 0 and none: DESIGN CHOICE log 2). -/
  masks : Vector SkyMask 12 := Vector.replicate 12 {}
  /-- sky masks staged (04 R99; reset none). -/
  masksStaged : List (Nat × SkyMask) := []
  /-- assay (05). -/
  assay : AssayState := {}
deriving DecidableEq, Repr

end Sys2Proof.Machine
end

