-- ==== Sys2Proof/Machine/Mem.lean ====
section
/-! DEFINITION. Sparse memories in one canonical form: a list of (address, value) pairs, addresses strictly rising, no entry equal to
what an unlisted address reads as. Byte memories (lode, plan slots, kernel slots, charter copies, backup RAM), HB24 data memories of
24-bit words and instruction memories of 16-bit parcels share these operations (logs 1 and 3). -/

namespace Sys2Proof.Machine

/-- Byte memory. -/
abbrev Mem := List Host.Cell

/-- HB24 data memory: words of 24 bits. -/
abbrev WordMem := List (Nat × BitVec 24)

/-- HB24 instruction memory: parcels of 16 bits. -/
abbrev ParcelMem := List (Nat × BitVec 16)

/-- The value at an address; `d` is what an unlisted address reads as. -/
def sread {α : Type} (d : α) : List (Nat × α) → Nat → α
  | [], _ => d
  | (k, v) :: r, a => if a = k then v else sread d r a

/-- Writes a value, keeping the canonical form. -/
def swrite {α : Type} [DecidableEq α] (d : α) : List (Nat × α) → Nat → α → List (Nat × α)
  | [], a, x => if x = d then [] else [(a, x)]
  | (k, v) :: r, a, x =>
    if a < k then (if x = d then (k, v) :: r else (a, x) :: (k, v) :: r)
    else if a = k then (if x = d then r else (a, x) :: r)
    else (k, v) :: swrite d r a x

/-- The canonical form, every address above `lo` (as `lo + 1 ≤ k`, with `none` before the first entry). -/
def swfFrom {α : Type} [DecidableEq α] (d : α) : Option Nat → List (Nat × α) → Bool
  | _, [] => true
  | lo, (k, v) :: r => (match lo with | none => true | some l => decide (l < k)) && decide (v ≠ d) && swfFrom d (some k) r

/-- The canonical form: addresses strictly rising, no entry equal to `d`. -/
def swf {α : Type} [DecidableEq α] (d : α) (m : List (Nat × α)) : Bool := swfFrom d none m

/-- The canonical form of a byte memory whose unlisted bytes read 0 (log 1). -/
abbrev Memory.wf (m : Mem) : Bool := swf (0 : BitVec 8) m

/-- Reads `n` values from `a` on. -/
def sreads {α : Type} (d : α) (m : List (Nat × α)) (a : Nat) : Nat → List α
  | 0 => []
  | n + 1 => sread d m a :: sreads d m (a + 1) n

/-- Writes a list of values from `a` on. -/
def swrites {α : Type} [DecidableEq α] (d : α) (m : List (Nat × α)) (a : Nat) : List α → List (Nat × α)
  | [] => m
  | x :: xs => swrites d (swrite d m a x) (a + 1) xs

end Sys2Proof.Machine
end

