-- ==== Sys2Proof/Machine/StControl.lean ====
section
/-! DEFINITION. The state of the control path: sessions and reports (spec/12_command_protocol.md), tenants, kernels and the
tally book (spec/13_roles_tenants_tally.md), charter, fuses and boot (spec/14_charter_and_boot.md). Plain data; the defaults are
the reset values. -/

namespace Sys2Proof.Machine

/-- A report as the device keeps it (12 R325). -/
structure Report where
  ecode : Nat
  esev : Nat
  eten : Nat
  eseq : Nat
  etick : Nat
  body : List Byte
deriving DecidableEq, Repr

/-- A packet the GV9600 sends: a reply or a report (12 R296, R299, R325). The header's `HCRC` and the tag are computed from these
fields when it is formed; `tag` is empty where no tag follows. -/
structure OutPkt where
  transport : Nat
  source : List Byte
  vmaj : Nat
  vmin : Nat
  flags : Nat
  opcode : Nat
  seq : Nat
  tenant : Nat
  role : Nat
  sid : Nat
  payload : List Byte
  tag : List Byte
deriving DecidableEq, Repr

/-- A session (12 R301–R312). -/
structure Session where
  /-- SID (u32, never 0; 12 R301). -/
  sid : Nat
  /-- role 0..3 (12 R303). -/
  role : Nat
  /-- tenant, 0xFF none (12 R296). -/
  tenant : Nat
  /-- AUTHM (12 R303). -/
  authm : Nat
  /-- transport code (12 R293) and source address with port (12 R308). -/
  transport : Nat
  source : List Byte
  /-- negotiated version (12 R302). -/
  vmaj : Nat
  vmin : Nat
  /-- HNONCE and DNONCE (16 bytes each; 12 R304). -/
  hnonce : List Byte
  dnonce : List Byte
  /-- HNAME (16 bytes; 12 R302). -/
  hname : List Byte
  /-- the device's ephemeral private key, with AUTHM 2 or 3 (12 R305). -/
  ephKey : Nat
  /-- session key K_s, none before AUTH (12 R304). -/
  key : Option (List Byte) := none
  /-- authenticated (12 R306). -/
  authed : Bool := false
  /-- last accepted SEQ (12 R310). -/
  lastSeq : Nat
  /-- last 8 replies: SEQ and packet, newest first (12 R311). -/
  cache : List (Nat × OutPkt) := []
  /-- requests whose final reply is outstanding: SEQ, and ACK_ONLY of the request (12 R299, R312, R313). -/
  outstanding : List (Nat × Bool) := []
  /-- ticks of the requests of the last second, newest first (12 R312). -/
  recent : List Nat := []
  /-- ms of the last valid request and of HELLO (12 R306, R309). -/
  lastReq : Nat
  opened : Nat
  /-- IDLE_T in s (12 R323; reset 120). -/
  idleT : Nat := 120
  /-- discards (12 R298). -/
  discards : Nat := 0
  /-- subscription (12 R326): lowest severity and group mask; none at opening. -/
  evsev : Nat := 0
  evgrp : Nat := 0
  /-- reports lost; reports numbered so far (12 R325, R326; reset 0). The queued reports stand in `SessState.out`. -/
  evLost : Nat := 0
  evSeq : Nat := 0
  /-- private opcodes of group 0x7F are enabled (13 R347). -/
  makerOpen : Bool := false
  /-- RMA of the return token of a maker session (u32; 13 R346; reset 0). -/
  rma : Nat := 0
deriving DecidableEq, Repr

/-- A change accepted for a boundary whose drop must be reported to its session (12 R317): session, SEQ, opcode, boundary. -/
structure Accepted where
  sid : Nat
  seq : Nat
  opcode : Nat
  commit : Nat
  tenant : Nat
  /-- the unit it names, as the command numbers it. -/
  unit : Nat
deriving DecidableEq, Repr

/-- Sessions and reports. -/
structure SessState where
  /-- open sessions in order of opening (at most 24; 12 R308; reset none). -/
  open_ : List Session := []
  /-- AUTH failures: source (transport and address), ms (12 R307; reset none). -/
  fails : List (Nat × List Byte × Nat) := []
  /-- sources locked out: source, ms of the end (12 R307; reset none). -/
  locked : List (Nat × List Byte × Nat) := []
  /-- number of the next report (u32; 12 R325 ESEQ; reset 0). -/
  eseq : Nat := 0
  /-- last 1 024 reports, oldest first (12 R326; reset empty). -/
  reports : List Report := []
  /-- ms at which a code was last sent for a unit: code, unit, ms (12 R326; reset empty). -/
  told : List (Nat × Nat × Nat) := []
  /-- packets waiting to leave, oldest first (12 R299; reset empty). -/
  out : List OutPkt := []
  /-- accepted changes not yet committed (12 R316, R317; reset empty). -/
  accepted : List Accepted := []
  /-- discards of packets that name no session (12 R298; reset 0). -/
  strayDiscards : Nat := 0
deriving DecidableEq, Repr

/-- Tenant quota parameters (13 R332). -/
structure Quota where
  qBuf : Nat := 256
  qRate0 : Nat := 50
  qRate1 : Nat := 50
  qBurst : Nat := 64
  qLclass : Nat := 1
  qStreams : Nat := 4
  qCapreg : Nat := 1
  qLode : Nat := 4096
deriving DecidableEq, Repr

/-- Kernel limits of a tenant (13 R337). -/
structure KLimits where
  kNum : Nat := 0
  kCode : Nat := 0
  kConst : Nat := 0
  kShare : Nat := 0
deriving DecidableEq, Repr

/-- A verified kernel's header figures (13 R335). -/
structure KernelHdr where
  kid : Nat
  kcode : Nat
  kconst : Nat
  kentry : Nat
  kcyc : Nat
  kstate : Nat
  kver : Nat
deriving DecidableEq, Repr

/-- A tenant's kernel slot (13 R336). -/
structure KernelSlot where
  /-- bytes written (at most 65 536; 13 R335; reset empty). -/
  image : Mem := []
  /-- verified kernel, copied to the deputies (13 R336; reset none). -/
  ver : Option KernelHdr := none
  /-- the bytes of the verified kernel as the deputies hold them; a later write to the slot leaves them (13 R336; reset empty). -/
  copy : Mem := []
  /-- deferred delete pending (13 R339; reset false). -/
  deleting : Bool := false
deriving DecidableEq, Repr

/-- A tenant (13 R328–R339). -/
structure Tenant where
  /-- present in the tenant table in force (13 R329; reset false). -/
  present : Bool := false
  /-- quota in force (13 R332). -/
  quota : Quota := {}
  /-- kernel limits in force (13 R337). -/
  klim : KLimits := {}
  /-- kernel slots 0..3 (13 R336). -/
  kslots : Vector KernelSlot 4 := Vector.replicate 4 {}
deriving DecidableEq, Repr

/-- A tenant change staged for step 6 (13 R330). -/
inductive TenantChange where
  | add (t : Nat) (q : Quota)
  | remove (t : Nat)
  | quota (t : Nat) (q : Quota)
  /-- `KERNEL_BUDGET` (13 R337). -/
  | limits (t : Nat) (k : KLimits)
deriving DecidableEq, Repr

/-- A tally record (13 R340): the header's fields and the body's bytes. -/
structure TallyRec where
  seq : Nat
  typ : Nat
  role : Nat
  tenant : Nat
  sid : Nat
  tm : Nat
  tick : Nat
  prev : List Byte
  body : List Byte
deriving DecidableEq, Repr

/-- The tally head of backup RAM (13 R341). -/
structure TallyHead where
  seq : Nat := 0
  hash : List Byte := List.replicate 32 0
  off : Nat := 0
  exp : Nat := 0
  crcOk : Bool := true
deriving DecidableEq, Repr

/-- The tally book (13 R340–R345). -/
structure TallyState where
  /-- records queued for flash, oldest first (512; 13 R343; reset empty). -/
  queue : List TallyRec := []
  /-- records in flash, with their segment numbers, oldest first (8 MB; 13 R341). -/
  flash : List (Nat × TallyRec) := []
  /-- the head in backup RAM (13 R341). -/
  head : TallyHead := {}
  /-- TB_SEQ of the next record to be formed and the hash of the last one formed (13 R340). -/
  nextSeq : Nat := 1
  lastHash : List Byte := List.replicate 32 0
  /-- bytes used in the open segment, its number, segments opened since record 1 (13 R341, R342). -/
  segUsed : Nat := 0
  segNo : Nat := 0
  /-- SEG_LOST (u16, saturating; 13 R345; reset 0). -/
  segLost : Nat := 0
  /-- the count that the last `SEGMENT_SEAL` formed carries (u16, saturating; 13 R342, R574; reset 0). -/
  sealLost : Nat := 0
  /-- TFLAGS bit 0 head rebuilt at last boot, bit 1 last verify broken (13 R345; reset 0). -/
  rebuilt : Bool := false
  broken : Bool := false
  /-- walk in progress: session, SEQ of the request (13 R345; reset none). -/
  verify : Option (Nat × Nat) := none
deriving DecidableEq, Repr

/-- Tenants, overlay, kernels and the tally book. -/
structure TenantState where
  /-- tenants T0..T7 (13). -/
  t : Vector Tenant 8 := Vector.replicate 8 {}
  /-- changes staged, in order of acceptance (13 R330; reset empty). -/
  staged : List TenantChange := []
  /-- overlay: charter generation, tenants added, changed (with their quota) or removed (none), secrets by role and tenant (13 R331; reset none). -/
  overlayGen : Option Nat := none
  overlayTab : List (Nat × Option Quota) := []
  overlaySec : List (Nat × Nat × List Byte) := []
  /-- the tally book (13). -/
  tally : TallyState := {}
deriving DecidableEq, Repr

/-- Device state (12 DSTATE). -/
inductive DState where
  | boot | hold | run
deriving DecidableEq, Repr

def DState.code : DState → Nat
  | .boot => 0 | .hold => 1 | .run => 2

/-- A fuse field written once (14 R366): the value and whether it is written. -/
structure Fuse where
  val : Nat := 0
  written : Bool := false
deriving DecidableEq, Repr

/-- The fuses (14 R366). Values fused at manufacture are constants of Config. -/
structure Fuses where
  /-- INST_KEY_HASH (48 bytes, as a number; 14; reset 0, unwritten). -/
  instKey : Fuse := {}
  /-- TLIMIT (4 bits; 14; reset 8, unwritten). -/
  tlimit : Fuse := ⟨8, false⟩
  /-- BFLOOR (16 bits; 14; reset 0.0, unwritten). -/
  bfloor : Fuse := {}
  /-- MAKER (1 bit; 14; reset 0). -/
  maker : Bool := false
deriving DecidableEq, Repr

/-- One charter copy in flash: bytes and seal (14 R357). -/
structure CharterCopy where
  /-- bytes, sparse (258 048 bytes; 14 R355; an unwritten byte reads 0xFF in erased flash: log 1). -/
  bytes : Mem := []
  /-- seal: CGEN and SHA-384 of the charter (14 R357; reset none). -/
  sealOf : Option (Nat × List Byte) := none
deriving DecidableEq, Repr

/-- Charter, fuses, boot, HOLD. -/
structure BootState where
  /-- strap code latched (4 bits; 14 R351; reset code 0, open pin: DESIGN CHOICE log 2). -/
  strap : Nat := 0
  /-- STRAP_ERR (1 bit; 14 R351; reset 0). -/
  strapErr : Bool := false
  /-- DSTATE (u8; 12 R324; reset 0 = BOOT). -/
  dstate : DState := .boot
  /-- the Overman restarts after a CORE RESET, from boot step 3 (1 bit; 18 R447; reset false). -/
  restart : Bool := false
  /-- the boundary at which the Overman resumes after a CORE RESET has still to come (1 bit; 18 R447; reset false). -/
  resumed : Bool := false
  /-- HOLD cause 1..4, 0 none (14 R363; reset 0). -/
  holdCause : Nat := 0
  /-- LOCK_VIOLATION (1 bit, sticky; 14 R367; reset 0). -/
  lockViolation : Bool := false
  /-- fuses (14 R366). -/
  fuses : Fuses := {}
  /-- charter copies CHA and CHB in flash (14 R352). -/
  copies : Vector CharterCopy 2 := Vector.replicate 2 {}
  /-- which copy is in force (14 R357; reset none). -/
  inForce : Option (Fin 2) := none
  /-- the charter in force as bytes (14 R358; reset empty). -/
  charter : List Byte := []
  /-- CGEN in force (u32; 12 CH_GEN; reset 0). -/
  cgen : Nat := 0
  /-- the standby copy passed CHARTER_VERIFY since its last write (14 R360; reset false). -/
  standbyOk : Bool := false
  /-- charter staged by a CMODE 1 commit (14 R360; reset none). -/
  liveCommit : Option (List Byte) := none
  /-- PROV block of the flash (4 KB; 14 R354; reset empty). -/
  prov : List Byte := []
  /-- plans of the PLANS area: boot plan and designated derated plan (14 R361; reset empty). -/
  plansFlash : Vector Mem 2 := Vector.replicate 2 []
  /-- firmware version running: major, minor, patch (14 R353; reset 0). -/
  fwVer : Nat × Nat × Nat := (0, 0, 0)
  /-- baseline range of the running firmware (14 R353; reset 0). -/
  fwBase : Nat × Nat := (0, 0)
  /-- ms of the last firmware choice without a qualifying image (14 R353; reset none). -/
  fwRetry : Option Nat := none
  /-- ports whose charter enable waits for NOMINAL (14 R362; reset none). -/
  pendingEnable : List Nat := []
  /-- check results of CHA and CHB at the last boot (13 R574; reset 0xFF). -/
  chkA : Nat := 0xFF
  chkB : Nat := 0xFF
  /-- verification of a plan in progress: session, SEQ, slot, result (08 R199; reset none). -/
  planVerify : Option (Nat × Nat × Nat) := none
deriving DecidableEq, Repr

end Sys2Proof.Machine
end

