-- ==== Sys2Proof/Machine/StCore.lean ====
section
/-! DEFINITION. The state of the HB24 cores (spec/15_hb24_instruction_set.md, spec/16_hb24_dsp_and_exceptions.md). Plain data;
the defaults are the reset values. -/

namespace Sys2Proof.Machine

/-- What a waiting core waits for (15 R392, R394). -/
inductive Wait where
  | event
  | time (t : Nat)
  | either (t : Nat) (xd : Nat)
deriving DecidableEq, Repr

/-- A repeat in progress (15 R386, R388): `REP` with the hidden count, or `REPI` counted by lc and RPT. -/
structure RepSt where
  /-- the hidden counter of REP: iterations left (15 R386). -/
  left : Nat
  /-- iterations completed (16 R414). -/
  done : Nat
  /-- parcel address of the prefix. -/
  prefixAt : Nat
deriving DecidableEq, Repr

/-- A committed control transfer whose delay slot has not executed (15 R379, 16 R408, R410). -/
structure SlotSt where
  /-- the outcome: where execution goes after the slot; none for a branch not taken, whose outcome N is the address after the slot. -/
  outcome : Option Nat
  /-- the transfer is a RETI: pc, sp and st before it. -/
  reti : Option (Nat × Word24 × Word24) := none
  /-- the transfer is a CALL or CALLR: the data address that takes N, the address after the slot, before the slot executes. -/
  link : Option Nat := none
  /-- the slot is the resumed one of R408 (DS): after it, execution goes to DSR and DS clears. -/
  resumed : Bool := false
deriving DecidableEq, Repr

/-- One HB24 core (15 R371). -/
structure CoreState where
  /-- x0–x7 then p0–p7, p7 the stack pointer (16 × 24 bits; 15 R371; reset 0). -/
  g : Vector Word24 16 := Vector.replicate 16 0
  /-- ac0–ac3 (4 × 56 bits; 15 R371; reset 0). -/
  ac : Vector Acc 4 := Vector.replicate 4 0
  /-- m0–m3 (4 × 24 bits; 15 R371; reset 0). -/
  m : Vector Word24 4 := Vector.replicate 4 0
  /-- lc (16 bits; 15 R371; reset 0). -/
  lc : BitVec 16 := 0
  /-- ex (6 bits, signed; 15 R371; reset 0). -/
  ex : BitVec 6 := 0
  /-- st (24 bits; 15 R372; reset 0). -/
  st : Word24 := 0
  /-- pc, parcel address (24 bits; 15 R371; reset vector 0x00_0000, 16 R403). -/
  pc : Nat := 0
  /-- data memory, sparse (Overman 512 K words, deputy 48 K words of 24 bits; 15 R369; unwritten words read 0: log 1). -/
  dmem : WordMem := []
  /-- instruction memory, sparse (Overman 1 M parcels, deputy 64 K parcels of 16 bits; 15 R369; log 1). -/
  imem : ParcelMem := []
  /-- event latch (1 bit; 15 R392; reset 0, DESIGN CHOICE log 2). -/
  latch : Bool := false
  /-- load in flight: register and value, landing at the end of the next instruction (15 R381; reset none). -/
  load : Option (Fin 16 × Word24) := none
  /-- the mode-change shadow: the old mode bits [3:0] of st, which still govern the next instruction (15 R382; reset none). -/
  modeShadow : Option (BitVec 4) := none
  /-- delay slot pending (15 R379; reset none). -/
  slot : Option SlotSt := none
  /-- REP in progress (15 R386; reset none). -/
  rep : Option RepSt := none
  /-- the REPI prefix has run and I has not begun: the prefix's address and lc before it (15 R387, R388; reset none). -/
  repi : Option (Nat × BitVec 16) := none
  /-- waiting instruction (15 R392, R394; reset none). -/
  wait : Option Wait := none
  /-- the tick count since the reset at which the wait began (15 R397; reset 0). -/
  waitAt : Nat := 0
  /-- in lockup (16 R407; reset false). -/
  lockup : Bool := false
  /-- an entry's handler has not completed its first instruction (16 R407; reset false). -/
  fresh : Bool := false
  /-- the latched high parts TCNT_HI (24 bits; 15 R393; reset 0). -/
  tcntHi : Word24 := 0
  /-- BND_HI (24 bits; 16 R417; reset 0). -/
  bndHi : Word24 := 0
  /-- INT_PEND (16 bits; 16 R404; reset 0). -/
  intPend : BitVec 16 := 0
  /-- INT_EN (16 bits; 16 R404; reset 0). -/
  intEn : BitVec 16 := 0
  /-- EXC_CAUSE (7 bits: vector, DS, REPX; 16 R404; reset 0). -/
  excCause : BitVec 7 := 0
  /-- EXC_ADDR (24 bits; 16 R404; reset 0). -/
  excAddr : Word24 := 0
  /-- EXC_INFO (24 bits; 16 R404; reset 0). -/
  excInfo : Word24 := 0
  /-- DSR (24 bits; 16 R404; reset 0). -/
  dsr : Word24 := 0
  /-- UCB, UCL, UW0B, UW0L … UW3L (10 × 24 bits; 16 R421; reset 0). -/
  uw : Vector Word24 10 := Vector.replicate 10 0
  /-- KCYC_LIM (16 bits; 16 R421; reset 0). -/
  kcycLim : BitVec 16 := 0
  /-- mailbox registers 0x0100–0x01FF, private to Relwa firmware, sparse (16 R416; reset 0, DESIGN CHOICE log 2). -/
  mailbox : WordMem := []
  /-- KCYC_LIM has reached 0 in user mode: vector 7 is raised before the next instruction (16 R421; reset false). -/
  kexp : Bool := false
  /-- the value that the last read of an I/O register returned (24 bits; 15 R398; reset 0, the model's own view of it). -/
  ioData : Word24 := 0
  /-- cycles spent (15 R397; reset 0). -/
  cycles : Nat := 0
deriving DecidableEq, Repr

/-- The cores: 0..17 are DP0..DP17, 18 is the Overman. -/
structure CoresState where
  core : Vector CoreState 19 := Vector.replicate 19 {}
deriving DecidableEq, Repr

end Sys2Proof.Machine
end

