-- ==== Sys2Proof/Machine/StPlan.lean ====
section
/-! DEFINITION. The state of the scheduled fabric: plan slots, programs, logical units, stopes (spec/08_shift_plans.md) and
deadlines, escalation and maintenance (spec/09_deadlines_and_capacity.md). Plain data; the defaults are the reset values. -/

namespace Sys2Proof.Machine

/-- A beam slot entry of BIND (08 R191). -/
structure BeamSlot where
  bnum : Nat
  lst : Nat
  bband : Nat
  ecap : Nat
  bkinds : Nat
  bown : Nat
  boutw : Nat
deriving DecidableEq, Repr

/-- A channel slot entry of BIND (08 R191). -/
structure ChanSlot where
  cnum : Nat
  lst : Nat
  ldep : Nat
  lslot : Nat
  cnarm : Nat
  cown : Nat
deriving DecidableEq, Repr

/-- An assay slot entry of BIND (08 R191). -/
structure AssaySlot where
  aslot : Nat
  lst : Nat
  aband : Nat
  aldep : Nat
deriving DecidableEq, Repr

/-- A search slot entry of BIND (08 R191). -/
structure SearchSlot where
  sslot : Nat
  lst : Nat
  sinput : Nat
  ssrc : Nat
deriving DecidableEq, Repr

/-- A template op (08 R192). -/
structure TmplOp where
  opc : Nat
  first : Nat
  count : Nat
  u : Nat
  cyc : Nat
deriving DecidableEq, Repr

/-- A stope header (08 R193). -/
structure StopeHdr where
  lst : Nat
  sg : Nat
  sfloor : Nat
  bandin : Nat
  er : Nat
  tmplid : Nat
  fftlen : Nat
  nbeat : Nat
deriving DecidableEq, Repr

/-- A route (08 R194). -/
structure Route where
  rband : Nat
  emask : Nat
  lsmask : Nat
deriving DecidableEq, Repr

/-- A plan's capture entry (08 R195). -/
structure PlanCapture where
  cid : Nat
  cmode : Nat
  cwidth : Nat
  ctrig : Nat
  bands : Nat
  pre : Nat
  elems : Nat
  base : Nat
  nblk : Nat
  targ : Nat
  ttime : Nat
  cperiod : Nat
deriving DecidableEq, Repr

/-- A stope deadline record (08 R196). -/
structure DlStope where
  lst : Nat
  target : Nat
  warn : Nat
deriving DecidableEq, Repr

/-- A deputy deadline record (08 R196). -/
structure DlDep where
  ldep : Nat
  d2t : Nat
  dbudget : Nat
deriving DecidableEq, Repr

/-- A certificate record (08 R197), and equally what the model computes for one stope (08 R187). -/
structure CertRec where
  lst : Nat
  csg : Nat
  cfloor : Nat
  busy : Nat
  ceil : Nat
  stride : Nat
  slackmin : Int
  cmp : Nat
  d1c : Nat
  margin : Int
deriving DecidableEq, Repr

/-- A plan image taken apart (08 R190–R198). -/
structure Plan where
  pfmt : Nat := 2
  derated : Bool := false
  plen : Nat := 0
  planId : Nat := 0
  planGen : Nat := 0
  floor : Nat := 0
  nlst : Nat := 0
  nldep : Nat := 0
  nbs : Nat := 0
  ncs : Nat := 0
  nas : Nat := 0
  nss : Nat := 0
  model : Nat := 0
  derateOf : Nat := 0
  siteHash : List Byte := []
  cver : Nat := 0
  beams : List BeamSlot := []
  chans : List ChanSlot := []
  assays : List AssaySlot := []
  searches : List SearchSlot := []
  tmpls : List (List TmplOp) := []
  stopes : List StopeHdr := []
  routes : List Route := []
  wmap : List Nat := []
  caps : List PlanCapture := []
  dlStopes : List DlStope := []
  dlDeps : List DlDep := []
  cert : List CertRec := []
deriving DecidableEq, Repr

/-- A plan slot (08 R202). -/
structure PlanSlotSt where
  /-- the slot's bytes, sparse (262 144 bytes; 08 R202; an unwritten byte reads 0: log 1). -/
  image : Mem := []
  /-- verified (1 bit; 08 R202; reset false). -/
  verified : Bool := false
  /-- the verified image taken apart (the model's own; reset none). -/
  plan : Option Plan := none
deriving DecidableEq, Repr

/-- A pending swap (08 R203). -/
structure Swap where
  slot : Nat
  acceptedMs : Nat
  bs : Nat
  /-- 0 accepted, 1 first boundary passed (routes joined), 2 fabric side moved. -/
  phase : Nat
  old : Option Plan
  /-- a host's `PLAN_ACTIVATE` asked for it, so that the plan goes to `PLANS` (14 R361). -/
  host : Bool
deriving DecidableEq, Repr

/-- A logical stope's run of the epoch (08 R179–R186, 09 R212–R218). -/
structure StopeRun where
  /-- next stride i (08 R175; reset 0). -/
  stride : Nat := 0
  /-- strides abandoned in this epoch (08 R180; reset false). -/
  abandoned : Bool := false
  /-- the whole-millisecond count at the start of the epoch that the strides belong to (08 R175; reset 0). -/
  at_ : Nat := 0
  /-- the boundary (ms) that closed the last epoch whose entries have landed in time (09 R212; reset none). -/
  landed : Option Nat := none
  /-- strides of the epoch that closed at the last boundary were abandoned (09 R215 `DCAUSE`; reset false). -/
  lost : Bool := false
  /-- the boundary (ms) that closed the last epoch run to its end, whose completion and slack stand here (09 R215, R217; reset none). -/
  known : Option Nat := none
  /-- CMPM in units of 1.25 ns after T0 (09 R217; reset 0). -/
  cmpm : Nat := 0
  /-- SLKM in units of 1.25 ns (09 R217; reset 0). -/
  slkm : Int := 0
  /-- SLKM of the epoch in progress: least so far (09 R217; reset none). -/
  slkRun : Option Int := none
  /-- committed set (0 or 1) used by the strides of the epoch (08 R181; reset 0). -/
  set : Nat := 0
  /-- epochs of each slack condition in a row, completion and stride slack; epochs free of both; raised (09 R217; reset 0). -/
  slackBad : Nat := 0
  slackThin : Nat := 0
  slackGood : Nat := 0
  slackUp : Bool := false
  /-- consecutive epochs below the floor (09 R218; reset 0). -/
  slow : Nat := 0
deriving DecidableEq, Repr

/-- Escalation bookkeeping of a slot or unit (09 R216): miss flags of the last 1 000 epochs, newest first, and counters. -/
structure Esc where
  /-- level (0..3; 09 R216; reset 0). -/
  level : Nat := 0
  /-- misses of the last epochs, newest first, at most 1 000 (09 R216; reset empty). -/
  hist : List Bool := []
  /-- consecutive epochs with a miss (09 R216; reset 0). -/
  run : Nat := 0
  /-- consecutive epochs without a miss (09 R216; reset 0). -/
  clean : Nat := 0
  /-- misses counted for DL_STATUS (09 R230; reset 0). -/
  misses : Nat := 0
  /-- ms of the last report at level 2, and reports held back (09 R215; reset none, 0). -/
  lastReport : Option Nat := none
  heldBack : Nat := 0
  /-- the actions of level 2 have been taken (09 R216; reset false). -/
  acted : Bool := false
deriving DecidableEq, Repr

/-- Deadline parameters (09 DL_PARAMS). -/
structure DlParams where
  escReset : Nat := 1
  escL2n : Nat := 16
deriving DecidableEq, Repr

/-- A capacity-reducing activity (09 R226). -/
structure Activity where
  /-- code 1..6. -/
  code : Nat
  actId : Nat
  startMs : Nat
  /-- the units that its records name (13 R574 `UNIT_A`, `UNIT_B`); a logical deputy counts from 0x100. -/
  arg : Nat
  arg2 : Nat
deriving DecidableEq, Repr

/-- A maintenance request (09 R227): its activity code, arguments (a logical deputy counts from 0x100; of a plan load, the slot and the proposal), `AT_EPOCH` of a plan load, session,
request number and opcode; session 0 is the GV9600 itself, whose initiator code 1 or 2 is given (13 R574 `SPARING`). -/
structure MaintReq where
  code : Nat
  arg : Nat
  arg2 : Nat
  at_ : Nat := 0
  sid : Nat := 0
  seq : Nat := 0
  opcode : Nat := 0
  initiator : Nat := 0
deriving DecidableEq, Repr

/-- A substitution of a stope in progress (09 R221): logical, physical reserve, boundaries passed. -/
structure StopeSub where
  ls : Nat
  phys : Nat
  old : Nat
  b1 : Nat
  stage : Nat
deriving DecidableEq, Repr

/-- A substitution of a deputy in progress (09 R223). -/
structure DepSub where
  ld : Nat
  phys : Nat
  copied : Bool
deriving DecidableEq, Repr

/-- The sparing record of the STORE area (08 R174). -/
structure SparingRec where
  lsMap : Vector Nat 32
  ldMap : Vector Nat 16
  stSuspect : List Nat
  dpSuspect : List Nat
  stRetired : List Nat
  dpRetired : List Nat
  stTest : Vector Nat 36
  dpTest : Vector Nat 18
  bankMap : Vector Nat 64
  bankRetired : List Nat
  serial : Nat
  ok : Bool
deriving DecidableEq, Repr

/-- The scheduled fabric and its deadlines. -/
structure FabricState where
  /-- plan slots 0..2 (3 × 262 144 bytes; 08 R202; reset empty, unverified). -/
  slots : Vector PlanSlotSt 3 := Vector.replicate 3 {}
  /-- the programs in force, from slot 0 (08 R202; reset none: no plan is active before boot). -/
  active : Option Plan := none
  /-- programs in the standby banks (08 R205; reset none). -/
  standby : Option Plan := none
  /-- swap pending (08 R203; reset none). -/
  swap : Option Swap := none
  /-- slot 2 is designated derated (08 R210; reset false). -/
  derated : Bool := false
  /-- logical to physical stopes (32; 08 R174; reset LSn → STn). -/
  lsMap : Vector Nat 32 := Vector.ofFn (fun i => i.val)
  /-- logical to physical deputies (16; 08 R174; reset LDn → DPn). -/
  ldMap : Vector Nat 16 := Vector.ofFn (fun i => i.val)
  /-- reserve stopes marked SUSPECT (08 R174; reset none). -/
  stSuspect : List Nat := []
  /-- reserve deputies marked SUSPECT (08 R174; reset none). -/
  dpSuspect : List Nat := []
  /-- retired stopes and deputies (08 R174; reset none). -/
  stRetired : List Nat := []
  dpRetired : List Nat := []
  /-- last deep test result of each stope and deputy: 0 untested, 1 PASS, 2 FAIL, 3 INCOMPLETE (08 R174; reset 0). -/
  stTest : Vector Nat 36 := Vector.replicate 36 0
  dpTest : Vector Nat 18 := Vector.replicate 18 0
  /-- the sparing record in flash (08 R174; reset none). -/
  sparing : Option SparingRec := none
  /-- per-logical-stope run state (32; 08). -/
  run : Vector StopeRun 32 := Vector.replicate 32 {}
  /-- escalation of logical stopes (09 R216). -/
  escLs : Vector Esc 32 := Vector.replicate 32 {}
  /-- escalation of logical deputies (09 R216). -/
  escLd : Vector Esc 16 := Vector.replicate 16 {}
  /-- escalation of channel slots (09 R216). -/
  escCh : Vector Esc 384 := Vector.replicate 384 {}
  /-- escalation of assay slots (09 R216). -/
  escAs : Vector Esc 160 := Vector.replicate 160 {}
  /-- the boundary (ms) whose D1 and whose D2 have been checked last (09 R212, R213; reset none). -/
  d1At : Option Nat := none
  d2At : Option Nat := none
  /-- kernel calls skipped per logical deputy, KSKIP (16 R419; reset 0). -/
  kskip : Vector Nat 16 := Vector.replicate 16 0
  /-- consecutive epochs in which 8 stopes or 4 deputies missed (09 R216 level 3; reset 0). -/
  massRun : Nat := 0
  /-- a deputy has passed its assay reductions of the epoch (09 R213; reset false). -/
  reduced : Vector Bool 16 := Vector.replicate 16 false
  /-- void channels of the deputies at D2, to be reported at B+1000 µs: logical deputy and channels (09 R215; reset empty). -/
  d2Late : List (Nat × List Nat) := []
  /-- microseconds·1000 after D2 of the last late COMMIT per channel (09 R215; reset empty). -/
  lateCommits : List (Nat × Nat) := []
  /-- deadline parameters in force (09 R230). -/
  dlParams : DlParams := {}
  /-- deadline parameters staged (09 R230; reset none). -/
  dlStaged : Option DlParams := none
  /-- running activities (09 R226; reset none). -/
  acts : List Activity := []
  /-- queued requests (at most 4; 09 R227; reset none). -/
  mqueue : List MaintReq := []
  /-- device-initiated activity waiting for a running one past its abort limit (09 R228; reset none). -/
  devWait : Option MaintReq := none
  /-- stope substitution in progress (09 R221; reset none). -/
  stSub : Option StopeSub := none
  /-- deputy substitution in progress (09 R223; reset none). -/
  dpSub : Option DepSub := none
  /-- Lyparil remedies to start at the next boundary: code, logical unit, physical unit (09 R220; reset none). -/
  remedies : List (Nat × Nat × Nat) := []
  /-- elements to leave (with POWER) or return at the next boundary (09 R224; reset none). -/
  elemOut : List (Nat × Nat) := []
  elemIn : List Nat := []
  /-- elements out of service by ELEM_OUT (09 R224; reset none). -/
  outList : List Nat := []
  /-- unit under deep test: kind (0 stope, 1 deputy, 2 bank) and number (09 R229; reset none). -/
  testing : Option (Nat × Nat) := none
deriving DecidableEq, Repr

end Sys2Proof.Machine
end

