-- ==== Sys2Proof/Machine/StPorts.lean ====
section
/-! DEFINITION. The state of the local ports (spec/20_serial_and_local_ports.md) and of the Ethernet ports and data streams
(spec/21_ethernet_streams.md). Plain data; the defaults are the reset values. -/

namespace Sys2Proof.Machine

/-- UART parameters (20 R484) and timing parameters (20 R487). -/
structure UartParams where
  umode : Nat := 0
  ufunc : Nat := 1
  ubits : Nat := 8
  upar : Nat := 0
  ustop : Nat := 1
  udiv : Nat := 108
  ufrac : Nat := 130
  uduplex : Nat := 0
  uecho : Nat := 1
  usclk : Nat := 0
  deLead : Nat := 16
  deTail : Nat := 16
  turnGap : Nat := 2
deriving DecidableEq, Repr

/-- The receive assembly of a U0 frame (20 R491): inside a frame, bytes unescaped so far, escape pending, spoiled, up-tick of the
last character. -/
structure FrameAsm where
  inside : Bool := false
  bytes : List Byte := []
  esc : Bool := false
  bad : Bool := false
  lastUp : Nat := 0
deriving DecidableEq, Repr

/-- One UART (20). -/
structure UartState where
  /-- parameters in force (20 R484, R487; resets in the tables; UMODE 1 and UFUNC 0 for U0). -/
  par : UartParams := {}
  /-- parameters staged until the characters in progress have completed (20 R484; reset none). -/
  staged : Option UartParams := none
  /-- RXD level (1 bit; 20 UART status block; reset mark: log 2). -/
  rxd : Bool := true
  /-- UDEn active (1 bit; 20 R487; reset 0). -/
  ude : Bool := false
  /-- the UART is in DEAD (1 bit; 20 R488; reset 0). -/
  dead : Bool := false
  /-- a break of the present low period has been counted (1 bit; 20 R488; reset 0). -/
  breakTold : Bool := false
  /-- after a framing error the receiver waits for one bit time of mark (1 bit; 20 R482; reset 0). -/
  waitMark : Bool := false
  /-- up-tick of the falling edge of the present low period (20 R488; reset none). -/
  lowSince : Option Nat := none
  /-- up-tick since which RXD has been at mark (20 R487, R488; reset 0). -/
  markSince : Nat := 0
  /-- holding register, and whether its character carried an error (8 bits; 20 R483; reset none). -/
  hold : Option (Byte × Bool) := none
  /-- receive queue of function 3, oldest first (1 024 bytes; 20 R486; reset empty). -/
  rxq : List Byte := []
  /-- transmit queue, oldest first (TXQ, 2 048 bytes for UART_STATUS; 20 R490; reset empty). -/
  txq : List Byte := []
  /-- a character is being sent (1 bit; 20 UART status block USTATE; reset false). -/
  txBusy : Bool := false
  /-- up-tick at which the transmission in progress ends, the driver-enable tail included (20 R487; reset 0). -/
  txEnd : Nat := 0
  /-- bytes put on TXD by the transmission in progress, or by the last one, oldest first (20 R487; reset empty). -/
  txd : List Byte := []
  /-- second of the last time-of-day frame of function 2 and the count of these frames (u16; 20 R484, 11 R289; reset 0). -/
  todSec : Nat := 0
  todSeq : Nat := 0
  /-- RXCHR (u32; 20; reset 0). -/
  rxchr : Nat := 0
  /-- NOISE (u16, saturating; 20; reset 0). -/
  noise : Nat := 0
  /-- FRAMING (u16, saturating; 20; reset 0). -/
  framing : Nat := 0
  /-- PARITY (u16, saturating; 20; reset 0). -/
  parity : Nat := 0
  /-- OVR (u16, saturating; 20; reset 0). -/
  ovr : Nat := 0
  /-- BREAKS (u16, saturating; 20; reset 0). -/
  breaks : Nat := 0
  /-- DEADS (u16, saturating; 20; reset 0). -/
  deads : Nat := 0
  /-- FRMERR (u16, saturating; 20; reset 0). -/
  frmerr : Nat := 0
  /-- frame assembly of U0 (20 R491; reset outside a frame). -/
  frame : FrameAsm := {}
deriving DecidableEq, Repr

/-- The SPI host port (20). Outgoing packets wait in `SessState.out`. -/
structure SpiState where
  /-- packets written and not yet taken by the Overman (at most 4; 20 R493; reset empty). -/
  inq : List (List Byte) := []
  /-- SPST bit 2, last SPI_WR failed its CRC or ended short (20 R492; reset 0). -/
  wrFail : Bool := false
  /-- SPST bit 3, last SPI_WR found no room (20 R492; reset 0). -/
  wrFull : Bool := false
  /-- bytes the last transfer put on MISO (20 R492; reset empty). -/
  miso : List Byte := []
deriving DecidableEq, Repr

/-- The wake port (20 R495–R497). -/
structure WakePortState where
  /-- the matcher drives the acknowledge bit (1 bit; 20 R495; reset false). -/
  ack : Bool := false
  /-- the rest of the transaction is ignored up to STOP (1 bit; 20 R495; reset false). -/
  ignoring : Bool := false
  /-- the matched transaction is a read whose bytes have not been sent yet (1 bit; 20 R496; reset false). -/
  reading : Bool := false
  /-- bytes returned by the last matched read (20 R496; reset empty). -/
  reply : List Byte := []
  /-- pulses driven by the bus clear in progress (0..9; 20 R497; reset 0). -/
  pulses : Nat := 0
  /-- FLT_LINE_DEAD with LINE 4 has been raised and not cleared (1 bit; 20 R497; reset false). -/
  sdaDead : Bool := false
  /-- up-ms of the last bus clear (20 R497; reset 0). -/
  clearMs : Nat := 0
deriving DecidableEq, Repr

/-- An event stamp (20 R498). -/
structure EvStamp where
  etk : Nat
  efr : Nat
  ein : Nat
  eedge : Nat
  emrg : Nat
deriving DecidableEq, Repr

/-- Event input parameters (20 R498). -/
structure EvParams where
  edge : Nat := 0
  minw : Nat := 0
  rmax : Nat := 1000
  owner : Nat := 0xFF
deriving DecidableEq, Repr

/-- One event input (20). -/
structure EvinState where
  /-- parameters in force (20 R498). -/
  par : EvParams := {}
  /-- FIFO of stamps, oldest first (256; 20 R499; reset empty). -/
  fifo : List EvStamp := []
  /-- edges merged since the previous stamp (u16, saturating; 20 R498 EMRG; reset 0). -/
  emrg : Nat := 0
  /-- EV_MERGE (saturating; 20 R499; reset 0). -/
  merge : Nat := 0
  /-- ENSTAMP, stamps since the last reset (u32, saturating; 12 R322; reset 0). -/
  nstamp : Nat := 0
  /-- the last stamped edge in 1/256 tick (20 R499; reset none). -/
  lastStamp : Option Nat := none
  /-- the second of device time counted, its stamps and merged edges (20 R499; reset 0). -/
  sec : Nat := 0
  secStamps : Nat := 0
  secMerged : Nat := 0
  /-- FLT_EV_STORM has been raised in the counted second (1 bit; 20 R499; reset false). -/
  storm : Bool := false
  /-- level (1 bit; 20 R499; reset 0, DESIGN CHOICE log 2). -/
  level : Bool := false
  /-- up-tick of the last edge (20 R499; reset 0). -/
  lastEdge : Nat := 0
deriving DecidableEq, Repr

/-- Ethernet port parameters (21 R518). -/
structure EthParams where
  pauseRx : Nat := 0
  ptpRate : Nat := 1024
  instPct : Nat := 10
  dscpT : Nat := 46
deriving DecidableEq, Repr

/-- A frame as the egress scheduler sends it: a stream packet with its VLAN tag, DSCP, transport, destination address and port, and its bytes
(21 R507, R518), or a command packet. -/
inductive WireFrame where
  | stream (vlan : Option Nat) (dscp : Nat) (trans : Nat) (daddr : List Byte) (dport : Nat) (bytes : List Byte)
  | reply (bytes : List Byte)
deriving DecidableEq, Repr

/-- One Ethernet port (21). -/
structure EthState where
  /-- mode code (2 bits; 21 R501; reset by the charter, 0 before one: DESIGN CHOICE log 2). -/
  mode : Nat := 0
  /-- link up (1 bit; 21 R516; reset 0). -/
  link : Bool := false
  /-- RXDROP (u32; 21 R502; reset 0). -/
  rxdrop : Nat := 0
  /-- frames dropped for length or FCS (21 R502; reset 0). -/
  badFrames : Nat := 0
  /-- parameters in force (21 R518). -/
  par : EthParams := {}
  /-- PTP frames delivered in the current second: the second and the count (21 R505; reset 0). -/
  ptpSec : Nat := 0
  ptpCount : Nat := 0
  /-- up-tick until which PAUSE holds the port (21 R515; reset 0). -/
  pauseUntil : Nat := 0
  /-- deficit round robin: the tenant being served, 8 for the installer (21 R512; reset 0, DESIGN CHOICE log 2). -/
  drr : Nat := 0
  /-- the deficits of the eight tenants and the installer in bytes (21 R512; reset 0). -/
  deficit : Vector Nat 9 := Vector.replicate 9 0
  /-- up-tick until which a frame occupies the wire (21 R512; reset 0). -/
  wireUntil : Nat := 0
  /-- the last frame put on the wire (21 R507, R512; reset none). -/
  sent : Option WireFrame := none
deriving DecidableEq, Repr

/-- A queued stream packet (21 R507): flags, device ms of its boundary, data bytes, up-tick of its class deadline. -/
structure StPacket where
  spf : Nat
  stm : Nat
  data : List Byte
  due : Nat
deriving DecidableEq, Repr

/-- An open stream (21). -/
structure StreamState where
  /-- STID (u16; 21 R507). -/
  stid : Nat
  /-- SKIND (21 R506). -/
  kind : Nat
  /-- SPORT (21 R518). -/
  port : Nat
  /-- STEN, owner, 0xFF installer (21 R507). -/
  ten : Nat
  /-- draining after STREAM_CLOSE (21 SSTATE 2). -/
  draining : Bool := false
  /-- SCLASS, 0xFF bulk (21). -/
  cls : Nat
  /-- PSEQ (u32; 21 R507; reset 0). -/
  pseq : Nat := 0
  /-- SGAP, packets dropped immediately before the next (u16; 21 R507; reset 0). -/
  sgap : Nat := 0
  /-- NDROP (u32, saturating; 21; reset 0). -/
  ndrop : Nat := 0
  /-- NBYTES (u64; 21; reset 0). -/
  nbytes : Nat := 0
  /-- first-packet latencies of the last 1 000 epochs: device ms and ns, newest first (21 R514; reset empty). -/
  lats : List (Nat × Nat) := []
  /-- W(s) (u32; 21 R510). -/
  wep : Nat
  /-- request fields: STRANS, SFLAGS, DPORT, VLAN, DADDR, SARG (21 R518). -/
  strans : Nat
  sflags : Nat
  dport : Nat
  vlan : Nat
  daddr : List Byte
  sarg : Nat
  /-- session record version (21 R506). -/
  recVer : Nat := 0
  /-- queued packets, oldest first (21 R512; reset empty). -/
  q : List StPacket := []
  /-- export: region and next byte offset (21 R506 SNAP; reset none). -/
  snap : Option (Nat × Nat) := none
  /-- PTP items of the present epoch, oldest first, at most one packet (21 R506; reset empty). -/
  ptp : List (List Byte) := []
deriving DecidableEq, Repr

/-- Local ports, Ethernet and streams. -/
structure PortsState where
  /-- UARTs U0..U3 (20). -/
  uart : Vector UartState 4 := Vector.ofFn (fun i => if i.val = 0 then { par := { umode := 1, ufunc := 0 } } else {})
  /-- SPI host port (20 R492). -/
  spi : SpiState := {}
  /-- U0 packets whose frame was good and that the Overman has not yet taken, oldest first (20 R491; reset empty). -/
  u0in : List (List Byte) := []
  /-- wake port (20 R495). -/
  wakePort : WakePortState := {}
  /-- event inputs EV0..EV7 (20 R498). -/
  ev : Vector EvinState 8 := Vector.replicate 8 {}
  /-- Ethernet ports ETH0, ETH1 (21). -/
  eth : Vector EthState 2 := Vector.replicate 2 {}
  /-- open streams, in ascending STID (at most 64; 21 R509; reset none). -/
  streams : List StreamState := []
  /-- STID of the next stream (u16; 21; no reset given: 0, DESIGN CHOICE log 2). -/
  nextStid : Nat := 0
  /-- token buckets in 1/65 472 byte, signed, per tenant and port (8 × 2; 21 R511; reset 0, DESIGN CHOICE log 2). -/
  bucket : Vector (Vector Int 2) 8 := Vector.replicate 8 (Vector.replicate 2 0)
  /-- up-tick at which the buckets were last filled (21 R511; reset 0). -/
  bucketUp : Nat := 0
deriving DecidableEq, Repr

end Sys2Proof.Machine
end

