-- ==== Sys2Proof/Machine/StPower.lean ====
section
/-! DEFINITION. The state of clocks and seams (spec/17_clocks_and_seams.md), reset and power (spec/18_reset_and_power.md), the
backup domain (spec/19_backup_domain.md) and the canaries, thermal control, wear and sparing (spec/22_canaries_and_sparing.md).
Plain data; the defaults are the reset values. -/

namespace Sys2Proof.Machine

/-- `ISTATE` (17 island status block). -/
inductive IState where
  | running | stalled | unlocked | gated | off
deriving DecidableEq, Repr

def IState.code : IState → Nat
  | .running => 0 | .stalled => 1 | .unlocked => 2 | .gated => 3 | .off => 4

/-- One island's status (17 R429). The islands stand in the order of `ISID`: stopes 0–35, deputies 36–53, Overman 54, haulage 55,
time base 56, MACs 57–58, backup domain 59, adits 60–155. -/
structure IslandState where
  /-- ISTATE (u8; 17 R429; reset 0 = RUNNING). -/
  istate : IState := .running
  /-- ICLK_MEAS, kHz (u32; 17 R429; reset 0). -/
  meas : Nat := 0
  /-- ICLK_MIN, kHz (u32; 17 R429; reset 0). -/
  minMeas : Nat := 0
  /-- ICLK_MEAS of the last 1 000 epochs, newest first (17 R429; reset empty). -/
  hist : List Nat := []
  /-- block counts of the epoch in progress, newest first (up to 16; 17 R429; reset empty). -/
  counts : List Nat := []
  /-- ICLK_CAP, MHz (u16; 17 R426, R429; reset 880, 800 for locked islands in `ClockState`). -/
  cap : Nat := 880
  /-- f_rep of a stope's replica, MHz (17 R426; reset 880, DESIGN CHOICE log 2). -/
  frep : Nat := 880
  /-- the frequency that a stope's generator has followed the replica to, MHz, and the tick count since the reset of that moment (17 R426; reset 880
  and 0, DESIGN CHOICE log 2). -/
  gen : Nat := 880
  genAt : Nat := 0
  /-- SEAM_RETRY (u32, saturating; 17 R429; reset 0). -/
  retry : Nat := 0
  /-- SEAM_FORCED (u16, saturating; 17 R429; reset 0). -/
  forced : Nat := 0
  /-- SEAM_BROKEN (u16, saturating; 17 R429; reset 0). -/
  broken : Nat := 0
deriving DecidableEq, Repr

/-- A seam marked broken: source and destination island, transfers dropped (17 R437). -/
structure BrokenSeam where
  src : Nat
  dst : Nat
  dropped : Nat
deriving DecidableEq, Repr

/-- The rate limit of `FLT_SEAM` of one island pair and cause (17 R440): last report's ms, occurrences since. -/
structure SeamTold where
  src : Nat
  dst : Nat
  cause : Nat
  lastMs : Nat
  count : Nat
deriving DecidableEq, Repr

/-- An epoch step (17 R432): k and the boundary (ms) at which it commits, 0 while no boundary is free for it. -/
structure EpochStep where
  k : Int
  at_ : Nat
deriving DecidableEq, Repr

/-- Clocks, the time base and seams (17). -/
structure ClockState where
  /-- whole ticks of device time; TCNT is its value modulo 2^48 (48 bits; 17 R430, R431; reset 0). -/
  tick : Nat := 0
  /-- ticks since the last POWER-ON RESET or SYSTEM RESET, for the timers (the model's own count; reset 0). -/
  up : Nat := 0
  /-- BND, the tick of the epoch boundary last marked (48 bits; 16 R417, 17 R432; reset 0). -/
  bnd : Nat := 0
  /-- SYN-A has locked since the last POWER-ON RESET or SYSTEM RESET: TCNT counts (23 R546; reset false, no REFIN seen yet: DESIGN CHOICE log 61). -/
  runs : Bool := false
  /-- TCNT has been loaded from a time source (17 R431; reset false). -/
  loaded : Bool := false
  /-- a lane has left DARK since the reset: TCNT is loaded no more (17 R431; reset false). -/
  lanesLeft : Bool := false
  /-- epoch step staged (17 R432; reset none). -/
  step : Option EpochStep := none
  /-- the first solution after the reset has been taken (17 R432; reset false). -/
  stepDone : Bool := false
  /-- island status (156 blocks; 17 R429; reset running; caps 880, 800 for locked islands). -/
  isl : Vector IslandState 156 :=
    Vector.ofFn (fun i => if 36 ≤ i.val ∧ i.val < 56 then { cap := 800, frep := 800 } else {})
  /-- seams marked broken (17 R437; reset none). -/
  brokenSeams : List BrokenSeam := []
  /-- rate limits of FLT_SEAM (17 R440; reset empty). -/
  seamTold : List SeamTold := []
  /-- block marks sent in the epoch in progress (0..16; 17 R433; reset 0). -/
  marks : Nat := 0
deriving DecidableEq, Repr

/-- The power states (18). -/
inductive PowState where
  | run | idle | retain | lamp | backup
deriving DecidableEq, Repr

def PowState.code : PowState → Nat
  | .run => 0 | .idle => 1 | .retain => 2 | .lamp => 3 | .backup => 4

/-- The LAMP block of `DEV_POWER` (18 LAMP parameters); all 0 before the first entry (log 2). -/
structure LampParams where
  emask : Nat := 0
  per : Nat := 0
  band : Nat := 0
  width : Nat := 0
  nblk : Nat := 0
  nsat : Nat := 0
  nmin : Nat := 0
  tthr : Nat := 0
  hor : Nat := 0
deriving DecidableEq, Repr

/-- A prediction of the LAMP table (18 R459): cycle, signal, capture tick, code phase in 1/256 chip, Doppler in mHz. -/
structure LampPred where
  cycle : Nat
  sigid : Nat
  tick : Nat
  code : Nat
  dopp : Int
deriving DecidableEq, Repr

/-- A LAMP cycle record (18 R461). -/
structure LampRec where
  ltick : Nat := 0
  lerr : Int := 0
  lndet : Nat := 0
  lres : Nat := 0
deriving DecidableEq, Repr

/-- The crash record of the preserved area (18 R448). -/
structure CrashRec where
  pc : Nat
  st : Nat
  excCause : Nat
  excAddr : Nat
deriving DecidableEq, Repr

/-- An entry to RETAIN, LAMP or BACKUP in progress (18 entry table): entry boundary E in up-ticks, the step reached, the wakes
that came during it. -/
structure PowEntry where
  target : PowState
  e : Nat := 0
  phase : Nat := 0
  /-- up-tick at which the edge window opened (18 R457). -/
  window : Option Nat := none
  /-- a command-class or timer wake waiting for the entry's end: code and index (18 R456). -/
  wake : Option (Nat × Nat) := none
deriving DecidableEq, Repr

/-- Reset and power (18). -/
structure PowerState where
  /-- RST_CAUSE (16 bits, bits 13..15 reserved; 18 R442, R446; reset 1 = POR after a POWER-ON RESET). -/
  rstCause : Nat := 1
  /-- RESET_N is held low (1 bit; 18 R450; reset high). -/
  resetHeld : Bool := false
  /-- a thermal trip holds the SYSTEM RESET (1 bit; 18 R444; reset false). -/
  thermHold : Bool := false
  /-- TEST_EN is high, which holds the SYSTEM RESET (1 bit; 23 R558; reset low, the level at which R558 has it connected). -/
  testEn : Bool := false
  /-- ticks since the hard reset at which the Overman last left a reset (12 R324 UPTIME; reset 0). -/
  leftReset : Nat := 0
  /-- ticks since the hard reset from which the watchdog last began to count, kicks apart (18 R443; reset 0). -/
  wdFrom : Nat := 0
  /-- delayed reset: level and the tick count since the last reset at which it is due (18 R445; reset none). -/
  delayed : Option (Nat × Nat) := none
  /-- power state (18; reset RUN: the state a boot ends in). -/
  pst : PowState := .run
  /-- power state accepted for the next boundary (18 R454; reset none). -/
  pending : Option PowState := none
  /-- entry in progress (18 entry table; reset none). -/
  entry : Option PowEntry := none
  /-- exit in progress since this up-tick (18 exit table; reset none). -/
  exit_ : Option Nat := none
  /-- WAKEMASK of the last DEV_POWER (u16; 18 R454; reset 0, DESIGN CHOICE log 2). -/
  wakemask : Nat := 0
  /-- EVLEV (u8; 18 R454; reset 0, log 2). -/
  evlev : Nat := 0
  /-- BEVLEV (2 bits; 18 R454; reset 0, log 2). -/
  bevlev : Nat := 0
  /-- KEEP_PORTS (u32; 18 R454; reset 0, log 2). -/
  keepPorts : Nat := 0
  /-- LAMP block (32 bytes; 18 R454; reset 0, log 2). -/
  lamp : LampParams := {}
  /-- LAMP prediction table (18 R459; reset empty). -/
  preds : List LampPred := []
  /-- LAMP entry's E in device ms and the next cycle's number (18 R459; reset 0, 1). -/
  lampE : Nat := 0
  lampK : Nat := 1
  /-- a LAMP cycle is in progress (18 R460; reset false). -/
  lampBusy : Bool := false
  /-- tick at which the LAMP set sleeps again after a cycle's search (18 R460; reset none). -/
  lampSleepAt : Option Nat := none
  /-- last 64 LAMP cycle records, oldest first (18 R461; reset empty). -/
  lampRecs : List LampRec := []
  /-- BRST_UNIT (12 bits; 18 R451; reset 0). -/
  brstUnit : Nat := 0
  /-- BRST_STAT (2 bits; 18 R451; reset 0). -/
  brstStat : Nat := 0
  /-- the block reset running: unit (18 R451; reset none). -/
  brstRun : Option Nat := none
  /-- crash record of the preserved area (18 R448; reset none). -/
  crash : Option CrashRec := none
  /-- preserved-area word memory of the Overman kept over a CORE RESET is the core's own memory (15, 18 R448); LAMP state set powered
  PD_FAB is retained (1 bit; 18 R452; reset false). -/
  retained : Bool := false
  /-- pins are high-Z until the Overman configures them (1 bit; 18 R449; reset true). -/
  pinsHighZ : Bool := true
deriving DecidableEq, Repr

/-- A BEV FIFO entry (19 R475). -/
structure BevEntry where
  ts : Nat
  rising : Bool
  hstamp : Bool
deriving DecidableEq, Repr

/-- A backup event input (19 R475). -/
structure BevState where
  /-- FIFO of up to 4 entries, oldest first (19 R475; reset empty). -/
  fifo : List BevEntry := []
  /-- timestamp [47:24] latched by the last pop (24 bits; 19; reset 0). -/
  tsHi : Nat := 0
  /-- merged events (12 bits, saturating; 19; reset 0). -/
  merge : Nat := 0
  /-- level (1 bit; 19 BK_STAT; reset 0). -/
  level : Bool := false
deriving DecidableEq, Repr

/-- The trim curve: eight points of temperature (0.25 °C) and correction (19 R472). -/
def resetCurve : List (Int × Int) :=
  [(-160, 4935776), (-80, 2365668), (0, 730144), (60, 116823), (100, 0), (180, 467292), (260, 1869170), (340, 4205632)]

/-- A window of the trim's learning (19 R473): its start, the counter's error there, the phase adjustments applied in it and the sensor's samples. -/
structure LearnWin where
  /-- ms of its start. -/
  from_ : Nat
  /-- device time less count at the start, in 2^-20 tick. -/
  err : Int
  /-- `BK_PADJ` applied since, in 2^-20 tick. -/
  adj : Int := 0
  /-- sensor samples in it, in 0.25 °C. -/
  temps : List Int := []
deriving DecidableEq, Repr

/-- The backup domain (19). -/
structure BackupState where
  /-- count (48 bits; 19 R465; reset 0). -/
  count : Nat := 0
  /-- fraction in 2^-20 tick (20 bits; 19 R465; reset 0). -/
  frac : Nat := 0
  /-- pending payout in ticks (signed; 19 R465, R471; reset 0). -/
  payout : Int := 0
  /-- crystal ticks since the last trim step, 0..32767 (19 R471; reset 0). -/
  trimTicks : Nat := 0
  /-- BK_CNT_HI (24 bits; 19; reset 0). -/
  cntHi : Nat := 0
  /-- BK_FRAC (20 bits; 19; reset 0). -/
  fracL : Nat := 0
  /-- TICK_HALT bit of BK_CTL (19; reset 0). -/
  tickHalt : Bool := false
  /-- TRIM_EN bit of BK_CTL (19; reset 0). -/
  trimEn : Bool := false
  /-- TVALID bit of BK_CTL (19; reset 0). -/
  tvalid : Bool := false
  /-- HALTED (1 bit; 19 R468; reset 0). -/
  halted : Bool := false
  /-- TICK_ERR (1 bit, W1C; 19 R468; reset 0). -/
  tickErr : Bool := false
  /-- ON_VBAT (1 bit; 19; reset 0). -/
  onVbat : Bool := false
  /-- PW_FLAG (1 bit, W1C; 19 R474; reset 0). -/
  pwFlag : Bool := false
  /-- BK_NEW_LO/HI (48 bits; 19; reset 0). -/
  bkNew : Nat := 0
  /-- BK_HCNT (16 bits; 19 R468; reset 0). -/
  hcnt : Nat := 0
  /-- BK_LOCAL (signed 48 bits; 19; reset 0). -/
  local_ : Int := 0
  /-- BK_TRIM, r in force (signed; 19; reset 0). -/
  trim : Int := 0
  /-- BK_PADJ (signed 24 bits; 19; reset 0). -/
  padj : Int := 0
  /-- BK_TEMP (12 bits, signed, 0.25 °C; 19; reset 0). -/
  temp : Int := 0
  /-- PW_CFG: PW_EN and e (19; reset 0). -/
  pwEn : Bool := false
  pwE : Nat := 0
  /-- the multiple of the period that the count has last reached (19 R474; the model's own; reset 0). -/
  pwLast : Nat := 0
  /-- BEV_CFG (4 bits; 19; reset 0). -/
  bevCfg : Nat := 0
  /-- BEV_STAT [6] edge and [7] HSTAMP of the last entry popped (19; reset 0). -/
  lastRise : Bool := false
  lastHst : Bool := false
  /-- backup event inputs BEV0, BEV1 (19 R475). -/
  bev : Vector BevState 2 := Vector.replicate 2 {}
  /-- CHG_CFG (5 bits; 19 R477; reset 0). -/
  chg : Nat := 0
  /-- VBAT_MV (12 bits; 19; reset 0). -/
  vbat : Nat := 0
  /-- ms of the last VBAT_LOW report (19 R477; reset none). -/
  vbatTold : Option Nat := none
  /-- BK_CAPT: TCNT at the last backup tick edge (48 bits; 19; reset 0). -/
  capt : Nat := 0
  /-- BK_CAPT_HI latched (24 bits; 19; reset 0). -/
  captHi : Nat := 0
  /-- WK_LOST (u16, saturating; 18 R457; reset 0). -/
  wkLost : Nat := 0
  /-- LASTWAKE (u8; 18 R458; reset 0). -/
  lastWake : Nat := 0
  /-- WKP_ADDR (7 bits; 19; reset by the strap at POWER-ON RESET; 0 before it: DESIGN CHOICE log 2). -/
  wkpAddr : Nat := 0
  /-- WEN, wake port enabled (1 bit; 20 R496; reset 1). -/
  wen : Bool := true
  /-- backup RAM (4 096 bytes; 19 R476; contents undefined at backup power-on: log 1). -/
  bram : Mem := []
  /-- trim curve in force (8 points; 19 R472; reset the reset curve). -/
  curve : List (Int × Int) := resetCurve
  /-- TRIM_OFF (i32; 19 R472; no reset given: 0, DESIGN CHOICE log 2). -/
  trimOff : Int := 0
  /-- copy of curve and offset in STORE (19 R472; reset none). -/
  curveStore : Option (List (Int × Int) × Int) := none
  /-- updates of each curve point (8; 19 R473; reset 0). -/
  updates : List Nat := List.replicate 8 0
  /-- the 32 latest residuals, newest first, in 2^-20 tick/s (19 R473; reset empty). -/
  residuals : List Int := []
  /-- temperatures visited by learning (0.25 °C; 19 R473; reset empty). -/
  visited : List Int := []
  /-- TRIM_UNC in 0.01 ppm (u16; 19 R473; reset 2000 = 20 ppm). -/
  trimUnc : Nat := 2000
  /-- A_TICK (u64; 19 R476; reset 0: log 2). -/
  aTick : Nat := 0
  /-- A_UNC in ns (u32; 19 R476; reset 0: log 2). -/
  aUnc : Nat := 0
  /-- LEAP and its announcement (2 × i8; 19 R476; reset 0: log 2). -/
  leap : Int := 0
  leapAnn : Int := 0
  /-- the Overman aligns the counter: a residual waits in BK_PADJ (1 bit; 19 R467, R469; reset false). -/
  aligning : Bool := false
  /-- ms of the last alignment (19 R467; reset 0). -/
  alignMs : Nat := 0
  /-- crystal ticks since the sensor's last sample (19 R471; reset 0). -/
  tempTicks : Nat := 0
  /-- window of the trim's learning that runs (19 R473; reset none). -/
  learn : Option LearnWin := none
  /-- ms of VBAT's last measurement (19, `VBAT_MV`; reset none). -/
  vbatAt : Option Nat := none
  /-- PWR_REQ (1 bit; 18 entry and exit tables; reset 1: power is on). -/
  pwrReq : Bool := true
  /-- the backup domain has been powered on since the last boot (1 bit; 18 R446; reset false). -/
  lost : Bool := false
deriving DecidableEq, Repr

/-- A wear entry (22 R521), and the working figures of its monitors. -/
structure WearEntry where
  /-- WFLAGS bits PROPOSED, EOL_WARN, EOL_CRIT, deep test due, UNMON (u8; 22 R521; reset 0). -/
  proposed : Bool := false
  eolWarn : Bool := false
  eolCrit : Bool := false
  testDue : Bool := false
  unmon : Bool := false
  /-- WIDX (u16; 22 R520; reset 0). -/
  widx : Nat := 0
  /-- EOL_M, EOL_LO, EOL_HI (3 × u16; 22 R521; reset 0xFFFF). -/
  eolM : Nat := 0xFFFF
  eolLo : Nat := 0xFFFF
  eolHi : Nat := 0xFFFF
  /-- MARGIN (i16; 22 R521; reset 0). -/
  margin : Int := 0
  /-- AGE_H (u32; 22 R521; reset 0). -/
  ageH : Nat := 0
  /-- TEST_RES (u8; 22 R521; reset 0). -/
  testRes : Nat := 0
  /-- SROWS (u16; 22 R521; reset 0xFFFF; memories hold at least 4, R523). -/
  srows : Nat := 0xFFFF
  /-- TEST_TM (u64, ms; 22 R521; reset 0). -/
  testTm : Nat := 0
  /-- the unit's margin history, newest first: stress time in 2^-40 h and margin (22 R521; reset empty). -/
  history : List (Nat × Int) := []
  /-- stress-equivalent time in 2^-40 h (22 R521; reset 0). -/
  stress : Nat := 0
  /-- a port path's first measurement in ps (22 R519; reset none). -/
  first : Option Int := none
  /-- up-ms of its own monitor's last reading (22 R519; reset none). -/
  measAt : Option Nat := none
  /-- consecutive readings outside the physical range (22 R522; reset 0). -/
  badReads : Nat := 0
deriving DecidableEq, Repr

/-- A proposal (22 R525). -/
structure Proposal where
  spId : Nat
  sact : Nat
  sclass : Nat
  sindex : Nat
  sres : Nat
  scause : Nat
  sstate : Nat
  tm : Nat
deriving DecidableEq, Repr

/-- A thermal sensor (22 R526). -/
structure Sensor where
  /-- in service (1 bit; 22 R526; reset true). -/
  inService : Bool := true
  /-- reading, 0.25 °C (22 R526; reset 0, DESIGN CHOICE log 2). -/
  reading : Int := 0
  /-- ms for which it has differed from both neighbours (22 R526; reset 0). -/
  disagree : Nat := 0
  /-- ms for which it has repeated one reading (22 R526; reset 0). -/
  repeated : Nat := 0
  /-- highest reading of each hour, the present one first (721 at most; 22 R521; reset empty). -/
  hours : List Int := []
deriving DecidableEq, Repr

/-- Thermal parameters (22 R530). The reset values are those of the grade, taken from Config at reset. -/
structure ThermParams where
  warn : Int := 90
  thr1 : Int := 94
  thr2 : Int := 97
  thr3 : Int := 99
  trip : Int := 105
  cap1 : Nat := 760
  cap2 : Nat := 720
  cap3 : Nat := 660
  back : Nat := 60
deriving DecidableEq, Repr

/-- The thermal parameters' reset values of the grade (22 thermal parameters). -/
def thermReset : ThermParams :=
  if Config.extended then { warn := 100, thr1 := 104, thr2 := 107, thr3 := 109, trip := 115 } else {}

/-- Canary parameters (22 R534). -/
structure CanaryParams where
  eolWarn : Nat := 24
  eolCrit : Nat := 6
  dtPeriod : Nat := 720
  eyeMin : Nat := 16
  rowTrig : Nat := 3
deriving DecidableEq, Repr

/-- A threshold's crossing (22 R527): ms above, ms below by 3 °C, crossed. -/
structure Crossing where
  above : Nat := 0
  below : Nat := 0
  crossed : Bool := false
deriving DecidableEq, Repr

/-- Canaries, thermal control, wear and sparing (22). -/
structure HealthState where
  /-- wear entries in the table's order (314; 22 R519); a memory has 4 spare rows, the least of R523 (DESIGN CHOICE log 2). -/
  wear : Vector WearEntry 314 := Vector.ofFn (fun i => if 187 ≤ i.val then { srows := 4 } else {})
  /-- spared rows: wear entry, row (remap list; 22 R523; reset empty). -/
  remap : List (Nat × Nat) := []
  /-- proposals, oldest first (22 R525; reset empty). -/
  props : List Proposal := []
  /-- up-ms of the rings' last reading (22 R519; reset none). -/
  ringAt : Option Nat := none
  /-- correctable errors within 24 h: wear entry and row, up-ms (22 R523; reset empty). -/
  rowErrs : List ((Nat × Nat) × Nat) := []
  /-- up-tick of the sensors' last sample (22 R526; reset none). -/
  senAt : Option Nat := none
  /-- powered minutes since the last full hour (22 R521 AGE_H; reset 0). -/
  minutes : Nat := 0
  /-- number of the next proposal (u32; 22 R525; no reset given: 1, DESIGN CHOICE log 2). -/
  nextProp : Nat := 1
  /-- sensors TS0..TS39 (22 R526). -/
  sens : Vector Sensor 40 := Vector.replicate 40 {}
  /-- Tj, 0.25 °C (22 R526; reset 0, DESIGN CHOICE log 2). -/
  tj : Int := 0
  /-- throttle state (0..3; 22 R527; reset 0). -/
  throttle : Nat := 0
  /-- crossings of T_WARN, T_THR1, T_THR2, T_THR3, T_TRIP (22 R527; reset none crossed). -/
  cross : Vector Crossing 5 := Vector.replicate 5 {}
  /-- up-tick of the last throttle change (22 R527; reset none). -/
  lastChange : Option Nat := none
  /-- cap in force, MHz (u16; 22 R528; reset 880). -/
  cap : Nat := 880
  /-- the derate request: 0 none, 1 accepted, 2 impossible, 3 waiting for an activity (22 R528, R531; reset 0). -/
  derate : Nat := 0
  /-- a thermal swap has been made and since when the return condition holds, in ms (22 R529; reset none). -/
  swapped : Bool := false
  backSince : Option Nat := none
  /-- parameters in force and staged (22 R530, R534). -/
  therm : ThermParams := thermReset
  thermStaged : Option ThermParams := none
  canary : CanaryParams := {}
  canaryStaged : Option CanaryParams := none
deriving DecidableEq, Repr

end Sys2Proof.Machine
end

