-- ==== Sys2Proof/Machine/StSamples.lean ====
section
/-! DEFINITION. The state of the sample path: element lanes, adits, haulage and the lode
(spec/02_element_lanes.md, spec/03_adits_and_lode.md). Plain data; the defaults are the reset values. -/

namespace Sys2Proof.Machine

/-- Lane states (02 "Lane states"), with the table's codes. -/
inductive LState where
  | off | dark | offer | select | switch | range | sync | live | standby
deriving DecidableEq, Repr

/-- The state code reported in `LSTATE` (02, lane states table). -/
def LState.code : LState → Nat
  | .off => 0 | .dark => 1 | .offer => 2 | .select => 3 | .switch => 4
  | .range => 5 | .sync => 6 | .live => 7 | .standby => 8

/-- Loss causes of `CAUSE` (02 R50). -/
inductive LCause where
  | none | alignment | framesMissing | crcRate | range | timeout | slip
deriving DecidableEq, Repr

/-- The cause code reported in `CAUSE` (02 R50). -/
def LCause.code : LCause → Nat
  | .none => 0 | .alignment => 1 | .framesMissing => 2 | .crcRate => 3 | .range => 4
  | .timeout => 5 | .slip => 6

/-- The capability record of a front-end (02 R36). -/
structure CapRecord where
  lverMin : Nat := 0
  lverMax : Nat := 0
  rates : Nat := 0
  widths : Nat := 0
  bands : Nat := 0
  flags : Nat := 0
  gainSteps : Nat := 0
  gainStep : Nat := 0
  syncDelay : Nat := 0
  warm : Nat := 0
  vendor : Nat := 0
  model : Nat := 0
  fw : Nat := 0
  serial : Nat := 0
  selEcho : Nat := 0
deriving DecidableEq, Repr

/-- The uplink header fields as the adit holds them for the host (02 R32), all reset 0. -/
structure UpHeader where
  sidx : Nat := 0
  fseq : Nat := 0
  bandmask : Nat := 0
  wcode : Nat := 0
  ftype : Nat := 0
  alert : Bool := false
  echoTag : Nat := 0
  echoTurn : Nat := 0
  feStatus : Nat := 0
  ctrlAck : Nat := 0
deriving DecidableEq, Repr

/-- A downlink word (02 R37): its type and its 48-bit argument; `CRC8` is computed when it is sent. -/
structure DWord where
  dtype : Nat
  arg : Nat
deriving DecidableEq, Repr

/-- A word on the downlink of a lane (02 R28, R37, R39): the tick at or before its reference point, its 8 bytes, and what goes on the line:
10-bit codes (8b/10b, bit a the most significant) or 66-bit blocks (64b/66b, the first bit sent the least significant). -/
structure SentWord where
  lane : Nat
  word : DWord
  start : Nat
  bytes : List Byte
  line : List Nat
deriving DecidableEq, Repr

/-- A control word waiting for its acknowledgement (02 R38). -/
structure CtrlWait where
  word : DWord
  dseq : Nat
  sends : Nat
  sentAt : Nat
deriving DecidableEq, Repr

/-- One element lane (02). The status block of R50, the header fields of R32, and what the text implies: timers, echoes, queues. -/
structure LaneState where
  /-- LSTATE (u8; 02 R50; reset 0 = OFF). -/
  state : LState := .off
  /-- LVER (u8; 02 R50; reset 0). -/
  lver : Nat := 0
  /-- RATE (u8; 02 R50; reset 0). -/
  rate : Nat := 0
  /-- WIDTH (u8; 02 R50; reset 0). -/
  width : Nat := 0
  /-- BANDS (u8; 02 R50; reset 0). -/
  bands : Nat := 0
  /-- CAUSE (u8; 02 R50; reset 0). -/
  cause : LCause := .none
  /-- RTT, lane round trip in ps (u32; 02 R50; reset 0). -/
  rtt : Nat := 0
  /-- DDOWN, downlink delay in ps (u32; 02 R50; reset 0). -/
  ddown : Nat := 0
  /-- CRC_ERR (u32; 02 R50; reset 0). -/
  crcErr : Nat := 0
  /-- SLIPS (u16; 02 R50; reset 0). -/
  slips : Nat := 0
  /-- LOSSES (u16; 02 R50; reset 0). -/
  losses : Nat := 0
  /-- CTRL_FAIL (u16; 02 R50; reset 0). -/
  ctrlFail : Nat := 0
  /-- EYE, in 1/64 UI (u8; 02 R50; reset 0). -/
  eye : Nat := 0
  /-- header fields as held for the host (128 bits; 02 R32; reset 0). -/
  hdr : UpHeader := {}
  /-- GAIN_U/M/L of the last trailer (3 × u8; 02 R33; reset 0). -/
  gain : PerBand Nat := ⟨0, 0, 0⟩
  /-- capability record of the front-end, none before a CAP frame (32 bytes; 02 R36; reset none). -/
  cap : Option CapRecord := none
  /-- the rate and width combination being tried by the bring-up (2 × u8; 02 R44, R46; reset 0). -/
  tryRate : Nat := 0
  tryWidth : Nat := 0
  /-- sends of the word of a state that is tried four times (u8; 02 lane states table; reset 0). -/
  tries : Nat := 0
  /-- the moment the present lane state was entered (ticks; 02 lane states table; reset 0). -/
  since : Nat := 0
  /-- DSEQ of the next control word (u8; 02 R37; reset 0). -/
  dseq : Nat := 0
  /-- control word awaiting acknowledgement (02 R38; reset none). -/
  ctrl : Option CtrlWait := none
  /-- downlink words queued in order (02 R39; reset empty). -/
  dqueue : List DWord := []
  /-- tag of the next MARK (u16, 1..65535; 02 R40; reset 1). -/
  markTag : Nat := 1
  /-- the 250 µs slot of the last MARK sent (02 R40; reset none). -/
  markSlot : Option Nat := none
  /-- tick from which the downlink is free (02 R39; reset 0). -/
  txFree : Nat := 0
  /-- running disparity of the downlink's 8b/10b code is positive (1 bit; 02 R28; reset negative). -/
  txRd : Bool := false
  /-- the last 58 scrambled payload bits of the downlink's 64b/66b code, and the blocks sent since the rate switch (02 R28; reset 0). -/
  txScr : Nat := 0
  txBlocks : Nat := 0
  /-- tick at which the downlink changed to the rate in use (02 R44; reset 0). -/
  rateAt : Nat := 0
  /-- tick of the last OFFER of this bring-up (02 R44; reset none). -/
  offerAt : Option Nat := none
  /-- arrivals of the latest frames of the lane, newest first, at most 4, in 1/16 UI (02 R40; reset empty). -/
  arrivals : List Nat := []
  /-- a slip whose report waits for the end of its frame period: its tick, SLIPS before it (02 R50; reset none). -/
  slipAt : Option (Nat × Nat) := none
  /-- MARKs sent and not yet echoed: tag and departure in 1/16 UI (02 R40, R41; reset empty). -/
  marks : List (Nat × Nat) := []
  /-- valid echoes since RANGE or STANDBY, newest first, at most 64, in 1/16 UI (02 R41; reset empty). -/
  echoes : List Int := []
  /-- consecutive echoes more than 4 UI off the round trip (u8; 02 R48; reset 0). -/
  rttJumps : Nat := 0
  /-- consecutive sample frames with the expected SIDX in SYNC (u8; 02 lane states table; reset 0). -/
  syncGood : Nat := 0
  /-- the load value L of the SYNC sent, whose frame is awaited (48 bits; 02 R43; reset none). -/
  syncL : Option Nat := none
  /-- FSEQ and SIDX of the last accepted sample frame (02 R48; reset none). -/
  lastFrame : Option (Nat × Nat) := none
  /-- tick of the last valid frame (02 R48; reset 0). -/
  lastValid : Nat := 0
  /-- frames and CRC failures of the last 10 ms: arrival tick and failure (02 R48; reset empty). -/
  crcWin : List (Nat × Bool) := []
  /-- the lane's FLT_LANE_LOSS of this bring-up attempt has been raised (1 bit; 02 R46; reset 0). -/
  lossTold : Bool := false
  /-- detected loss or slip whose element leaves every beam at the next boundary (1 bit; 02 R49; reset 0). -/
  leaving : Bool := false
  /-- samples are erased until the boundary (1 bit; 02 R49; reset 0). -/
  erasing : Bool := false
  /-- initial fractional offset of the last SYNC, in 1/65 536 tick (02 R43, 03 R59; reset 0). -/
  fracOff : Nat := 0
  /-- what the adit adds to SIDX to name a tick: the epoch steps since the last SYNC (17 R432; reset 0). -/
  sidxMap : Int := 0
  /-- DDOWN at the last SYNC, in ps (03 R59; reset 0). -/
  ddownAtSync : Nat := 0
  /-- the lane returns from STANDBY: 4 echoes end RANGE and one expected frame ends SYNC (1 bit; 02 R52; reset 0). -/
  woken : Bool := false
  /-- disabled by command (1 bit; 02 lane states table, 09 R224; reset 0). -/
  disabled : Bool := false
deriving DecidableEq, Repr

/-- The conditioning block of one adit (03 R63). -/
structure AditBlock where
  /-- IDELAY, ticks −256..255 (i16; 03 R63; reset 0). -/
  idelay : Int := 0
  /-- FDELAY, UQ0.16 ticks (u16; 03 R63; reset 0). -/
  fdelay : Nat := 0
  /-- GMAG_U/M/L, UQ2.14 (3 × u16; 03 R63; reset 0x4000). -/
  gmag : PerBand Nat := ⟨0x4000, 0x4000, 0x4000⟩
  /-- GPH_U/M/L, 1/65536 turn (3 × u16; 03 R63; reset 0). -/
  gph : PerBand Nat := ⟨0, 0, 0⟩
  /-- GREF_U/M/L (3 × u8; 03 R63; reset 0). -/
  gref : PerBand Nat := ⟨0, 0, 0⟩
  /-- BLK_MODE (u8; 03 R63; reset 0x15). -/
  blkMode : Nat := 0x15
  /-- BLK_THR, UQ4.4 × RMS (u8; 03 R63; reset 0x40). -/
  blkThr : Nat := 0x40
  /-- BLK_PRE (u8; 03 R63; reset 2). -/
  blkPre : Nat := 2
  /-- BLK_POST (u8; 03 R63; reset 16). -/
  blkPost : Nat := 16
  /-- BLIMIT, % (u8; 03 R63; reset 25). -/
  blimit : Nat := 25
deriving DecidableEq, Repr

/-- One haulage sample as the adit hands it on: tick, haulage I and Q, blank flag (03 R63, R64). -/
structure HSample where
  tick : Nat
  i : Int
  q : Int
  blank : Bool
deriving DecidableEq, Repr

/-- A second-order notch in an adit (03 R58): the last input and output of each of its two first-order sections, in Q32. -/
structure NotchMem where
  x1 : Int × Int := (0, 0)
  y1 : Int × Int := (0, 0)
  x2 : Int × Int := (0, 0)
  y2 : Int × Int := (0, 0)
deriving DecidableEq, Repr

/-- One adit (03): the block in force, the block staged for the boundary, and its running measures. -/
structure AditState where
  /-- the conditioning block in force (03 R63; resets in its own fields). -/
  blk : AditBlock := {}
  /-- the conditioning block staged for the next boundary (03 R62; reset none). -/
  staged : Option AditBlock := none
  /-- LANE_TERM, τlane in Q16.16 ticks (i32; 03 R59, R63; reset 0). -/
  laneTerm : Int := 0
  /-- block and LANE_TERM in force in the epoch before, whose last haulage block is released after the boundary (03 R62; reset as above). -/
  blkBefore : AditBlock := {}
  termBefore : Int := 0
  /-- ESTATE of the adit's element-bands in the epoch before (03 R64, R66; reset 2 = out of service). -/
  stBefore : PerBand Nat := ⟨2, 2, 2⟩
  /-- NSAT per band (3 × u8, saturating; 03 R63; reset 0). -/
  nsat : PerBand Nat := ⟨0, 0, 0⟩
  /-- saturated values counted in the epoch in progress (03 R63; reset 0). -/
  nsatRun : PerBand Nat := ⟨0, 0, 0⟩
  /-- samples that were not blanked, tick and squared magnitude in Q32, newest first: 81 840 that the RMS is over, and 16 older ones that
  take the place of samples blanked afterwards (03 R56; reset empty). -/
  rms : PerBand (List (Nat × Nat)) := ⟨[], [], []⟩
  /-- normalised samples held for alignment, per band, newest first: tick and value in Q16 (03 R61; reset empty). -/
  buf : PerBand (List (Nat × Int × Int)) := ⟨[], [], []⟩
  /-- what the notch chain has put out, per band, newest first: tick, blank flag and value in Q16 (03 R58; reset empty). -/
  nbuf : PerBand (List (Nat × Bool × Int × Int)) := ⟨[], [], []⟩
  /-- the notches' running values, per band, entries N0 to N3 (03 R58; reset 0). -/
  nmem : PerBand (Vector NotchMem 4) := ⟨Vector.replicate 4 {}, Vector.replicate 4 {}, Vector.replicate 4 {}⟩
  /-- erased tick spans, first and one past last (02 R48; reset empty). -/
  erased : List (Nat × Nat) := []
  /-- blanked tick spans per band (03 R56; reset empty). -/
  blanked : PerBand (List (Nat × Nat)) := ⟨[], [], []⟩
  /-- blanked samples of the last epoch, per band (03 R57; reset 0). -/
  nblankLast : PerBand Nat := ⟨0, 0, 0⟩
  /-- the band was over-blanked in the last epoch (3 bits; 03 R57; reset 0). -/
  overBlank : PerBand Bool := ⟨false, false, false⟩
deriving DecidableEq, Repr

/-- A notch entry (03 R58). The spec gives no reset: DESIGN CHOICE disabled and 0 (log 2). -/
structure Notch where
  centre : Int := 0
  k : Nat := 0
  enable : Bool := false
deriving DecidableEq, Repr

/-- The header of a haulage block (03 R64). -/
structure BlockHeader where
  epoch : Nat
  blk : Nat
  elem : Nat
  band : Nat
  estate : Nat
  late : Bool
  nblank : Nat
deriving DecidableEq, Repr

/-- CSTATE of a capture region (03 R68). -/
inductive CState where
  | idle | armed | filling | held | reading
deriving DecidableEq, Repr

/-- The code reported in `CSTATE`. -/
def CState.code : CState → Nat
  | .idle => 0 | .armed => 1 | .filling => 2 | .held => 3 | .reading => 4

/-- A capture region's descriptor and its progress (03 R68–R71). -/
structure Region where
  /-- CMODE (u8; 03 capture descriptor; reset 0). -/
  cmode : Nat := 0
  /-- CWIDTH (u8; 03; reset 1). -/
  cwidth : Nat := 1
  /-- CTRIG (u8; 03; reset 0). -/
  ctrig : Nat := 0
  /-- BANDS (u8; 03; reset 0x07). -/
  bands : Nat := 7
  /-- PRE (u8; 03; reset 0). -/
  pre : Nat := 0
  /-- ELEMS, bit n selects En (96 bits; 03; reset 0). -/
  elems : Nat := 0
  /-- BASE (u32; 03; reset 0). -/
  base : Nat := 0
  /-- NBLK (u16; 03; reset 0). -/
  nblk : Nat := 0
  /-- TARG (u16; 03; reset 0). -/
  targ : Nat := 0
  /-- TTIME (u64; 03; reset 0). -/
  ttime : Nat := 0
  /-- OWNER (u8; 03; reset 0). -/
  owner : Nat := 0
  /-- CSTATE (u8; 03; reset 0 = IDLE). -/
  cstate : CState := .idle
  /-- TBLK (u16; 03; reset 0). -/
  tblk : Nat := 0
  /-- GOTPRE (u16; 03; reset 0). -/
  gotpre : Nat := 0
  /-- blocks written since arming (03 R69; reset 0). -/
  written : Nat := 0
  /-- first tick of the last block written (03 R69; reset 0). -/
  newest : Nat := 0
  /-- blocks still to write after the trigger; none before it (03 R69; reset none). -/
  left : Option Nat := none
  /-- the trigger's moment, awaiting the block that contains it (03 R69; reset none). -/
  trigAt : Option Nat := none
  /-- later triggers counted (03 R70; reset 0). -/
  laterTrigs : Nat := 0
  /-- epochs since a plan's capture was armed last (08 R195; reset 0). -/
  sinceArm : Nat := 0
deriving DecidableEq, Repr

/-- What a physical lode bank is doing (03 scrub-and-swap, 22 R524). -/
inductive BankUse where
  | service | spare | copying | testing | retired
deriving DecidableEq, Repr

/-- The lode (03). -/
structure LodeState where
  /-- stored bytes of the 48 MB logical lode, sparse (03 lode; no reset content in the spec: log 1). -/
  mem : Mem := []
  /-- words found uncorrectable, by logical byte address of the word (03 R74; reset empty). -/
  badWords : List Nat := []
  /-- single-bit errors corrected (03 R74; reset 0). -/
  corrected : Nat := 0
  /-- the bank map, logical to physical (64 × 7 bits; 03 lode; reset identity, DESIGN CHOICE log 2). -/
  bankMap : Vector Nat 64 := Vector.ofFn (fun i => i.val)
  /-- use of the physical banks (68; 03 R75; reset 64 in service, 4 spare, DESIGN CHOICE log 2). -/
  use : Vector BankUse 68 := Vector.ofFn (fun i => if i.val < 64 then .service else .spare)
  /-- the swap in progress: physical bank, spare bank, copy done (03 R75; reset none). -/
  swap : Option (Nat × Nat × Bool) := none
  /-- tick at which the swap's copy began (03 R73; reset 0). -/
  swapAt : Nat := 0
  /-- capture regions C0..C7 (03 R68). -/
  regions : Vector Region 8 := Vector.replicate 8 {}
deriving DecidableEq, Repr

/-- The sample path: lanes, adits, notches, haulage, lode. -/
structure SampleState where
  /-- element lanes EL0..EL95 (02). -/
  lanes : Vector LaneState 96 := Vector.replicate 96 {}
  /-- adits 0..95 (03). -/
  adits : Vector AditState 96 := Vector.replicate 96 {}
  /-- notch entries N0..N3 of each band, in force (03 R58). -/
  notch : PerBand (Vector Notch 4) :=
    ⟨Vector.replicate 4 {}, Vector.replicate 4 {}, Vector.replicate 4 {}⟩
  /-- notch entries in force in the epoch before (03 R62; reset as above). -/
  notchBefore : PerBand (Vector Notch 4) := ⟨Vector.replicate 4 {}, Vector.replicate 4 {}, Vector.replicate 4 {}⟩
  /-- notch entries staged for the next boundary: band, index, entry (03 R62; reset empty). -/
  notchStaged : List (Band × Nat × Notch) := []
  /-- the next haulage block index k (4 bits; 03 R64; reset 0). -/
  blockK : Nat := 0
  /-- headers of the last block released, one per element-band stream (03 R64; reset empty). -/
  headers : List BlockHeader := []
  /-- samples of the last block released, per element and band (03 R64; reset empty). -/
  block : List (Nat × Band × List HSample) := []
  /-- downlink words put on the lanes, newest last (02 R37; reset empty). -/
  sent : List SentWord := []
  /-- the lode (03). -/
  lode : LodeState := {}
deriving DecidableEq, Repr

end Sys2Proof.Machine
end

