-- ==== Sys2Proof/Machine/StTime.lean ====
section
/-! DEFINITION. The state of the time solution and integrity (spec/10_measurements_and_integrity.md) and of the synthesizers and
timing ports (spec/11_timing_ports.md). Plain data; the defaults are the reset values. -/

namespace Sys2Proof.Machine

/-- What the plane-wave fits of a satellite-band find (10 R249): masks of the sites that failed and of those tested, the largest angle of a failing site in
0.01°. -/
structure SigFind where
  sys : Nat
  sat : Nat
  band : Band
  failed : Nat
  tested : Nat
  angMax : Nat
deriving DecidableEq, Repr

/-- Grades (10 R257), with the table's codes. -/
inductive Grade where
  | none | suspect | degraded | nominal | prime
deriving DecidableEq, Repr

def Grade.code : Grade → Nat
  | .none => 0 | .suspect => 1 | .degraded => 2 | .nominal => 3 | .prime => 4

/-- An observation entry's contents (10 R244). -/
structure Obs where
  sigid : Nat
  ch : Nat
  glok : Int
  mode : Nat
  prValid : Bool
  cpValid : Bool
  void : Bool
  nodump : Bool
  halfAdd : Bool
  halfUnres : Bool
  slip : Bool
  suspect : Bool
  excluded : Bool
  unchecked : Bool
  used : Bool
  osnma : Bool
  pr : Nat
  cp : Int
  dopp : Int
  cn0 : Nat
  sigpr : Nat
  lockt : Nat
  group : Nat
  ngrp : Nat
  nsite : Nat
  /-- elements of its beam (10 R247). -/
  nelem : Nat
  owner : Nat
deriving DecidableEq, Repr

/-- The solution record (10 R245). -/
structure SolRec where
  smode : Nat := 0
  grade : Nat := 0
  holdover : Bool := false
  utcValid : Bool := false
  /-- the announced leap second: 0 none, 1 positive, −1 negative. -/
  leapAnn : Int := 0
  iono : Bool := false
  osnmaMet : Bool := false
  nsig : Nat := 0
  tm : Nat := 0
  terr : Int := 0
  terrSig : Nat := 0xFFFF_FFFF
  ferr : Int := 0
  utcGps : Int := 0
  leap : Int := 0
  nsat : Nat := 0
  nsite : Nat := 0
  nsys : Nat := 0
  isbE : Int := 0
  isbC : Int := 0
  isbG : Int := 0
  isbI : Int := 0
  tdop : Nat := 0
  resrms : Nat := 0
  holdt : Nat := 0
  /-- satellites used through the ionosphere-free combination (10 R257). -/
  nIono : Nat := 0
  /-- the record is of a valid solution (10 R257). -/
  valid : Bool := false
deriving DecidableEq, Repr

/-- A suspicion (10 R249–R255): cause 1..6, satellite (type byte of the system and number), band or none for all or a system. -/
structure Suspicion where
  cause : Nat
  /-- the system (0 GPS, 1 Galileo, 2 BeiDou, 3 GLONASS, 4 QZSS, 5 NavIC, 6 SBAS). -/
  sys : Nat
  /-- the satellite number; none for a whole system. -/
  sat : Option Nat
  band : Option Band
  /-- ms of the last epoch in which the condition held. -/
  last : Nat
  /-- ms at which the first failing epoch began (10 R258). -/
  first : Nat
deriving DecidableEq, Repr

/-- Signature history of a satellite-band (10 R250): failing epochs, newest first, of the last 10. -/
structure SigHist where
  sys : Nat
  sat : Nat
  band : Band
  fails : List Bool
  lastResult : Nat
deriving DecidableEq, Repr

/-- Solution parameters (10 R262). -/
structure SolParams where
  solInt : Nat := 100
  utcSrc : Nat := 0
  surveyT : Nat := 86400
  surveySig : Nat := 30
  solSys : Nat := 0x7F
deriving DecidableEq, Repr

/-- Integrity parameters (10 R262). -/
structure IntegParams where
  sigAng : Nat := 50
  sigNfail : Nat := 2
  sigreq : Nat := 1
  osnmaReq : Nat := 0
  resThr : Nat := 50
  fdeMax : Nat := 3
  xsysThr : Nat := 15
  pwrHi : Nat := 55
  pwrRel : Nat := 10
  suspMax : Nat := 2
  sigNom : Nat := 10
deriving DecidableEq, Repr

/-- Holdover parameters (10 R262). -/
structure HoldParams where
  holdGrade : Nat := 2
  holdDwell : Nat := 10
  recoverT : Nat := 60
  holdBack : Nat := 10
deriving DecidableEq, Repr

/-- RTCM parameters (10 R262). -/
structure RtcmParams where
  sta : Nat := 0
  int : Nat := 1000
  sys : Nat := 0x1F
deriving DecidableEq, Repr

/-- Measurements, time solution and integrity (10). -/
structure SolState where
  /-- observations of the epoch just closed (10 R243; reset empty). -/
  obs : List Obs := []
  /-- latest solution record (64 bytes; 10 R245; resets in its fields). -/
  rec_ : SolRec := {}
  /-- grade in force (u8; 10 R257; reset NONE: no valid solution). -/
  grade : Grade := .none
  /-- survey mode SMODE (u8; 10 R242; reset 0). -/
  smode : Nat := 0
  /-- self-survey progress: ms of averaging and 1-sigma in cm (10 R242; reset none). -/
  survey : Option (Nat × Nat) := none
  /-- the positions that a self-survey has added up, in 0.1 mm, and their number (10 R242; reset 0). -/
  surveySum : (Int × Int × Int) × Nat := ((0, 0, 0), 0)
  /-- what the solver carries from one solution to the next: rate, biases and their uncertainties, in a form of the Overman's own (10 R238; reset
  empty). -/
  solver : List Int := []
  /-- TERR_SIG of the latest valid solution since the Overman last left reset (11 R266, R289; reset none). -/
  sigma : Option Nat := none
  /-- 1-sigma in ps of the latest solution without a Galileo signal; none where there is none (10 R252; reset none). -/
  galFree : Option Nat := none
  /-- hash of the charter's site and element table stored with a self-surveyed position (48 bytes; 10 R242; reset none). -/
  surveyHash : Option (List Byte) := none
  /-- SURVEY_START staged (10 R261; reset false). -/
  surveyStaged : Bool := false
  /-- HOLDOVER (1 bit; 12 DEV_STATE; 10 R258, R259; reset 1). -/
  holdover : Bool := true
  /-- ms at which holdover began (10 R245 HOLDT; reset 0). -/
  holdSince : Nat := 0
  /-- HOLD_FORCE (1 bit; 10 R258; no reset given: false, DESIGN CHOICE log 2). -/
  holdForce : Bool := false
  /-- HOLD_FORCE staged (10 R261; reset none). -/
  holdStaged : Option Bool := none
  /-- epochs for which the grade has stayed below HOLD_GRADE (10 R258; reset 0). -/
  lowFor : Nat := 0
  /-- epochs for which the grade has been good (10 R259; reset 0). -/
  goodFor : Nat := 0
  /-- ms of the first failing epoch of the present alarm (10 R258; reset none). -/
  alarmSince : Option Nat := none
  /-- ms of the last boundary with an alarm active (10 R257 "no alarm in the last 60 s"; reset none). -/
  lastAlarm : Option Nat := none
  /-- suspicions in force (10 R249–R255; reset none). -/
  susp : List Suspicion := []
  /-- signature histories (10 R250; reset empty). -/
  sig : List SigHist := []
  /-- signature results that the deputies have passed in this epoch (10 R250; reset empty). -/
  sigNow : List SigFind := []
  /-- satellite-bands whose power condition holds in this epoch, with the excess in 0.01 dB (10 R255; reset empty). -/
  pwrNow : List (Nat × Nat × Band × Int) := []
  /-- suspicions that have ended and the ms of their end (05 R105; reset empty). -/
  ended : List (Suspicion × Nat) := []
  /-- channels whose entries the latest solution used (10 R257; reset empty). -/
  usedCh : List Nat := []
  /-- entries that the latest solution's residual test excluded: channel and group (10 R254; reset empty). -/
  excl : List (Nat × Nat) := []
  /-- ms of the boundary whose measurement record and whose solution have been formed last (10 R239, R243; reset none). -/
  measAt : Option Nat := none
  solAt : Option Nat := none
  /-- CAL_GEN and PLAN_ID of the epoch that closed at the last boundary (10 R243; reset 0). -/
  genClosed : Nat := 0
  planClosed : Nat := 0
  /-- consecutive solutions in which a satellite was excluded: system, satellite, count (10 R254; reset empty). -/
  fde : List (Nat × Nat × Nat) := []
  /-- consecutive solutions in which a system's offset moved: system, count (10 R254; reset empty). -/
  xsys : List (Nat × Nat) := []
  /-- epochs for which the power conditions held: system, satellite, band, count (10 R255; reset empty). -/
  pwr : List (Nat × Nat × Band × Nat) := []
  /-- satellites excluded by SAT_EXCLUDE: system and number (up to 32; 10 R261; reset empty). -/
  exclude : List (Nat × Nat) := []
  /-- SAT_EXCLUDE staged (10 R261; reset none). -/
  excludeStaged : Option (List (Nat × Nat)) := none
  /-- OSNMA status (u8; 10 R252; reset 0 = OFF). -/
  osnma : Nat := 0
  /-- satellites whose ADKD 0 set in use is authenticated (10 R253; reset empty). -/
  osnmaAuth : List Nat := []
  /-- UTC parameters decoded, per source 0..3 (10 R240; reset none). -/
  utcKnown : List Nat := []
  /-- the GST-UTC parameters decoded are authenticated (10 R253; reset false). -/
  utcAuth : Bool := false
  /-- parameters in force (10 R262). -/
  solP : SolParams := {}
  integP : IntegParams := {}
  holdP : HoldParams := {}
  rtcmP : RtcmParams := {}
  /-- parameters staged for the next boundary (10 R262; reset none). -/
  solPS : Option SolParams := none
  integPS : Option IntegParams := none
  holdPS : Option HoldParams := none
  rtcmPS : Option RtcmParams := none
  /-- ms of the last RTCM epoch (10 R247; reset 0). -/
  lastRtcm : Nat := 0
  /-- UTC second of the last NMEA group (10 R248; reset 0). -/
  lastNmea : Nat := 0
deriving DecidableEq, Repr

/-- State of a synthesizer (11 R284): locked or coasting on a frozen control value. -/
inductive SynLock where
  | locked | coasting
deriving DecidableEq, Repr

/-- Dither of a modulator (11 R269): enable and seed. -/
structure Dither where
  enable : Bool := false
  seed : Nat := 0
deriving DecidableEq, Repr

/-- Port states (11 port status block). -/
inductive PState where
  | off | gated | running | coasting | cal | starting
deriving DecidableEq, Repr

def PState.code : PState → Nat
  | .off => 0 | .gated => 1 | .running => 2 | .coasting => 3 | .cal => 4 | .starting => 5

/-- A port configuration block (11 R272 table). -/
structure PortCfg where
  pmode : Nat := 0
  pflags : Nat := 0
  todf : Nat := 0
  todbaud : Nat := 0
  pper : Nat := 1000000
  pwid : Nat := 25000
  fout : Nat := 10000000
  uoff : Int := 0
  todoff : Nat := 100
  echoN : Nat := 64
  rmode : Nat := 0
  pair : Nat := 0xFF
  feTurn : Nat := 0
  feDly : Int := 0
  asym : Int := 0
  nomdly : Nat := 0
deriving DecidableEq, Repr

/-- One timing port (11). -/
structure PortState where
  /-- configuration in force (48 bytes; 11 R272; resets in its fields). -/
  cfg : PortCfg := {}
  /-- configuration staged for the boundary (11 R273; reset none). -/
  staged : Option PortCfg := none
  /-- ENABLE staged by PORT_ENABLE (11 R291; reset none). -/
  enStaged : Option Bool := none
  /-- OWNER (u8; 11 R272; reset from the charter, 0xFF before one: DESIGN CHOICE log 2). -/
  owner : Nat := 0xFF
  /-- PSTATE (u8; 11 R291; reset 0 = OFF). -/
  pstate : PState := .off
  /-- UNCAL (1 bit; 11; reset 0). -/
  uncal : Bool := false
  /-- ECHO_FAULT (1 bit; 11; reset 0). -/
  echoFault : Bool := false
  /-- CAL_JUMP (1 bit; 11; reset 0). -/
  calJump : Bool := false
  /-- SLEWING (1 bit; 11; reset 0). -/
  slewing : Bool := false
  /-- D in force, in 0.001 ps (COARSE i32 and FINE u16 follow by R271; 11; reset 0). -/
  d : Int := 0
  /-- D toward which D slews, in 0.001 ps (11 R275; reset 0). -/
  dTarget : Int := 0
  /-- a step of D waiting for the edge at least 1 ms after the commit: value and ms (11 R275; reset none). -/
  dStep : Option (Int × Nat) := none
  /-- RTT, mean round trip in ps; none before one exists (u32; 11 R277; reads 0 at reset). -/
  rtt : Option Nat := none
  /-- DFWD in force, ps (u32; 11 R277; reset 0). -/
  dfwd : Int := 0
  /-- d_fwd held by an echo fault or jump, new value waiting for acceptance (11 R281; reset none). -/
  jumped : Option Int := none
  /-- accepted echoes, newest first, at most ECHO_N, in ps (11 R277; reset empty). -/
  echoes : List Nat := []
  /-- ECHO_SIG (u16; 11; reset 0). -/
  echoSig : Nat := 0
  /-- ECHO_MISS (u16, saturating; 11; reset 0). -/
  echoMiss : Nat := 0
  /-- consecutive missing echoes (11 R280; reset 0). -/
  missRun : Nat := 0
  /-- NECHO, echoes accepted since start (u32; 11; reset 0). -/
  necho : Nat := 0
  /-- ms at which d_fwd was last updated (CALAGE u32; 11; reset 0). -/
  calMs : Nat := 0
  /-- consecutive updates with the RTT fraction within P/8 of a period boundary (11 R278; reset 0). -/
  edgeRun : Nat := 0
  /-- whole second at which a starting port starts (11 R274; reset none). -/
  startAt : Option Nat := none
  /-- burst echoes of PORT_CAL, in ps, newest first; none outside CAL (11 R279; reset none). -/
  burst : Option (List Nat) := none
  /-- tick at which the burst began (11 R279; reset 0). -/
  burstFrom : Nat := 0
  /-- the request whose final reply the burst owes: session and sequence (11 R279; reset none). -/
  burstReq : Option (Nat × Nat) := none
  /-- last ms in which an echo was taken (11 R277; reset none). -/
  lastEcho : Option Nat := none
  /-- TSEQ (u16; 11 R289; reset 0). -/
  tseq : Nat := 0
  /-- level at the ball: active or inactive (1 bit; 11 R271; reset inactive). -/
  level : Bool := false
  /-- the last active edge or message put out: its port time T in ps and the instant T + D as realised, in 2 ps (11 R271; reset none). -/
  lastEdge : Option (Nat × Int) := none
  /-- port time in ps of the edge toward the inactive level that ends the present active level (11 R271, R274; reset 0). -/
  offAt : Int := 0
  /-- internal path measurement of R276, in ps (reset 0, DESIGN CHOICE log 2). -/
  path : Int := 0
  /-- the port gates off at its clean edge and then enters this state (11 R274, R287; reset none). -/
  stopTo : Option PState := none
  /-- an echo has been accepted since d_fwd was last updated (11 R277; reset false). -/
  fresh : Bool := false
deriving DecidableEq, Repr

/-- Servo and port parameters (11 R292). -/
structure ServoParams where
  tslew : Nat := 10
  dtPull : Nat := 10
  pslew : Nat := 1000
  echoWin : Nat := 2000
  echoLoss : Nat := 8
  jumpLim : Nat := 1000
  refCoast : Nat := 10000
  gateTe : Nat := 100
  hoLimit : Nat := 1000
  hoGate : Nat := 0
deriving DecidableEq, Repr

/-- Synthesizers, servo and timing ports (11). -/
structure SynState where
  /-- y in units of 2^-48 (signed; 11 R264; reset 0, DESIGN CHOICE log 2). -/
  y : Int := 0
  /-- φ_T in units of 0.001 ps (signed; 11 R264; reset 0, DESIGN CHOICE log 2). -/
  phiT : Int := 0
  /-- y_pull in 0.001 ps per ms (signed; 11 R264, R265; reset 0, DESIGN CHOICE log 2). -/
  yPull : Int := 0
  /-- targets of y and φ_T with the boundary at which they commit (11 R265; reset none). -/
  targets : List (Nat × Int × Int) := []
  /-- target of φ_T toward which port time slews (11 R265; reset 0). -/
  phiTarget : Int := 0
  /-- remaining TERR for y_pull to remove, 0.001 ps (11 R265; reset 0). -/
  pullLeft : Int := 0
  /-- y in force at the recent boundaries: ms and value, newest first (10 R258 HOLD_BACK; reset empty). -/
  yHist : List (Nat × Int) := []
  /-- REFIN valid (11 R284; reset false: no REFIN seen before it is measured). -/
  refValid : Bool := false
  /-- up-ms since which TP0–TP3 coast (11 R285; reset none). -/
  refLostAt : Option Nat := none
  /-- lock of SYN-A (11 R284; reset coasting until locked: 18). -/
  synA : SynLock := .coasting
  /-- lock of banks 0..3 (11 R284). -/
  bank : Vector SynLock 4 := Vector.replicate 4 .coasting
  /-- dither of SYN-A, banks, dividers (11 R269; reset seeds 1, 0x10 + k, 0x100 + n; enables false, log 2). -/
  ditherA : Dither := ⟨false, 1⟩
  ditherB : Vector Dither 4 := Vector.ofFn (fun k => ⟨false, 0x10 + k.val⟩)
  ditherD : Vector Dither 32 := Vector.ofFn (fun n => ⟨false, 0x100 + n.val⟩)
  /-- dither changes staged: modulator number (0 SYN-A, 1..4 banks, 16.. dividers), value (11 R269; reset empty). -/
  ditherStaged : List (Nat × Dither) := []
  /-- consecutive solutions with REFIN beyond REF_UNC (11 R267; reset 0). -/
  refRange : Nat := 0
  /-- σ_T (ps), σ_y (1e-15) and |a| (1e-18 per s) at holdover entry, when known (11 R266; reset none). -/
  hoBase : Option (Nat × Nat × Nat) := none
  /-- FLT_HOLDOVER_LIMIT raised for this holdover (11 R266; reset false). -/
  hoTold : Bool := false
  /-- bank skews measured, ps (11 R276; reset 0, log 2). -/
  skew : Vector Int 4 := Vector.replicate 4 0
  /-- parameters in force (11 R292). -/
  params : ServoParams := {}
  /-- parameters staged (11 R292; reset none). -/
  paramsStaged : Option ServoParams := none
  /-- timing ports TP0..TP31 (11). -/
  ports : Vector PortState 32 := Vector.replicate 32 {}
  /-- up-ms of the last measurement of R276 (reset none). -/
  pathAt : Option Nat := none
  /-- UTC_GPS (ps) and LEAP last decoded, which the ports keep (11 R272; reset none). -/
  utc : Option (Int × Int) := none
  /-- time-of-day messages sent: port, bytes (11 R289; reset empty). -/
  todOut : List (Nat × List Byte) := []
deriving DecidableEq, Repr

end Sys2Proof.Machine
end

