-- ==== Sys2Proof/Machine/StTrack.lean ====
section
/-! DEFINITION. The state of tracking and acquisition (spec/06_channels.md, spec/07_acquisition.md). Plain data; the defaults
are the reset values. -/

namespace Sys2Proof.Machine

/-- Channel states (06 "Channel states"). -/
inductive ChState where
  | idle | handover | pullin | track | coast | lost | boot
deriving DecidableEq, Repr

/-- The code reported in `CSTATE` of the channel descriptor. -/
def ChState.code : ChState → Nat
  | .idle => 0 | .handover => 1 | .pullin => 2 | .track => 3 | .coast => 4 | .lost => 5 | .boot => 6

/-- Channel NCO state (06 R129 table), all reset 0. -/
structure Nco where
  /-- CARPH (48 bits). -/
  carph : Nat := 0
  /-- CARCYC (16 bits). -/
  carcyc : Nat := 0
  /-- CRATE (48 bits, signed, held modulo 2^48). -/
  crate : Nat := 0
  /-- KPH (48 bits). -/
  kph : Nat := 0
  /-- KCHIP (24 bits). -/
  kchip : Nat := 0
  /-- KPER (16 bits). -/
  kper : Nat := 0
  /-- KRATE (48 bits). -/
  krate : Nat := 0
  /-- SECIDX (12 bits). -/
  secidx : Nat := 0
deriving DecidableEq, Repr

/-- An arm (06 arm descriptor). -/
structure Arm where
  aoff : Int := 0
  acomp : Nat := 0
  amod : Nat := 0
  anoise : Nat := 0
deriving DecidableEq, Repr

/-- A channel result entry (06 R137), all reset 0. -/
structure ChEntry where
  chid : Nat := 0
  sigid : Nat := 0
  epoch : Nat := 0
  valid : Bool := false
  void : Bool := false
  nodump : Bool := false
  drop : Bool := false
  sat : Bool := false
  empty : Bool := false
  bshift : Nat := 0
  narm : Nat := 0
  blankf : Nat := 0
  dumpoff : Nat := 0
  cph : Nat := 0
  carph : Nat := 0
  arm : List (Int × Int) := []
  phalf : List (Int × Int) := []
  pwrin : Nat := 0
  dumpseq : Nat := 0
  nsamp : Nat := 0
deriving DecidableEq, Repr

/-- The update registers of a channel window (06 R138), all reset 0 but `U_AOFF` (the default arm set). -/
structure UpdRegs where
  /-- U_CRATE, 48 bits. -/
  uCrate : Nat := 0
  /-- U_KRATE, 48 bits. -/
  uKrate : Nat := 0
  /-- U_CSTEP, 48 bits. -/
  uCstep : Nat := 0
  /-- U_KSTEP, 48 bits. -/
  uKstep : Nat := 0
  /-- U_AOFF of arms 1..7, 16 bits each. -/
  uAoff : Vector Nat 7 := Vector.replicate 7 0
  /-- U_SEC: 14 bits. -/
  uSec : Nat := 0
  /-- U_CTRL: 5 bits. -/
  uCtrl : Nat := 0
  /-- U_STATUS.PENDING. -/
  pending : Bool := false
  /-- U_STATUS.LATE. -/
  late : Bool := false
deriving DecidableEq, Repr

/-- An update taken by COMMIT and staged for the boundary (06 R139). -/
structure ChUpdate where
  crate : Nat
  krate : Nat
  cstep : Option Nat := none
  kstep : Option Nat := none
  aoff : Option (List Nat) := none
  sec : Option Nat := none
deriving DecidableEq, Repr

/-- Loop parameters (06 R141 table). -/
structure LoopParams where
  pllBw : Nat := 500
  pllOrd : Nat := 3
  fllBw : Nat := 200
  dllBw : Nat := 20
  tcoh : Nat := 0
  cn0Loss : Nat := 25
  coastT : Nat := 2000
  mpMode : Nat := 1
deriving DecidableEq, Repr

/-- A discriminator record: the 16 words of 06 (fields by their names), all reset 0. -/
structure DiscRec where
  dph : Int := 0
  dfr : Int := 0
  dcode : Int := 0
  cn0 : Nat := 0
  lock : Int := 0
  pi : Int := 0
  pq : Int := 0
  pexp : Int := 0
  ncoh : Nat := 0
  dflags : Nat := 0
  mpdly : Int := 0
  mpamp : Nat := 0
  crateIn : Nat := 0
  krateIn : Nat := 0
deriving DecidableEq, Repr

/-- What the deputy keeps of a dump for its averages (06 discriminator record): the wiped prompt and the noise arm's sum times 2^`BSHIFT`, and the
noise power in the dump where it has no noise arm. -/
structure DumpFig where
  prompt : Int × Int
  noise : Nat
deriving DecidableEq, Repr

/-- The deputy side of a channel's loops (06 R140–R142, R152). -/
structure LoopState where
  /-- state of the carrier filter and of the code filter (06 R141; reset empty). -/
  carrier : List Int := []
  code : List Int := []
  /-- the standard filter's last output, CRATE and KRATE, which it holds while it holds its state (06 R140; reset none). -/
  out : Option (Nat × Nat) := none
  /-- the coherent sum in progress and its dumps (06 R140; reset 0). -/
  sum : Int × Int := (0, 0)
  sumN : Nat := 0
  /-- the coherent sum before it and its dumps (06 `DFR`; reset 0). -/
  prev : Int × Int := (0, 0)
  prevN : Nat := 0
  /-- the last 100 dumps, newest first (06 `CN0`, `LOCK`; reset empty). -/
  figs : List DumpFig := []
  /-- each arm's dumps times the conjugate of the prompt, added since the last multipath fit, and the dumps added (06 R142; reset empty). -/
  mpSums : List (Int × Int) := []
  mpDumps : Nat := 0
deriving DecidableEq, Repr

/-- The demodulation state of a channel (06 R148, R149, R152). -/
structure Demod where
  /-- dumps of the data component with their DUMPSEQ, newest first, the last 2 000 (reset empty). -/
  dumps : List ((Int × Int) × Nat) := []
  /-- the remainder of the DUMPSEQ of a symbol's first dump modulo the dumps of a symbol: bit sync (reset none). -/
  edge : Option Nat := none
  /-- sign of the prompt of the last dump, with its DUMPSEQ (06 R136; reset none). -/
  sign : Option (Int × Nat) := none
deriving DecidableEq, Repr

/-- The open dump of a channel (06 R152): whether a dump point has opened it, the arms' sums, the prompt products of its ticks, newest
first, from which the half sums are taken, `NSAMP` so far, its `BSHIFT`, the sum of |y|², blanked ticks of E0..E95, saturated outputs, and the
dump that the last tick lay in. -/
structure OpenDump where
  started : Bool := false
  arms : List (Int × Int) := []
  prompts : List (Int × Int) := []
  nsamp : Nat := 0
  bshift : Nat := 0
  pwr : Nat := 0
  blank : List Nat := []
  sat : Nat := 0
  last : Option Nat := none
  /-- tick at which the dump began. -/
  from_ : Nat := 0
deriving DecidableEq, Repr

/-- What a channel correlates in an epoch (08 R181): whether it holds a signal, signal, GLONASS channel, beam, NCO state at the epoch's first
tick, arms, secondary wipe. -/
structure ChSet where
  on : Bool := false
  sigid : Nat := 0
  glok : Int := 0
  beam : Nat := 0
  nco : Nco := {}
  arms : List Arm := []
  secwipe : Bool := false
deriving DecidableEq, Repr

/-- How a channel's signal was served in an epoch (10 R236, R237): the primary channel of a linked one, group, mode and groups of the signal, the
sites and the number of elements that its beam combined. -/
structure Served where
  prim : Option Nat := none
  group : Nat := 0xFF
  mode : Nat := 0
  ngrp : Nat := 1
  sites : Nat := 0
  nelem : Nat := 0
deriving DecidableEq, Repr

/-- One channel (06). -/
structure ChanState where
  /-- SIGID (u16; 06 R127, R153; reset 0). -/
  sigid : Nat := 0
  /-- CSTATE (u8; 06 R153; reset 0). -/
  st : ChState := .idle
  /-- NCO state in force (06 R129; reset 0). -/
  nco : Nco := {}
  /-- initial NCO state staged by the handover (06 R151; reset none). -/
  ncoInit : Option Nco := none
  /-- BITSYNC, SECSYNC, frame sync, HALFCYC, SECWIPE of CFLAGS (5 bits; 06 R153; reset 0). -/
  bitsync : Bool := false
  secsync : Bool := false
  framesync : Bool := false
  halfcyc : Bool := false
  secwipe : Bool := false
  /-- DEP (u8; 06 R153; reset by the plan, 0 before one: DESIGN CHOICE log 2). -/
  dep : Nat := 0
  /-- SLOT (u8; 06 R153; reset by the plan: log 2). -/
  slot : Nat := 0
  /-- BEAM (u8; 06 R153; reset 0). -/
  beam : Nat := 0
  /-- GROUP (u8; 06 R153; reset 0xFF). -/
  group : Nat := 0xFF
  /-- NARM (u8; 06 R129, R153; reset by the plan: log 2). -/
  narm : Nat := 0
  /-- the slot is bound in the active plan (06 R150; reset false). -/
  bound : Bool := false
  /-- GLOK (i8; 06 R153; reset 0). -/
  glok : Int := 0
  /-- PRIM, primary channel of a linked channel (u16; 06 R134, R153; reset 0xFFFF = none). -/
  prim : Option Nat := none
  /-- CAGE, epochs in the present state (u32, saturating; 06 R153; reset 0). -/
  cage : Nat := 0
  /-- OWNER, the tenant holding the channel (u8; 06 R153; reset 0xFF). -/
  owner : Nat := 0xFF
  /-- arm set in force (06 R135; reset the default set of the slot's NARM). -/
  arms : List Arm := []
  /-- arm set staged by CH_ARMS (06 R135; reset none). -/
  armsStaged : Option (List Arm) := none
  /-- loop parameters in force (06 R141; resets in the table). -/
  loop : LoopParams := {}
  /-- loop parameters staged (06 R141; reset none). -/
  loopStaged : Option LoopParams := none
  /-- update registers of the channel window (06 R138; reset 0). -/
  upd : UpdRegs := {}
  /-- update staged for the boundary (06 R139; reset none). -/
  staged : Option ChUpdate := none
  /-- result entries of the two banks (2 × 128 bytes; 06 R137; reset 0). -/
  entry : Vector ChEntry 2 := Vector.replicate 2 {}
  /-- the boundary (ms) that closed the last epoch whose entry has landed in time (09 R212; reset none). -/
  landed : Option Nat := none
  /-- the channel-epoch is void (06 R147; reset false). -/
  voided : Bool := false
  /-- open dump (06 R152; reset 0). -/
  dump : OpenDump := {}
  /-- DUMPSEQ (u32; 06 R131; reset 0). -/
  dumpseq : Nat := 0
  /-- discriminator record of the last dump (16 words; 06; reset 0). -/
  disc : DiscRec := {}
  /-- consecutive dumps of the channel states table: C/N0 at least CN0_LOSS + 3 dB, C/N0 below CN0_LOSS, LOCK below 0.2 (06; reset 0). -/
  dwellHigh : Nat := 0
  dwellLow : Nat := 0
  dwellUnlock : Nat := 0
  /-- |DCODE| of the dumps since the state was entered, newest first, at most 100 (06 channel states; reset empty). -/
  codeErrs : List Nat := []
  /-- loop filter, lock detector and multipath state (06 R152; reset empty). -/
  loops : LoopState := {}
  /-- demodulation state (06 R152; reset empty). -/
  demod : Demod := {}
  /-- rates last written in TRACK: CRATE, KRATE (06 R146; reset none). -/
  trackRates : Option (Nat × Nat) := none
  /-- bound loop kernel: tenant and kernel slot (06 R143, 13 R338; reset none). -/
  kernel : Option (Nat × Nat) := none
  /-- kernel binding staged: some none unbinds (06 R153; reset none). -/
  kernelStaged : Option (Option (Nat × Nat)) := none
  /-- soft symbols that the Overman holds for decoding, of 8 bits each, with the DUMPSEQ of their last dump, newest first, the last 16 384 (06 R148;
  reset empty). -/
  symbols : List (Int × Nat) := []
  /-- release staged for the boundary (06 R153; reset false). -/
  releaseStaged : Bool := false
  /-- the time of week in ms at the last frame boundary, and its place in dumps of the 65 536 code periods that `KPER` counts (10 R233; reset none). -/
  frame : Option (Nat × Nat) := none
  /-- a preamble has shown the carrier's polarity (06 R149, 10 R234; reset false). -/
  polar : Bool := false
  /-- how the epoch that closed last was served (10 R236; reset unserved). -/
  was : Served := {}
  /-- slot named by decoding and not yet written into SIGID (07 R161; reset none). -/
  gloSlot : Option Nat := none
  /-- carrier lock time in ms (10 R237; reset 0). -/
  lockMs : Nat := 0
  /-- the carrier phase run through since the lock time began, in 2^-48 cycle, and the integer L0 (10 R234; reset 0). -/
  lockPhase : Int := 0
  lockL0 : Int := 0
  /-- the carrier lock time counts (10 R237; reset false). -/
  locked : Bool := false
  /-- the lock time started again at the last boundary: SLIP of the next entry (10 R237; reset false). -/
  slip : Bool := false
  /-- consecutive void epochs; the last epoch was void (10 R237, discriminator record; reset 0). -/
  voids : Nat := 0
  /-- sites that the channel's beam combined in the epoch that closed last, bit n for Sn (12 bits; 10 R237; reset 0). -/
  sites : Nat := 0
  /-- the first kernel call after a binding has still to come (16 R424; reset false). -/
  kfirst : Bool := false
  /-- the binding in force in the epoch that closed last, whose dumps the deputy works on, and whether its first call is still to come (01 R18;
  reset none, false). -/
  kernelOld : Option (Nat × Nat) := none
  kfirstOld : Bool := false
  /-- what the channel correlated in the epoch before, which its last strides use (08 R181; reset off). -/
  before : ChSet := {}
  /-- entries of the dumps that the epoch being worked through has completed, oldest first (06 R132; reset empty). -/
  pend : List ChEntry := []
  /-- the open dump ends uncompleted where the new epoch begins: false is a plan swap, whose dump `DUMPSEQ` counts, true a new signal, whose
  count begins again (08 R205, 06 R131; reset none). -/
  dropDump : Option Bool := none
deriving DecidableEq, Repr

/-- A beam that a search asks for (07 R154, R155): site, sector (0xFF steered, or element sums), azimuth and elevation in 0.01 degree. -/
structure SearchBeam where
  site : Nat
  sect : Nat := 0xFF
  az : Nat := 0
  el : Int := 9000
deriving DecidableEq, Repr

/-- A search (07 R157–R163). `sigid` and `glok` name its signal, satellite 0 the type of a cold or bootstrap search, whose satellites with their
k `sats` lists. -/
structure Search where
  cls : Nat
  sigid : Nat
  glok : Int := 0
  /-- 0 cold, 1 warm, 2 hot, 3 bootstrap. -/
  mode : Nat
  sats : List (Nat × Int) := []
  beams : List SearchBeam := []
  /-- half-width of the code window in 1/256 chip; none searches the full period. -/
  window : Option Nat := none
  /-- centre of the code window in 1/256 chip at a tick; without a tick at the first sample searched. -/
  codeC : Nat := 0
  codeAt : Option Nat := none
  /-- Doppler centre in mHz, half-span in Hz before the REFIN term. -/
  doppC : Int := 0
  doppHalf : Nat := 0
  nnc : Nat := 1
  /-- refreshes the result with this ACQID (07 R171). -/
  refreshes : Option Nat := none
  /-- confirms the candidate with this number (07 R168). -/
  cand : Option Nat := none
  /-- queued by ACQ_SEARCH or ACQ_START. -/
  host : Bool := false
deriving DecidableEq, Repr

/-- A search at work in a search slot (07 R155, R164; 08 R182). -/
structure SearchJob where
  x : Search
  /-- search slot and its logical stope. -/
  slot : Nat
  ls : Nat
  /-- live input from a beam, or the snapshot of a capture region (08 R191 `SINPUT`, `SSRC`). -/
  live : Bool
  src : Nat
  /-- tick of the first sample searched. -/
  first : Nat
  /-- whole-millisecond count of the first epoch whose output or whose read windows serve it. -/
  since : Nat
  /-- cells of one ms of input, and of all. -/
  perMs : Nat
  total : Nat
  /-- cells searched. -/
  done : Nat := 0
  /-- read windows that its snapshot takes (03 R73). -/
  need : Nat := 0
  /-- live input, one list of samples per ms. -/
  input : List (List (Int × Int)) := []
deriving DecidableEq, Repr

/-- A candidate awaiting confirmation (07 R168): its detection, where it was searched, and the ms of its search. -/
structure Candidate where
  sigid : Nat
  glok : Int
  mode : Nat
  beam : SearchBeam
  tref : Nat
  code : Nat
  dopp : Int
  cn0 : Nat
  margin : Nat
  suspect : Bool
  strong : Nat
  atMs : Nat
  id : Nat
  /-- its confirmation has been queued. -/
  asked : Bool := false
  /-- the result that its search was to refresh. -/
  refreshes : Option Nat := none
deriving DecidableEq, Repr

/-- An acquisition result entry (07 R170). -/
structure AcqResult where
  sigid : Nat
  glok : Int
  amode : Nat
  site : Nat
  sect : Nat
  confirmed : Bool
  suspect : Bool
  duplicate : Bool
  handed : Bool
  expired : Bool
  tref : Nat
  code : Nat
  dopp : Int
  cn0 : Nat
  margin : Nat
  acqid : Nat
  atMs : Nat
deriving DecidableEq, Repr

/-- Acquisition parameters (07 R173 table). -/
structure AcqParams where
  pfa : Nat := 9
  cdopp : Nat := 5000
  wdopp : Nat := 500
  hdopp : Nat := 100
  hotTunc : Nat := 20
  nncCold : Nat := 1
  nncWarm : Nat := 1
  nncHot : Nat := 4
  confGap : Nat := 1000
  xcGuard : Nat := 20
  resLife : Nat := 2000
  bgPeriod : Nat := 300
deriving DecidableEq, Repr

/-- Acquisition (07). -/
structure AcqState where
  /-- NSECT per site (12 × u8; 07 R154; reset 8). -/
  nsect : Vector Nat 12 := Vector.replicate 12 8
  /-- NSECT staged (07 R173; reset none). -/
  nsectStaged : List (Nat × Nat) := []
  /-- parameters in force (07 R173). -/
  params : AcqParams := {}
  /-- parameters staged for the next boundary (07 R173; reset none). -/
  paramsStaged : Option AcqParams := none
  /-- searches queued, in service order within a class (07 R163; reset empty). -/
  queue : List Search := []
  /-- searches at work in the plan's search slots, in the order in which they were placed (07 R155; reset empty). -/
  jobs : List SearchJob := []
  /-- complex MAC of surveys and of the sweep that the background slices have still to work, per band (07 R164; reset 0). -/
  owed : PerBand Nat := ⟨0, 0, 0⟩
  /-- complex MAC that these have asked for in the present second (07 R164; reset 0). -/
  asked : Nat := 0
  /-- candidates (07 R168; reset empty). -/
  cands : List Candidate := []
  /-- candidate numbers given (the model's own counter; reset 0). -/
  candId : Nat := 0
  /-- the latest 256 results, newest last (07 R170; reset empty). -/
  results : List AcqResult := []
  /-- ACQID of the next result (u32; 07 R170; no reset given: 0, DESIGN CHOICE log 2). -/
  nextId : Nat := 0
  /-- assistance: system time in ns, uncertainty in ns, the tick it was given (07 R162; reset none). -/
  assistTime : Option (Nat × Nat × Nat) := none
  /-- assistance position: ECEF in 0.1 mm and uncertainty in m (07 R173; reset none). -/
  assistPos : Option (Int × Int × Int × Nat) := none
  /-- ACQ_RATE, cells/s (07 R164; reset 0, DESIGN CHOICE log 2). -/
  acqRate : Nat := 0
  /-- ms of the last background cold search (07 R163; reset 0). -/
  lastBg : Nat := 0
  /-- ephemerides held: satellite (type byte of its system × 256 + number) and ms of issue (07 R162; reset empty). -/
  eph : List (Nat × Nat) := []
  /-- almanacs held (07 R162; reset empty). -/
  alm : List (Nat × Nat) := []
  /-- copies of both in flash (07 R162; reset empty). -/
  ephFlash : List (Nat × Nat) := []
  almFlash : List (Nat × Nat) := []
  /-- ms of the last save to flash (07 R162; reset 0). -/
  lastSave : Nat := 0
deriving DecidableEq, Repr

/-- Tracking and acquisition. -/
structure TrackState where
  /-- channels CH0..CH383 (06). -/
  ch : Vector ChanState 384 := Vector.replicate 384 {}
  /-- signals pinned by CH_PIN, with k (up to 32; 06 R150; reset empty). -/
  pins : List (Nat × Int) := []
  /-- pins staged (06 R153; reset none). -/
  pinsStaged : Option (List (Nat × Int)) := none
  /-- enabled signal types, 256-bit mask (06 SIG_POLICY; no reset given: all enabled, DESIGN CHOICE log 2). -/
  policy : Nat := 2 ^ 256 - 1
  /-- policy mask staged (06 R153; reset none). -/
  policyStaged : Option Nat := none
  /-- where the loaded copy of the code library differs from the firmware image, and how: bytes of 512 KB, sparse (06 R128; reset empty: the copy
  is the image's). -/
  library : Mem := []
  /-- ms of the last check of the code library (06 R128; reset 0). -/
  libChecked : Nat := 0
  /-- kernels to be unbound at the next boundary after their failures: tenant, kernel slot (06 R145; reset empty). -/
  kunbind : List (Nat × Nat) := []
  /-- kernel failures: tenant, kernel slot, ms (06 R145; reset empty). -/
  kfails : List (Nat × Nat × Nat) := []
  /-- acquisition (07). -/
  acq : AcqState := {}
deriving DecidableEq, Repr

end Sys2Proof.Machine
end

