-- ==== Sys2Proof/Machine/State.lean ====
section
/-! DEFINITION. The machine state: everything the spec gives the GV9600, as plain data, the queue of waiting commands and the free-value
counter; the state after reset; the reasons for a stop. -/

namespace Sys2Proof.Machine

/-- Faults. The spec gives every command of the table an effect, so no meaning of this model faults. -/
inductive Fault where
  /-- Raised by no command of this model; it stands so that the type is not empty. Safe. -/
  | none_
deriving DecidableEq, Repr

/-- Refusals. -/
inductive Refusal where
  /-- Raised by the dispatch for a command that has no meaning yet, under its mnemonic. Safe. -/
  | notModelled (mnemonic : String)
deriving DecidableEq, Repr

/-- The GV9600. -/
structure State where
  /-- element lanes, adits, haulage, lode (02, 03). -/
  smp : SampleState := {}
  /-- beams, nulls, coherence, assay (04, 05). -/
  arr : ArrayState := {}
  /-- channels and acquisition (06, 07). -/
  trk : TrackState := {}
  /-- plans, stopes, deadlines, maintenance (08, 09). -/
  fab : FabricState := {}
  /-- observations, time solution, integrity (10). -/
  sol : SolState := {}
  /-- synthesizers and timing ports (11). -/
  syn : SynState := {}
  /-- sessions and reports (12). -/
  ses : SessState := {}
  /-- tenants, kernels, tally book (13). -/
  ten : TenantState := {}
  /-- charter, fuses, boot (14). -/
  boo : BootState := {}
  /-- the 19 HB24 cores (15, 16). -/
  cor : CoresState := {}
  /-- clocks, time base, seams (17). -/
  clk : ClockState := {}
  /-- reset and power (18). -/
  pow : PowerState := {}
  /-- backup domain (19). -/
  bak : BackupState := {}
  /-- local ports, Ethernet, streams (20, 21). -/
  por : PortsState := {}
  /-- canaries, thermal control, wear (22). -/
  hea : HealthState := {}
  /-- commands waiting, first in, first out (the model's own queue; reset empty). -/
  pending : List Instr := []
  /-- the free-value counter: the number of free values taken so far (the model's own; reset 0, DESIGN CHOICE log 4). -/
  free : Nat := 0
deriving DecidableEq, Repr

/-- The machine right after a POWER-ON RESET (18 R442), every field at its reset value. -/
def State.reset : State := {}

end Sys2Proof.Machine
end

