-- ==== Sys2Proof/Machine/Ops.lean ====
section
/-! DEFINITION. The named operations that meanings share: time, free values, byte fields, packets, reports (12 R325, R326) and tally
records (13 R340, R574). -/

namespace Sys2Proof.Machine

/-- Replaces one element of a vector by a function of it. -/
def vupd {α : Type} {n : Nat} (v : Vector α n) (i : Fin n) (f : α → α) : Vector α n := v.set i (f v[i])

/-- The element with a natural index, or `d` outside the vector. -/
def vgetD {α : Type} {n : Nat} (v : Vector α n) (i : Nat) (d : α) : α := if h : i < n then v[i] else d

/-- Replaces the element with a natural index; outside the vector nothing changes. -/
def vupdN {α : Type} {n : Nat} (v : Vector α n) (i : Nat) (f : α → α) : Vector α n :=
  if h : i < n then v.set i (f v[i]) else v

/-- Adds without passing a maximum: the saturating counters of the spec. -/
def satAdd (m a b : Nat) : Nat := min m (a + b)

/-- The signed value of the low `n` bits. -/
def sx (n v : Nat) : Int := let x := v % 2 ^ n; if x < 2 ^ (n - 1) then (x : Int) else (x : Int) - (2 ^ n : Nat)

/-- The low `n` bits of an integer. -/
def bitsOf (n : Nat) (v : Int) : Nat := (v % ((2 ^ n : Nat) : Int)).toNat

/-- Bit k of a number. -/
def bit (v k : Nat) : Bool := v.testBit k

/-- Limits an integer to a range. -/
def clampI (lo hi v : Int) : Int := max lo (min hi v)

/-- Ticks of an epoch (01: 81.84 MHz × 1 ms). -/
def epochTicks : Nat := 81840

/-- Ticks of a second. -/
def secTicks : Nat := 81840000

/-- TCNT (17 R430). -/
def State.tcnt (s : State) : Nat := s.clk.tick % 2 ^ 48

/-- The whole-millisecond count of device time. -/
def State.ms (s : State) : Nat := s.clk.tick / epochTicks

/-- Milliseconds since the last POWER-ON RESET or SYSTEM RESET, for timers. -/
def State.upMs (s : State) : Nat := s.clk.up / epochTicks

/-- Edges of the 32.768 kHz crystal in the first `n` ticks after a reset, at nominal rates (19; log 8). -/
def crystalEdges (n : Nat) : Nat := n * 32768 / 81840000

/-- The backup counter over `e` crystal edges (19 R465, R468): each edge advances the count by 1, a pending payout adding or taking one
more tick at an edge; while the halt holds, the ticks accrue in `BK_HCNT`; at a release the count takes `BK_NEW` plus the held ticks. -/
def BackupState.edges (e tcnt : Nat) (b : BackupState) : BackupState :=
  if e = 0 then b
  else
    let p := clampI (-e) e b.payout
    let adv := ((e : Int) + p).toNat
    let b1 := { b with payout := b.payout - p, trimTicks := b.trimTicks + e, tempTicks := b.tempTicks + e, capt := tcnt }
    if b.tickHalt then { b1 with halted := true, hcnt := b.hcnt + adv }
    else if b.halted then { b1 with halted := false, count := (b.bkNew + b.hcnt + adv) % 2 ^ 48 }
    else { b1 with count := (b.count + adv) % 2 ^ 48 }

/-- The Overman's own figures about the domain start over at its reset; the domain keeps everything else (18 R447). -/
def BackupState.afterReset (b : BackupState) : BackupState :=
  { b with aligning := false, alignMs := 0, learn := none, vbatAt := none, vbatTold := none }

/-- Lets `n` ticks pass: TCNT counts, unless SYN-A has not locked yet (23 R546), and with it the backup counter's crystal (17 R430, 19 R465). -/
def State.wait (n : Nat) (s : State) : State :=
  let up := s.clk.up + n
  let e := crystalEdges up
  let at_ := if s.clk.runs then s.clk.tick + (e * 81840000 + 32767) / 32768 - s.clk.up else s.clk.tick
  { s with clk := { s.clk with tick := if s.clk.runs then s.clk.tick + n else s.clk.tick, up := up }
           bak := s.bak.edges (e - crystalEdges s.clk.up) (at_ % 2 ^ 48) }

/-- Lets time pass until `off` ticks after the last epoch boundary; nothing if that moment has passed. -/
def State.waitTo (off : Nat) (s : State) : State :=
  s.wait (off - s.clk.tick % epochTicks)

/-- D1 and D2 in ticks after the boundary (16 R418). -/
def d1Ticks : Nat := 24552
def d2Ticks : Nat := 61380

/-- The SYSTEM RESET is held: by RESET_N (18 R450), a thermal trip (18 R444) or TEST_EN (23 R558). -/
def State.held (s : State) : Bool := s.pow.resetHeld || s.pow.thermHold || s.pow.testEn

/-- The Overman and the fabric run: RUN as device state (14) and as power state (18 R453). -/
def State.awake (s : State) : Bool := s.boo.dstate == .run && s.pow.pst == .run

/-- The fabric runs: in RUN, and not while a boot waits for its first REFIN (23 R546). -/
def State.fabricUp (s : State) : Bool := s.awake && s.clk.runs

/-- The whole-millisecond count at the first boundary after now, with a change accepted now (01 R18, R19; 12 R316). While an epoch step
is staged, a change commits at the boundary after the step (17 R432). -/
def State.nextBoundary (s : State) : Nat :=
  match s.clk.step with
  | none => s.ms + 1
  | some st => max (s.ms + 1) (st.at_ + 1)

/-- The epoch step commits at the present boundary, at which no other change is due (17 R432). -/
def State.stepping (s : State) : Bool := s.clk.step.any (fun x => x.at_ != 0 && x.at_ == s.ms)

/-- Takes a free number. -/
def State.takeNat (s : State) : Nat × State := (Config.freeNat s.free, { s with free := s.free + 1 })

/-- Takes a free integer. -/
def State.takeInt (s : State) : Int × State := (Config.freeInt s.free, { s with free := s.free + 1 })

/-- Takes a free word. -/
def State.takeWord (s : State) : Word24 × State := (Config.freeWord s.free, { s with free := s.free + 1 })

/-- Takes `n` free bytes. -/
def State.takeBytes (n : Nat) (s : State) : List Byte × State :=
  ((List.range n).map (Config.freeByte s.free), { s with free := s.free + 1 })

/-- Unsigned little-endian field of `n` bytes at an offset; bytes beyond the end read 0. -/
def fieldAt (l : List Byte) (off n : Nat) : Nat := leNat ((l.drop off).take n)

def u8At (l : List Byte) (off : Nat) : Nat := fieldAt l off 1
def u16At (l : List Byte) (off : Nat) : Nat := fieldAt l off 2
def u32At (l : List Byte) (off : Nat) : Nat := fieldAt l off 4
def u64At (l : List Byte) (off : Nat) : Nat := fieldAt l off 8
def i8At (l : List Byte) (off : Nat) : Int := sx 8 (fieldAt l off 1)
def i16At (l : List Byte) (off : Nat) : Int := sx 16 (fieldAt l off 2)
def i32At (l : List Byte) (off : Nat) : Int := sx 32 (fieldAt l off 4)
def i64At (l : List Byte) (off : Nat) : Int := sx 64 (fieldAt l off 8)

/-- Whether `n` bytes from an offset are all 0: a reserved field (01 R9). -/
def zeroAt (l : List Byte) (off n : Nat) : Bool := ((l.drop off).take n).all (· == 0#8)

def b8 (v : Nat) : List Byte := leBytes 1 v
def b16 (v : Nat) : List Byte := leBytes 2 v
def b32 (v : Nat) : List Byte := leBytes 4 v
def b64 (v : Nat) : List Byte := leBytes 8 v
def bi16 (v : Int) : List Byte := leBytes 2 (bitsOf 16 v)
def bi32 (v : Int) : List Byte := leBytes 4 (bitsOf 32 v)
def bi64 (v : Int) : List Byte := leBytes 8 (bitsOf 64 v)
def bz (n : Nat) : List Byte := List.replicate n 0
def bbool (b : Bool) : Nat := if b then 1 else 0

/-- Exactly `n` bytes: the list cut or padded with 0. -/
def bpad (n : Nat) (l : List Byte) : List Byte := l.take n ++ bz (n - l.length)

/-- Header flags (12 R296). -/
def flReply : Nat := 1
def flQueue : Nat := 2
def flAckOnly : Nat := 4
def flAuth : Nat := 8
def flEvent : Nat := 16
def flInterim : Nat := 32
def flDup : Nat := 64

/-- The 24 header bytes (12 R296, R297). -/
def headerBytes (vmaj vmin flags opcode seq tenant role plen sid : Nat) : List Byte :=
  let h := b16 0x5647 ++ b8 vmaj ++ b8 vmin ++ b16 flags ++ b16 opcode ++ b32 seq ++ b8 tenant ++ b8 role ++ b16 plen ++ b32 sid
  h ++ b16 (crc16 h) ++ b16 0

def OutPkt.header (p : OutPkt) : List Byte :=
  headerBytes p.vmaj p.vmin p.flags p.opcode p.seq p.tenant p.role p.payload.length p.sid

/-- The packet's bytes on a transport. -/
def OutPkt.bytes (p : OutPkt) : List Byte := p.header ++ p.payload ++ p.tag

/-- Gives a packet its tag under a session key (12 R306). -/
def OutPkt.withTag (p : OutPkt) (key : List Byte) : OutPkt :=
  let q := { p with flags := p.flags ||| flAuth }
  { q with tag := (hmac256 key (q.header ++ q.payload)).take 16 }

/-- Gives a packet the tag of its session when that session has authenticated with a key. -/
def Session.sign (x : Session) (p : OutPkt) : OutPkt :=
  match x.key with
  | some k => if x.authed then p.withTag k else p
  | none => p

/-- The session runs at GCP 1 (01 R24, 12 R327). -/
def Session.gcp1 (x : Session) : Bool := x.vmaj == 1

/-- The report codes that GCP 1 knows (12 R327). -/
def gcp1Codes : List Nat :=
  [0x1001, 0x1002, 0x1003, 0x1101, 0x1102, 0x1201, 0x1202, 0x1301, 0x1401, 0x1501, 0x1601, 0x1701, 0x1702, 0x1801, 0x1901]

/-- The bit of `EVGRP` that selects a code (12 R323). -/
def codeGroup (code : Nat) : Nat := if code / 256 = 0x20 then 31 else code / 256 - 0x10

/-- Whether a session receives a report (12 R326, R327). -/
def Session.sees (x : Session) (code sev ten : Nat) : Bool :=
  decide (x.evsev ≤ sev) && bit x.evgrp (codeGroup code) &&
  (x.role != 1 || ten == 0xFF || ten == x.tenant) &&
  (!x.gcp1 || gcp1Codes.contains code)

/-- A report's payload: the 20-byte header of 12 R325 and the report's own payload; a GCP 1 session gets `ESEV` 2 (12 R327). -/
def reportPayload (r : Report) (gcp1 : Bool) : List Byte :=
  b16 r.ecode ++ b8 (if gcp1 then 2 else r.esev) ++ b8 r.eten ++ b32 r.eseq ++ b64 r.etick ++ b16 r.body.length ++ b16 0 ++ r.body

/-- The report packets of a session that wait to leave. -/
def eventsOf (sid : Nat) (l : List OutPkt) : List OutPkt := l.filter (fun p => p.sid == sid && bit p.flags 4)

/-- Removes the first element that meets a condition. -/
def dropFirst {α : Type} (f : α → Bool) : List α → List α
  | [] => []
  | x :: r => if f x then r else x :: dropFirst f r

/-- Queues a report for one session (12 R326): 64 at most, the oldest dropped and counted. -/
def queueReport (r : Report) (acc : List OutPkt × List Session) (x : Session) : List OutPkt × List Session :=
  if x.sees r.ecode r.esev r.eten then
    let full := decide (64 ≤ (eventsOf x.sid acc.1).length)
    let out := if full then dropFirst (fun p => p.sid == x.sid && bit p.flags 4) acc.1 else acc.1
    let x' := { x with evSeq := (x.evSeq + 1) % 2 ^ 32, evLost := if full then x.evLost + 1 else x.evLost }
    let p := x.sign
      { transport := x.transport, source := x.source, vmaj := x.vmaj, vmin := x.vmin, flags := flEvent, opcode := 0x00F0,
        seq := x'.evSeq, tenant := x.tenant, role := x.role, sid := x.sid, payload := reportPayload r x.gcp1, tag := [] }
    (out ++ [p], acc.2 ++ [x'])
  else (acc.1, acc.2 ++ [x])

/-- Sends a report (12 R325, R326) without a rate limit. -/
def State.reportNow (code sev ten : Nat) (body : List Byte) (s : State) : State :=
  let r : Report := { ecode := code, esev := sev, eten := ten, eseq := s.ses.eseq, etick := s.tcnt, body := body }
  let q := s.ses.open_.foldl (queueReport r) (s.ses.out, [])
  let all := s.ses.reports ++ [r]
  { s with ses := { s.ses with
      eseq := (s.ses.eseq + 1) % 2 ^ 32, out := q.1, open_ := q.2, reports := all.drop (all.length - 1024) } }

/-- A code was sent for a unit less than `gap` ms ago. -/
def State.toldWithin (gap code unit : Nat) (s : State) : Bool :=
  s.ses.told.any (fun t => t.1 == code && t.2.1 == unit && decide (s.upMs < t.2.2 + gap))

/-- Notes that a code was sent for a unit. -/
def State.noteTold (code unit : Nat) (s : State) : State :=
  { s with ses := { s.ses with
      told := s.ses.told.filter (fun t => !(t.1 == code && t.2.1 == unit)) ++ [(code, unit, s.upMs)] } }

/-- A line of a core's `INT_PEND` is signalled (16 R405); a core in lockup keeps every register (16 R407). -/
def CoreState.signal (line : Nat) (c : CoreState) : CoreState :=
  if c.lockup then c else { c with intPend := c.intPend ||| BitVec.twoPow 16 line }

/-- Signals a line of one core. -/
def State.signal (k : Fin 19) (line : Nat) (s : State) : State :=
  { s with cor := { s.cor with core := vupd s.cor.core k (CoreState.signal line) } }

/-- Sends a report at most once per second for a code and unit (12 R326). -/
def State.report (code sev ten unit : Nat) (body : List Byte) (s : State) : State :=
  if s.toldWithin 1000 code unit then s else (s.reportNow code sev ten body).noteTold code unit

/-- Sends `FAULT_CLEAR` (0x2004): the code cleared and the unit (12 R326). -/
def State.faultClear (code unit : Nat) (s : State) : State := s.report 0x2004 0 0xFF (65536 * code + unit) (b16 code ++ b16 unit)

/-- A tally record's bytes (13 R340): the 64-byte header and the body. -/
def TallyRec.bytes (r : TallyRec) : List Byte :=
  b16 0x4254 ++ b16 (64 + r.body.length) ++ b32 r.seq ++ b16 r.typ ++ b8 r.role ++ b8 r.tenant ++ b32 r.sid ++ b64 r.tm ++
  b64 r.tick ++ r.prev ++ r.body

/-- Pads a body with 0 to a multiple of 8 bytes (13 R574). -/
def pad8 (l : List Byte) : List Byte := l ++ bz ((8 - l.length % 8) % 8)

/-- Device time is known: TCNT was loaded or a solution has been taken (13 R340 `TB_TM`). -/
def State.timeKnown (s : State) : Bool := s.clk.loaded || s.clk.stepDone

/-- Bytes of a segment of the tally region (13 R341). -/
def segBytes : Nat := 65536

/-- The record with the next `TB_SEQ`, chained to the last one formed (13 R340). -/
def TallyState.next (t : TallyState) (typ role ten sid tm tick : Nat) (body : List Byte) : TallyRec :=
  { seq := t.nextSeq, typ := typ, role := role, tenant := ten, sid := sid, tm := tm, tick := tick, prev := t.lastHash, body := body }

/-- Queues a record just formed; its bytes count in the open segment (13 R341, R343). -/
def TallyState.push (t : TallyState) (r : TallyRec) : TallyState :=
  { t with queue := t.queue ++ [r], nextSeq := t.nextSeq + 1, lastHash := sha256 r.bytes, segUsed := t.segUsed + r.bytes.length }

/-- A record of `n` bytes needs a new segment: none is open, or it would span two (13 R341). -/
def TallyState.full (t : TallyState) (n : Nat) : Bool := t.segNo == 0 || decide (segBytes < t.segUsed + n)

/-- `TB_SEQ` of the next record of `n` bytes: a `SEGMENT_SEAL` may come before it. -/
def TallyState.seqFor (t : TallyState) (n : Nat) : Nat := if t.full n then t.nextSeq + 1 else t.nextSeq

/-- A segment in flash holds records above `EXP_SEQ` (13 R342). -/
def TallyState.unexported (t : TallyState) (seg : Nat) : Bool := t.flash.any (fun x => x.1 == seg && decide (t.head.exp < x.2.seq))

/-- Opens the next segment with its `SEGMENT_SEAL` (13 R340, R342, R574), which counts the segment that makes room for it. -/
def TallyState.seal (t : TallyState) (tm tick : Nat) : TallyState :=
  let n := t.segNo + 1
  let lost := if 128 < n ∧ t.unexported (n - 128) = true then min 0xFFFF (t.sealLost + 1) else t.sealLost
  let u := { t with segNo := n, segUsed := 0, sealLost := lost }
  u.push (u.next 0x0003 0xFE 0xFF 0 tm tick (b32 n ++ b16 lost ++ b16 0))

/-- Forms a tally record and queues it for flash (13 R340, R341, R343). -/
def State.tally (typ role ten sid : Nat) (body : List Byte) (s : State) : State :=
  let tm := if s.timeKnown then s.ms else 0
  let b := pad8 body
  let t := if s.ten.tally.full (64 + b.length) then s.ten.tally.seal tm s.bak.count else s.ten.tally
  { s with ten := { s.ten with tally := t.push (t.next typ role ten sid tm s.bak.count b) } }

/-- A record of the GV9600 itself (`TB_ROLE` 0xFE). -/
def State.tallyOwn (typ ten : Nat) (body : List Byte) (s : State) : State := s.tally typ 0xFE ten 0 body

/-- The queue of tally records has room for a command's record (13 R343). -/
def State.tallyRoom (s : State) : Bool := decide ((s.ten.tally.queue.filter (fun r => r.role != 0xFE)).length < 512)

/-- A signed quotient without a stated rounding: the floor, or the next integer where the quotient is not exact (log 6). -/
def quotI (a b : Int) : Int := if a % b = 0 then a / b else if Config.roundUp a b then a / b + 1 else a / b

/-- Rounds a / b to the nearest integer with ties toward +∞. -/
def roundDiv (a : Int) (b : Nat) : Int := (2 * a + b) / (2 * b)

end Sys2Proof.Machine
end

