-- ==== Sys2Proof/Machine/Charter.lean ====
section
/-! DEFINITION. The charter's contents (14 R355–R362): the header, the directory and the sections whose bytes the spec lays out, and, for the
sections it describes by their contents only, constants of the implementation that read them (log 11). -/

namespace Sys2Proof.Machine

/-- `DEVICE` (14 charter sections): reference frequency (kHz), its uncertainty, the reference site, the transports that carry commands
(bit t for transport code t, the UDP and raw-frame enables included), mode codes of ETH0 and ETH1 (21 R501). -/
structure DeviceSec where
  refFreq : Nat := 0
  refUnc : Nat := 0
  refSite : Nat := 0
  cmdPorts : Nat := 0x3F
  eth : Nat × Nat := (0, 0)
deriving DecidableEq, Repr, Inhabited

/-- A site of `SITES`: survey mode, ECEF position (0.1 mm) and 1-sigma, antenna delay (ps) and phase-centre offset (0.1 mm of range, log 56) per
band, antenna descriptor, antenna serial and setup ID. -/
structure SiteSec where
  mode : Nat := 0
  pos : Int × Int × Int := (0, 0, 0)
  sig : Nat := 0
  antDly : PerBand Int := ⟨0, 0, 0⟩
  pco : PerBand Int := ⟨0, 0, 0⟩
  antenna : List Byte := []
  antSerial : List Byte := []
  setup : Nat := 0
deriving DecidableEq, Repr, Inhabited

/-- An element of `ELEMENTS`: fitted, site, offset (0.1 mm, ENU), highest rate and width codes, band mask. -/
structure ElemSec where
  fitted : Bool := false
  site : Nat := 0
  off : Int × Int × Int := (0, 0, 0)
  maxRate : Nat := 0
  maxWidth : Nat := 0
  bands : Nat := 0
deriving DecidableEq, Repr, Inhabited

/-- An entry of `PORTS`: the port, the bytes of its configuration block, its owner. -/
structure PortSec where
  tp : Nat := 0
  block : List Byte := []
  owner : Nat := 0xFF
deriving DecidableEq, Repr, Inhabited

/-- An entry of `TENANTS`: the tenant and its quota list as parameter numbers and values. -/
structure TenSec where
  t : Nat := 0
  quota : List (Nat × Int) := []
deriving DecidableEq, Repr, Inhabited

/-- `INTEGRITY`: an OSNMA root is given, the OSNMA requirement, the signature requirement. -/
structure IntegSec where
  root : Bool := false
  osnmaReq : Nat := 0
  sigReq : Nat := 0
deriving DecidableEq, Repr, Inhabited

/-- The byte layout of sections that the spec does not give (log 11). -/
opaque Config.readDevice : List Byte → DeviceSec
opaque Config.readSites : List Byte → List SiteSec
opaque Config.readElements : List Byte → List ElemSec
opaque Config.readPorts : List Byte → List PortSec
opaque Config.readTenants : List Byte → List TenSec
/-- Secrets: role 1 operator with its tenant or 2 installer, and 32 bytes (log 11). -/
opaque Config.readSecrets : List Byte → List (Nat × Nat × List Byte)
opaque Config.readIntegrity : List Byte → IntegSec
/-- The ranges of a `SECRETS` section that hold secret bytes, which `CHARTER_READ` returns as 0: offset and length (log 11). -/
opaque Config.secretSpans : List Byte → List (Nat × Nat)

/-- A directory entry (08 R190): type, offset, length, CRC-32. -/
structure DirEntry where
  typ : Nat
  off : Nat
  len : Nat
  crc : Nat
deriving DecidableEq, Repr

/-- The directory of an image with `n` sections, from byte `base` on: after the 64-byte header of a charter, the 128-byte one of a plan
(08 R190). -/
def directory (base : Nat) (b : List Byte) (n : Nat) : List DirEntry :=
  (List.range n).map (fun i =>
    let o := base + 16 * i
    ⟨u16At b o, u32At b (o + 4), u32At b (o + 8), u32At b (o + 12)⟩)

/-- The bytes of the section of a type; empty when there is none. -/
def sectionOf (b : List Byte) (dir : List DirEntry) (typ : Nat) : List Byte :=
  match dir.find? (fun d => d.typ == typ) with
  | some d => (b.drop d.off).take d.len
  | none => []

/-- A charter's sections. -/
def charterDir (b : List Byte) : List DirEntry := directory 64 b (u16At b 6)
def charterSec (b : List Byte) (typ : Nat) : List Byte := sectionOf b (charterDir b) typ

/-- The behaviour baseline, flags, boot plan and generation of a charter (14 header). -/
def charterGen (b : List Byte) : Nat := u32At b 12
def charterBaseline (b : List Byte) : Nat := u16At b 16
def charterFlags (b : List Byte) : Nat := u16At b 18
def charterBootPlan (b : List Byte) : Nat := u32At b 20
def charterTrust (b : List Byte) : Bool := bit (charterFlags b) 0
/-- `LOCKMASK` (14 `LOCKS`). -/
def charterLocks (b : List Byte) : Nat := u32At (charterSec b 9) 0
def charterDevice (b : List Byte) : DeviceSec := if b.isEmpty then {} else Config.readDevice (charterSec b 1)
def charterSites (b : List Byte) : List SiteSec := if b.isEmpty then [] else Config.readSites (charterSec b 2)
def charterElems (b : List Byte) : List ElemSec := if b.isEmpty then [] else Config.readElements (charterSec b 3)
def charterPorts (b : List Byte) : List PortSec := if b.isEmpty then [] else Config.readPorts (charterSec b 4)
def charterTenants (b : List Byte) : List TenSec := if b.isEmpty then [] else Config.readTenants (charterSec b 5)
def charterSecrets (b : List Byte) : List (Nat × Nat × List Byte) := if b.isEmpty then [] else Config.readSecrets (charterSec b 6)
def charterInteg (b : List Byte) : IntegSec := if b.isEmpty then {} else Config.readIntegrity (charterSec b 7)

/-- An ECDSA P-384 signature over a SHA-384 hash verifies under a 97-byte public key; r and s are 48 bytes, big-endian (08 R198). -/
def ecVerify (key hash r s : List Byte) : Bool :=
  match ecPub key with
  | none => false
  | some q => ecdsaOk q hash (beNat r) (beNat s)

/-- Whether a `SIG` block at `off` holds a valid signature under a key whose SHA-384 is `keyHash`: over the bytes before the block as they stand
(08 R198). -/
def sigOk (b : List Byte) (off : Nat) (keyHash : List Byte) : Bool :=
  let g := b.drop off
  let key := (g.drop 4).take 97
  u16At g 0 == 1 && sha384 key == keyHash &&
  ecVerify key (sha384 (b.take off)) ((g.drop 104).take 48) ((g.drop 152).take 48)

/-- The reserved bytes of a `SIG` block at `off` are 0 (08 R198). -/
def sigReserved (b : List Byte) (off : Nat) : Bool := zeroAt (b.drop off) 2 2 && zeroAt (b.drop off) 101 3

/-- The fused installer key hash as bytes, when it is written (14 fuses). -/
def State.instKey (s : State) : List Byte := beBytes 48 s.boo.fuses.instKey.val

/-- SHA-384 of the site and element table (14 R356). -/
def siteHash (b : List Byte) : List Byte := sha384 (charterSec b 2 ++ charterSec b 3)

/-- A parameter list entry as it stands in a command (12 R321): `PID` and `PVAL`. -/
def parEntries (b : List Byte) : List (Nat × Int) :=
  (List.range (u8At b 0)).map (fun i => (u8At b (4 + 8 * i), i32At b (8 + 8 * i)))

/-- The parameter lists of `PARAMS` (14): opcode, `SCOPE`, entries. `fuel` bounds the walk. -/
def paramLists : Nat → List Byte → List (Nat × Nat × List (Nat × Int))
  | 0, _ => []
  | n + 1, b =>
    if b.length < 8 then []
    else
      let pay := b.drop 4
      let l := 4 + 8 * u8At pay 0
      (u16At b 0, u16At pay 2, parEntries pay) :: paramLists n (b.drop (4 + l))
def charterParams (b : List Byte) : List (Nat × Nat × List (Nat × Int)) :=
  let sec := charterSec b 8
  paramLists sec.length sec

/-- An element's record in the charter in force; not fitted when it has none. -/
def State.elem (s : State) (n : Nat) : ElemSec := (charterElems s.boo.charter).getD n {}

/-- A site's record in the charter in force. -/
def State.site (s : State) (n : Nat) : Option SiteSec := (charterSites s.boo.charter)[n]?

/-- Fitted elements, ascending. -/
def State.fitted (s : State) : List Nat := (List.range 96).filter (fun n => (s.elem n).fitted)

/-- The secret in effect for a role and tenant (12 R309, 13 R331): the overlay's while it is of the generation in force, else the charter's; none
for a tenant that is not present in the table in force. -/
def State.secret (s : State) (role ten : Nat) : Option (List Byte) :=
  if role = 1 ∧ !(vgetD s.ten.t ten {}).present then none
  else match ((if s.ten.overlayGen = some s.boo.cgen then s.ten.overlaySec else []) ++ charterSecrets s.boo.charter).find? (fun x => x.1 == role && x.2.1 == ten) with
  | some x => some x.2.2
  | none => none

end Sys2Proof.Machine
end

