-- ==== Sys2Proof/Machine/Reset.lean ====
section
/-! DEFINITION. What each reset level clears (18 R442, R446–R448 and the table "What each level clears"). Flash contents, fuses and
the backup domain outlive every level. The boot that follows is the row BOOT. -/

namespace Sys2Proof.Machine

/-- Bits of `RST_CAUSE` (18 R442, R446). -/
def rcPor : Nat := 1
def rcBor : Nat := 2
def rcPin : Nat := 4
def rcTherm : Nat := 8
def rcDbgSys : Nat := 16
def rcCmdSys : Nat := 32
def rcWdog : Nat := 64
def rcDeadline : Nat := 128
def rcLockup : Nat := 256
def rcCmdCore : Nat := 512
def rcDbgCore : Nat := 1024
def rcBkwake : Nat := 2048
def rcVbatLost : Nat := 4096

/-- Acquisition's flash copies, which outlive every reset (07 R162). -/
def AcqState.flashOnly (a : AcqState) : AcqState := { ephFlash := a.ephFlash, almFlash := a.almFlash }

/-- The tally book's parts that outlive a reset of the Overman: flash, head and, in the preserved area, the queue (18 R448). Without the
queue, the open segment is the last one in flash. -/
def TallyState.survive (keepQueue : Bool) (t : TallyState) : TallyState :=
  if keepQueue then { t with verify := none }
  else
    let seg := (t.flash.getLast?.map (·.1)).getD 0
    { flash := t.flash, head := t.head, segNo := seg, segLost := t.segLost, sealLost := t.segLost
      segUsed := ((t.flash.filter (fun x => x.1 == seg)).map (fun x => x.2.bytes.length)).foldl (· + ·) 0
      nextSeq := t.head.seq + 1, lastHash := t.head.hash }

/-- Parts of the charter state that lie in flash, fuses or the strap latch. -/
def BootState.survive (b : BootState) : BootState :=
  { strap := b.strap, strapErr := b.strapErr, lockViolation := b.lockViolation, fuses := b.fuses, copies := b.copies,
    prov := b.prov, plansFlash := b.plansFlash }

/-- Wear entries and the remap list, which the firmware area and the flash keep (22 R520, R523). -/
def HealthState.survive (h : HealthState) : HealthState := { wear := h.wear.map (fun w => { w with measAt := none }), remap := h.remap, nextProp := h.nextProp, minutes := h.minutes }

/-- A synthesizer after a reset: it locks where REFIN is valid (23 R546). -/
def State.lockNow (s : State) : SynLock := if s.syn.refValid then .locked else .coasting

/-- Everything a POWER-ON RESET or SYSTEM RESET clears, with `RST_CAUSE` as given (18). -/
def State.hardReset (cause : Nat) (s : State) : State :=
  { arr := { assay := { stored := s.arr.assay.stored } }
    trk := { acq := s.trk.acq.flashOnly }
    fab := { sparing := s.fab.sparing }
    sol := { surveyHash := s.sol.surveyHash }
    syn := { refValid := s.syn.refValid, synA := s.lockNow, bank := Vector.replicate 4 s.lockNow }
    clk := { runs := s.syn.refValid }
    ten := { overlayGen := s.ten.overlayGen, overlayTab := s.ten.overlayTab, overlaySec := s.ten.overlaySec,
             tally := s.ten.tally.survive false }
    boo := s.boo.survive
    pow := { rstCause := cause, resetHeld := s.pow.resetHeld, thermHold := s.pow.thermHold, testEn := s.pow.testEn }
    bak := s.bak.afterReset
    por := { wakePort := s.por.wakePort }
    hea := { s.hea.survive with sens := s.hea.sens.map (fun x => { reading := x.reading, hours := x.hours }), tj := s.hea.tj }
    pending := s.pending
    free := s.free }

/-- A SYSTEM RESET by a source (18 R442): `RST_CAUSE` is kept and the source's bit set. -/
def State.systemReset (bits : Nat) (s : State) : State := s.hardReset (s.pow.rstCause ||| bits)

/-- The code of a strap reading: an open pin reads code 0, a reading outside every class code 3 with `STRAP_ERR` (14 R351). -/
def strapCode (x : Strap) : Nat × Bool :=
  match x.code with
  | some c => (c.val, false)
  | none => (3, true)

/-- The device profile of a strap code: Lyparil for codes 6–11 and 13 (14 boot configurations). -/
def strapLyparil (c : Nat) : Bool := decide ((6 ≤ c ∧ c ≤ 11) ∨ c = 13)

/-- The wake-port address of a strap code (14 boot configurations). -/
def strapWake (c : Nat) : Nat := if c = 1 ∨ c = 7 then 0x4B else if c = 12 ∨ c = 13 then 0x5C else 0x4A

/-- A POWER-ON RESET (18 R446): `RST_CAUSE` cleared and set, the strap read again, the wake-port address latched (18 R455). It follows a wake
from BACKUP when the wake has asserted `PWR_REQ`. -/
def State.powerOnReset (strap : Strap) (brown : Bool) (s : State) : State :=
  let bkwake := s.pow.pst == .backup && s.bak.pwrReq
  let cause := rcPor ||| (if brown then rcBor else 0) ||| (if bkwake then rcBkwake else 0) ||| (if s.bak.lost then rcVbatLost else 0)
  let c := strapCode strap
  let r := ({ s with syn := { s.syn with refValid := false } }).hardReset cause
  { r with
    boo := { r.boo with strap := c.1, strapErr := c.2 }
    bak := { r.bak with wkpAddr := strapWake c.1, lost := false, pwrReq := true,
                        lastWake := if brown && s.pow.pst != .backup then 0 else r.bak.lastWake } }

/-- `SESSION_CLOSE` of one session (13 R574). -/
def closeRecord (cause : Nat) (s : State) (x : Session) : State :=
  s.tally 0x0101 0xFE x.tenant x.sid (b8 cause ++ bz 7)

/-- `DEFER_DROPPED` of one accepted change; the status is the one the command would return, free where the boundary never comes. -/
def dropRecord (s : State) (a : Accepted) : State :=
  let f := s.takeNat
  f.2.tallyOwn 0x0201 a.tenant (b32 a.seq ++ b16 a.opcode ++ b16 f.1 ++ b64 a.commit)

/-- `MAINT` record of an aborted activity (13 R574). -/
def abortRecord (s : State) (a : Activity) : State :=
  s.tallyOwn 0x0400 0xFF (b8 a.code ++ b8 2 ++ b8 0 ++ b8 0 ++ b32 a.actId ++ b32 (if a.code = 2 then a.arg % 0x100 else a.arg) ++ b32 a.arg2)

/-- A capture region after a CORE RESET: `READING` returns to `HELD` (21 R517); the others are cleared. -/
def Region.afterCore (r : Region) : Region :=
  if r.cstate = .reading then { r with cstate := .held } else {}

/-- A core after a CORE RESET: the Overman keeps its preserved area, 0x07_C000–0x07_FFFF (18 R448). -/
def CoreState.afterCore (overman : Bool) (c : CoreState) : CoreState :=
  if overman then { dmem := c.dmem.filter (fun x => decide (0x7C000 ≤ x.1)) } else {}

/-- An island after a CORE RESET: its generator restarts from the cap in force and its seam counters clear (17 R441). -/
def IslandState.afterCore (up : Nat) (i : IslandState) : IslandState :=
  { i with istate := .running, retry := 0, forced := 0, broken := 0, gen := i.cap, genAt := up }

/-- An Ethernet port after a CORE RESET: link and timestamping kept, queues flushed (18). -/
def EthState.afterCore (e : EthState) : EthState := { mode := e.mode, link := e.link, par := e.par, rxdrop := e.rxdrop }

/-- A timing port through a CORE RESET (11 R288; 12 R317): it runs on; what was to commit is dropped, and a burst ends without a result. -/
def PortState.afterCore (x : PortState) : PortState :=
  { x with staged := none, enStaged := none, burst := none, burstReq := none, pstate := if x.pstate = .cal then .off else x.pstate }

/-- A CORE RESET by a source (18 R447, R448; 12 R309, R317; 09 R228). A watchdog expiry or lockup leaves a crash record; the session of a maker
ends with it, which leads to a SYSTEM RESET (13 R349). -/
def State.coreReset (bits : Nat) (s0 : State) : State :=
  let s1 := s0.ses.open_.foldl (closeRecord 3) s0
  let s2 := s1.ses.accepted.foldl dropRecord s1
  let s := s2.fab.acts.foldl abortRecord s2
  let ov := s.cor.core[18]
  let crash := if bits &&& (rcWdog ||| rcLockup) ≠ 0
    then some ⟨ov.pc, ov.st.toNat, ov.excCause.toNat, ov.excAddr.toNat⟩ else s.pow.crash
  { s with
    smp := { s.smp with headers := [], block := [], blockK := 0,
                        lode := { s.smp.lode with mem := [], badWords := [], swap := none,
                                                  regions := s.smp.lode.regions.map Region.afterCore } }
    arr := { assay := { stored := s.arr.assay.stored } }
    trk := { acq := s.trk.acq.flashOnly }
    fab := { sparing := s.fab.sparing }
    sol := { holdover := true, holdSince := s.ms, surveyHash := s.sol.surveyHash }
    syn := { s.syn with targets := [], hoBase := none, hoTold := false, pullLeft := 0, yPull := 0, phiTarget := s.syn.phiT, refRange := 0
                        ditherStaged := [], paramsStaged := none, pathAt := none, ports := s.syn.ports.map PortState.afterCore }
    ses := {}
    ten := { overlayGen := s.ten.overlayGen, overlayTab := s.ten.overlayTab, overlaySec := s.ten.overlaySec,
             tally := s.ten.tally.survive true }
    boo := { s.boo with dstate := .boot, restart := true, resumed := false, holdCause := 0, liveCommit := none,
                        pendingEnable := s.boo.pendingEnable, planVerify := none }
    cor := { core := Vector.ofFn (fun i => (s.cor.core[i]).afterCore (i.val == 18)) }
    clk := { s.clk with step := none, brokenSeams := [], seamTold := [], isl := s.clk.isl.map (IslandState.afterCore s.clk.up) }
    pow := { rstCause := s.pow.rstCause ||| bits, crash := crash, resetHeld := s.pow.resetHeld, testEn := s.pow.testEn, pinsHighZ := false, leftReset := s.clk.up
             delayed := if s.ses.open_.any (fun x => x.role == 3 && x.authed) then some (1, s.clk.up) else none }
    bak := s.bak.afterReset
    por := { s.por with spi := {}, u0in := [], eth := s.por.eth.map EthState.afterCore, streams := [] }
    hea := { s.hea with
      props := s.hea.props.map (fun p => if p.scause == 5 && p.sstate == 0 then { p with sstate := 3 } else p), therm := thermReset, thermStaged := none, canary := {}, canaryStaged := none } }

end Sys2Proof.Machine
end

