-- ==== Sys2Proof/Machine/Cmd.lean ====
section
/-! DEFINITION. The command channel (12): the checks of a received packet (R298), the reply cache (R311), the window (R312), the order of
request checks (R315), the reply (R299), its form in GCP 1 (R327), and the tally record of a change (13 R340, R343). -/

namespace Sys2Proof

open Machine

/-- The declared payload. -/
def Packet.body (p : Packet) : List Byte := p.payload.take p.plen

/-- Bytes of a header as received, `HCRC` and the reserved field included (12 R296). -/
def Packet.header (opcode : Nat) (p : Packet) : List Byte :=
  b16 p.magic ++ b8 p.vmaj ++ b8 p.vmin ++ b16 p.flags ++ b16 opcode ++ b32 p.seq ++ b8 p.tenant ++ b8 p.role ++ b16 p.plen ++
  b32 p.sid ++ b16 p.hcrc ++ b16 0

/-- The packet has its `AUTH` flag set. -/
def Packet.authFlag (p : Packet) : Bool := bit p.flags 3

/-- The packet fails a check that discards it whatever its session: magic, CRC, flags, length (12 R298). -/
def Packet.malformed (opcode : Nat) (p : Packet) : Bool :=
  p.magic != 0x5647 || p.hcrc != crc16 ((p.header opcode).take 20) || bit p.flags 0 || bit p.flags 4 ||
  decide (p.payload.length < p.plen) || (p.authFlag && decide (p.tag.length < 16))

/-- More bytes follow than the header declares, on a transport that answers it with `BAD_LENGTH` (12 R298). -/
def Packet.overlong (p : Packet) : Bool :=
  (p.transport == 0 || p.transport == 1 || p.transport == 4 || p.transport == 5) &&
  (decide (0 < p.extra) || decide (p.plen < p.payload.length) || (!p.authFlag && decide (0 < p.tag.length)))

/-- The reply packet to a request, without a tag (12 R296, R299). -/
def Packet.answer (opcode : Nat) (p : Packet) (vmaj vmin sid : Nat) (interim : Bool) (payload : List Byte) : OutPkt :=
  { transport := p.transport, source := p.source, vmaj := vmaj, vmin := vmin, flags := flReply + (if interim then flInterim else 0)
    opcode := opcode, seq := p.seq, tenant := p.tenant, role := p.role, sid := sid, payload := payload, tag := [] }

end Sys2Proof

namespace Sys2Proof.Machine

/-- Status codes (12 R300). -/
def stOk : Nat := 0x0000
def stAccepted : Nat := 0x0001
def stBadOpcode : Nat := 0x0101
def stBadLength : Nat := 0x0102
def stBadParam : Nat := 0x0103
def stBadVersion : Nat := 0x0104
def stDeniedRole : Nat := 0x0201
def stDeniedTenant : Nat := 0x0202
def stAuthFail : Nat := 0x0203
def stLocked : Nat := 0x0301
def stBusyMaint : Nat := 0x0302
def stBusy : Nat := 0x0303
def stNoCapacity : Nat := 0x0304
def stInHold : Nat := 0x0305
def stPlanRejected : Nat := 0x0401
def stCertFail : Nat := 0x0402
def stSignatureFail : Nat := 0x0403
def stInternal : Nat := 0x0501

/-- A command's answer before it becomes a reply packet (12 R299). -/
structure Reply where
  status : Nat
  detail : Nat := 0
  field : Nat := 0xFFFF
  item : Nat := 0
  qpos : Nat := 0
  commit : Nat := 0
  activity : Nat := 0
  actId : Nat := 0
  actStart : Nat := 0
  data : List Byte := []
  interim : Bool := false

def Reply.ok (data : List Byte) : Reply := { status := stOk, data := data }
def Reply.accepted (commit : Nat) : Reply := { status := stAccepted, commit := commit }
def Reply.badParam (field : Nat) : Reply := { status := stBadParam, field := field }
def Reply.fail (status : Nat) : Reply := { status := status }

/-- The command changes something: it returned `OK` or `ACCEPTED` (12 R314). -/
def Reply.good (r : Reply) : Bool := r.status == stOk || r.status == stAccepted

/-- The status prefix (12 R299). -/
def Reply.prefix_ (r : Reply) : List Byte :=
  if r.status = stOk then b16 0 ++ bz 2
  else if r.status = stAccepted then b16 1 ++ b8 r.qpos ++ bz 1 ++ b64 r.commit
  else if r.status = stBusyMaint then b16 r.status ++ b8 r.activity ++ bz 1 ++ b32 r.actId ++ b64 r.actStart
  else b16 r.status ++ b16 r.detail ++ b16 r.field ++ bz 2 ++ b32 r.item

/-- The reply payload; with `ACK_ONLY` it ends after the prefix (12 R299). -/
def Reply.payload (r : Reply) (ackOnly : Bool) : List Byte := if ackOnly then r.prefix_ else r.prefix_ ++ r.data

/-- The GCP 1 form of an answer (12 R327). -/
def Reply.gcp1 (r : Reply) : Reply :=
  if r.status = stAccepted then { r with status := stOk, data := [] }
  else if r.status = stBusyMaint ∨ r.status = stNoCapacity ∨ r.status = stInHold then { r with status := stBusy }
  else if r.status = stDeniedTenant ∨ r.status = stLocked then { r with status := stDeniedRole }
  else r

/-- A request that has reached execution: its opcode, packet and session. -/
structure Req where
  opcode : Nat
  p : Packet
  x : Session

/-- The request's payload. -/
def Req.pay (r : Req) : List Byte := r.p.body

/-- What a command's chapter says of it. `param` answers the offset of the first field at fault (12 R315, check 7); `run` makes checks 8
to 10 and executes; `hold` marks what runs in HOLD (R319), `idle` what IDLE answers without ending (18 R453). A field that a command leaves
out takes the default of R319 and R320; `foreign` is the offset of the unit that belongs to another tenant (R299 `FIELD`). -/
structure CmdSpec where
  opcode : Nat
  role : Req → State → Bool
  tenant : Req → State → Bool := fun _ _ => true
  foreign : Req → State → Nat := fun _ _ => 0
  len : Req → Bool
  hold : Bool := false
  idle : Bool := false
  gcp1 : Bool := false
  param : Req → State → Option Nat := fun _ _ => none
  changes : Req → Bool := fun _ => false
  run : Req → State → Reply × State
  after : Req → State → State := fun _ s => s

/-- The role in effect: `NONE` until a session that must authenticate has done so (12 R303). -/
def Req.role (r : Req) : Nat := if r.x.authm != 0 && !r.x.authed then 0 else r.x.role

/-- Role defaults (12 R319): every role but `NONE`, the installer, the operator. -/
def roleAny : Req → State → Bool := fun r _ => r.role != 0
def roleInstaller : Req → State → Bool := fun r _ => r.role == 2
def roleOperator : Req → State → Bool := fun r _ => r.role == 1
/-- Roles of a configuration command that an operator may use on its own units: the installer and the operator. -/
def roleInstOp : Req → State → Bool := fun r _ => r.role == 2 || r.role == 1
/-- Every role, `NONE` included (12 R303). -/
def roleAll : Req → State → Bool := fun _ _ => true

/-- The first condition that holds gives its field offset. -/
def firstBad : List (Bool × Nat) → Option Nat
  | [] => none
  | (b, f) :: r => if b then some f else firstBad r

/-- The transports open for commands (14 R351, R364; `CMD_PORTS`): by the strap in BOOT and HOLD, by the charter in RUN; none while the
device sleeps or is held in reset (18 power states). -/
def State.carries (s : State) (t : Nat) : Bool :=
  let strap := s.boo.strap
  let byStrap :=
    if strap = 3 ∨ strap = 4 ∨ strap = 9 ∨ strap = 15 then t == 4
    else if strap = 10 ∨ strap = 14 then t == 5
    else if strap = 5 ∨ strap = 11 then t != 4
    else true
  decide (t < 6) && !s.held && (s.pow.pst == .run || s.pow.pst == .idle) &&
  s.boo.dstate != .boot && (if s.boo.dstate = .run then bit (charterDevice s.boo.charter).cmdPorts t else byStrap)

/-- Finds the session of an id. -/
def State.session (s : State) (sid : Nat) : Option Session := s.ses.open_.find? (fun x => x.sid == sid)

/-- Changes one session. -/
def State.mapSession (sid : Nat) (f : Session → Session) (s : State) : State :=
  { s with ses := { s.ses with open_ := s.ses.open_.map (fun x => if x.sid == sid then f x else x) } }

/-- Puts a packet on its way. -/
def State.send (p : OutPkt) (s : State) : State := { s with ses := { s.ses with out := s.ses.out ++ [p] } }

/-- Counts a discard against a session (12 R298). -/
def State.discardIn (sid : Nat) (s : State) : State := s.mapSession sid (fun x => { x with discards := x.discards + 1 })

/-- Counts a discard of a packet that names no session. -/
def State.discardStray (s : State) : State := { s with ses := { s.ses with strayDiscards := s.ses.strayDiscards + 1 } }

/-- The reply to a request of a session, in the session's version and with its tag (12 R299, R302, R306, R327). -/
def Req.reply (r : Req) (a : Reply) : OutPkt :=
  let b := if r.x.gcp1 then a.gcp1 else a
  r.x.sign (r.p.answer r.opcode r.x.vmaj r.x.vmin r.x.sid b.interim (b.payload (bit r.p.flags 2)))

/-- Enters a reply into the cache of the session's last 8 (12 R311). -/
def Session.remember (x : Session) (seq : Nat) (o : OutPkt) : Session :=
  { x with cache := ((seq, o) :: x.cache.filter (fun c => c.1 != seq)).take 8 }

/-- The `CONFIG` record of a command (13 R340, R574). -/
def Req.record (r : Req) (a : Reply) (s : State) : State :=
  s.tally 0x0200 r.x.role r.x.tenant r.x.sid
    (b16 r.opcode ++ b16 a.status ++ b32 r.p.seq ++ b64 a.commit ++ b16 r.p.plen ++ bz 6 ++ sha256 r.pay)

/-- IDLE ends (18 R453, R458); its clocks are ungated at the first boundary after. -/
def State.leaveIdle (code index : Nat) (s : State) : State :=
  if s.pow.pst = .idle then
    { s with pow := { s.pow with pst := .run, pending := none, wdFrom := s.clk.up }, bak := { s.bak with lastWake := code + 16 * index } }
  else s

/-- The checks 2 to 7 of R315 and the execution; check 1 has passed. Opcodes outside GCP 1's subset are undefined there (12 R327). In
BOOT a request has the rights of HOLD (log 13). -/
def CmdSpec.serve (c : CmdSpec) (r : Req) (s : State) : Reply × State :=
  if r.x.gcp1 && !c.gcp1 then (.fail stBadOpcode, s)
  else if r.p.role != r.x.role || !c.role r s then (.fail stDeniedRole, s)
  else if r.p.tenant != r.x.tenant then (.fail stDeniedTenant, s)
  else if !c.tenant r s then ({ status := stDeniedTenant, field := c.foreign r s }, s)
  else if r.p.overlong || !c.len r then (.fail stBadLength, s)
  else if s.boo.dstate != .run && !c.hold then (.fail stInHold, s)
  else
    let s := if c.idle then s else s.leaveIdle 8 0
    match c.param r s with
    | some f => (.badParam f, s)
    | none =>
      if c.changes r && !s.tallyRoom then (.fail stBusy, s)
      else
        let a := c.run r s
        if c.changes r && a.1.good then (a.1, c.after r (r.record a.1 a.2)) else a

/-- Sends the answer of a session's request and remembers it. -/
def State.finish (r : Req) (a : Reply) (s : State) : State :=
  let o := r.reply a
  (s.send o).mapSession r.x.sid (fun x =>
    let y := x.remember r.p.seq o
    if a.interim then { y with outstanding := y.outstanding ++ [(r.p.seq, bit r.p.flags 2)] } else y)

/-- The final reply to a request that got an `INTERIM` one, with `ACK_ONLY` the prefix only (12 R299, R313); nothing when its session has closed. -/
def State.finalReply (opcode sid seq : Nat) (a : Reply) (s : State) : State :=
  match s.session sid with
  | none => s
  | some x =>
    let b := if x.gcp1 then a.gcp1 else a
    let o := x.sign
      { transport := x.transport, source := x.source, vmaj := x.vmaj, vmin := x.vmin, flags := flReply, opcode := opcode, seq := seq,
        tenant := x.tenant, role := x.role, sid := x.sid, payload := b.payload (x.outstanding.contains (seq, true)), tag := [] }
    (s.send o).mapSession sid (fun y => { y.remember seq o with outstanding := y.outstanding.filter (fun q => q.1 != seq) })

/-- SEQ s is newer than a (12 R310). -/
def seqNewer (s a : Nat) : Bool :=
  let d := (s + 2 ^ 32 - a % 2 ^ 32) % 2 ^ 32
  decide (1 ≤ d ∧ d < 2 ^ 31)

/-- What becomes of a packet that names a session (12 R298, R310, R311). -/
inductive Admission where
  | discard
  | repeat_ (o : OutPkt)
  | fresh

/-- A session's packet against R298, R310 and R311. `isAuth` marks an `AUTH` request. -/
def Session.admission (x : Session) (opcode : Nat) (isAuth : Bool) (p : Packet) : Admission :=
  if x.transport != p.transport || x.source != p.source then .discard
  else if p.authFlag && (isAuth || x.authm == 0 || !x.authed) then .discard
  else if !p.authFlag && x.authed then .discard
  else if p.authFlag && (hmac256 (x.key.getD []) (p.header opcode ++ p.body)).take 16 != p.tag.take 16 then .discard
  else
    match x.cache.find? (fun c => c.1 == p.seq) with
    | some c => .repeat_ c.2
    | none => if seqNewer p.seq x.lastSeq then .fresh else .discard

/-- The cached reply again, with `DUP` set (12 R311); a tagged reply is signed over its new header. -/
def Session.again (x : Session) (o : OutPkt) : OutPkt :=
  let d := { o with flags := o.flags ||| flDup, tag := [] }
  if bit o.flags 3 then d.withTag (x.key.getD []) else d

/-- The window and the rate of R312 are used up; `now` in ticks. -/
def Session.crowded (x : Session) (now : Nat) : Bool :=
  decide (4 ≤ x.outstanding.length) || decide (200 ≤ (x.recent.filter (fun t => decide (now < t + 1000 * epochTicks))).length)

/-- A packet that names a session, up to the answer; `body` serves it (12 R298–R315). -/
def State.inSession (opcode : Nat) (isAuth : Bool) (body : Req → State → Reply × State) (p : Packet) (x : Session) (s : State) : State :=
  match x.admission opcode isAuth p with
  | .discard => s.discardIn x.sid
  | .repeat_ o => s.send (x.again o)
  | .fresh =>
    let now := s.upMs
    let s1 := s.mapSession x.sid (fun y => { y with recent := s.clk.up :: y.recent.filter (fun t => decide (s.clk.up < t + 1000 * epochTicks)) })
    if x.crowded s.clk.up then s1.send ({ opcode := opcode, p := p, x := x : Req }.reply (.fail stBusy))
    else
      let r : Req := { opcode := opcode, p := p, x := { x with lastSeq := p.seq, lastReq := now } }
      let s2 := s1.mapSession x.sid (fun y => { y with lastSeq := p.seq, lastReq := now })
      let a := if p.vmaj != x.vmaj || p.vmin != x.vmin then (.fail stBadVersion, s2) else body r s2
      a.2.finish r a.1

/-- Takes a packet that came through the queue of the SPI port or of U0 out of it (20 R491, R493). A packet of an open transport has stood in the
packet buffer, which signals line 1 of the Overman (16 R405). -/
def State.unqueue (opcode : Nat) (p : Packet) (s0 : State) : State :=
  let bytes := p.header opcode ++ p.payload ++ p.tag ++ bz p.extra
  let s := if s0.carries p.transport then s0.signal 18 1 else s0
  if p.transport = 4 ∧ s.por.spi.inq.head? = some bytes then
    { s with por := { s.por with spi := { s.por.spi with inq := s.por.spi.inq.tail } } }
  else if p.transport = 5 ∧ s.por.u0in.head? = some bytes then { s with por := { s.por with u0in := s.por.u0in.tail } }
  else s

/-- A received packet of an opcode (12): discarded, refused for want of a session, or served in it. -/
def State.receive (opcode : Nat) (isAuth : Bool) (body : Req → State → Reply × State) (p : Packet) (s0 : State) : State :=
  let s := s0.unqueue opcode p
  if !s.carries p.transport then s
  else if p.malformed opcode then
    match s.session p.sid with
    | some x => s.discardIn x.sid
    | none => s.discardStray
  else
    match s.session p.sid with
    | none => s.send (p.answer opcode p.vmaj p.vmin p.sid false ((Reply.payload { status := stAuthFail, detail := 1 }) (bit p.flags 2)))
    | some x => s.inSession opcode isAuth body p x

/-- A command by its spec. -/
def State.command (c : CmdSpec) (p : Packet) (s : State) : Host.Outcome State Fault Refusal :=
  .next (s.receive c.opcode false c.serve p)

/-- Accepts a change for the next boundary (12 R316, R317): its entry in the list of accepted changes and the answer. -/
def State.accept (r : Req) (unit : Nat) (s : State) : Reply × State :=
  let b := s.nextBoundary
  let e : Accepted := { sid := r.x.sid, seq := r.p.seq, opcode := r.opcode, commit := b, tenant := r.x.tenant, unit := unit }
  (.accepted b, { s with ses := { s.ses with accepted := s.ses.accepted ++ [e] } })

/-- Closes a session with its record (12 R309, 13 R340). The close of a maker session leads to a SYSTEM RESET (13 R349). -/
def State.closeSession (cause sid : Nat) (s : State) : State :=
  match s.session sid with
  | none => s
  | some x =>
    let t := closeRecord cause s x
    let u := { t with ses := { t.ses with open_ := t.ses.open_.filter (fun y => y.sid != sid) } }
    if x.role = 3 ∧ x.authed then { u with pow := { u.pow with delayed := some (1, u.clk.up) } } else u

/-! ### Payload shapes (12 R320, R321) -/

/-- The index shape: `INDEX`, `ARG`. -/
def Req.index (r : Req) : Nat := u16At r.pay 0
def Req.arg (r : Req) : Nat := u16At r.pay 2
def lenIs (n : Nat) (r : Req) : Bool := r.pay.length == n

/-- The byte range shape: `OBJ`, `LEN`, `OFFSET`, and, when writing, the bytes. -/
def Req.obj (r : Req) : Nat := u8At r.pay 0
def Req.rlen (r : Req) : Nat := u16At r.pay 2
def Req.roff (r : Req) : Nat := u32At r.pay 4
def Req.rbytes (r : Req) : List Byte := (r.pay.drop 8).take r.rlen
def lenWrite (r : Req) : Bool := decide (8 ≤ r.pay.length) && r.pay.length == 8 + r.rlen
/-- Field checks of a byte range of an object of `size` bytes. -/
def rangeBad (size : Nat) (r : Req) : Option Nat :=
  firstBad [(!zeroAt r.pay 1 1, 1), (decide (1024 < r.rlen), 2), (decide (size < r.roff + r.rlen), 4)]

/-- As many whole items from the front of a list as fit within `room` bytes. -/
def fitting (room : Nat) : List (List Byte) → List (List Byte)
  | [] => []
  | x :: r => if x.length ≤ room then x :: fitting (room - x.length) r else []

/-- A range reply (12 R320): the entries of the units shown, ascending, from `first` on, at most `count` (0 to the end), as many as fit
within `MAXPAY`. -/
def rangeReply (units : List Nat) (first count : Nat) (f : Nat → List Byte) : List Byte :=
  let l := units.filter (fun u => decide (first ≤ u))
  let want := if count = 0 then l else l.take count
  let es := fitting (1408 - 8) (want.map f)
  b16 es.length ++ b16 ((want.drop es.length).headD 0xFFFF) ++ es.flatten

/-- A range command over the first `total` units, which shows a session the units of `units` (12 R319, R320). -/
def rangeSpec (opcode : Nat) (total : Req → Nat) (units : Req → State → List Nat) (f : State → Nat → List Byte)
    (gcp1 : Bool := false) : CmdSpec :=
  { opcode := opcode
    role := roleAny
    len := lenIs 4
    idle := true
    gcp1 := gcp1
    param := fun r _ => if total r ≤ u16At r.pay 0 then some 0 else none
    run := fun r s =>
      (.ok (rangeReply ((units r s).filter (fun u => decide (u < total r))) (u16At r.pay 0) (u16At r.pay 2) (f s)), s) }

/-- A reading command without a payload that returns a status block (12 R320). -/
def statusSpec (opcode : Nat) (f : Req → State → List Byte) : CmdSpec :=
  { opcode := opcode, role := roleAny, len := lenIs 0, idle := true, run := fun r s => (.ok (f r s), s) }

/-- The list shape: `NLIST` entries of `INDEX` and `VAL`. -/
def Req.entries (r : Req) : List (Nat × Nat) :=
  (List.range (u8At r.pay 0)).map (fun i => (u16At r.pay (4 + 4 * i), u8At r.pay (6 + 4 * i)))
/-- The offset of the first entry of a list that a condition marks. -/
def Req.entryAt (r : Req) (f : Nat × Nat → Bool) : Nat := 4 + 4 * ((r.entries.findIdx? f).getD 0)
/-- The offset of the first field of a list that its entries' conditions mark: an `INDEX`, or else a `VAL`. -/
def Req.entryBad (r : Req) (ix val : Nat × Nat → Bool) : Option Nat :=
  (r.entries.findIdx? (fun e => ix e || val e)).map (fun i => if ix (r.entries.getD i (0, 0)) then 4 + 4 * i else 6 + 4 * i)
def lenList (r : Req) : Bool := r.pay.length == 4 + 4 * u8At r.pay 0
/-- The first reserved field of a list that is not 0. -/
def listReserved (r : Req) : Option Nat :=
  if !zeroAt r.pay 1 3 then some 1
  else ((List.range (u8At r.pay 0)).find? (fun i => !zeroAt r.pay (7 + 4 * i) 1)).map (fun i => 7 + 4 * i)

/-- A parameter of a table: its least and greatest value, a further condition, and how it is read and written (12 R321). -/
structure ParRow (α : Type) where
  lo : Int
  hi : Int
  get : α → Int
  set : α → Int → α
  also : Int → Bool := fun _ => true

/-- The length of a parameter command. -/
def lenPar (r : Req) : Bool := decide (4 ≤ r.pay.length) && r.pay.length == 4 + 8 * u8At r.pay 0
def Req.npar (r : Req) : Nat := u8At r.pay 0
def Req.scope (r : Req) : Nat := u16At r.pay 2
def Req.pars (r : Req) : List (Nat × Int) := parEntries r.pay

/-- A value fits its row. -/
def ParRow.fits {α : Type} (w : ParRow α) (v : Int) : Bool := decide (w.lo ≤ v ∧ v ≤ w.hi) && w.also v

/-- The offset of the first field at fault in an entry of a parameter list (12 R321, R299): the reserved bytes, a `PID` beyond the table or
named twice, which names the entry, or the value out of range. -/
def parEntryBad {α : Type} (rows : List (ParRow α)) (base : Nat) (pay : List Byte) (es : List (Nat × Int)) (i : Nat) : Option Nat :=
  let e := es.getD i (0, 0)
  let at_ := base + 4 + 8 * i
  if !zeroAt pay (at_ + 1) 3 then some (at_ + 1)
  else if (es.take i).any (fun d => d.1 == e.1) then some at_
  else match rows[e.1]? with
    | none => some at_
    | some w => if w.fits e.2 then none else some (at_ + 4)

/-- The offset of the first field at fault in a parameter list (12 R321). -/
def parBad {α : Type} (rows : List (ParRow α)) (base : Nat) (pay : List Byte) : Option Nat :=
  let es := parEntries (pay.drop base)
  if !zeroAt pay (base + 1) 1 then some (base + 1)
  else (List.range es.length).findSome? (parEntryBad rows base pay es)

/-- Applies a parameter list to a table. -/
def parApply {α : Type} (rows : List (ParRow α)) (es : List (Nat × Int)) (a : α) : α :=
  es.foldl (fun t e => match rows[e.1]? with | some w => w.set t e.2 | none => t) a

/-- The whole table as entries (12 R321). -/
def parTable {α : Type} (rows : List (ParRow α)) (a : α) : List Byte :=
  ((List.range rows.length).map (fun i =>
    match rows[i]? with | some w => b8 i ++ bz 3 ++ bi32 (w.get a) | none => [])).flatten

/-- A row over a natural number field. -/
def natRow {α : Type} (lo hi : Nat) (get : α → Nat) (set : α → Nat → α) : ParRow α :=
  { lo := lo, hi := hi, get := fun a => (get a : Int), set := fun a v => set a v.toNat }

/-- A row whose number field takes only listed values. -/
def pickRow {α : Type} (vals : List Nat) (get : α → Nat) (set : α → Nat → α) : ParRow α :=
  { lo := 0, hi := 2 ^ 31 - 1, get := fun a => (get a : Int), set := fun a v => set a v.toNat, also := fun v => vals.contains v.toNat }

/-- The offset of the first value set for one of some parameters: the field at fault when a rule between parameters breaks. -/
def parRuleField (pids : List Nat) (es : List (Nat × Int)) : Nat :=
  8 + 8 * ((es.findIdx? (fun e => pids.contains e.1)).getD 0)

/-- A command that sets a table of parameters (12 R321): `scopeBad` refuses a `SCOPE`; `cur` is the table in force, `base` the one that a
further list changes (the staged one where there is one); `rule` names the parameters of a rule between them that breaks; `put` writes. -/
def parCmd {α : Type} (opcode : Nat) (role : Req → State → Bool) (rows : List (ParRow α)) (scopeBad : Nat → State → Bool)
    (cur base : Nat → State → α) (put : Req → α → State → Reply × State) (rule : α → Option (List Nat) := fun _ => none)
    (tenant : Req → State → Bool := fun _ _ => true) : CmdSpec :=
  { opcode := opcode
    role := role
    tenant := tenant
    foreign := fun _ _ => 2
    len := lenPar
    param := fun r s =>
      if scopeBad r.scope s then some 2
      else
        match parBad rows 0 r.pay with
        | some f => some f
        | none =>
          if r.npar = 0 then none
          else (rule (parApply rows r.pars (base r.scope s))).map (fun l => parRuleField l r.pars)
    changes := fun r => r.npar != 0
    run := fun r s =>
      if r.npar = 0 then (.ok (parTable rows (cur r.scope s)), s)
      else put r (parApply rows r.pars (base r.scope s)) s }

/-- An installer's table of the whole device: `SCOPE` 0xFFFF, staged for the next boundary (12 R316). -/
def parSpec {α : Type} (opcode : Nat) (rows : List (ParRow α)) (cur : State → α) (staged : State → Option α) (stage : α → State → State)
    (rule : α → Option (List Nat) := fun _ => none) : CmdSpec :=
  parCmd opcode roleInstaller rows (fun sc _ => sc != 0xFFFF) (fun _ s => cur s) (fun _ s => (staged s).getD (cur s))
    (fun r a s => (stage a s).accept r 0xFFFF) rule

end Sys2Proof.Machine
end

