-- ==== Sys2Proof/Machine/CmdSession.lean ====
section
/-! DEFINITION. The session commands of group 0x00 (12 R301–R313, R323, R325, R326) and the session timers; authentication (12 R303–R307,
13 R346). -/

namespace Sys2Proof.Machine

/-- A version as 256 × major + minor. -/
def ver (maj min : Nat) : Nat := 256 * maj + min

/-- The highest version of the device that lies in a host's range (12 R301). -/
def negotiate (lo hi : Nat) : Option Nat :=
  let top := min hi (ver 3 Config.gcpMinor)
  if ver 3 0 ≤ top ∧ lo ≤ top then some top
  else if lo ≤ ver 1 0 ∧ ver 1 0 ≤ hi then some (ver 1 0)
  else none

/-- The source that AUTH failures count against: an address, or one SPI or U0 port (12 R307). -/
def sourceKey (transport : Nat) (source : List Byte) : Nat × List Byte := (if transport < 4 then 0 else transport, source.take 16)

/-- The source is locked out (12 R307). -/
def State.lockedOut (s : State) (transport : Nat) (source : List Byte) : Bool :=
  let k := sourceKey transport source
  s.ses.locked.any (fun l => l.1 == k.1 && l.2.1 == k.2 && decide (s.upMs < l.2.2))

/-- A limit of sessions is reached for a role and tenant (12 R308). -/
def State.sessionsFull (s : State) (role ten : Nat) : Bool :=
  let n := (s.ses.open_.filter (fun x => x.role == role && (role != 1 || x.tenant == ten))).length
  let m := if role = 2 then 2 else if role = 3 then 1 else 4
  decide (24 ≤ s.ses.open_.length) || decide (m ≤ n)

/-- A session id that is not 0 and names no open session, from a free number (12 R302). -/
def freshSid (used : List Nat) (f : Nat) : Nat :=
  ((List.range 25).map (fun i => 1 + (f + i) % (2 ^ 32 - 1))).find? (fun c => !used.contains c) |>.getD 1

/-- `SESSION_OPEN` (13 R574). -/
def State.openRecord (x : Session) (s : State) : State :=
  s.tally 0x0100 x.role x.tenant x.sid
    (b8 x.role ++ b8 x.tenant ++ b8 x.transport ++ b8 x.authm ++ b8 x.vmaj ++ b8 x.vmin ++ bpad 2 (x.source.drop 16) ++
     bpad 16 x.source ++ bpad 16 x.hname)

/-- The device range of versions: lowest and highest (12 R301). -/
def deviceRange : List Byte := [1, 0, 3, BitVec.ofNat 8 Config.gcpMinor]

/-- The role and tenant that a `HELLO` gets without authentication (12 R303): `NONE`, but with `LOCAL_TRUST` on the SPI host port outside
HOLD the ones it asks for; the maker role comes with `AUTHM` 3 only (13 R346). -/
def State.helloRole (s : State) (transport authm role ten : Nat) : Nat × Nat :=
  if authm ≠ 0 then (role, ten)
  else if charterTrust s.boo.charter && transport == 4 && s.boo.dstate == .run && role != 3 then (role, ten)
  else (0, 0xFF)

/-- Opens a session (12 R301, R302, R308, R310). -/
def State.hello (p : Packet) (v : Nat) (s : State) : State :=
  let b := p.body
  let authm := u8At b 6
  let rt := s.helloRole p.transport authm (u8At b 4) (u8At b 5)
  let fail (r : Reply) : State := s.send (p.answer 0 p.vmaj p.vmin 0 false (r.payload (bit p.flags 2)))
  if s.sessionsFull rt.1 rt.2 then fail (.fail stBusy)
  else if authm = 0 ∧ !s.tallyRoom then fail (.fail stBusy)
  else
    let f := s.takeNat
    let d := f.2.takeBytes 16
    let e := d.2.takeNat
    let sid := freshSid (s.ses.open_.map (·.sid)) f.1
    let x : Session :=
      { sid := sid, role := rt.1, tenant := rt.2, authm := authm, transport := p.transport, source := p.source
        vmaj := v / 256, vmin := v % 256, hnonce := (b.drop 8).take 16, dnonce := d.1, hname := (b.drop 24).take 16
        ephKey := if 2 ≤ authm then 1 + e.1 % (p384n - 1) else 0
        lastSeq := p.seq, lastReq := s.upMs, opened := s.upMs }
    let depk := if 2 ≤ authm then ecBytes (ecMul 384 x.ephKey p384g) else []
    let r := Reply.ok
      (b8 x.vmaj ++ b8 x.vmin ++ b8 (bbool x.gcp1) ++ b8 s.boo.dstate.code ++ b32 sid ++ x.dnonce ++ b16 1408 ++ b8 4 ++ bz 1 ++
       b16 x.idleT ++ bz 2 ++ depk)
    let t := { e.2 with ses := { e.2.ses with open_ := e.2.ses.open_ ++ [x] } }
    (if authm = 0 then t.openRecord x else t).send (p.answer 0 x.vmaj x.vmin sid false (r.payload (bit p.flags 2)))

/-- `HELLO` (12 R301, R302, R307, R308). -/
def execCmdHello (p : Packet) (s0 : State) : Host.Outcome State Fault Refusal :=
  let s := s0.unqueue 0 p
  let b := p.body
  let out (sid : Nat) (r : Reply) : State := s.send (p.answer 0 p.vmaj p.vmin sid false (r.payload (bit p.flags 2)))
  let lo := ver (u8At b 0) (u8At b 1)
  let hi := ver (u8At b 2) (u8At b 3)
  .next
    (if !s.carries p.transport then s
     else if p.malformed 0 || p.authFlag then (match s.session p.sid with | some x => s.discardIn x.sid | none => s.discardStray)
     else if p.sid ≠ 0 then out p.sid (.badParam 0xFFFF)
     else if s.lockedOut p.transport p.source then out 0 { status := stAuthFail, detail := 4 }
     else if b.length < 4 then out 0 (.fail stBadLength)
     else
       match negotiate lo hi with
       | none => s.send (p.answer 0 p.vmaj p.vmin 0 false ((Reply.fail stBadVersion).prefix_ ++ deviceRange))
       | some v =>
         if b.length ≠ 40 ∨ p.overlong then out 0 (.fail stBadLength)
         else
           match firstBad [(decide (3 < u8At b 4), 4),
               (if u8At b 4 = 1 then decide (7 < u8At b 5) else u8At b 5 != 0xFF, 5), (decide (3 < u8At b 6), 6), (!zeroAt b 7 1, 7)] with
           | some f => out 0 (.badParam f)
           | none => s.hello p v)

/-- Little-endian `SID` of a session, 4 bytes. -/
def Session.sidBytes (x : Session) : List Byte := b32 x.sid

/-- The session key from a secret (12 R304). -/
def Session.keyFrom (x : Session) (label : String) (secret : List Byte) : List Byte :=
  hmac256 secret (ascii label ++ x.hnonce ++ x.dnonce ++ x.sidBytes)

/-- A proof of a session key (12 R304). -/
def Session.proof (x : Session) (label : String) (key : List Byte) : List Byte :=
  hmac256 key (ascii label ++ x.sidBytes ++ b8 x.role ++ b8 x.tenant)

/-- The ECDH secret Z: the X coordinate of the product of the host's ephemeral key and the device's (12 R305). -/
def Session.ecdh (x : Session) (hepk : List Byte) : Option (List Byte) :=
  match ecPub hepk with
  | none => none
  | some q =>
    match ecMul 384 x.ephKey (some q) with
    | none => none
    | some (zx, _) => some (beBytes 48 zx)

/-- The text that a session's signature covers (12 R305, 13 R346). -/
def Session.signed (x : Session) (label : String) (hepk : List Byte) : List Byte :=
  ascii label ++ x.hnonce ++ x.dnonce ++ x.sidBytes ++ ecBytes (ecMul 384 x.ephKey p384g) ++ hepk

/-- The outcome of an `AUTH` request: the session key, or the `DETAIL` of the failure (12 R304, R305, R307, 13 R346). -/
def State.authenticate (s : State) (x : Session) (b : List Byte) : Nat ⊕ List Byte :=
  if x.authm = 1 then
    match (if x.role = 0 then none else s.secret x.role x.tenant) with
    | none => .inl 3
    | some sec =>
      let k := x.keyFrom "GVK1" sec
      if x.proof "GVH1" k = (b.drop 4).take 32 then .inr k else .inl 2
  else
    let hepk := (b.drop 4).take 97
    if x.authm = 2 then
      let ipub := (b.drop 101).take 97
      if x.role ≠ 2 then .inl 3
      else if !s.boo.fuses.instKey.written || sha384 ipub != s.instKey then .inl 5
      else if !ecVerify ipub (sha384 (x.signed "GVA2" hepk)) ((b.drop 198).take 48) ((b.drop 246).take 48) then .inl 2
      else
        match x.ecdh hepk with
        | none => .inl 2
        | some z => .inr (x.keyFrom "GVK2" z)
    else
      let tok := (b.drop 101).take 20
      if x.role ≠ 3 then .inl 3
      else if s.boo.strap ≠ 15 then .inl 6
      else if tok.drop 4 ≠ bpad 16 Config.serial then .inl 7
      else if sha384 Config.retKey != Config.retKeyHash ||
          !ecVerify Config.retKey (sha384 (ascii "GVR3" ++ tok)) ((b.drop 121).take 48) ((b.drop 169).take 48) ||
          !ecVerify Config.retKey (sha384 (x.signed "GVA3" hepk)) ((b.drop 217).take 48) ((b.drop 265).take 48) then .inl 2
      else
        match x.ecdh hepk with
        | none => .inl 2
        | some z => .inr (x.keyFrom "GVK3" z)

/-- Notes an AUTH failure of a source; the fifth within 60 s locks it out for 60 s (12 R307). -/
def State.noteFailure (transport : Nat) (source : List Byte) (s : State) : State :=
  let k := sourceKey transport source
  let now := s.upMs
  let fails := s.ses.fails.filter (fun f => decide (now < f.2.2 + 60000)) ++ [(k.1, k.2, now)]
  let n := (fails.filter (fun f => f.1 == k.1 && f.2.1 == k.2)).length
  let locked := if 5 ≤ n then s.ses.locked ++ [(k.1, k.2, now + 60000)] else s.ses.locked
  { s with ses := { s.ses with fails := fails, locked := locked } }

/-- `AUTH_FAILED` (13 R340, R574): the acting role is `NONE`, which a session has until it authenticates (12 R303). -/
def State.authRecord (ten sid authm detail transport : Nat) (source hname : List Byte) (s : State) : State :=
  s.tally 0x0102 0 ten sid
    (b16 detail ++ b8 transport ++ b8 authm ++ bpad 2 (source.drop 16) ++ bz 2 ++ bpad 16 source ++ bpad 16 hname)

/-- A failed `AUTH` of a session closes it, with its record (12 R307). -/
def State.authFails (x : Session) (detail : Nat) (s : State) : State :=
  ((s.authRecord x.tenant x.sid x.authm detail x.transport x.source x.hname).noteFailure x.transport x.source).closeSession 6 x.sid

/-- Payload length of `AUTH` by its method. -/
def authLen (m : Nat) : Nat := if m = 1 then 36 else if m = 2 then 294 else if m = 3 then 313 else 4

/-- `AUTH` (12 R304–R307). -/
def authSpec : CmdSpec where
  opcode := 0x0001
  role := roleAll
  len := fun r => r.pay.length == authLen (u8At r.pay 0)
  hold := true
  idle := true
  gcp1 := true
  param := fun r _ => firstBad [(r.x.authed || r.x.authm == 0 || u8At r.pay 0 != r.x.authm, 0), (!zeroAt r.pay 1 3, 1)]
  run := fun r s =>
    if r.x.gcp1 && decide (2 ≤ r.x.authm) then (.fail stBadOpcode, s)
    else
      if !s.tallyRoom then (.fail stBusy, s)
      else
        match s.authenticate r.x r.pay with
        | .inl d => ({ status := stAuthFail, detail := d }, s.authFails r.x d)
        | .inr k =>
          (.ok (r.x.proof "GVD1" k), (s.openRecord r.x).mapSession r.x.sid (fun x =>
            { x with authed := true, key := some k, rma := if x.authm = 3 then u32At r.pay 101 else 0 }))

/-- An `AUTH` that names no session is a failure of its source too (12 R307 `DETAIL` 1). -/
def State.strayAuth (p : Packet) (s : State) : State :=
  if s.carries p.transport && !p.malformed 0x0001 && !p.authFlag && (s.session p.sid).isNone then
    (s.authRecord 0xFF 0 0 1 p.transport p.source []).noteFailure p.transport p.source
  else s

/-- `AUTH`. -/
def execCmdAuth (p : Packet) (s : State) : Host.Outcome State Fault Refusal :=
  .next ((s.strayAuth p).receive 0x0001 true authSpec.serve p)

/-- `BYE` (12 R309): the session closes after the reply. -/
def specBye : CmdSpec :=
  { opcode := 0x0002, role := roleAll, len := lenIs 0, hold := true, idle := true, gcp1 := true
    run := fun r s => (.ok [], s.closeSession 1 r.x.sid) }

/-- `BYE`, served by its spec (12 R315). -/
def execCmdBye (p : Packet) (s : State) : Host.Outcome State Fault Refusal := s.command specBye p

/-- `PING` (12 R323). -/
def specPing : CmdSpec :=
  { opcode := 0x0003, role := roleAll, len := fun r => decide (r.pay.length ≤ 64), hold := true, idle := true, gcp1 := true
    run := fun r s => (.ok (b64 s.tcnt ++ r.pay), s) }

/-- `PING`, served by its spec (12 R315). -/
def execCmdPing (p : Packet) (s : State) : Host.Outcome State Fault Refusal := s.command specPing p

/-- An entry of `SESS_LIST` (12 R323). -/
def Session.entry (now : Nat) (x : Session) : List Byte :=
  b32 x.sid ++ b8 x.role ++ b8 x.tenant ++ b8 x.transport ++ b8 x.vmaj ++ b8 x.vmin ++ bz 1 ++ b16 (min 0xFFFF ((now - x.lastReq) / 1000)) ++
  b16 (min 0xFFFF x.discards) ++ b16 (min 0xFFFF x.evLost)

/-- `SESS_LIST` (12 R323): an operator sees only its own sessions. -/
def specSessList : CmdSpec :=
  { opcode := 0x0004, role := roleAny, len := lenIs 0, hold := true, idle := true
    run := fun r s =>
      let l := s.ses.open_.filter (fun x => r.role != 1 || (x.role == 1 && x.tenant == r.x.tenant))
      (.ok (b16 l.length ++ bz 2 ++ (l.map (Session.entry s.upMs)).flatten), s) }

/-- `SESS_LIST`, served by its spec (12 R315). -/
def execCmdSessList (p : Packet) (s : State) : Host.Outcome State Fault Refusal := s.command specSessList p

/-- `EVT_SUBSCRIBE` (12 R323, R326). -/
def specEvtSubscribe : CmdSpec :=
  { opcode := 0x0005, role := roleAny, len := lenIs 8, hold := true, idle := true, gcp1 := true
    param := fun r _ => firstBad [(decide (3 < u8At r.pay 0), 0), (!zeroAt r.pay 1 3, 1),
      (u32At r.pay 4 / 2 ^ 12 % 2 ^ 19 != 0, 4)]
    changes := fun _ => true
    run := fun r s =>
      (.ok [], s.mapSession r.x.sid (fun x => { x with evsev := u8At r.pay 0, evgrp := u32At r.pay 4 })) }

/-- `EVT_SUBSCRIBE`, served by its spec (12 R315). -/
def execCmdEvtSubscribe (p : Packet) (s : State) : Host.Outcome State Fault Refusal := s.command specEvtSubscribe p

/-- The reports that a session may see (12 R323, R326, R327). -/
def Session.maySee (x : Session) (r : Report) : Bool :=
  (x.role != 1 || r.eten == 0xFF || r.eten == x.tenant) && (!x.gcp1 || gcp1Codes.contains r.ecode)

/-- `EVT_READ` (12 R323, R326). -/
def specEvtRead : CmdSpec :=
  { opcode := 0x0006, role := roleAny, len := lenIs 4, hold := true, idle := true
    run := fun r s =>
      let l := s.ses.reports.filter (fun e => decide (u32At r.pay 0 ≤ e.eseq) && r.x.maySee e)
      let f := fitting (1408 - 8) (l.map (fun e => reportPayload e r.x.gcp1))
      (.ok (b16 f.length ++ bz 2 ++ f.flatten), s) }

/-- `EVT_READ`, served by its spec (12 R315). -/
def execCmdEvtRead (p : Packet) (s : State) : Host.Outcome State Fault Refusal := s.command specEvtRead p

/-- The one row of `SESS_PARAMS` (12 R323). -/
def sessRows : List (ParRow Session) := [natRow 10 3600 Session.idleT (fun x v => { x with idleT := v })]

/-- `SESS_PARAMS` (12 R323): sets `IDLE_T` of the session that sends it, at once. -/
def specSessParams : CmdSpec :=
  { opcode := 0x8000, role := roleAny, len := lenPar, hold := true, idle := true
    param := fun r _ => if r.scope ≠ 0xFFFF then some 2 else parBad sessRows 0 r.pay
    changes := fun r => r.npar != 0
    run := fun r s =>
      if r.npar = 0 then (.ok (parTable sessRows r.x), s)
      else (.ok [], s.mapSession r.x.sid (parApply sessRows r.pars)) }

/-- `SESS_PARAMS`, served by its spec (12 R315). -/
def execCmdSessParams (p : Packet) (s : State) : Host.Outcome State Fault Refusal := s.command specSessParams p

/-- `SESSION_IDLE_TIMEOUT` (12 R309): a session without a valid request for `IDLE_T` closes; nothing is due before that. -/
def execEvSessionIdleTimeout (sid : Nat) (s : State) : Host.Outcome State Fault Refusal :=
  .next (match s.session sid with
    | none => s
    | some x => if x.lastReq + 1000 * x.idleT ≤ s.upMs then s.closeSession 2 sid else s)

/-- `AUTH_TIMEOUT` (12 R306): a session whose `AUTHM` is not 0 and that has not authenticated within 10 s of `HELLO` closes. -/
def execEvAuthTimeout (sid : Nat) (s : State) : Host.Outcome State Fault Refusal :=
  .next (match s.session sid with
    | none => s
    | some x => if x.authm ≠ 0 ∧ !x.authed ∧ x.opened + 10000 ≤ s.upMs then s.closeSession 6 sid else s)

/-- `LOCKOUT_EXPIRY` (12 R307): the lockout of a source ends 60 s after it began. -/
def execEvLockoutExpiry (transport : Nat) (source : List Byte) (s : State) : Host.Outcome State Fault Refusal :=
  let k := sourceKey transport source
  .next { s with ses := { s.ses with
    locked := s.ses.locked.filter (fun l => !(l.1 == k.1 && l.2.1 == k.2 && decide (l.2.2 ≤ s.upMs))) } }

/-- A raw packet's fields (12 R296): the header, the declared payload, the tag and what follows. -/
def rawPacket (transport : Nat) (source b : List Byte) : Packet :=
  let plen := u16At b 14
  let rest := b.drop 24
  let t := if bit (u16At b 4) 3 then 16 else 0
  { transport := transport, source := source, magic := u16At b 0, vmaj := u8At b 2, vmin := u8At b 3, flags := u16At b 4
    seq := u32At b 8, tenant := u8At b 12, role := u8At b 13, plen := plen, sid := u32At b 16, hcrc := u16At b 20
    payload := rest.take plen, tag := (rest.drop plen).take t, extra := rest.length - plen - t }

/-- The opcodes of GCP 3 as ranges: first and number (12 R318). -/
def opcodeMap : List (Nat × Nat) :=
  [(0x0000, 7), (0x8000, 1), (0x0100, 5), (0x8100, 1), (0x0200, 6), (0x8200, 1), (0x0300, 8), (0x8300, 2), (0x0400, 5), (0x8400, 4),
   (0x0500, 7), (0x8500, 3), (0x0600, 5), (0x8600, 3), (0x0700, 4), (0x8700, 3), (0x0800, 6), (0x8800, 2), (0x0900, 6), (0x0910, 4),
   (0x8900, 4), (0x8910, 1), (0x0A00, 6), (0x8A00, 2), (0x0B00, 6), (0x8B00, 2), (0x0C00, 4), (0x8C00, 2), (0x0D00, 11), (0x8D00, 1)] ++
  [(0x0E00, 4), (0x0F00, 4), (0x8F00, 1), (0x1000, 6), (0x9000, 1), (0x1100, 4), (0x9100, 1), (0x7F00, 3)]

/-- GCP 3 defines the opcode. -/
def opcodeDefined (op : Nat) : Bool := opcodeMap.any (fun r => decide (r.1 ≤ op ∧ op < r.1 + r.2))

/-- The answer to an opcode that GCP 3 does not define (12 R318): `BAD_OPCODE`, and in an open maker session, for group 0x7F, what the
private opcode answers, which the spec leaves open (log 14). -/
def undefinedOpcode (r : Req) (s : State) : Reply × State :=
  if r.x.makerOpen && r.opcode / 256 == 0x7F then
    let f := s.takeNat
    (.fail f.1, f.2)
  else (.fail stBadOpcode, s)

/-- The packet names a session that discards it (12 R298). -/
def State.discarded (s : State) (op : Nat) (p : Packet) : Bool :=
  p.malformed op ||
  (match s.session p.sid with
   | none => false
   | some x => match x.admission op (op == 1) p with | .discard => true | _ => false)

/-- `DISCARDED_PACKET` (12 R298, R318; 21 R502): a frame whose FCS fails or of fewer than 24 bytes is discarded and counted; a packet that
R298 discards is counted; one with an opcode that the session's version does not define is answered. A packet of a row of its own that
is not discarded is that row's. -/
def execEvDiscardedPacket (transport : Nat) (source bytes : List Byte) (fcsOk : Bool) (s : State) : Host.Outcome State Fault Refusal :=
  let p := rawPacket transport source bytes
  let op := u16At bytes 6
  .next
    (if !fcsOk then
      if transport < 4 then
        { s with por := { s.por with eth := vupdN s.por.eth (transport % 2) (fun e => { e with badFrames := e.badFrames + 1 }) } }
      else s.discardStray
     else if bytes.length < 24 then (if s.carries transport then s.discardStray else s)
     else if opcodeDefined op && !s.discarded op p then s
     else s.receive op (op == 1) undefinedOpcode p)

end Sys2Proof.Machine
end

