-- ==== Sys2Proof/Machine/Flags.lean ====
section
/-! DEFINITION. HB24 arithmetic and flags: the st fields (15 R372), `DOV` (15 R378), the accumulator helpers accw, rnd, sat48, hi, exp,
norm, sbits and the sticky `AOV` bits (16 R399–R402). -/

namespace Sys2Proof.Machine

/-- st bit numbers (15 R372). -/
def stIE : Nat := 0
def stU : Nat := 1
def stSATM : Nat := 2
def stRNDM : Nat := 3
def stRPT : Nat := 4
def stAOV (a : Nat) : Nat := 8 + a
def stDOV : Nat := 12

/-- The st bits that hold fields: [4:0] and [12:8]; the others are reserved and read 0 (15 R372). -/
def stMask : Word24 := 0x1F1F#24

/-- Writes one bit of a word. -/
def wbit (w : Word24) (i : Nat) (b : Bool) : Word24 :=
  if b then w ||| BitVec.twoPow 24 i else w &&& ~~~ (BitVec.twoPow 24 i)

/-- Sets one bit when a condition holds: a sticky flag. -/
def wsticky (w : Word24) (i : Nat) (b : Bool) : Word24 := if b then w ||| BitVec.twoPow 24 i else w

/-- The mode bits [3:0] of st. -/
def modeBits (st : Word24) : BitVec 4 := st.extractLsb' 0 4

/-- Fits in a signed 24-bit word. -/
def fits24 (v : Int) : Bool := decide (-(2 ^ 23) ≤ v ∧ v < 2 ^ 23)

/-- sat24 (15 R378): limits to −2^23 to 2^23 − 1. -/
def sat24 (v : Int) : Int := clampI (-(2 ^ 23)) (2 ^ 23 - 1) v

/-- A 24-bit word of an integer, modulo 2^24 (15 R378). -/
def word (v : Int) : Word24 := BitVec.ofInt 24 v

/-- Fits in the signed 48 bits of an accumulator without overflow (16 R399). -/
def fits48 (v : Int) : Bool := decide (-(2 ^ 47) ≤ v ∧ v < 2 ^ 47)

/-- sat48 (16 R399). -/
def sat48 (v : Int) : Int := clampI (-(2 ^ 47)) (2 ^ 47 - 1) v

/-- rnd (16 R399): rounds at bit 24 with ties toward +∞. -/
def rnd (v : Int) : Int := 2 ^ 24 * ((v + 2 ^ 23) / 2 ^ 24)

/-- accw's value (16 R399): limited with `SATM`, modulo 2^56 without. -/
def accw (satm : Bool) (v : Int) : Acc := BitVec.ofInt 56 (if satm then sat48 v else v)

/-- r of hi (16 R399): rounded when `RNDM` is 1. -/
def hiRaw (rndm : Bool) (a : Int) : Int := (if rndm then a + 2 ^ 23 else a) / 2 ^ 24

/-- hi's result (16 R399): limited with `SATM`. -/
def hi (satm rndm : Bool) (a : Int) : Word24 := word (if satm then sat24 (hiRaw rndm a) else hiRaw rndm a)

/-- The binary digits of a natural number, 0 for 0. -/
def digits (n : Nat) : Nat := if n = 0 then 0 else n.log2 + 1

/-- The bits needed below the sign: the least n with −2^n ≤ a < 2^n. -/
def magBits (a : Int) : Nat := if a < 0 then digits (-(a + 1)).toNat else digits a.toNat

/-- exp (16 R399): 0 for 0, otherwise the shift that brings a into [2^46, 2^47) or [−2^47, −2^46). -/
def accExp (a : Int) : Int := if a = 0 then 0 else 47 - (magBits a : Int)

/-- a shifted left by s, or right arithmetically for negative s. -/
def shiftI (a : Int) (s : Int) : Int := if 0 ≤ s then a * 2 ^ s.toNat else a / 2 ^ (-s).toNat

/-- sbits (16 R399): the sign copies below bit 23, 0 to 23. -/
def sbits (w : Word24) : Nat := 23 - magBits w.toInt

end Sys2Proof.Machine
end

