-- ==== Sys2Proof/Machine/Operands.lean ====
section
/-! DEFINITION. HB24 operand forms: register numberings (15 R371), pointers, post-modify codes and modifiers (15 R373, R374), data and
instruction ranges and user windows (15 R369, R370; 16 R421). -/

namespace Sys2Proof.Machine

/-- x n as a general register number. -/
def xreg (n : Fin 8) : Fin 16 := ⟨n.val, by omega⟩

/-- p n as a general register number. -/
def preg (n : Fin 8) : Fin 16 := ⟨n.val + 8, by omega⟩

/-- The stack pointer's number, p7. -/
def spReg : Fin 16 := 15

/-- The Overman's core number; the deputies DP0–DP17 are 0–17. -/
def overman : Fin 19 := 18

/-- Data words of a core (15 R369). -/
def dataSize (k : Fin 19) : Nat := if k = 18 then 0x80000 else 0xC000

/-- Instruction parcels of a core (15 R369). -/
def instrSize (k : Fin 19) : Nat := if k = 18 then 0x100000 else 0x10000

/-- The mode bits that govern the current instruction: the old ones in the mode-change shadow (15 R382). -/
def CoreState.mode (c : CoreState) : BitVec 4 := c.modeShadow.getD (modeBits c.st)

def CoreState.user (c : CoreState) : Bool := c.mode.getLsbD 1
def CoreState.satm (c : CoreState) : Bool := c.mode.getLsbD 2
def CoreState.rndm (c : CoreState) : Bool := c.mode.getLsbD 3
def CoreState.ie (c : CoreState) : Bool := c.st.getLsbD 0
def CoreState.rpt (c : CoreState) : Bool := c.st.getLsbD 4

/-- Writes a general register. -/
def CoreState.setG (c : CoreState) (r : Fin 16) (v : Word24) : CoreState := { c with g := c.g.set r v }

/-- Writes an accumulator. -/
def CoreState.setA (c : CoreState) (a : Fin 4) (v : Acc) : CoreState := { c with ac := c.ac.set a v }

/-- Writes a general register with an integer result modulo 2^24; `ovf` sets `DOV` when the register is an x register (15 R378). -/
def CoreState.setInt (c : CoreState) (r : Fin 16) (v : Int) (ovf : Bool) : CoreState :=
  { c with g := c.g.set r (word v), st := wsticky c.st stDOV (ovf && decide (r.val < 8)) }

/-- Writes an accumulator through accw, setting its sticky `AOV` bit when the exact value does not fit (16 R399). -/
def CoreState.setAccw (c : CoreState) (a : Fin 4) (v : Int) : CoreState :=
  { c with ac := c.ac.set a (accw c.satm v), st := wsticky c.st (stAOV a.val) (!fits48 v) }

/-- An address lies in a window: base to limit; empty when the limit lies below the base (16 R421). -/
def inWindow (c : CoreState) (w : Fin 5) (a : Nat) : Bool :=
  decide ((c.uw[2 * w.val]'(by omega)).toNat ≤ a ∧ a ≤ (c.uw[2 * w.val + 1]'(by omega)).toNat)

/-- A data access is allowed: in the core's range, and in user mode inside a window, a write inside a read-write one (15 R370, 16 R421). -/
def dataOk (k : Fin 19) (c : CoreState) (write : Bool) (a : Nat) : Bool :=
  decide (a < dataSize k) &&
  (!c.user || (inWindow c 3 a || inWindow c 4 a || (!write && (inWindow c 1 a || inWindow c 2 a))))

/-- A parcel may be fetched: in the core's range, and in user mode inside the code window (15 R370, 16 R421). -/
def fetchOk (k : Fin 19) (c : CoreState) (a : Nat) : Bool :=
  decide (a < instrSize k) && (!c.user || inWindow c 0 a)

/-- Reads data memory. -/
def CoreState.rd (c : CoreState) (a : Nat) : Word24 := sread 0 c.dmem a

/-- Writes data memory. -/
def CoreState.wr (c : CoreState) (a : Nat) (v : Word24) : CoreState := { c with dmem := swrite 0 c.dmem a v }

/-- Reverses the low `n` bits. -/
def revBits : Nat → Nat → Nat
  | 0, _ => 0
  | n + 1, v => (v % 2) * 2 ^ n + revBits n (v / 2)

/-- ⌈log₂ L⌉ for L ≥ 1. -/
def clog2 (l : Nat) : Nat := if l ≤ 1 then 0 else (l - 1).log2 + 1

/-- The pointer after a modifier (15 R374); none where the modifier is illegal. -/
def modify (m p : Word24) : Option Word24 :=
  match m.toNat / 2 ^ 22 with
  | 0 => some (word (p.toNat + sx 22 m.toNat))
  | 1 =>
    let l := m.toNat % 2 ^ 16
    let s := sx 6 (m.toNat / 2 ^ 16)
    if l = 0 then none
    else
      let base := p.toNat / 2 ^ clog2 l * 2 ^ clog2 l
      some (word (base + ((p.toNat : Int) - base + s) % l))
  | 2 =>
    let w := m.toNat % 2 ^ 5
    if w = 0 ∨ 16 < w ∨ m.toNat / 2 ^ 5 % 2 ^ 17 ≠ 0 then none
    else
      let lo := p.toNat % 2 ^ w
      some (BitVec.ofNat 24 (p.toNat - lo + revBits w ((revBits w lo + 1) % 2 ^ w)))
  | _ => none

/-- The pointer after a post-modify code (15 R373); none where code or modifier is illegal. -/
def postMod (c : CoreState) (pm : Fin 8) (p : Word24) : Option Word24 :=
  match pm.val with
  | 0 => some p
  | 1 => some (p + 1)
  | 2 => some (p - 1)
  | 3 => none
  | n => modify (c.m[(n - 4) % 4]'(Nat.mod_lt _ (by decide))) p

/-- The data address, the destination or source register and the pointer update of an `LD` or `ST` form (15 R373); none where the
post-modify is illegal. -/
def memForm (c : CoreState) : MemForm → Option (Fin 16 × Nat × Option (Fin 16 × Word24))
  | .disp x p u => some (xreg x, ((c.g[preg p] + BitVec.setWidth 24 u).toNat), none)
  | .off g p o => some (g, ((c.g[preg p] + BitVec.signExtend 24 o).toNat), none)
  | .post x p pm =>
    match postMod c pm c.g[preg p] with
    | none => none
    | some v => some (xreg x, (c.g[preg p]).toNat, some (preg p, v))

/-- Applies a pointer update. -/
def CoreState.applyPtr (c : CoreState) : Option (Fin 16 × Word24) → CoreState
  | none => c
  | some (r, v) => c.setG r v

end Sys2Proof.Machine

namespace Sys2Proof

/-- The length of a form in parcels. -/
def MemForm.len : MemForm → Nat
  | .disp .. => 1 | .post .. => 1 | .off .. => 2
def AluForm.len : AluForm → Nat
  | .two .. => 1 | .three .. => 2
def AddiForm.len : AddiForm → Nat
  | .short _ => 1 | .long _ => 2
def CbForm.len : CbForm → Nat
  | .short .. => 1 | .long .. => 2
def CbzForm.len : CbzForm → Nat
  | .short .. => 1 | .long .. => 2
def RepForm.len : RepForm → Nat
  | .short _ => 1 | _ => 2

/-- Destination, first and second source of a two-operand ALU operation, when the form's reserved field is 0 (15 ALU2, ALU3). -/
def AluForm.regs : AluForm → Option (Fin 16 × Fin 16 × Fin 16)
  | .two d s => some (d, d, s)
  | .three d a b z => if z = 0 then some (d, a, b) else none

/-- The signed immediate of `ADDI`. -/
def AddiForm.imm : AddiForm → Word24
  | .short i => i.signExtend 24
  | .long i => i.signExtend 24

end Sys2Proof
end

