-- ==== Sys2Proof/Machine/Sparing.lean ====
section
/-! DEFINITION. Proposals of remedies (22 R525, 09 R219, R220): which reserve is chosen, the proposal entry, its report, and the queue
of remedies that the Lyparil profile starts at the next boundary. -/

namespace Sys2Proof.Machine

/-- The device runs the Lyparil profile (01 R23). -/
def State.lyparil (s : State) : Bool := strapLyparil s.boo.strap

/-- The wear entry's place in the list of 314 (22 R519): class and index. -/
def wearIndex (cls idx : Nat) : Nat :=
  ([0, 36, 54, 57, 153, 155, 187, 255, 291, 309].getD cls 314) + idx

/-- Wear class and index of an entry of the list. -/
def wearClass (n : Nat) : Nat × Nat :=
  let l := [0, 36, 54, 57, 153, 155, 187, 255, 291, 309]
  let c := (l.filter (fun b => decide (b ≤ n))).length - 1
  (c, n - l.getD c 0)

/-- Physical stopes in reserve: mapped by no logical stope, not retired (08 R174). -/
def State.reserveStopes (s : State) : List Nat :=
  (List.range 36).filter (fun p => !(s.fab.lsMap.toList.contains p) && !(s.fab.stRetired.contains p))

/-- Physical deputies in reserve (08 R174). -/
def State.reserveDeputies (s : State) : List Nat :=
  (List.range 18).filter (fun p => !(s.fab.ldMap.toList.contains p) && !(s.fab.dpRetired.contains p))

/-- The element with the least key, the first on ties. -/
def leastBy (key : Nat → Nat) : List Nat → Option Nat
  | [] => none
  | x :: r =>
    match leastBy key r with
    | none => some x
    | some y => if key y < key x then some y else some x

/-- `WIDX` of a wear entry. -/
def State.widx (s : State) (cls idx : Nat) : Nat := (vgetD s.hea.wear (wearIndex cls idx) {}).widx

/-- The reserve stope that a proposal names: PASS, lowest `WIDX`, lower index on ties (22 R525). -/
def State.bestStope (s : State) : Option Nat :=
  leastBy (s.widx 0) (s.reserveStopes.filter (fun p => vgetD s.fab.stTest p 0 == 1 && !(s.fab.stSuspect.contains p)))

/-- The reserve deputy that a proposal names (22 R525). -/
def State.bestDeputy (s : State) : Option Nat :=
  leastBy (s.widx 1) (s.reserveDeputies.filter (fun p => vgetD s.fab.dpTest p 0 == 1 && !(s.fab.dpSuspect.contains p)))

/-- A spare lode bank (03 R75). -/
def State.spareBank (s : State) : Option Nat :=
  (List.range 68).find? (fun b => vgetD s.smp.lode.use b .retired == .spare)

/-- A proposal entry's 24 bytes (22 R525). -/
def Proposal.bytes (p : Proposal) : List Byte :=
  b32 p.spId ++ b8 p.sact ++ b8 p.sclass ++ b8 p.sindex ++ b8 p.sres ++ b8 p.scause ++ b8 p.sstate ++ b16 0 ++ b64 p.tm ++ b32 0

/-- An open proposal of the same unit and action stands. -/
def State.proposed (s : State) (sact sclass sindex : Nat) : Bool :=
  s.hea.props.any (fun p => p.sact == sact && p.sclass == sclass && p.sindex == sindex && decide (p.sstate ≤ 1))

/-- The wear entry of a proposal's unit: the physical unit behind a logical one (22 R525). -/
def State.unitEntry (s : State) (sact sclass sindex : Nat) : Nat :=
  wearIndex sclass (if sact = 1 then vgetD s.fab.lsMap sindex 0 else if sact = 2 then vgetD s.fab.ldMap sindex 0 else sindex)

/-- Sends a proposal (22 R525): listed, reported as `SPARE_PROPOSAL` (0x2007), and in the Lyparil profile queued as a device-initiated
activity for the next boundary (09 R220). A unit whose proposal stands open is not proposed again. -/
def State.proposeAs (sact sclass sindex sres scause : Nat) (s : State) : State :=
  if s.proposed sact sclass sindex then s
  else
    let p : Proposal := { spId := s.hea.nextProp, sact := sact, sclass := sclass, sindex := sindex, sres := sres, scause := scause,
                          sstate := 0, tm := s.ms }
    let mark (w : WearEntry) : WearEntry := { w with proposed := true }
    let s1 := { s with
      hea := { s.hea with props := s.hea.props ++ [p], nextProp := (s.hea.nextProp + 1) % 2 ^ 32,
                          wear := if sact = 5 then s.hea.wear else vupdN s.hea.wear (s.unitEntry sact sclass sindex) mark } }
    let s2 := if s.lyparil ∧ (sres ≠ 0xFF ∨ 4 ≤ sact) then
        { s1 with fab := { s1.fab with remedies := s1.fab.remedies ++ [(sact, sindex, sres)] } } else s1
    s2.reportNow 0x2007 1 0xFF p.bytes

/-- Proposes the remedy for a logical stope: a stope swap, otherwise the designated derated plan (22 R525, 09 R219). -/
def State.proposeStope (ls scause : Nat) (s : State) : State :=
  match s.bestStope with
  | some r => s.proposeAs 1 0 ls r scause
  | none => if s.fab.derated then s.proposeAs 4 0 (vgetD s.fab.lsMap ls 0) 0xFF scause else s

/-- Proposes the remedy for a logical deputy (22 R525). -/
def State.proposeDeputy (ld scause : Nat) (s : State) : State :=
  s.proposeAs 2 1 ld (s.bestDeputy.getD 0xFF) scause

/-- Proposes the remedy for a lode bank (22 R525, 03 R75). -/
def State.proposeBank (bank scause : Nat) (s : State) : State :=
  s.proposeAs 3 6 bank (s.spareBank.getD 0xFF) scause

end Sys2Proof.Machine
end

