-- ==== Sys2Proof/Machine/HbOps.lean ====
section
/-! DEFINITION. How an HB24 core leaves and resumes an instruction stream: exception and interrupt entry (16 R404), lockup (16 R407),
and the frame that every instruction runs in: fetch check, repeats (15 R386–R388), delay slots (15 R379, 16 R408–R410), load delay
(15 R381), mode-change shadow (15 R382), the cycle budget (16 R421), and the interrupt taken at the boundary (16 R405). -/

namespace Sys2Proof.Machine

/-- What an instruction that completes leaves: the core with its writes made, a load put in flight, a control transfer committed, a
write of the mode bits, the cycles spent (15 R397), a pc that stays (a wait, an interrupted block instruction), a trap to take. -/
structure Done where
  c : CoreState
  load : Option (Fin 16 × Word24) := none
  slot : Option SlotSt := none
  mode : Bool := false
  cycles : Nat := 1
  stay : Bool := false
  trap : Option (Nat × Nat) := none

/-- An instruction's outcome: it completes, or it faults with a vector, the address of an access fault, and the core as a faulting block
instruction leaves it (15 R391); any other fault leaves no effect. -/
inductive Res where
  | done (s : State) (d : Done)
  | fault (vector : Nat) (addr : Option Word24) (keep : Option CoreState := none)

/-- What an instruction may stand after: a delay slot admits it (15 R380), a repeat prefix admits it (15 R387). -/
structure Kind where
  inSlot : Bool
  inRep : Bool

/-- Instructions that may stand in a slot and under a repeat; in a slot only; in neither. -/
def kPlain : Kind := ⟨true, true⟩
def kSlot : Kind := ⟨true, false⟩
def kNone : Kind := ⟨false, false⟩

/-- Exception vectors (16 R403). -/
def vIllegal : Nat := 1
def vPriv : Nat := 2
def vData : Nat := 3
def vFetch : Nat := 4
def vBrk : Nat := 5
def vTrap : Nat := 6
def vBudget : Nat := 7

/-- The parcel address of a vector (16 R403). -/
def vectorAt (v : Nat) : Nat := if v < 16 then 4 * v else 0x40 + 4 * (v - 16)

/-- Puts a core back into the state. -/
def State.setCore (s : State) (k : Fin 19) (c : CoreState) : State :=
  { s with cor := { s.cor with core := s.cor.core.set k c } }

/-- The logical deputy that a physical one holds, 0x1F for a reserve or the Overman (15 R396). -/
def State.logicalOf (s : State) (k : Nat) : Nat :=
  match (List.range 16).find? (fun l => vgetD s.fab.ldMap l 99 == k) with
  | some l => if k < 18 then l else 0x1F
  | none => 0x1F

/-- Lockup (16 R407): the core stops with everything unchanged. The Overman's causes a CORE RESET; a deputy's raises
`FLT_DEPUTY_LOCKUP` and, for a deputy in service, a proposal (22 R525). -/
def State.lockup (k : Fin 19) (c : CoreState) (s : State) : State :=
  let s1 := s.setCore k { c with lockup := true }
  if k = overman then s1.coreReset rcLockup
  else
    let ld := s.logicalOf k.val
    let s2 := s1.report 0x1B02 2 0xFF k.val (b8 ld ++ b8 k.val ++ b16 0 ++ b32 c.pc ++ b32 c.excCause.toNat)
    if ld < 16 then s2.proposeDeputy ld 5 else s2

/-- What entry writes (16 R404): the pc pushed, the vector, `DS` and `REPX`, the access address, `EXC_INFO`; an interrupt writes only
`EXC_CAUSE`[4:0]. -/
structure Entry where
  push : Nat
  vector : Nat
  ds : Bool := false
  repx : Bool := false
  addr : Option Word24 := none
  info : Nat := 0
  irq : Bool := false

/-- Exception and interrupt entry, one indivisible sequence (16 R404, 15 R384): push pc and st, clear `IE`, `U` and `RPT`, write the
exception registers, go to the vector. `EXC_ADDR` of a cause that has no access address is an open value. Entry takes 6 cycles. -/
def State.enter (k : Fin 19) (c : CoreState) (e : Entry) (s : State) : State :=
  let sp := c.g[spReg]
  let a1 := (sp - 1).toNat
  let a2 := (sp - 2).toNat
  if dataSize k ≤ a1 ∨ dataSize k ≤ a2 then s.lockup k c
  else
    let c1 := (c.wr a1 (BitVec.ofNat 24 e.push)).wr a2 c.st
    let c2 := { c1 with
      g := c1.g.set spReg (sp - 2)
      st := wbit (wbit (wbit c.st stIE false) stU false) stRPT false
      pc := vectorAt e.vector
      fresh := true, slot := none, rep := none, repi := none, modeShadow := none, load := none, wait := none, kexp := false
      cycles := c.cycles + 6 }
    if e.irq then
      s.setCore k { c2 with excCause := (c.excCause &&& 0x60#7) ||| BitVec.ofNat 7 (e.vector % 32) }
    else
      let f := s.takeWord
      let cause := BitVec.ofNat 7 (e.vector % 32 + (if e.ds then 32 else 0) + (if e.repx then 64 else 0))
      f.2.setCore k { c2 with excCause := cause, excAddr := e.addr.getD f.1, excInfo := BitVec.ofNat 24 e.info }

/-- A load in flight lands (15 R381). -/
def CoreState.land (c : CoreState) : CoreState :=
  match c.load with
  | none => c
  | some (r, v) => { c with g := c.g.set r v, load := none }

/-- A fault of the current instruction (16 R406–R414): `c` is the core before it, `next` the address after it, `pcAt` the address that
goes on the stack where no rule of the awkward places names another, `n` the iterations a `REP` has completed. -/
def State.fault (k : Fin 19) (c0 : CoreState) (next pcAt vector : Nat) (addr : Option Word24) (n : Nat) (s : State) : State :=
  let c := c0.land
  if c.fresh then s.lockup k c
  else
    match c.rep with
    | some r => s.enter k c { push := r.prefixAt, vector := vector, repx := true, addr := addr, info := n }
    | none =>
      match c.repi with
      | some (p, lc0) =>
        s.enter k { c with lc := lc0, st := wbit c.st stRPT false } { push := p, vector := vector, addr := addr }
      | none =>
        match c.slot with
        | none => s.enter k c { push := pcAt, vector := vector, addr := addr }
        | some sl =>
          match sl.reti with
          | some (pc0, sp0, st0) =>
            s.enter k { c with g := c.g.set spReg sp0, st := st0, pc := pc0 }
              { push := pc0, vector := vector, addr := addr }
          | none =>
            if sl.resumed then s.enter k c { push := c.pc, vector := vector, addr := addr, ds := true }
            else
              s.enter k { c with dsr := BitVec.ofNat 24 (sl.outcome.getD next) }
                { push := c.pc, vector := vector, addr := addr, ds := true }

/-- The lowest interrupt line that is pending and enabled (16 R405). -/
def CoreState.line (c : CoreState) : Option Nat :=
  (List.range 16).find? (fun i => (c.intPend &&& c.intEn).getLsbD i)

/-- The core may take an interrupt here (16 R405, R412; 15 R380, R381, R386): not before a delay slot or a resumed one, a shadow
instruction, a repeated instruction that has not begun, or the vector of a spent cycle budget. -/
def CoreState.open_ (c : CoreState) : Bool :=
  c.slot.isNone && c.load.isNone && c.modeShadow.isNone && c.rep.isNone && c.repi.isNone && !c.kexp && !c.lockup

/-- Cycles of 800 MHz that a waiting core has spent until a tick (15 R397); the rounding to whole cycles is open (log 6). -/
def CoreState.waited (c : CoreState) (up : Nat) : Nat := if c.wait.isSome then (quotI (((up - c.waitAt) * 10000 : Nat) : Int) 1023).toNat else 0

/-- Takes a pending enabled interrupt at an instruction boundary or in a wait (16 R405, 15 R395): pc is the instruction not yet begun,
or the waiting instruction. -/
def State.takeIrq (k : Fin 19) (s : State) : State :=
  let c := s.cor.core[k]
  if c.ie && c.open_ then
    match c.line with
    | some i => s.enter k { c with cycles := c.cycles + c.waited s.clk.up } { push := c.pc, vector := 16 + i, irq := true }
    | none => s
  else s

/-- The user-mode cycle budget after some cycles (16 R421): reaching 0 marks vector 7 for the next instruction. -/
def CoreState.spend (c : CoreState) (user : Bool) (n : Nat) : CoreState :=
  let c1 := { c with cycles := c.cycles + n }
  if user && c.kcycLim != 0 then
    if c.kcycLim.toNat ≤ n then { c1 with kcycLim := 0, kexp := true }
    else { c1 with kcycLim := c.kcycLim - BitVec.ofNat 16 n }
  else c1

/-- What follows a completed instruction within its own core: the load in flight lands after its writes, its own load goes in flight,
the mode-change shadow moves on, the cycles are spent. `c0` is the core before it. -/
def Done.settle (d : Done) (c0 : CoreState) : CoreState :=
  let c1 := { d.c with load := c0.load }.land
  { c1 with load := d.load, fresh := false,
            modeShadow := if d.mode then some (modeBits c0.st) else none }.spend c0.user d.cycles

/-- Where execution goes after a completed instruction outside a `REP` (15 R379, R388; 16 R408): `next` is the address after it. -/
def CoreState.advance (c c0 : CoreState) (d : Done) (next : Nat) : CoreState :=
  if d.stay then { c with pc := c0.pc }
  else
    match c0.slot with
    | some sl =>
      let c1 := { c with pc := sl.outcome.getD next, slot := none }
      if sl.resumed then { c1 with excCause := c.excCause &&& 0x5F#7 }
      else if sl.reti.isSome ∧ c.excCause.getLsbD 5 then
        { c1 with slot := some { outcome := some c.dsr.toNat, resumed := true } }
      else c1
    | none =>
      match d.slot with
      | some sl => { c with pc := next, slot := some sl }
      | none =>
        if c0.rpt then
          let lc := c.lc - 1
          if lc = 0 then { c with lc := 0, st := wbit c.st stRPT false, pc := next, repi := none }
          else { c with lc := lc, pc := c0.pc, repi := none }
        else { c with pc := next }

/-- Iterations of an instruction under `REP` (15 R386): at most `n` more, `i` completed. Answers the state and the core after them, or the
state after the fault's entry. -/
def runRep (k : Fin 19) (next : Nat) (f : State → CoreState → Res) : Nat → Nat → State → State
  | 0, _, s =>
    let c := s.cor.core[k]
    s.setCore k { c with rep := none, pc := next }
  | n + 1, i, s =>
    let c := s.cor.core[k]
    match f s c with
    | .fault v a _ => s.fault k c next c.pc v a i
    | .done s1 d => runRep k next f n (i + 1) (s1.setCore k (d.settle c))

/-- A `CALL` before its delay slot writes N, the address after the slot (15 R379). -/
def CoreState.writeLink (c : CoreState) (next : Nat) : CoreState :=
  match c.slot with
  | some sl =>
    match sl.link with
    | some a => { c.wr a (BitVec.ofNat 24 next) with slot := some { sl with link := none } }
    | none => c
  | none => c

/-- Runs one instruction of `len` parcels on a core. A core that waits or is locked up executes nothing (15 R392, 16 R407); a spent
budget raises vector 7 first (16 R421); then the fetch is checked (15 R370), the prefix and the slot (15 R380, R387), and the
instruction runs. -/
def State.runCore (k : Fin 19) (len : Nat) (kind : Kind) (f : State → CoreState → Res) (s0 : State) : State :=
  let c0 := s0.cor.core[k]
  let next := c0.pc + len
  if c0.lockup || c0.wait.isSome then s0
  else if c0.kexp then s0.fault k { c0 with kexp := false } next c0.pc vBudget none 0
  else
    let c := c0.writeLink next
    let s := s0.setCore k c
    match (List.range len).find? (fun i => !fetchOk k c (c.pc + i)) with
    | some i => s.fault k c next (c.pc + i) vFetch (some (BitVec.ofNat 24 (c.pc + i))) 0
    | none =>
      if c.rep.isSome && !kind.inRep then
        s.fault k { c with rep := none } next ((c.rep.map (·.prefixAt)).getD c.pc) vIllegal none 0
      else if (c.slot.isSome && !kind.inSlot) || (c.repi.isSome && !kind.inRep) then
        s.fault k c next c.pc vIllegal none 0
      else
        match c.rep with
        | some r => (runRep k next f r.left 0 s).takeIrq k
        | none =>
          if c.repi.isSome && c.lc == 0 then
            (s.setCore k { c.land with pc := next, repi := none, modeShadow := none, fresh := false }).takeIrq k
          else
            match f s { c with repi := none } with
            | .fault v a keep => s.fault k (keep.getD { c with repi := none }) next c.pc v a 0
            | .done s1 d =>
              let c1 := (d.settle c).advance c d next
              match d.trap with
              | some (v, info) => s1.enter k c1 { push := c1.pc, vector := v, info := info }
              | none => (s1.setCore k c1).takeIrq k

/-- An instruction that touches only its core. -/
def pureIns (g : CoreState → CoreState) (s : State) (c : CoreState) : Res := .done s { c := g c }

/-- The illegal-instruction exception (15 R375). -/
def illegal : Res := .fault vIllegal none

/-- The answer of a command that runs an instruction. -/
def ans (s : State) : Host.Outcome State Fault Refusal := .next s

end Sys2Proof.Machine
end

