-- ==== Sys2Proof/Machine/BlockReset.lean ====
section
/-! DEFINITION. Resetting one block (18 R451): the idle conditions, what a block's reset clears, and how long it takes. -/

namespace Sys2Proof.Machine

/-- A capture region that is `FILLING` selects an element. -/
def State.fillingSelects (s : State) (el : Nat) : Bool :=
  s.smp.lode.regions.toList.any (fun r => r.cstate == .filling && bit r.elems el)

/-- A timing port is `OFF` or `GATED`. -/
def State.portQuiet (s : State) (n : Nat) : Bool :=
  let p := (vgetD s.syn.ports n {}).pstate
  p == .off || p == .gated

/-- The idle condition of a block (18 R451, table of blocks); a class or index that names no block is never idle. -/
def State.blockIdle (s : State) (cls idx : Nat) : Bool :=
  match cls with
  | 0 => s.reserveStopes.contains idx && (s.fab.stSub.map (·.phys)) != some idx && s.fab.testing != some (0, idx)
  | 1 => s.reserveDeputies.contains idx && s.fab.dpSub.isNone && s.fab.testing != some (1, idx)
  | 2 => decide (idx < 96) && (vgetD s.smp.lanes idx {}).state == .off && !s.fillingSelects idx
  | 3 => decide (idx < 2) && !(s.ses.open_.any (fun x => x.transport == idx || x.transport == idx + 2)) &&
         !(s.por.streams.any (fun x => x.port == idx)) &&
         !(s.ses.out.any (fun p => p.transport == idx || p.transport == idx + 2))
  | 4 => decide (idx < 4) && !(idx == 0 && s.ses.open_.any (fun x => x.transport == 5)) &&
         (let u := vgetD s.por.uart idx {}; u.txq.isEmpty && !u.txBusy && u.hold.isNone && !u.ude)
  | 5 => decide (idx < 32) && s.portQuiet idx
  | 6 => decide (idx < 4) && (List.range 8).all (fun i => s.portQuiet (8 * idx + i))
  | 7 => decide (idx < 68) && vgetD s.smp.lode.use idx .retired == .spare
  | _ => false

/-- What the reset of a block clears (18 R451, table of blocks). -/
def State.blockClear (cls idx : Nat) (s : State) : State :=
  match cls with
  | 0 => { s with clk := { s.clk with isl := vupdN s.clk.isl idx (fun i => { cap := i.cap, frep := i.frep, gen := i.cap, genAt := s.clk.up }) } }
  | 1 => { s with cor := { s.cor with core := vupdN s.cor.core idx (fun _ => {}) } }
  | 2 => { s with smp := { s.smp with lanes := vupdN s.smp.lanes idx (fun _ => {}), adits := vupdN s.smp.adits idx (fun _ => {}) } }
  | 3 => { s with por := { s.por with eth := vupdN s.por.eth idx (fun e => { e with link := false, pauseUntil := 0 }) } }
  | 4 => { s with por := { s.por with uart := vupdN s.por.uart idx (fun u => { par := u.par, rxd := u.rxd, markSince := u.markSince }) } }
  | 5 => { s with syn := { s.syn with ports := vupdN s.syn.ports idx (fun p =>
            { cfg := p.cfg, staged := p.staged, enStaged := p.enStaged, owner := p.owner, path := p.path }) } }
  | 6 => { s with syn := { s.syn with bank := vupdN s.syn.bank idx (fun _ => if s.syn.refValid then .locked else .coasting) } }
  | _ => s

/-- Ticks that a block's reset takes (18 R451, table of blocks). -/
def blockTicks (cls : Nat) : Nat := ([40920, 24552, 4092, 818400, 819, 1637, 818400, 163680].getD cls 0)

/-- Writing `GO` (18 R451): the idle test, then the reset begins or is refused; in IDLE it is refused (18 R462). While a reset runs, the write waits for nothing and
changes nothing. -/
def State.blockGo (s : State) : State :=
  if s.pow.brstRun.isSome then s
  else if s.pow.pst != .idle && s.blockIdle (s.pow.brstUnit / 256) (s.pow.brstUnit % 256) then
    { s with pow := { s.pow with brstStat := 1, brstRun := some s.pow.brstUnit } }
  else { s with pow := { s.pow with brstStat := 2 } }

/-- The running block reset completes after its time. -/
def State.blockDone (s : State) : State :=
  match s.pow.brstRun with
  | none => s
  | some u =>
    let s1 := (s.wait (blockTicks (u / 256))).blockClear (u / 256) (u % 256)
    { s1 with pow := { s1.pow with brstStat := 0, brstRun := none } }

/-- `BLOCK_RESET`: a write of `BRST_CTL` (18 R451). -/
def execRegBlockReset (v : Word24) (s : State) : Host.Outcome State Fault Refusal :=
  .next (if v.getLsbD 0 then s.blockGo else s)

/-- `BLOCK_RESET_DONE`: the block's reset completes; nothing is due when none runs. -/
def execEvBlockResetDone (s : State) : Host.Outcome State Fault Refusal := .next s.blockDone

end Sys2Proof.Machine
end

