-- ==== Sys2Proof/Machine/Element.lean ====
section
/-! DEFINITION. Operations on one element: its lane and adit, its element-bands, entry into quarantine (05 R113), and the erasing of its
samples (02 R48, R49). -/

namespace Sys2Proof.Machine

/-- The three bands. -/
def bands : List Band := [.u, .m, .l]

/-- The bands of a mask, bit n for code n. -/
def bandsOf (mask : Nat) : List Band := bands.filter (fun b => bit mask b.code)

/-- The lane of an element; a lane in its reset state for a number that names none. -/
def State.lane (s : State) (n : Nat) : LaneState := vgetD s.smp.lanes n {}

/-- Changes one lane. -/
def State.mapLane (n : Nat) (f : LaneState → LaneState) (s : State) : State :=
  { s with smp := { s.smp with lanes := vupdN s.smp.lanes n f } }

/-- Changes the words put on the downlinks. -/
def State.mapSent (f : List SentWord → List SentWord) (s : State) : State := { s with smp := { s.smp with sent := f s.smp.sent } }

/-- The adit of an element. -/
def State.adit (s : State) (n : Nat) : AditState := vgetD s.smp.adits n {}

/-- Changes one adit. -/
def State.mapAdit (n : Nat) (f : AditState → AditState) (s : State) : State :=
  { s with smp := { s.smp with adits := vupdN s.smp.adits n f } }

/-- Changes the assay part. -/
def State.mapAssay (f : AssayState → AssayState) (s : State) : State := { s with arr := { s.arr with assay := f s.arr.assay } }

/-- The calibration table's entry of an element-band (05 R119). -/
def State.eb (s : State) (n : Nat) (b : Band) : EbEntry := (vgetD s.arr.assay.table.ebs n ⟨{}, {}, {}⟩).get b

/-- Changes one element-band entry. -/
def State.mapEb (n : Nat) (b : Band) (f : EbEntry → EbEntry) (s : State) : State :=
  s.mapAssay (fun a => { a with table := { a.table with ebs := vupdN a.table.ebs n (fun e => e.upd b f) } })

/-- The estimator's working figures of an element-band. -/
def State.work (s : State) (n : Nat) (b : Band) : EbWork := (vgetD s.arr.assay.work n ⟨{}, {}, {}⟩).get b

/-- Changes the working figures of an element-band. -/
def State.mapWork (n : Nat) (b : Band) (f : EbWork → EbWork) (s : State) : State :=
  s.mapAssay (fun a => { a with work := vupdN a.work n (fun e => e.upd b f) })

/-- An element-band enters quarantine (05 R113): its clock starts at the next boundary. A rejection stands until `ELEM_REQUAL` (05 R114). -/
def State.quarantine (n : Nat) (b : Band) (s : State) : State :=
  (s.mapEb n b (fun e => { e with ebstate := 1, nsig := 0, qage := 0 })).mapWork n b
    (fun w => { w with qclock := 0, folded := [], tauHist := [], res1 := 0, res10 := 0 })

/-- Every enabled band of an element enters quarantine; not those of one that `ELEM_OUT` has taken out (09 R224). -/
def State.quarantineAll (n : Nat) (s : State) : State :=
  if s.fab.outList.contains n then s else (bandsOf (s.lane n).bands).foldl (fun t b => t.quarantine n b) s

/-- Seeds an element's table entries from the stored table, where its capability record matches the stored identity (05 R120). -/
def State.seedElement (n : Nat) (s : State) : State :=
  match s.arr.assay.stored, (s.lane n).cap with
  | some t, some c =>
    let id := vgetD t.ids n {}
    if id.vendor = c.vendor ∧ id.model = c.model ∧ id.serial = c.serial ∧ (id.vendor ≠ 0 ∨ id.model ≠ 0 ∨ id.serial ≠ 0) then
      let old := vgetD t.ebs n ⟨{}, {}, {}⟩
      bands.foldl (fun s b => s.mapEb n b (fun e => { e with dly := (old.get b).dly, ph := (old.get b).ph, gain := (old.get b).gain })) s
    else s
  | _, _ => s

/-- The first time after a boot that an element's identity is known, its entries are seeded (05 R120). -/
def State.seedOnce (n : Nat) (s : State) : State :=
  if vgetD s.arr.assay.seedDue n false then
    (s.seedElement n).mapAssay (fun a => { a with seedDue := vupdN a.seedDue n (fun _ => false) })
  else s

/-- An element-band is in service. -/
def State.inService (s : State) (n : Nat) (b : Band) : Bool := (s.eb n b).ebstate == 0

/-- The site that the charter gives an element. -/
def State.siteOf (s : State) (n : Nat) : Nat := (s.elem n).site

/-- In-service elements of a band at a site. -/
def State.serving (s : State) (site : Nat) (b : Band) : List Nat :=
  (List.range 96).filter (fun n => s.inService n b && s.siteOf n == site)

/-- Marks a span of an element's ticks as erased: first and one past the last. -/
def State.erase (n lo hi : Nat) (s : State) : State := s.mapAdit n (fun a => { a with erased := (lo, hi) :: a.erased })

/-- The tick of the first boundary after now. -/
def State.nextBoundaryTick (s : State) : Nat := (s.ms + 1) * epochTicks

/-- The tick that a sample index names: the latest one not after `now`, moved by the lane's epoch steps (02 R43, 17 R432). -/
def indexTick (now : Nat) (map : Int) (sidx : Nat) : Nat :=
  let i := bitsOf 48 ((sidx : Int) + map)
  now - (now + 2 ^ 48 - i) % 2 ^ 48

/-- The element's samples are erased from a tick to the first boundary after detection, at which it leaves every beam (02 R49). -/
def State.leaveBeams (n : Nat) (s : State) : State :=
  let from_ := ((s.lane n).lastFrame.map (fun f => indexTick s.clk.tick (s.lane n).sidxMap ((f.2 + 165) % 2 ^ 48))).getD s.clk.tick
  (s.erase n from_ s.nextBoundaryTick).mapLane n (fun l => { l with leaving := true, erasing := true })

end Sys2Proof.Machine
end

