-- ==== Sys2Proof/Machine/Line.lean ====
section
/-! DEFINITION. Line coding of the element lanes (02 R28, R30): delimiters and fill, 8b/10b, 64b/66b with its scrambler, the bytes of a frame
as received, and what a downlink word is on the line. -/

namespace Sys2Proof.Machine

/-! ### Delimiters and fill -/

/-- A 64b/66b control block: its type, bytes 1 to 7 zero (02 R28). -/
def ctlBlock (typ : Nat) : LineItem := .block 0b01#2 (b8 typ ++ bz 7)

/-- A 64b/66b data block. -/
def dataBlock (b : List Byte) : LineItem := .block 0b10#2 b

/-- `FRAME_START`, `FRAME_END`, `DWORD_START` and `IDLE` at a rate code (02 R28). -/
def frameStart (rate : Nat) : List LineItem := if rate = 2 then [ctlBlock 0xE1] else [.char true 0xBC#8, .char true 0xFB#8]
def frameEnd (rate : Nat) : List LineItem := if rate = 2 then [ctlBlock 0xE2] else [.char true 0xFD#8, .char false 0x50#8]
def dwordStart (rate : Nat) : List LineItem := if rate = 2 then [ctlBlock 0xE3] else [.char true 0xBC#8, .char true 0x7C#8]
def idleItems (rate : Nat) : List LineItem := if rate = 2 then [ctlBlock 0x1E] else [.char true 0xBC#8, .char false 0x50#8]

/-- The data bytes of an item; none for a control item. -/
def itemData : LineItem → Option (List Byte)
  | .char false b => some [b]
  | .block 0b10#2 b => if b.length = 8 then some b else none
  | _ => none

/-- The bytes between the delimiters of a frame; none for one that holds `IDLE` or an unknown control item (02 R30). -/
def frameBytes (rate : Nat) (l : List LineItem) : Option (List Byte) :=
  let a := frameStart rate
  let z := frameEnd rate
  let mid := (l.drop a.length).take (l.length - a.length - z.length)
  if l = a ++ mid ++ z ∧ (mid.all (fun x => (itemData x).isSome)) = true then some (mid.flatMap (fun x => (itemData x).getD [])) else none

/-- The items of bytes: characters, or blocks of eight. -/
def dataItems (rate : Nat) (b : List Byte) : List LineItem :=
  if rate = 2 then (List.range (b.length / 8)).map (fun i => dataBlock ((b.drop (8 * i)).take 8)) else b.map (.char false)

/-- A frame on the line. -/
def frameItems (rate : Nat) (b : List Byte) : List LineItem := frameStart rate ++ dataItems rate b ++ frameEnd rate

/-! ### 8b/10b -/

/-- The six bits abcdei of D.x at negative running disparity, x from 0. -/
def code6 : List Nat :=
  [0b100111, 0b011101, 0b101101, 0b110001, 0b110101, 0b101001, 0b011001, 0b111000, 0b111001, 0b100101, 0b010101, 0b110100, 0b001101,
   0b101100, 0b011100, 0b010111, 0b011011, 0b100011, 0b010011, 0b110010, 0b001011, 0b101010, 0b011010, 0b111010, 0b110011, 0b100110,
   0b010110, 0b110110, 0b001110, 0b101110, 0b011110, 0b101011]

/-- The four bits fghj of D.x.y and of K.x.y at negative running disparity, y from 0. -/
def code4 : List Nat := [0b1011, 0b1001, 0b0101, 0b1100, 0b1101, 0b1010, 0b0110, 0b1110]
def codeK4 : List Nat := [0b1011, 0b0110, 0b1010, 0b1100, 0b1101, 0b0101, 0b1001, 0b0111]

/-- Ones of a code of `n` bits. -/
def ones (n v : Nat) : Nat := ((List.range n).filter (fun i => v.testBit i)).length

/-- A sub-block in the form its running disparity asks for, and the disparity after it: an unbalanced one, and the balanced ones that have
two forms, are complemented at positive disparity. -/
def subBlock (n v : Nat) (twoForms rd : Bool) : Nat × Bool :=
  let balanced := 2 * ones n v == n
  (if rd && (!balanced || twoForms) then 2 ^ n - 1 - v else v, if balanced then rd else !rd)

/-- The ten bits of a character, and the running disparity after it. -/
def encode10 (k : Bool) (b : Byte) (rd : Bool) : Nat × Bool :=
  let x := b.toNat % 32
  let y := b.toNat / 32
  let six := subBlock 6 (if k && x == 28 then 0b001111 else code6.getD x 0) (x == 7) rd
  let alt := (!six.2 && [17, 18, 20].contains x) || (six.2 && [11, 13, 14].contains x)
  let four :=
    if k then subBlock 4 (codeK4.getD y 0) true six.2
    else if y = 7 && alt then subBlock 4 0b0111 false six.2
    else subBlock 4 (code4.getD y 0) (y == 3) six.2
  (six.1 * 16 + four.1, four.2)

/-! ### 64b/66b -/

/-- One payload bit through the scrambler x^58 + x^39 + 1: the bit sent, and the last 58 bits sent, the latest in bit 0. -/
def scrambleBit (scr : Nat) (d : Bool) : Bool × Nat :=
  let o := d ^^ (scr.testBit 38 ^^ scr.testBit 57)
  (o, (2 * scr + o.toNat) % 2 ^ 58)

/-- A payload of 64 bits, bit 0 first. -/
def scramble (v scr : Nat) : Nat × Nat :=
  (List.range 64).foldl (fun (a : Nat × Nat) i => let r := scrambleBit a.2 (v.testBit i); (a.1 + r.1.toNat * 2 ^ i, r.2)) (0, scr)

/-- The scrambler after `n` further blocks of `IDLE`. -/
def idleBlocks : Nat → Nat → Nat
  | 0, scr => scr
  | n + 1, scr => idleBlocks n (scramble 0x1E scr).2

/-- What encodes the items of one downlink: the disparity and the scrambler, and the units sent so far, the last one first. -/
def encodeItem (a : List Nat × Bool × Nat) : LineItem → List Nat × Bool × Nat
  | .char k b => let c := encode10 k b a.2.1; (c.1 :: a.1, c.2, a.2.2)
  | .block sync b => let p := scramble (leNat b) a.2.2; ((sync.toNat + 4 * p.1) :: a.1, a.2.1, p.2)

/-- The bytes of a downlink word (02 R37): `DTYPE`, `ARG`, `CRC8`. -/
def DWord.bytes (w : DWord) : List Byte :=
  let b := b8 w.dtype ++ leBytes 6 w.arg
  b ++ [crc8 b]

/-- A downlink word on the line (02 R28). -/
def DWord.items (rate : Nat) (w : DWord) : List LineItem := dwordStart rate ++ dataItems rate w.bytes

/-- Ticks that a downlink word takes: 10 characters, or 2 blocks, counted up. -/
def wordTicks (rate : Nat) : Nat := if rate = 0 then 4 else 3

/-- 64b/66b blocks of a lane in a number of ticks: 66 UI of 200 ps each. -/
def blocksIn (ticks : Nat) : Nat := ticks * 10 ^ 8 / (8184 * 13200)

/-- Puts a word on the downlink at a tick, the line holding `IDLE` since the word before (02 R28). `IDLE` keeps the running disparity. -/
def LaneState.put (n start : Nat) (w : DWord) (l : LaneState) : LaneState × SentWord :=
  let b := blocksIn (start - l.rateAt)
  let scr := if l.rate = 2 then idleBlocks (b - l.txBlocks) l.txScr else l.txScr
  let r := (w.items l.rate).foldl encodeItem ([], l.txRd, scr)
  ({ l with txRd := r.2.1, txScr := r.2.2, txBlocks := if l.rate = 2 then max b l.txBlocks + 2 else 0, txFree := start + wordTicks l.rate },
   { lane := n, word := w, start := start, bytes := w.bytes, line := r.1.reverse })

end Sys2Proof.Machine
end

