-- ==== Sys2Proof/Machine/Lane.lean ====
section
/-! DEFINITION. The element lanes (02): downlink words and their acknowledgement, the round trip, bring-up, and the losses and slips. The
timed events of a lane have no effect when they are not due. Ticks of the tables' times: 50 µs = 4 092, 2 ms = 163 680. -/

namespace Sys2Proof.Machine

/-- The unit interval of a rate code, in ps (02 rate table). -/
def uiPs (rate : Nat) : Nat := if rate = 0 then 400 else if rate = 1 then 320 else 200

/-- Downlink word types (02). -/
def dtSync : Nat := 0x01
def dtMark : Nat := 0x02
def dtGain : Nat := 0x03
def dtBands : Nat := 0x04
def dtLamp : Nat := 0x05
def dtReset : Nat := 0x06
def dtAuxw : Nat := 0x07
def dtOffer : Nat := 0x10
def dtSelect : Nat := 0x11

/-- The `ARG` of `GAIN`, `BANDS`, `AUXW`, `OFFER` and `SELECT` without their `DSEQ` (02 downlink words). No rule makes the GV9600 send the
first three (log 19). -/
def gainArg (u m l agc : Nat) : Nat := u % 64 + 256 * (m % 64) + 65536 * (l % 64) + 2 ^ 24 * (agc % 2)
def bandsArg (mask : Nat) : Nat := mask % 8
def auxwArg (addr data : Nat) : Nat := addr % 2 ^ 16 + 2 ^ 16 * (data % 2 ^ 24)
def offerArg (lo hi rates widths : Nat) : Nat := lo + 16 * hi + 256 * rates + 2048 * widths
def selectArg (ver rate width mask : Nat) : Nat := ver + 16 * rate + 256 * width + 4096 * mask

/-- A control word with its `DSEQ` in `ARG`[47:40] (02 R37). -/
def ctrlWord (dtype arg dseq : Nat) : DWord := ⟨dtype, arg % 2 ^ 40 + dseq * 2 ^ 40⟩

/-- Ticks between the reference points of `MARK` words: 250 µs (02 R40). -/
def markTicks : Nat := 20460

/-- The tick at which a word other than `MARK` and `SYNC` can start: the downlink is free, and the word ends before the next scheduled
reference point or starts after the word sent there (02 R39). -/
def State.wordStart (s : State) (n : Nat) : Nat :=
  let l := s.lane n
  let t := max s.clk.tick l.txFree
  let next := (t / markTicks + 1) * markTicks
  if next < t + wordTicks l.rate then next + wordTicks l.rate else t

/-- Puts a word on the downlink of a lane at a tick (02 R28, R39). -/
def State.transmitAt (n start : Nat) (w : DWord) (s : State) : State :=
  let r := (s.lane n).put n start w
  (s.mapLane n (fun _ => r.1)).mapSent (· ++ [r.2])

/-- Puts a word on the downlink of a lane as soon as it can start (02 R39). -/
def State.transmit (n : Nat) (w : DWord) (s : State) : State := s.transmitAt n (s.wordStart n) w

/-- Puts a control word with the lane's present `DSEQ` on the downlink and waits for its acknowledgement (02 R38). -/
def State.sendCtrl (n dtype arg : Nat) (s : State) : State :=
  let q := (s.lane n).dseq
  let w := ctrlWord dtype arg q
  (s.transmit n w).mapLane n (fun l => { l with ctrl := some ⟨w, q, 1, s.clk.tick⟩ })

/-- The next `DSEQ` of a lane (02 R37). -/
def State.nextDseq (n : Nat) (s : State) : State := s.mapLane n (fun l => { l with dseq := (l.dseq + 1) % 256 })

/-- Sends a new control word, or queues it behind the one that waits for its acknowledgement (02 R38, R39). -/
def State.control (n dtype arg : Nat) (s : State) : State :=
  if (s.lane n).ctrl.isSome then s.mapLane n (fun l => { l with dqueue := l.dqueue ++ [⟨dtype, arg⟩] })
  else (s.nextDseq n).sendCtrl n dtype arg

/-- The next queued word goes out once none waits. -/
def State.nextControl (n : Nat) (s : State) : State :=
  match (s.lane n).dqueue with
  | [] => s
  | w :: r => (s.mapLane n (fun l => { l with dqueue := r })).control n w.dtype w.arg

/-- A lane changes its state: the entry is timed and the tries start over. -/
def State.laneTo (n : Nat) (st : LState) (s : State) : State :=
  s.mapLane n (fun l => { l with state := st, since := s.clk.tick, tries := 0 })

/-! ### Permitted combinations -/

/-- R25's table. -/
def comboPermitted (rate width : Nat) : Bool := decide (width ≤ rate ∧ rate ≤ 2)

/-- The rates and widths of a lane protocol version (02 lane protocol versions): the highest codes. -/
def versionTop (ver : Nat) : Nat := if ver = 1 then 0 else if ver = 2 then 1 else 2

/-- The combinations that the element's charter entry, its capabilities and a version permit, in the order in which they are tried: the
charter's width first, highest rate first, then the next lower width (02 R25, R44, R46). -/
def combos (e : ElemSec) (c : CapRecord) (ver : Nat) : List (Nat × Nat) :=
  ((List.range 3).reverse.map (fun w => (List.range 3).reverse.map (fun r => (r, w)))).flatten.filter (fun x =>
    comboPermitted x.1 x.2 && bit c.rates x.1 && bit c.widths x.2 && decide (x.1 ≤ e.maxRate ∧ x.2 ≤ e.maxWidth) &&
    decide (x.1 ≤ versionTop ver ∧ x.2 ≤ versionTop ver))

/-- The combination after the one tried (02 R46). -/
def comboAfter (l : List (Nat × Nat)) (x : Nat × Nat) : Option (Nat × Nat) := (l.drop ((l.idxOf x) + 1)).head?

/-- The highest lane version that both ends have; the GV9600 has 1 to 3 (02). -/
def commonVersion (c : CapRecord) : Option Nat :=
  let v := min 3 c.lverMax
  if c.lverMin ≤ v ∧ 1 ≤ v then some v else none

/-! ### Losses and slips -/

/-- The reports of a lane carry the element and its cause (log 7). -/
def State.laneReport (code sev n cause : Nat) (s : State) : State :=
  s.report code sev 0xFF n (Config.encodeFields code [n, cause])

/-- The downlink changes its rate and coding (02 R28, R44). -/
def LaneState.atRate (r tick : Nat) (l : LaneState) : LaneState :=
  if l.rate = r then l else { l with rate := r, rateAt := tick, txRd := false, txScr := 0, txBlocks := 0 }

/-- Back to `DARK` (02 R44, R49): rate code 0, nothing waiting. -/
def State.toDark (n : Nat) (cause : LCause) (s : State) : State :=
  (s.laneTo n .dark).mapLane n (fun l =>
    { l.atRate 0 s.clk.tick with
      cause := cause, lver := 0, width := 0, bands := 0, eye := 0, ctrl := none, dqueue := [], marks := [], echoes := [], rttJumps := 0
      syncGood := 0, syncL := none, lastFrame := none, crcWin := [], woken := false, offerAt := none, arrivals := [] })

/-- Ticks of a frame period (02 uplink frames). -/
def frameTicks : Nat := 165

/-- The report of a slip leaves at the end of its frame period, so that a loss in the same period takes its place (02 R50). -/
def State.tellSlip (n : Nat) (s : State) : State :=
  match (s.lane n).slipAt with
  | none => s
  | some x =>
    if s.clk.tick < x.1 + frameTicks then s
    else (s.mapLane n (fun l => { l with slipAt := none })).laneReport 0x1102 2 n LCause.slip.code

/-- The slips whose frame periods have ended are reported. -/
def State.tellSlips (s : State) : State := (List.range 96).foldl (fun t n => t.tellSlip n) s

/-- A slip in the same frame period is handled as a loss alone (02 R50). -/
def State.dropSlip (n : Nat) (s : State) : State :=
  match ((s.tellSlip n).lane n).slipAt with
  | none => s.tellSlip n
  | some x => (s.tellSlip n).mapLane n (fun l => { l with slips := x.2, slipAt := none })

/-- A lane loss (02 R48–R50): from `LIVE` the element leaves every beam at the first boundary after it. -/
def State.laneLoss (n : Nat) (cause : LCause) (s0 : State) : State :=
  let s := s0.dropSlip n
  let s1 := if (s.lane n).state = .live then s.leaveBeams n else s
  ((s1.mapLane n (fun l => { l with losses := satAdd 0xFFFF l.losses 1 })).toDark n cause).laneReport 0x1101 2 n cause.code

/-- A bring-up that fails returns to `DARK`; `FLT_LANE_LOSS` is raised once for the attempt (02 R46). -/
def State.bringUpFails (n : Nat) (s : State) : State :=
  let s1 := s.toDark n .timeout
  if (s.lane n).lossTold then s1
  else (s1.mapLane n (fun l => { l with lossTold := true, losses := satAdd 0xFFFF l.losses 1 })).laneReport 0x1101 2 n LCause.timeout.code

/-- A slip (02 R48–R50): the lane returns to `RANGE` and keeps version, rate and width. -/
def State.laneSlip (n : Nat) (s0 : State) : State :=
  let s := s0.tellSlip n
  (((s.leaveBeams n).mapLane n (fun l => { l with
      slips := satAdd 0xFFFF l.slips 1, cause := .slip, slipAt := some ((l.slipAt.map (·.1)).getD s.clk.tick, (l.slipAt.map (·.2)).getD l.slips) })).laneTo
    n .range).mapLane n (fun l => { l with echoes := [], rttJumps := 0, lastFrame := none, syncL := none, woken := false })

/-- Brings a lane up from the start (02 R44); none leaves `OFF` before SYN-A has locked (23 R546). -/
def State.bringUp (n : Nat) (s : State) : State := if !s.clk.runs then s else (s.toDark n (s.lane n).cause).mapLane n (fun l => { l with lossTold := false })

/-! ### Round trip and sample index -/

/-- The lane round trip of echoes, in ps: their mean, in 1/16 UI (02 R41). -/
def meanRtt (rate : Nat) (e : List Int) : Nat := (quotI (e.foldl (· + ·) 0 * uiPs rate) (16 * e.length)).toNat

/-- The downlink delay: half of the round trip (02 R41). -/
def halfRtt (rate : Nat) (e : List Int) : Nat := (quotI (e.foldl (· + ·) 0 * uiPs rate) (32 * e.length)).toNat

/-- The spread of echoes in 1/16 UI. -/
def spread (e : List Int) : Int := (e.foldl max (e.headD 0)) - (e.foldl min (e.headD 0))

/-- Ticks and 1/65 536 ticks in a time in ps (81.84 MHz). -/
def psTicks (ps : Nat) : Nat × Nat := (ps * 8184 / 10 ^ 8, ps * 8184 % 10 ^ 8 * 65536 / 10 ^ 8)

/-- Sends `SYNC` (02 R43): L is the tick at or before the sample edge, and the adit takes the remainder. The word departs as soon as the
downlink is free, a free fraction of a tick after that tick (log 16); a version 1 front-end declares no `SYNC_DELAY`, and 0 is taken (log 16). -/
def State.sendSync (n : Nat) (s : State) : State :=
  let l := s.lane n
  let start := max s.clk.tick l.txFree
  let d := psTicks (Config.departPs s.free % 12219 + l.ddown + ((l.cap.map (·.syncDelay)).getD 0))
  let load := (start + d.1) % 2 ^ 48
  (({ s with free := s.free + 1 }.transmitAt n start ⟨dtSync, load⟩).mapLane n (fun l =>
    { l with syncL := some load, syncGood := 0, fracOff := d.2, ddownAtSync := l.ddown, sidxMap := 0, lastFrame := none,
             since := s.clk.tick, tries := l.tries + 1 })).mapAdit n (fun a => { a with laneTerm := d.2 })

/-- Enough echoes end `RANGE`: 16 within ±1 UI, or 4 after `STANDBY` (02 lane states table, R41, R42, R52). A round trip beyond 25 µs keeps
the lane out of service. -/
def State.rangeDone (n : Nat) (s : State) : State :=
  let l := s.lane n
  let e := l.echoes.take 16
  let ready := if l.woken then decide (4 ≤ l.echoes.length) else decide (16 ≤ l.echoes.length) && decide (spread e ≤ 32)
  if l.state ≠ .range || !ready then s
  else
    let s1 := s.mapLane n (fun l => { l with echoes := e, rtt := meanRtt l.rate e, ddown := halfRtt l.rate e })
    if 25000000 < (s1.lane n).rtt then s1.toDark n .range else (s1.laneTo n .sync).sendSync n

/-- An echo is late (02 R40): four frames of the lane, sample or `CAP`, have started since the `MARK` arrived; in a sample frame, also by the
turnaround alone, four frame periods in whole UI. -/
def LaneState.lateEcho (l : LaneState) (h : UpHeader) (arrival : Nat) : Bool :=
  let four := if l.rate = 0 then 20161 else if l.rate = 1 then 25201 else 40322
  (h.ftype == 0 && decide (four < h.echoTurn)) || decide (4 ≤ (l.arrivals.filter (fun a => decide (arrival < a + 16 * h.echoTurn))).length)

/-- Takes an echo into the round trip; three jumps in a row of a `LIVE` lane are a slip (02 R40, R41, R48). A jump is measured against the mean
in force, in which earlier echoes that jumped stand too (log 17). -/
def State.echo (n : Nat) (h : UpHeader) (arrival : Nat) (s : State) : State :=
  let l := s.lane n
  match l.marks.find? (fun m => m.1 == h.echoTag) with
  | none => s
  | some m =>
    let s1 := s.mapLane n (fun l => { l with marks := l.marks.filter (fun x => x.1 != h.echoTag) })
    if h.echoTag = 0 ∨ l.lateEcho h arrival = true then s1
    else if l.state ≠ .range ∧ l.state ≠ .sync ∧ l.state ≠ .live then s1
    else
      let e : Int := (arrival : Int) - m.2 - 16 * h.echoTurn
      let off := (e * uiPs l.rate - 16 * l.rtt).natAbs
      let jump := l.state = .live ∧ 64 * uiPs l.rate < off
      let es := (e :: l.echoes).take 64
      let s2 := s1.mapLane n (fun l =>
        { l with echoes := es, rtt := if l.state = .range then l.rtt else meanRtt l.rate es,
                 ddown := if l.state = .range then l.ddown else halfRtt l.rate es, rttJumps := if jump then l.rttJumps + 1 else 0 })
      if l.state = .live ∧ 3 ≤ (s2.lane n).rttJumps then s2.laneSlip n else s2.rangeDone n

/-! ### Acknowledgements and bring-up -/

/-- The band mask that a lane's `SELECT` names: the charter's bands that the front-end has (02 R44). -/
def State.selMask (s : State) (n : Nat) : Nat := (s.elem n).bands &&& (((s.lane n).cap.map (·.bands)).getD 7)

/-- The `ARG` of the lane's `SELECT` for the combination tried. -/
def State.selArg (s : State) (n : Nat) : Nat :=
  let l := s.lane n
  selectArg l.lver l.tryRate l.tryWidth (s.selMask n)

/-- Sends `SELECT` for the combination tried and waits for its acknowledgement (02 R38, R44, R46): a further try repeats the word with its
`DSEQ`. -/
def State.sendSelect (n : Nat) (s : State) : State :=
  let t := if (s.lane n).tries = 0 then s.nextDseq n else s
  (t.sendCtrl n dtSelect (t.selArg n)).mapLane n (fun l => { l with tries := l.tries + 1, since := s.clk.tick })

/-- Tries a combination, or gives the bring-up up when none remains (02 R44, R46). -/
def State.tryCombo (n : Nat) (x : Option (Nat × Nat)) (s : State) : State :=
  match x with
  | none => s.bringUpFails n
  | some c => ((s.laneTo n .select).mapLane n (fun l => { l with tryRate := c.1, tryWidth := c.2 })).sendSelect n

/-- The `SELECT` is acknowledged: a new rate is switched to; at the rate in use the lane ranges (02 lane states table). -/
def State.selected (n : Nat) (s : State) : State :=
  let l := s.lane n
  let mask := s.selMask n
  (s.laneTo n (if l.tryRate = l.rate then .range else .switch)).mapLane n (fun l =>
    { l with width := l.tryWidth, bands := mask, echoes := [], ctrl := none })

/-- `SEL_ECHO` as the lane's `SELECT` would give it. -/
def State.selSent (s : State) (n : Nat) : Nat := (ctrlWord dtSelect (s.selArg n) (s.lane n).dseq).arg

/-- A control word is acknowledged (02 R38, R51, R52): standby and wake change the lane's state. -/
def State.acked (n : Nat) (w : CtrlWait) (s : State) : State :=
  let s1 := (s.mapLane n (fun l => { l with ctrl := none })).nextControl n
  if w.word.dtype = dtLamp ∧ w.word.arg % 4 = 1 then s1.laneTo n .standby
  else if w.word.dtype = dtLamp ∧ w.word.arg % 4 = 2 then
    (s1.laneTo n .range).mapLane n (fun l => { l with woken := true, echoes := [], lastFrame := none })
  else s1

/-- The control acknowledgement of a valid frame (02 R37, R38). -/
def State.takeAck (n : Nat) (h : UpHeader) (s : State) : State :=
  match (s.lane n).ctrl with
  | some w => if w.dseq = h.ctrlAck then s.acked n w else s
  | none => s

/-- The capability record of a `CAP` frame's payload (02 R36). -/
def capOf (b : List Byte) : CapRecord :=
  { lverMin := u8At b 0, lverMax := u8At b 1, rates := u8At b 2, widths := u8At b 3, bands := u8At b 4, flags := u8At b 5
    gainSteps := u8At b 6, gainStep := u8At b 7, syncDelay := u32At b 8, warm := u16At b 12, vendor := u16At b 14
    model := u16At b 16, fw := u16At b 18, serial := u32At b 20, selEcho := fieldAt b 24 6 }

/-- The identity entry takes the `CAP` record's figures (05 R119). -/
def State.identify (n : Nat) (c : CapRecord) (s : State) : State :=
  s.mapAssay (fun a => { a with table := { a.table with
    ids := vupdN a.table.ids n (fun _ => { vendor := c.vendor, model := c.model, serial := c.serial }) } })

/-- A `CAP` frame in bring-up (02 R36, R44): in `OFFER` it gives the choice of version and combination; in `SELECT` it may complete the
acknowledgement. -/
def State.capFrame (n : Nat) (h : UpHeader) (c : CapRecord) (s : State) : State :=
  let l := s.lane n
  match l.state with
  | .offer =>
    match commonVersion c with
    | none => ((s.mapLane n (fun l => { l with cap := some c })).identify n c).bringUpFails n
    | some v =>
      ((s.mapLane n (fun l => { l with cap := some c, lver := v })).identify n c).tryCombo n (combos (s.elem n) c v).head?
  | .select =>
    if h.ctrlAck = l.dseq ∧ c.selEcho = s.selSent n then (s.mapLane n (fun l => { l with cap := some c })).selected n
    else s.mapLane n (fun l => { l with cap := some c })
  | _ => s

/-- Version 1 sample frames in `OFFER` (02 R45); the identity entry of a version 1 lane is 0 (05 R119). -/
def State.versionOne (n : Nat) (s : State) : State :=
  ((s.laneTo n .range).mapAssay (fun a => { a with table := { a.table with ids := vupdN a.table.ids n (fun _ => {}) } })).mapLane n (fun l => { l with lver := 1, rate := 0, width := 0, bands := 5 &&& (s.elem n).bands, cap := none, echoes := [] })

/-! ### Uplink frames -/

/-- Payload words of a sample frame (02 R31). -/
def payloadWords (ver width : Nat) : Nat := if ver = 1 then 21 else if width = 0 then 31 else if width = 1 then 62 else 93

/-- Header fields of a frame's bytes (02 R32). -/
def headerOf (b : List Byte) : UpHeader :=
  let w0 := u64At b 0
  let w1 := u64At b 8
  { sidx := w0 % 2 ^ 48, fseq := w0 / 2 ^ 48 % 256, bandmask := w0 / 2 ^ 56 % 8, wcode := w0 / 2 ^ 59 % 4, ftype := w0 / 2 ^ 61 % 4
    alert := bit w0 63, echoTag := w1 % 2 ^ 16, echoTurn := w1 / 2 ^ 16 % 2 ^ 24, feStatus := w1 / 2 ^ 40 % 256
    ctrlAck := w1 / 2 ^ 48 % 256 }

/-- The frame's `CRC` holds: the CRC-32 of header and payload stands in the first four trailer bytes (02 R33). -/
def frameCrcOk (b : List Byte) : Bool := crc32 (b.take (b.length - 8)) == u32At b (b.length - 8)

/-- The lane's frames are received (02 R30, R52): it is not off or dark, its rate is settled, or it stands by and a word awaits its
acknowledgement. -/
def LaneState.listening (l : LaneState) : Bool :=
  match l.state with
  | .offer | .select | .range | .sync | .live => true
  | .switch => l.rate == l.tryRate
  | .standby => l.ctrl.isSome
  | _ => false

/-- The frame of a lane in a state is one that its version and width allow: a `CAP` frame, or a sample frame of the lane's length and width
code; in `OFFER` a sample frame is version 1's (02 R30, R31, R32, R45). -/
def LaneState.accepts (l : LaneState) (b : List Byte) : Bool :=
  let h := headerOf b
  if h.ftype = 1 then b.length == 56
  else if h.ftype = 0 then
    if l.state = .offer then b.length == 8 * (3 + 21) && h.wcode == 0 && h.bandmask == 5
    else b.length == 8 * (3 + payloadWords l.lver l.width) && h.wcode == l.width
  else false

/-- Frames and failures of the last 10 ms; more than 1 % of the 4 960 frames of 10 ms failing is a loss (02 R48; log 17). -/
def LaneState.crcRate (l : LaneState) : Bool := decide (4960 < 100 * (l.crcWin.filter (·.2)).length)

/-- Notes a frame of a lane in the window of the CRC rate. -/
def State.noteFrame (n : Nat) (bad : Bool) (s : State) : State :=
  s.mapLane n (fun l =>
    { l with crcWin := (s.clk.tick, bad) :: l.crcWin.filter (fun x => decide (s.clk.tick < x.1 + 818400))
             lastValid := if bad then l.lastValid else s.clk.tick })

/-- A frame whose `CRC` fails (02 R48): its 165 sample times are erased and counted; too many are a loss. -/
def State.badFrame (n : Nat) (s : State) : State :=
  let s1 := s.noteFrame n true
  let l := s1.lane n
  if l.state ≠ .live then s1
  else
    let s2 := match l.lastFrame with
      | none => s1
      | some (q, i) =>
        let t := indexTick s.clk.tick l.sidxMap ((i + 165) % 2 ^ 48)
        (s1.erase n t (t + 165)).mapLane n (fun l => { l with lastFrame := some ((q + 1) % 256, (i + 165) % 2 ^ 48) })
    let s3 := s2.mapLane n (fun l => { l with crcErr := satAdd 0xFFFFFFFF l.crcErr 1 })
    if (s3.lane n).crcRate then s3.laneLoss n .crcRate else s3

/-- What a sample frame of a `LIVE` lane is against its predecessor (02 R48). -/
inductive FrameCheck where
  | good
  | skipped (g : Nat)
  | slip
  | missing
deriving DecidableEq, Repr

/-- Checks `FSEQ` and `SIDX` against the last accepted frame (02 R48, R50): 8 or more frame periods without a valid frame are a loss,
whatever the index. -/
def checkFrame (gap : Bool) (last : Option (Nat × Nat)) (h : UpHeader) : FrameCheck :=
  match last with
  | none => .good
  | some (q, i) =>
    let g := (h.fseq + 256 - q - 1) % 256
    if gap then .missing
    else if h.sidx ≠ (i + 165 * (g + 1)) % 2 ^ 48 then .slip
    else if g = 0 then .good
    else if g ≤ 7 then .skipped g
    else .missing

/-- The fourth expected frame in `SYNC`, or the first after `STANDBY`, puts the lane into service; the element enters quarantine (02 lane
states table, R47, R52); after `STANDBY` that frame's samples are used. -/
def State.syncFrame (n : Nat) (h : UpHeader) (s : State) : State :=
  let l := s.lane n
  let good := match l.syncL, l.lastFrame with
    | some x, none => if h.sidx = x then l.syncGood + 1 else 0
    | some _, some (_, i) => if h.sidx = (i + 165) % 2 ^ 48 then l.syncGood + 1 else 0
    | none, _ => 0
  let s1 := s.mapLane n (fun l => { l with syncGood := good, lastFrame := if good = 0 then none else some (h.fseq, h.sidx) })
  if (if l.woken then 1 else 4) ≤ good then
    (((s1.laneTo n .live).mapLane n (fun l => { l with woken := false, lossTold := false, erasing := false })).quarantineAll n).seedOnce n
  else s1

/-- The lane receives: it is neither off, dark, asleep nor between two rates. -/
def LaneState.receiving (l : LaneState) : Bool :=
  l.state == .offer || l.state == .select || l.state == .range || l.state == .sync || l.state == .live

/-- Ticks after which a lane state times out, and the tries it has (02 lane states table). -/
def LState.limit : LState → Option (Nat × Nat)
  | .offer => some (1636800, 1)
  | .select => some (163680, 4)
  | .switch => some (818400, 1)
  | .range => some (818400, 1)
  | .sync => some (163680, 4)
  | _ => none

/-- What a state's timeout does (02 R46, lane states table): `SELECT` and `SYNC` are tried four times; `SWITCH` falls back to the next
combination; the rest return to `DARK`. -/
def State.laneTimeout (n : Nat) (s : State) : State :=
  let l := s.lane n
  match l.state with
  | .select => if l.tries < 4 then s.sendSelect n else s.bringUpFails n
  | .sync => if l.tries < 4 then s.sendSync n else s.bringUpFails n
  | .switch => (s.mapLane n (LaneState.atRate 0 s.clk.tick)).tryCombo n (comboAfter (combos (s.elem n) (l.cap.getD {}) l.lver) (l.tryRate, l.tryWidth))
  | _ => s.bringUpFails n

end Sys2Proof.Machine
end

