-- ==== Sys2Proof/Machine/Load.lean ====
section
/-! DEFINITION. The load of the data streams (21 R510) and the conditions under which the GV9600 admits one (21 R514). -/

namespace Sys2Proof.Machine

/-- Line rate in bytes per µs (21 R514). -/
def EthState.rate (e : EthState) : Nat := if e.mode = 0 then 1250 else 125

/-- A stream kind is timed (21 R506). -/
def timedKind (k : Nat) : Bool := k == 0 || k == 1 || k == 2 || k == 4 || k == 6

/-- N of a tenant under a plan: the channel slots that are its own or shared; 384 for the installer (21 R510). -/
def Plan.slotsSeen (p : Option Plan) (ten : Nat) : Nat :=
  if ten = 0xFF then 384
  else match p with
    | none => 0
    | some p => (p.chans.filter (fun c => c.cown == ten || c.cown == 0xFF)).length

/-- W(s): the worst-case wire bytes of a timed stream in one epoch (21 R510); 0 for bulk. -/
def worstBytes (kind n : Nat) : Nat :=
  match kind with
  | 0 => 32 + 40 * n + 114 * (1 + (n - 34 + 34) / 35)
  | 1 => 178
  | 2 => 12112
  | 4 => 1514
  | 6 => 1514
  | _ => 0

/-- The time in ms between two of a stream's records: `SOL_INT`, `RTCM_INT`, or one epoch (21 R510). -/
def State.streamPeriod (s : State) (kind : Nat) : Nat :=
  if kind = 1 then s.sol.solP.solInt else if kind = 2 then s.sol.rtcmP.int else 1

/-- 8·ΣA(s) in bit/s over streams of (kind, bytes), as a numerator over the product of `SOL_INT` and `RTCM_INT` (21 R510). -/
def State.bitsPerSecond (s : State) (l : List (Nat × Nat)) : Nat × Nat :=
  let si := s.sol.solP.solInt
  let ri := s.sol.rtcmP.int
  let num := (l.map (fun x => 8000 * x.2 * (si * ri / s.streamPeriod x.1))).foldl (· + ·) 0
  (num, si * ri)

/-- A stream's latency class under a quota table (21 R506): its tenant's `Q_LCLASS`, 3 for the installer. -/
def classOf (quota : Nat → Quota) (ten : Nat) : Nat := if ten = 0xFF then 3 else (quota ten).qLclass

/-- A tenant's committed rate on a port in Mbit/s. -/
def Quota.rate (q : Quota) (port : Nat) : Nat := if port = 0 then q.qRate0 else q.qRate1

/-- A timed stream as R514 counts it: kind, port, tenant. -/
structure Load where
  kind : Nat
  port : Nat
  ten : Nat
deriving DecidableEq, Repr

/-- The timed streams open. -/
def State.loads (s : State) : List Load :=
  (s.por.streams.filter (fun x => timedKind x.kind && !x.draining)).map (fun x => ⟨x.kind, x.port, x.ten⟩)

/-- A port carries a load under a plan and a quota table (21 R514 a to d). -/
def State.portAdmits (s : State) (p : Option Plan) (quota : Nat → Quota) (l : List Load) (port : Nat) : Bool :=
  let w (x : Load) : Nat := worstBytes x.kind (Plan.slotsSeen p x.ten)
  let here := l.filter (fun x => x.port == port)
  let r := (vgetD s.por.eth port {}).rate
  let sum (l : List Load) : Nat := (l.map w).foldl (· + ·) 0
  let cls (x : Load) : Nat := classOf quota x.ten
  let dc := [200, 450, 700, 1200]
  (List.range 4).all (fun c =>
    let peers := (here.filter (fun x => cls x == c)).length
    decide (peers = 0 ∨ 1542 + sum (here.filter (fun x => decide (cls x < c))) + 1514 * (peers - 1) ≤ dc.getD c 0 * r)) &&
  decide (sum here ≤ 900 * r) &&
  (List.range 8).all (fun t =>
    let own := here.filter (fun x => x.ten == t)
    let a := s.bitsPerSecond (own.map (fun x => (x.kind, w x)))
    decide (own = [] ∨ (a.1 ≤ (quota t).rate port * 1000000 * a.2 ∧ 2 * sum (l.filter (fun x => x.ten == t)) ≤ 1024 * (quota t).qBuf)))

/-- The first port at which a load breaks a condition of R514. -/
def State.overload (s : State) (p : Option Plan) (quota : Nat → Quota) (l : List Load) : Option Nat :=
  (List.range 2).find? (fun k => !s.portAdmits p quota l k)

/-- The quotas in force. -/
def State.quotaOf (s : State) (t : Nat) : Quota := (vgetD s.ten.t t {}).quota

end Sys2Proof.Machine
end

