-- ==== Sys2Proof/Machine/PlanImage.lean ====
section
/-! DEFINITION. A plan image (08): its fields (R190–R198), the timing model (R184–R189), and the checks of R199. -/

namespace Sys2Proof.Machine

/-- The quotient rounded up. -/
def ceilDiv (a b : Nat) : Nat := (a + b - 1) / b

/-- The entries of a table of `n` entries of `w` bytes from `o`. -/
def entriesAt (b : List Byte) (o n w : Nat) : List (List Byte) := (List.range n).map (fun i => (b.drop (o + i * w)).take w)

/-- A capture descriptor's fields that a command or a plan gives (03 capture descriptor). -/
def captureOf (b : List Byte) : Region :=
  { cmode := u8At b 1, cwidth := u8At b 2, ctrig := u8At b 3, bands := u8At b 4, pre := u8At b 5, elems := fieldAt b 8 12
    base := u32At b 20, nblk := u16At b 24, targ := u16At b 26, ttime := u64At b 28 }

/-- A plan's capture entry (08 R195). -/
def planCapture (b : List Byte) : PlanCapture :=
  { cid := u8At b 0, cmode := u8At b 1, cwidth := u8At b 2, ctrig := u8At b 3, bands := u8At b 4, pre := u8At b 5
    elems := fieldAt b 8 12, base := u32At b 20, nblk := u16At b 24, targ := u16At b 26, ttime := u64At b 28, cperiod := u16At b 44 }

/-- Stride templates in sequence (08 R192); `n` bounds their number. -/
def templates : Nat → List Byte → List (List TmplOp)
  | 0, _ => []
  | n + 1, b =>
    if b.length < 4 then []
    else
      let k := u8At b 0
      ((entriesAt b 4 k 8).map (fun e => ⟨u8At e 0, u8At e 2, u8At e 3, u16At e 4, u16At e 6⟩)) :: templates n (b.drop (4 + 8 * k))

/-- A section of an image by its type. -/
def planSec (b : List Byte) (t : Nat) : List Byte := sectionOf b (directory 128 b 8) t

/-- A certificate record (08 R197). -/
def certOf (e : List Byte) : CertRec :=
  { lst := u8At e 0, csg := u8At e 1, cfloor := u16At e 2, busy := u32At e 4, ceil := u32At e 8, stride := u32At e 12
    slackmin := i32At e 16, cmp := u32At e 20, d1c := u32At e 24, margin := i32At e 28 }

/-- A plan image taken apart (08 R190–R197). -/
def planOf (b : List Byte) : Plan :=
  let bind := planSec b 1
  let nlst := u8At b 22
  let nbs := u16At b 24
  let ncs := u16At b 26
  let nas := u8At b 28
  let nss := u8At b 29
  let oc := 16 + 8 * nbs
  let oa := oc + 8 * ncs
  let os := oa + 4 * nas
  let win := planSec b 5
  let dl := planSec b 6
  let tm := planSec b 2
  let ro := planSec b 4
  let ce := planSec b 7
  { pfmt := u8At b 4, derated := bit (u8At b 5) 0, plen := u32At b 8, planId := u32At b 12, planGen := u32At b 16, floor := u16At b 20
    nlst := nlst, nldep := u8At b 23, nbs := nbs, ncs := ncs, nas := nas, nss := nss, model := u16At b 30, derateOf := u32At b 52
    siteHash := (b.drop 56).take 48, cver := u8At ce 0
    beams := (entriesAt bind 16 nbs 8).map (fun e => ⟨u8At e 0, u8At e 1, u8At e 2, u8At e 3, u8At e 4, u8At e 5, u8At e 6⟩)
    chans := (entriesAt bind oc ncs 8).map (fun e => ⟨u16At e 0, u8At e 2, u8At e 3, u8At e 4, u8At e 5, u8At e 6⟩)
    assays := (entriesAt bind oa nas 4).map (fun e => ⟨u8At e 0, u8At e 1, u8At e 2, u8At e 3⟩)
    searches := (entriesAt bind os nss 4).map (fun e => ⟨u8At e 0, u8At e 1, u8At e 2, u8At e 3⟩)
    tmpls := templates tm.length tm
    stopes := (entriesAt (planSec b 3) 0 nlst 16).map (fun e =>
      ⟨u8At e 0, u8At e 1, u16At e 2, u8At e 4, u8At e 5, u16At e 6, u32At e 8, u16At e 12⟩)
    routes := (entriesAt ro 0 (ro.length / 20) 20).map (fun e => ⟨u8At e 0, fieldAt e 4 12, u32At e 16⟩)
    wmap := (win.take 800).map (·.toNat)
    caps := (entriesAt win 816 (u8At win 800) 48).map planCapture
    dlStopes := (entriesAt dl 0 nlst 12).map (fun e => ⟨u8At e 0, u32At e 4, u32At e 8⟩)
    dlDeps := (entriesAt dl (12 * nlst) (u8At b 23) 8).map (fun e => ⟨u8At e 0, u16At e 2, u32At e 4⟩)
    cert := (entriesAt ce 8 nlst 32).map certOf }

/-! ### A plan's units -/

/-- The floor of a logical stope (08 R193). -/
def Plan.floorOf (p : Plan) (ls : Nat) : Nat :=
  match p.stopes[ls]? with
  | some h => if h.sfloor = 0 then p.floor else h.sfloor
  | none => p.floor

/-- The slots of a stope per kind, in ascending number (08 R192). -/
def insertBy {α : Type} (key : α → Nat) (x : α) : List α → List α
  | [] => [x]
  | y :: r => if key x ≤ key y then x :: y :: r else y :: insertBy key x r
def sortBy {α : Type} (key : α → Nat) (l : List α) : List α := l.foldr (insertBy key) []
def Plan.beamsOf (p : Plan) (ls : Nat) : List BeamSlot := sortBy (·.bnum) (p.beams.filter (fun x => x.lst == ls))
def Plan.chansOf (p : Plan) (ls : Nat) : List ChanSlot := sortBy (·.cnum) (p.chans.filter (fun x => x.lst == ls))
def Plan.assaysOf (p : Plan) (ls : Nat) : List AssaySlot := sortBy (·.aslot) (p.assays.filter (fun x => x.lst == ls))

/-- The channel slot entry of a channel. -/
def Plan.chan (p : Plan) (ch : Nat) : Option ChanSlot := p.chans.find? (fun x => x.cnum == ch)

/-- The distinct elements that the routes of a band bring to a stope (08 R194). -/
def Plan.routed (p : Plan) (ls : Nat) : List Nat :=
  (List.range 96).filter (fun e => p.routes.any (fun r => bit r.lsmask ls && bit r.emask e))

/-- The template of a stope. -/
def Plan.template (p : Plan) (ls : Nat) : List TmplOp :=
  match p.stopes[ls]? with
  | some h => p.tmpls.getD h.tmplid []
  | none => []

/-- Loop-kernel cycles of a logical deputy; 0 in format 1 (08 R196, R201). -/
def Plan.dbudget (p : Plan) (ld : Nat) : Nat :=
  if p.pfmt = 1 then 0 else ((p.dlDeps.find? (fun d => d.ldep == ld)).map (·.dbudget)).getD 0

/-- Bytes of one stored sample block: 10 230 at 6 bits, 5 115 at 4 bits (03 R67). -/
def blockBytes (cwidth : Nat) : Nat := if cwidth = 1 then 10230 else 5115

/-- Streams of a capture (03 R68). -/
def streamCount (elems bandMask : Nat) : Nat :=
  ((List.range 96).filter (bit elems)).length * ((List.range 3).filter (bit bandMask)).length

/-- Bytes of a capture region. -/
def Region.size (r : Region) : Nat := r.nblk * streamCount r.elems r.bands * blockBytes r.cwidth

/-- The region that a plan's capture entry arms. -/
def PlanCapture.region (c : PlanCapture) : Region :=
  { cmode := c.cmode, cwidth := c.cwidth, ctrig := c.ctrig, bands := c.bands, pre := c.pre, elems := c.elems, base := c.base
    nblk := c.nblk, targ := c.targ, ttime := c.ttime, owner := 0x10 }

/-- Two regions share a byte. -/
def Region.overlaps (a b : Region) : Bool := decide (a.base < b.base + b.size ∧ b.base < a.base + a.size)

/-- A capture's fields are in range: modes, widths, triggers, bands, a base on 4 096, blocks, and in a ring fewer blocks before the trigger
than the ring holds (03 capture descriptor, R69). Answers the offset of the first at fault. -/
def Region.badField (r : Region) : Option Nat :=
  if 1 < r.cmode then some 1 else if 1 < r.cwidth then some 2 else if 4 < r.ctrig then some 3
  else if 7 < r.bands then some 4
  else if r.cmode = 1 ∧ r.nblk ≤ r.pre then some 5
  else if r.base % 4096 ≠ 0 then some 20 else if r.nblk = 0 then some 24
  else if r.ctrig = 2 ∧ 7 < r.targ then some 26
  else if r.ctrig = 3 ∧ (96 ≤ r.targ / 4 ∨ 3 ≤ r.targ % 4) then some 26
  else none

/-- Bytes of the logical lode (03 lode): 48 MB. -/
def lodeBytes : Nat := 50331648

/-! ### The timing model -/

/-- What the model needs of a stope: its strides, result beats, cost of a stride and offset of the last result op. -/
structure StopeModel where
  sg : Nat
  n : Nat
  cost : Nat
  tres : Nat
  nbeat : Nat
  hasSlots : Bool
deriving DecidableEq, Repr

/-- Strides of an epoch (08 R175). -/
def strides (sg : Nat) : Nat := 5115 / sg

/-- `RDY(i)` in cycles after T0 (08 R184). -/
def ready (f sg i : Nat) : Nat := ceilDiv (f * (261888 + 1600 * sg * (i + 1))) 8184

/-- One crossing of the seam to the haulage (08 R185). -/
def seamCost (f : Nat) : Nat := 2 + ceilDiv f 400

/-- Runs the strides of an epoch: the start of the last one and the least slack (08 R179, R187). -/
def runStrides (f : Nat) (m : StopeModel) : Nat × Option Int :=
  let step := fun (acc : Nat × Nat × Option Int) (i : Nat) =>
    let start := max (ready f m.sg i) acc.2.1
    let fin := start + m.cost
    let sl : Int := (ready f m.sg (i + 1) : Int) - fin
    (start, fin, some (match acc.2.2 with | none => sl | some x => min x sl))
  let r := (List.range m.n).foldl step (0, 0, none)
  (r.1, r.2.2)

/-- What the model computes for a stope at a clock (08 R187). -/
structure ModelOut where
  busy : Nat
  ceil : Nat
  slackmin : Int
  cmp : Nat
  d1c : Nat
  margin : Int
deriving DecidableEq, Repr

/-- The model of R184 to R187 at a clock in MHz. -/
def evalModel (f : Nat) (m : StopeModel) : ModelOut :=
  let r := runStrides f m
  let cmp := if m.hasSlots then r.1 + m.tres + m.nbeat + seamCost f else 0
  { busy := m.n * m.cost, ceil := 920 * f, slackmin := r.2.getD 0, cmp := cmp, d1c := 1300 * f, margin := 1300 * f - (cmp : Int) }

/-- Offset in a template at which its last `ARM` or `ASY` op ends (08 R186). -/
def lastResult (ops : List TmplOp) : Nat :=
  (ops.foldl (fun (acc : Nat × Nat) o =>
    let t := acc.1 + o.cyc
    (t, if o.opc = 2 ∨ o.opc = 3 then t else acc.2)) (0, 0)).2

/-- The model's view of a logical stope. -/
def Plan.modelOf (p : Plan) (ls : Nat) : StopeModel :=
  let ops := p.template ls
  let nc := (p.chansOf ls).length
  let na := (p.assaysOf ls).length
  let sg := ((p.stopes[ls]?).map (·.sg)).getD 15
  { sg := sg, n := strides sg, cost := (ops.map (·.cyc)).foldl (· + ·) 0, tres := lastResult ops, nbeat := 4 * nc + 28 * na
    hasSlots := decide (0 < nc + na) }

/-- The model of a logical stope at a clock. -/
def Plan.eval (p : Plan) (ls f : Nat) : ModelOut := evalModel f (p.modelOf ls)

/-- The model passes: SLACKMIN and MARGIN are not negative. -/
def ModelOut.passes (m : ModelOut) : Bool := decide (0 ≤ m.slackmin ∧ 0 ≤ m.margin)

/-- The failure clock (09 R218): the lowest whole MHz from 300 up from which the model passes at every clock up to the floor. -/
def Plan.failureClock (p : Plan) (ls : Nat) : Nat :=
  let fl := p.floorOf ls
  fl - (((List.range (fl - 300)).map (fun i => fl - 1 - i)).takeWhile (fun f => (p.eval ls f).passes)).length

/-- Bytes of a stope's memory regions (08 R189). -/
def Plan.memoryOf (p : Plan) (ls : Nat) : Nat :=
  match p.stopes[ls]? with
  | none => 0
  | some h =>
    let ring := 1024 + 32 * h.sg
    let bs := p.beamsOf ls
    h.er * ring * 2 + h.er * ring / 8 + bs.length * 32 * h.sg + 81840 * (bs.filter (fun b => b.boutw == 1)).length +
    192 * (p.chansOf ls).length + 16 * h.er * (p.assaysOf ls).length + 4096 + h.fftlen

/-! ### The checks of R199 -/

/-- The index of the first element that fails. -/
def firstFail {α : Type} (ok : α → Bool) (l : List α) : Option Nat := l.findIdx? (fun x => !ok x)

/-- The first failure of a list of checks. -/
def firstSome {α : Type} : List (Option α) → Option α
  | [] => none
  | some x :: _ => some x
  | none :: r => firstSome r

/-- A Boolean check with the item it names. -/
def must (b : Bool) (item : Nat) : Option Nat := if b then none else some item

/-- No number occurs twice. -/
def distinct (l : List Nat) : Bool := l.all (fun x => (l.filter (· == x)).length == 1)

/-- Reserved fields of the sections are 0 (check 1): the section at fault. -/
def planReserved (b : List Byte) : Option Nat :=
  let bind := planSec b 1
  let nlst := u8At b 22
  let win := planSec b 5
  let dl := planSec b 6
  let rec tmplOk : Nat → List Byte → Bool
    | 0, _ => true
    | n + 1, t =>
      if t.length < 4 then true
      else zeroAt t 1 3 && (entriesAt t 4 (u8At t 0) 8).all (fun e => zeroAt e 1 1) && tmplOk n (t.drop (4 + 8 * u8At t 0))
  firstSome
    [must (zeroAt b 104 24 && decide (u8At b 5 < 2)) 0,
     must (zeroAt bind 6 10 && (entriesAt bind 16 (u16At b 24 + u16At b 26) 8).all (fun e => zeroAt e 7 1)) 0,
     must (tmplOk (planSec b 2).length (planSec b 2)) 1,
     must ((entriesAt (planSec b 3) 0 nlst 16).all (fun e => zeroAt e 14 2)) 2,
     must ((entriesAt (planSec b 4) 0 ((planSec b 4).length / 20) 20).all (fun e => zeroAt e 1 3)) 3,
     must (zeroAt win 801 15 && (entriesAt win 816 (u8At win 800) 48).all (fun e => zeroAt e 6 2 && zeroAt e 42 2 && zeroAt e 46 2)) 4,
     must ((entriesAt dl 0 nlst 12).all (fun e => zeroAt e 1 3) &&
       (entriesAt dl (12 * nlst) (if u8At b 4 = 1 then 0 else u8At b 23) 8).all (fun e => zeroAt e 1 1)) 5,
     must (zeroAt (planSec b 7) 2 6) 6,
     must (sigReserved (planSec b 8) 0) 7]

/-- Check 1: magic, length, directory, order, alignment, gaps, section checks and reserved fields (08 R190, R198). -/
def planCheck1 (b : List Byte) : Option Nat :=
  let dir := directory 128 b 8
  let ends := 256 :: dir.map (fun d => d.off + d.len)
  firstSome
    [must (u32At b 0 == 0x50535647 && u16At b 6 == 8 && u32At b 8 == b.length && decide (256 ≤ b.length ∧ b.length ≤ 262144)) 0,
     firstFail (fun x => x.2.typ == x.1 + 1 && zeroAt b (128 + 16 * x.1 + 2) 2 && x.2.off % 8 == 0 && decide (ends.getD x.1 0 ≤ x.2.off) &&
       zeroAt b (ends.getD x.1 0) (x.2.off - ends.getD x.1 0) && decide (x.2.off + x.2.len ≤ b.length)) ((List.range 8).zip dir),
     must (ends.getD 8 0 == b.length && (dir.getD 7 ⟨0, 0, 0, 0⟩).len == 200) 7,
     firstFail (fun d => crc32 ((b.drop d.off).take d.len) == d.crc) dir,
     planReserved b]

/-- Check 5: counts and numbering (08 R190–R194), bands (R183), floors (R188), memory (R189), deputy deadlines (R196), format 1 (R201). -/
def planCheck5 (b : List Byte) (p : Plan) : Option Nat :=
  let bind := planSec b 1
  let bandOf := fun ls => ((p.stopes[ls]?).map (·.bandin)).getD 0xFF
  let erOf := fun ls => ((p.stopes[ls]?).map (·.er)).getD 0
  let tl := p.tmpls
  firstSome
    [must (u16At bind 0 == p.nbs && u16At bind 2 == p.ncs && u8At bind 4 == p.nas && u8At bind 5 == p.nss &&
       bind.length == 16 + 8 * p.nbs + 8 * p.ncs + 4 * p.nas + 4 * p.nss && p.planId != 0 &&
       decide (1 ≤ p.nlst ∧ p.nlst ≤ 32 ∧ 1 ≤ p.nldep ∧ p.nldep ≤ 16 ∧ p.nbs ≤ 256 ∧ p.ncs ≤ 384 ∧ p.nas ≤ 160 ∧ p.nss ≤ 64) &&
       decide (600 ≤ p.floor ∧ p.floor ≤ 800)) 0,
     must ((tl.map (fun t => 4 + 8 * t.length)).foldl (· + ·) 0 == (planSec b 2).length) 1,
     must (tl.all (fun t => ((t.getLast?).map (·.opc)) == some 0x0F && (t.filter (fun o => o.opc == 0x0F)).length == 1 &&
       t.all (fun o => o.opc == 1 || o.opc == 2 || o.opc == 3 || o.opc == 4 || o.opc == 0x0F))) 1,
     must ((planSec b 3).length == 16 * p.nlst) 2,
     must ((planSec b 4).length % 20 == 0) 3,
     must ((planSec b 6).length == 12 * p.nlst + (if p.pfmt = 1 then 0 else 8 * p.nldep)) 5,
     must ((planSec b 7).length == 8 + 32 * p.nlst && u8At (planSec b 7) 1 == p.nlst) 6,
     firstFail (fun x => decide (x.lst < p.nlst ∧ 1 ≤ x.ecap ∧ x.ecap ≤ erOf x.lst ∧ x.bkinds < 16 ∧ x.boutw ≤ 1) &&
       x.bband == bandOf x.lst && (x.bown == 0 || x.bown == 0x10)) p.beams,
     must (distinct (p.beams.map (·.bnum))) 0,
     firstFail (fun x => decide (x.cnum < 384 ∧ x.lst < p.nlst ∧ x.ldep < p.nldep ∧ x.lslot < 32 ∧ 1 ≤ x.cnarm ∧ x.cnarm ≤ 8) &&
       (decide (x.cown < 8) || x.cown == 0xFF)) p.chans,
     must (distinct (p.chans.map (·.cnum)) && distinct (p.chans.map (fun x => 32 * x.ldep + x.lslot))) 0,
     firstFail (fun x => decide (x.aslot < 160 ∧ x.lst < p.nlst ∧ x.aldep < p.nldep) && x.aband == bandOf x.lst) p.assays,
     must (distinct (p.assays.map (·.aslot))) 0,
     firstFail (fun x => decide (x.sslot < 64 ∧ x.lst < p.nlst) &&
       (if x.sinput = 0 then p.beams.any (fun y => y.bnum == x.ssrc && y.boutw == 1 && y.lst == x.lst)
        else x.sinput == 1 && decide (x.ssrc ≤ 6) && p.caps.any (fun c => c.cid == x.ssrc))) p.searches,
     must (distinct (p.searches.map (·.sslot))) 0,
     firstFail (fun x => x.2.lst == x.1 && (x.2.sg == 5 || x.2.sg == 11 || x.2.sg == 15 || x.2.sg == 31) &&
       (x.2.sfloor == 0 || decide (600 ≤ x.2.sfloor ∧ x.2.sfloor ≤ 800)) && (x.2.bandin == 0xFF || decide (x.2.bandin ≤ 2)) &&
       x.2.er == (p.routed x.1).length && decide (x.2.tmplid < tl.length) && x.2.fftlen % 4096 == 0 &&
       (x.2.bandin == 0xFF) == !(p.routes.any (fun r => bit r.lsmask x.1))) ((List.range p.nlst).zip p.stopes),
     firstFail (fun r => decide (r.rband ≤ 2) && (List.range 32).all (fun ls =>
       !bit r.lsmask ls || (decide (ls < p.nlst) && bandOf ls == r.rband))) p.routes,
     firstFail (fun ls =>
       let ops := p.template ls
       let once := fun (code n : Nat) => (List.range n).all (fun i =>
         ((ops.filter (fun o => o.opc == code && decide (o.first ≤ i ∧ i < o.first + o.count))).length == 1))
       let within := fun (code n : Nat) => ops.all (fun o => o.opc != code || decide (o.first + o.count ≤ n))
       let nb := (p.beamsOf ls).length
       let nc := (p.chansOf ls).length
       let na := (p.assaysOf ls).length
       once 1 nb && once 2 nc && once 3 na && within 1 nb && within 2 nc && within 3 na) (List.range p.nlst),
     firstFail (fun ls => decide (p.memoryOf ls ≤ 376832)) (List.range p.nlst),
     firstFail (fun x => x.2.lst == x.1) ((List.range p.nlst).zip p.dlStopes),
     (if p.pfmt = 1 then none else firstFail (fun x => x.2.ldep == x.1 && x.2.d2t == 750) ((List.range p.nldep).zip p.dlDeps)),
     (if p.pfmt = 1 then
       must (!p.derated && p.derateOf == 0 && p.stopes.all (fun h => h.sfloor == 0) && p.dlStopes.all (fun d => d.warn == d.target)) 0
      else must (p.derated || p.derateOf == 0) 0)]

/-- Regions that the host holds: armed, filling or held, and owned by the installer or a tenant (03 R71). -/
def State.hostRegions (s : State) : List Region :=
  s.smp.lode.regions.toList.filter (fun r => r.cstate != .idle && decide (r.owner ≤ 8))

/-- Check 6: read windows (03 R73) and captures (03 R71). -/
def State.planCheck6 (s : State) (b : List Byte) (p : Plan) : Option Nat :=
  let rs := p.caps.map PlanCapture.region
  let win := planSec b 5
  firstSome
    [must (win.length == 816 + 48 * u8At win 800) 4,
     firstFail (fun w => w == 0xFF || decide (w < p.nlst)) p.wmap,
     firstFail (fun k => decide (4 ≤ ((p.wmap.drop (50 * k)).take 50 |>.filter (· == 0xFF)).length)) (List.range 16),
     must (distinct (p.caps.map (·.cid))) 4,
     firstFail (fun x => decide (x.cid ≤ 6 ∧ 1 ≤ x.cperiod) && x.region.badField.isNone && decide (x.base + x.region.size ≤ lodeBytes)) p.caps,
     firstFail (fun e => u8At e 36 == 0x10) (entriesAt win 816 (u8At win 800) 48),
     firstFail (fun i =>
       let r := rs.getD i {}
       !(s.hostRegions.any r.overlaps) && !((List.range rs.length).any (fun j => j != i && r.overlaps (rs.getD j {})))) (List.range rs.length)]

/-- Check 7: costs recomputed (08 R177, R186). -/
def planCheck7 (p : Plan) : Option Nat :=
  firstFail (fun ls =>
    let h := (p.stopes[ls]?).getD ⟨ls, 15, 0, 0xFF, 0, 0, 0, 0⟩
    let bs := p.beamsOf ls
    let cs := p.chansOf ls
    let cost := fun u => ceilDiv (u * h.sg) 16
    (p.template ls).all (fun o =>
      let u :=
        if o.opc = 1 then ((bs.drop o.first).take o.count |>.map (·.ecap)).foldl (· + ·) 0
        else if o.opc = 2 then ((cs.drop o.first).take o.count |>.map (·.cnarm)).foldl (· + ·) 0
        else if o.opc = 3 then h.er * o.count
        else 0
      o.u == u && (if o.opc = 4 then decide (1 ≤ o.cyc) else if o.opc = 0x0F then o.cyc == 0 else o.cyc == cost u)) &&
    h.nbeat == (p.modelOf ls).nbeat) (List.range p.nlst)

/-- Check 8: every certificate field recomputed (08 R197). -/
def planCheck8 (p : Plan) : Option Nat :=
  firstFail (fun ls =>
    let f := p.floorOf ls
    let m := p.modelOf ls
    let o := evalModel f m
    (p.cert[ls]?) == some
      { lst := ls, csg := m.sg, cfloor := f, busy := o.busy, ceil := o.ceil, stride := m.cost, slackmin := o.slackmin, cmp := o.cmp,
        d1c := o.d1c, margin := o.margin }) (List.range p.nlst)

/-- Check 9: the contract holds (08 R187, R196). -/
def planCheck9 (p : Plan) : Option Nat :=
  firstFail (fun ls =>
    let o := p.eval ls (p.floorOf ls)
    let d := (p.dlStopes[ls]?).getD ⟨0, 0, 0⟩
    decide (o.busy ≤ o.ceil) && o.passes && d.target == o.d1c && decide (o.cmp ≤ d.warn ∧ d.warn ≤ d.target)) (List.range p.nlst)

/-- A failed check: `PCHK`, `PITEM`. -/
def failAt (k : Nat) (x : Option Nat) : Option (Nat × Nat) := x.map (fun i => (k, i))

/-- The checks of R199 in their order: `PCHK` and `PITEM` of the first that fails. -/
def State.planChecks (s : State) (b : List Byte) : Option (Nat × Nat) :=
  let p := planOf b
  let so := u32At b (128 + 16 * 7 + 4)
  firstSome
    [failAt 1 (planCheck1 b),
     failAt 2 (must ((p.pfmt == 1 || p.pfmt == 2) && p.model == 2 && p.cver == 2) 0),
     failAt 3 (must (s.boo.fuses.instKey.written && sigOk b so s.instKey) 7),
     failAt 4 (must (p.siteHash == siteHash s.boo.charter) 0),
     failAt 5 (planCheck5 b p), failAt 6 (s.planCheck6 b p), failAt 7 (planCheck7 p), failAt 8 (planCheck8 p), failAt 9 (planCheck9 p)]

end Sys2Proof.Machine
end

