-- ==== Sys2Proof/Machine/Maint.lean ====
section
/-! DEFINITION. The one-shaft rule (09 R226–R228): which activities overlap, how one starts, ends and is aborted, and the queue. -/

namespace Sys2Proof.Machine

/-- The overlap matrix (09 R226). -/
def mayOverlap (a b : Nat) : Bool := [(1, 5), (5, 1), (1, 6), (6, 1), (4, 5), (5, 4), (4, 6), (6, 4), (5, 6), (6, 5)].contains (a, b)

/-- The first running activity that conflicts with a code. -/
def State.conflict (code : Nat) (s : State) : Option Activity := s.fab.acts.find? (fun a => !mayOverlap code a.code)

/-- The tally role of a request: the installer's for a session's, the GV9600's own otherwise (09 R230, 13 R340). -/
def actRole (sid : Nat) : Nat := if sid = 0 then 0xFE else 2

/-- A `MAINT` record (13 R574); an activity's unit above 0xFF is a deputy's. -/
def State.maintRecord (role sid code event outcome actId a b : Nat) (s : State) : State :=
  s.tally 0x0400 role 0xFF sid (b8 code ++ b8 event ++ b8 outcome ++ bz 1 ++ b32 actId ++ b32 (if code = 2 then a % 0x100 else a) ++ b32 b)

/-- A `SPARING` record (13 R574). -/
def State.sparingRecord (sid cls logical old new initiator spId row : Nat) (s : State) : State :=
  s.tally 0x0401 (actRole sid) 0xFF sid
    (b8 cls ++ b8 logical ++ b8 old ++ b8 new ++ b8 initiator ++ bz 3 ++ b32 spId ++ b32 row)

/-- Begins an activity (09 R226): its start record's number is its `ACT_ID`. -/
def State.beginAct (sid code a b : Nat) (s : State) : State :=
  let id := s.ten.tally.seqFor 80
  let t := s.maintRecord (actRole sid) sid code 0 0 id a b
  { t with fab := { t.fab with acts := t.fab.acts ++ [{ code := code, actId := id, startMs := t.ms, arg := a, arg2 := b }] } }

/-- Loop-kernel cycles charged to a deputy under a plan (13 R338): the channels bound, of one tenant or of all; a channel whose `COWN` the
plan changes loses its kernel (08 R208). -/
def State.kernelCharge (p : Plan) (ld : Nat) (ten : Option Nat) (s : State) : Nat :=
  (p.chans.map (fun c =>
    match (vgetD s.trk.ch c.cnum {}).kernel with
    | some (t, k) =>
      let keeps : Bool := match s.fab.active with
        | none => true
        | some o => ((o.chan c.cnum).map (·.cown)) == some c.cown
      if c.ldep = ld ∧ keeps = true ∧ (ten = none ∨ ten = some t)
      then 64 + (((vgetD (vgetD s.ten.t t {}).kslots k {}).ver.map (·.kcyc)).getD 0) else 0
    | none => 0)).foldl (· + ·) 0

/-- The kernels bound fit every deputy of a plan, and each tenant's share of it (08 R208, 13 R338). -/
def State.kernelsFit (p : Plan) (s : State) : Bool :=
  (List.range 16).all (fun ld => decide (s.kernelCharge p ld none ≤ p.dbudget ld) &&
    (List.range 8).all (fun t => decide (s.kernelCharge p ld (some t) ≤ (vgetD s.ten.t t {}).klim.kShare * p.dbudget ld / 100)))

/-- The reserve that a swap takes: the one named, or the one a proposal would name for 0xFF (09 R221). -/
def pickReserve (named : Nat) (free : List Nat) (best : Option Nat) : Option Nat :=
  if named = 0xFF then best else if free.contains named then some named else none

/-- The open proposals of an action and unit change their state (22 R525). -/
def State.settle (sact sindex st : Nat) (s : State) : State :=
  { s with hea := { s.hea with
    props := s.hea.props.map (fun p => if p.sact == sact && p.sindex == sindex && decide (p.sstate < 2) then { p with sstate := st } else p) } }

/-- `SP_ID` of the open proposal that a remedy carries out; 0 when none. -/
def State.spOf (sact sindex : Nat) (s : State) : Nat :=
  ((s.hea.props.find? (fun p => p.sact == sact && p.sindex == sindex && decide (p.sstate ≤ 1))).map (·.spId)).getD 0

/-- The plan that a slot holds verified. -/
def State.slotPlan (s : State) (k : Nat) : Option Plan :=
  let x := vgetD s.fab.slots k {}
  if x.verified then x.plan else none

/-- Stages a swap of plans (08 R203): the swap boundary is the later of the second boundary after acceptance and `AT_EPOCH`. -/
def State.stageSwap (slot at_ : Nat) (host : Bool) (s : State) : State :=
  { s with fab := { s.fab with
    standby := (vgetD s.fab.slots slot {}).plan
    swap := some { slot := slot, acceptedMs := s.ms, bs := max (s.nextBoundary + 1) at_, phase := 0, old := s.fab.active
                   host := host } } }

/-- Resets a reserve unit alone for its deep test (22 R524, 18 R451). -/
def State.clearForTest (kind n : Nat) (s : State) : State := s.blockClear kind n

/-- Starts the activity of a request that conflicts with nothing; none where a unit it names cannot serve (09 R226). -/
def State.startReq (q : MaintReq) (s : State) : Option State :=
  match q.code with
  | 1 => some ({ s with arr := { s.arr with assay := { s.arr.assay with sweep := some s.ms, sweepEst := [], sweepAmbs := [] } } }.beginAct q.sid 1 0 0)
  | 2 =>
    if q.arg < 0x100 then
      match pickReserve q.arg2 s.reserveStopes s.bestStope with
      | none => none
      | some p =>
        let t := (s.sparingRecord q.sid 0 q.arg (vgetD s.fab.lsMap q.arg 0) p q.initiator (s.spOf 1 q.arg) 0).settle 1 q.arg 1
        let u : StopeSub := { ls := q.arg, phys := p, old := vgetD s.fab.lsMap q.arg 0, b1 := t.nextBoundary, stage := 0 }
        some ({ t with fab := { t.fab with stSub := some u } }.beginAct
          q.sid 2 q.arg p)
    else
      match pickReserve q.arg2 s.reserveDeputies s.bestDeputy with
      | none => none
      | some p =>
        let ld := q.arg - 0x100
        let t := (s.sparingRecord q.sid 1 ld (vgetD s.fab.ldMap ld 0) p q.initiator (s.spOf 2 ld) 0).settle 2 ld 1
        some ({ t with fab := { t.fab with dpSub := some { ld := ld, phys := p, copied := false } } }.beginAct q.sid 2 q.arg p)
  | 3 =>
    match (vgetD s.fab.slots q.arg {}).plan with
    | none => none
    | some p =>
      if (vgetD s.fab.slots q.arg {}).verified && s.kernelsFit p && (s.overload (some p) s.quotaOf s.loads).isNone then
        let t := if q.initiator = 0 then s else s.sparingRecord 0 0 0xFF 0xFF 0xFF q.initiator q.arg2 0
        some ((t.stageSwap q.arg q.at_ (q.sid != 0)).beginAct q.sid 3 p.planId q.arg)
      else none
  | 4 =>
    if (s.lane q.arg).state = .live then
      some (((s.leaveBeams q.arg).bringUp q.arg).beginAct q.sid 4 q.arg 0)
    else none
  | 5 =>
    match s.spareBank with
    | none => none
    | some b =>
      let t := (s.sparingRecord q.sid 6 ((s.smp.lode.bankMap.toList.idxOf q.arg) % 256) q.arg b q.initiator (s.spOf 3 q.arg) 0).settle 3 q.arg 1
      some ({ t with smp := { t.smp with lode := { t.smp.lode with
        swap := some (q.arg, b, false), swapAt := t.clk.tick, use := vupdN t.smp.lode.use b (fun _ => .copying) } } }.beginAct q.sid 5 q.arg b)
  | _ =>
    let kind := q.arg
    if (if kind = 0 then s.reserveStopes.contains q.arg2 else s.reserveDeputies.contains q.arg2) then
      some ({ (s.clearForTest kind q.arg2) with fab := { s.fab with testing := some (kind, q.arg2) } }.beginAct q.sid 6 kind q.arg2)
    else none

/-- `MAINT_STARTED` of the activity just begun (12 report codes). -/
def State.reportStarted (s : State) : State :=
  match s.fab.acts.getLast? with
  | none => s
  | some a => s.reportNow 0x2001 0 0xFF (b8 a.code ++ bz 1 ++ b32 a.actId)

/-- Sends a report to one session only, if it has subscribed to it (12 R317, R326). -/
def State.reportTo (sid code sev ten : Nat) (body : List Byte) (s : State) : State :=
  let r : Report := { ecode := code, esev := sev, eten := ten, eseq := s.ses.eseq, etick := s.tcnt, body := body }
  let q := s.ses.open_.foldl (fun acc x => if x.sid = sid then queueReport r acc x else (acc.1, acc.2 ++ [x])) (s.ses.out, [])
  let all := s.ses.reports ++ [r]
  { s with ses := { s.ses with
      eseq := (s.ses.eseq + 1) % 2 ^ 32, out := q.1, open_ := q.2, reports := all.drop (all.length - 1024) } }

/-- An accepted change that cannot be applied is dropped: `DEFER_FAILED` and its record (12 R317). -/
def State.deferFailed (sid seq opcode status commit ten : Nat) (s : State) : State :=
  (s.reportTo sid 0x2005 1 ten (b32 seq ++ b16 opcode ++ b16 status)).tallyOwn 0x0201 ten (b32 seq ++ b16 opcode ++ b16 status ++ b64 commit)

/-- Starts a request that has waited: `MAINT_STARTED`, or a drop where it cannot start any more (09 R227, 12 R317). -/
def State.startWaiting (q : MaintReq) (s : State) : State :=
  match s.startReq q with
  | some t => t.reportStarted
  | none => if q.sid = 0 then s else s.deferFailed q.sid q.seq q.opcode stBusy 0 0xFF

/-- One request of the queue in turn: `kept` are the requests ahead that stay (09 R227). -/
def walkStep (acc : List MaintReq × State) (q : MaintReq) : List MaintReq × State :=
  let dev := acc.2.fab.devWait.toList
  if (acc.2.conflict q.code).isNone && (dev ++ acc.1).all (fun k => mayOverlap q.code k.code) then (acc.1, acc.2.startWaiting q)
  else (acc.1 ++ [q], acc.2)

/-- Walks the queue (09 R227, R228): a waiting device-initiated activity goes first. -/
def State.walkQueue (s : State) : State :=
  let s1 := match s.fab.devWait with
    | some q => if (s.conflict q.code).isNone then { s with fab := { s.fab with devWait := none } }.startWaiting q else s
    | none => s
  let r := s1.fab.mqueue.foldl walkStep ([], s1)
  { r.2 with fab := { r.2.fab with mqueue := r.1 } }

/-- Ends an activity with an outcome, and lets the queue move (09 R226, R227). -/
def State.endAct (f : Activity → Bool) (outcome : Nat) (s : State) : State :=
  match s.fab.acts.find? f with
  | none => s
  | some a =>
    let t := s.maintRecord 0xFE 0 a.code 1 outcome a.actId a.arg a.arg2
    ({ t with fab := { t.fab with acts := t.fab.acts.filter (fun x => x.actId != a.actId) } }).walkQueue

/-- An activity is still within its abort limit (09 R226). -/
def State.abortable (s : State) (a : Activity) : Bool :=
  match a.code with
  | 1 => true
  | 2 => s.fab.stSub.isSome && (s.fab.stSub.map (fun x => decide (x.stage < 4))) == some true || s.fab.dpSub.isSome
  | 3 => (s.fab.swap.map (·.phase)) == some 0
  | 5 => (s.smp.lode.swap.map (·.2.2)) == some false
  | 6 => true
  | _ => false

/-- What an aborted activity leaves (09 R222, R228): the calibration, the mapping, the plan and the bank map as they were; a deep test
`INCOMPLETE`. -/
def State.undo (a : Activity) (s : State) : State :=
  match a.code with
  | 1 => { s with arr := { s.arr with assay := { s.arr.assay with sweep := none, sweepEst := [], sweepAmbs := [] } } }
  | 2 => (if a.arg < 0x100 then { s with fab := { s.fab with stSub := none } } else { s with fab := { s.fab with dpSub := none } }).settle
      (if a.arg < 0x100 then 1 else 2) (a.arg % 0x100) 3
  | 3 => { s with fab := { s.fab with swap := none, standby := none } }
  | 5 => { s with smp := { s.smp with lode := { s.smp.lode with swap := none, use := vupdN s.smp.lode.use a.arg2 (fun _ => .spare) } } }
  | 6 =>
    let cls := if a.arg = 0 then 0 else 1
    { s with
      fab := { s.fab with testing := none
                          stTest := if a.arg = 0 then vupdN s.fab.stTest a.arg2 (fun _ => 3) else s.fab.stTest
                          dpTest := if a.arg = 0 then s.fab.dpTest else vupdN s.fab.dpTest a.arg2 (fun _ => 3) }
      hea := { s.hea with wear := vupdN s.hea.wear (wearIndex cls a.arg2) (fun w => { w with testRes := 3, testTm := s.ms }) } }
  | _ => s

/-- Aborts a running activity (09 R228, R230) without moving the queue. -/
def State.abortAct (a : Activity) (s : State) : State :=
  let t := (s.undo a).maintRecord 0xFE 0 a.code 2 (if a.code = 6 then 3 else 0) a.actId a.arg a.arg2
  { t with fab := { t.fab with acts := t.fab.acts.filter (fun x => x.actId != a.actId) } }

/-- Aborts for a device-initiated activity, with its report (09 R228). -/
def abortFor (s : State) (a : Activity) : State :=
  (s.abortAct a).reportNow 0x1006 1 0xFF (Config.encodeFields 0x1006 [a.code, a.actId])

/-- A device-initiated activity (09 R228): it aborts what it may and starts, or waits for what it may not abort. -/
def State.deviceStart (q : MaintReq) (s : State) : State :=
  let t := (s.fab.acts.filter (fun a => !mayOverlap q.code a.code && s.abortable a)).foldl abortFor s
  if (t.conflict q.code).isNone then
    match t.startReq q with
    | some u => u
    | none => t
  else { t with fab := { t.fab with devWait := some q } }

/-- The `BUSY_MAINT` answer that names an activity (12 R299, 09 R227). -/
def busyMaint (a : Activity) : Reply := { status := stBusyMaint, activity := a.code, actId := a.actId, actStart := a.startMs }

/-- A maintenance request of a command (09 R227): refused or queued where it conflicts with a running activity, started otherwise. `ok` is
the answer to a start; `none` from the start is `refuse`. -/
def State.request (r : Req) (q : MaintReq) (ok : State → Reply) (refuse : State → Reply) (s : State) : Reply × State :=
  match s.conflict q.code with
  | some a =>
    if bit r.p.flags 1 then
      if 4 ≤ s.fab.mqueue.length then (.fail stBusy, s)
      else
        let t := ({ s with fab := { s.fab with mqueue := s.fab.mqueue ++ [q] } }).walkQueue
        ({ status := stAccepted, qpos := t.fab.mqueue.length }, t)
    else (busyMaint a, s)
  | none =>
    match s.startReq q with
    | some t => (ok s, t)
    | none => (refuse s, s)

/-- The activity of a lane renegotiation ends when its lane is `LIVE` or `DARK` again (09 R226). -/
def State.afterLane (n : Nat) (s : State) : State :=
  let st := (s.lane n).state
  if st = .live ∨ st = .dark then s.endAct (fun a => a.code == 4 && a.arg == n) 1 else s

end Sys2Proof.Machine
end

