-- ==== Sys2Proof/Machine/Exact.lean ====
section
/-! DEFINITION. Values of real functions that rules of the spec define, in fixed point: roots, powers of ten, decibels, and the point of the
unit circle at a phase. What a rule leaves to rounding is `Config.roundUp`'s (log 6). -/

namespace Sys2Proof.Machine

/-- The bits that a `k`th root of `n` can have. -/
def rootWidth (k n : Nat) : Nat := Nat.log2 n / k + 1

/-- The integer part of the `k`th root of `n`. -/
def rootFloor (k n : Nat) : Nat := rootBits k n (rootWidth k n) 0

/-- The integer part of the square root. -/
def isqrt (n : Nat) : Nat := rootFloor 2 n

/-- A floor, or the next integer where the value is not exact and the rounding is open (log 6); `tag` stands for the value. -/
def openRound (tag : Int) (floor : Int) (isExact : Bool) : Int :=
  if isExact then floor else if Config.roundUp tag floor then floor + 1 else floor

/-- `a` · 10^(−n/80), without a fraction (03 R55): the 80th root of `a`^80 · 10^(−n). -/
def tenth80 (a : Nat) (n : Int) : Int :=
  let p := a ^ 80
  let q := if n ≤ 0 then p * 10 ^ n.natAbs else p / 10 ^ n.natAbs
  let v := rootFloor 80 q
  openRound n v (if n ≤ 0 then v ^ 80 == q else v ^ 80 * 10 ^ n.natAbs == p)

/-- The terms of the exponential's series at `x` in Q64 from the `n`th on: `fuel` of them. -/
def expTerms (x : Int) : Nat → Nat → Int → Int
  | 0, _, t => t
  | fuel + 1, n, t => t + expTerms x fuel (n + 1) (t * x / (2 ^ 64 * (n + 1 : Nat)))

/-- e^(p/q) in Q40, cut off, for a modulus below 16: the series at a sixteenth of the exponent, squared four times. -/
def expFix (p : Int) (q : Nat) : Nat :=
  let y := expTerms (p * 2 ^ 64 / (16 * q : Nat)) 24 0 (2 ^ 64)
  let z := (List.range 4).foldl (fun (a : Int) _ => a * a / 2 ^ 64) y
  (z / 2 ^ 24).toNat

/-- A product of two points of the unit circle in Q60. -/
def cisMul (a b : Int × Int) : Int × Int := ((a.1 * b.1 - a.2 * b.2) / 2 ^ 60, (a.1 * b.2 + a.2 * b.1) / 2 ^ 60)

/-- The point at half the phase of a point of the upper half circle, in Q60: cos as the root of (1 + cos)/2, sin as sin/(2 cos). -/
def cisHalf (a : Int × Int) : Int × Int :=
  let c := isqrt ((2 ^ 60 + a.1).toNat * 2 ^ 59)
  (c, if c = 0 then 2 ^ 60 else a.2 * 2 ^ 59 / c)

/-- Multiplies the points at 1/2, 1/4, 1/8 … turn for the bits of a phase, most significant first. -/
def cisBits (v : Nat) : Nat → Int × Int → Int × Int → Int × Int
  | 0, _, acc => acc
  | n + 1, p, acc => cisBits v n (cisHalf p) (if v.testBit n then cisMul acc p else acc)

/-- e^(j·2π·v/2^n) in Q60: cosine and sine of a phase of `n` bits. -/
def cis (n v : Nat) : Int × Int := cisBits v n (-(2 ^ 60), 0) (2 ^ 60, 0)

/-- 10·log10(a/b) is at least `k`/`per` dB. -/
def dbAtLeast (per : Nat) (a b : Nat) (k : Int) : Bool :=
  if 0 ≤ k then decide (10 ^ k.natAbs * b ^ (10 * per) ≤ a ^ (10 * per)) else decide (b ^ (10 * per) ≤ 10 ^ k.natAbs * a ^ (10 * per))

/-- The greatest value of up to `n` further bits at which a condition that holds up to a point still holds. -/
def lastWhere (f : Int → Bool) : Nat → Int → Int
  | 0, r => r
  | n + 1, r => lastWhere f n (if f (r + 2 ^ n) then r + 2 ^ n else r)

/-- 10·log10(a/b) in 1/`per` dB, without a fraction; for two positive numbers. -/
def dbFloor (per a b : Nat) : Int := lastWhere (dbAtLeast per a b) 20 (-(2 ^ 19))

/-- 10·log10(a/b) in 1/`per` dB; the rounding is open (log 6). -/
def decibels (per a b : Nat) : Int :=
  let v := dbFloor per a b
  openRound a v (dbAtLeast per b a (-v))

/-- A vector turned back by a quarter turn as often as puts it into the first quadrant, and that number; the vector is not 0. -/
def firstQuadrant (i q : Int) : Nat × Int × Int :=
  if 0 < i ∧ 0 ≤ q then (0, i, q) else if i ≤ 0 ∧ 0 < q then (1, q, -i) else if i < 0 ∧ q ≤ 0 then (2, -i, -q) else (3, -q, i)

/-- The angle of a vector other than 0 in 2^-`bits` turn, from −2^(`bits` − 1) to 2^(`bits` − 1) − 1; the rounding is open (log 6). -/
def angleOf (bits : Nat) (i q : Int) : Int :=
  let f := firstQuadrant i q
  let at_ (v : Int) : Bool :=
    let p := cis bits v.toNat
    decide (f.2.1 * p.2 ≤ f.2.2 * p.1)
  let v := lastWhere at_ (bits - 2) 0
  let r := openRound (i + q) (f.1 * 2 ^ (bits - 2) + v) (f.2.2 == 0)
  (r + 2 ^ (bits - 1)) % 2 ^ bits - 2 ^ (bits - 1)

end Sys2Proof.Machine
end

