-- ==== Sys2Proof/Machine/Signals.lean ====
section
/-! DEFINITION. The signal types (06 R126, R127, R131), signal indices and systems. -/

namespace Sys2Proof.Machine

/-- A signal type (06 R126): band, offset from the band centre (kHz), chips per ms and chips of the primary code, counting composite chips of
multiplexed types (R130, R131), the secondary code's chips and the dumps of one of them, the partner component, pilot, drawn from the
code library, spacing d in 1/100 chip, symbol length in dumps, and half-cycle modulation (BOC family). Where the messages table gives no symbol
rate (`various`: E6-B, B2b, L3OC, NavIC) and for pilots, which carry no symbols, the symbol length is one dump (06 R140, R148): DESIGN CHOICE,
log 49. -/
structure SigType where
  code : Nat
  band : Band
  off : Int
  dumpLen : Nat
  chips : Nat
  secLen : Nat := 0
  secDumps : Nat := 1
  partner : Option Nat := none
  pilot : Bool := false
  lib : Bool := false
  d : Nat
  symDumps : Nat := 1
  boc : Bool := false
deriving DecidableEq, Repr

/-- Types that GPS and QZSS share, at a base code. -/
def l1Family (k : Nat) : List SigType :=
  [{ code := k, band := .u, off := -6580, dumpLen := 1023, chips := 1023, d := 20, symDumps := 20 },
   { code := k + 1, band := .u, off := -6580, dumpLen := 1023, chips := 10230, partner := some (k + 2), lib := true, d := 10, symDumps := 10, boc := true },
   { code := k + 2, band := .u, off := -6580, dumpLen := 1023, chips := 10230, secLen := 1800, secDumps := 10, partner := some (k + 1), pilot := true, lib := true, d := 10, boc := true },
   { code := k + 3, band := .m, off := -25400, dumpLen := 1023, chips := 20460, partner := some (k + 4), d := 20, symDumps := 20 },
   { code := k + 4, band := .m, off := -25400, dumpLen := 1023, chips := 1534500, partner := some (k + 3), pilot := true, d := 20 },
   { code := k + 5, band := .l, off := -15345, dumpLen := 10230, chips := 10230, secLen := 10, partner := some (k + 6), d := 25, symDumps := 10 },
   { code := k + 6, band := .l, off := -15345, dumpLen := 10230, chips := 10230, secLen := 20, partner := some (k + 5), pilot := true, d := 25 }]

/-- Galileo, BeiDou, GLONASS, NavIC and SBAS types (06 R126). -/
def otherTypes : List SigType :=
  [{ code := 0x10, band := .u, off := -6580, dumpLen := 1023, chips := 4092, partner := some 0x11, lib := true, d := 10, symDumps := 4, boc := true },
   { code := 0x11, band := .u, off := -6580, dumpLen := 1023, chips := 4092, secLen := 25, secDumps := 4, partner := some 0x10, pilot := true, lib := true, d := 10, boc := true },
   { code := 0x12, band := .l, off := -15345, dumpLen := 10230, chips := 10230, secLen := 20, partner := some 0x13, d := 25, symDumps := 20 },
   { code := 0x13, band := .l, off := -15345, dumpLen := 10230, chips := 10230, secLen := 100, partner := some 0x12, pilot := true, d := 25 },
   { code := 0x14, band := .l, off := 15345, dumpLen := 10230, chips := 10230, secLen := 4, partner := some 0x15, d := 25, symDumps := 4 },
   { code := 0x15, band := .l, off := 15345, dumpLen := 10230, chips := 10230, secLen := 100, partner := some 0x14, pilot := true, d := 25 },
   { code := 0x16, band := .m, off := 25750, dumpLen := 5115, chips := 5115, partner := some 0x17, lib := true, d := 30 },
   { code := 0x17, band := .m, off := 25750, dumpLen := 5115, chips := 5115, secLen := 100, partner := some 0x16, pilot := true, lib := true, d := 30 },
   { code := 0x20, band := .u, off := -20902, dumpLen := 2046, chips := 2046, secLen := 20, d := 20, symDumps := 20 },
   { code := 0x21, band := .u, off := -6580, dumpLen := 1023, chips := 10230, partner := some 0x22, lib := true, d := 10, symDumps := 10, boc := true },
   { code := 0x22, band := .u, off := -6580, dumpLen := 1023, chips := 10230, secLen := 1800, secDumps := 10, partner := some 0x21, pilot := true, lib := true, d := 10, boc := true }] ++
  [{ code := 0x23, band := .l, off := -15345, dumpLen := 10230, chips := 10230, secLen := 5, partner := some 0x24, d := 25, symDumps := 5 },
   { code := 0x24, band := .l, off := -15345, dumpLen := 10230, chips := 10230, secLen := 100, partner := some 0x23, pilot := true, d := 25 },
   { code := 0x25, band := .l, off := 15345, dumpLen := 10230, chips := 10230, d := 25 },
   { code := 0x26, band := .m, off := 15520, dumpLen := 10230, chips := 10230, secLen := 20, d := 25, symDumps := 20 },
   { code := 0x30, band := .u, off := 20000, dumpLen := 511, chips := 511, secLen := 2, secDumps := 10, d := 20, symDumps := 10 },
   { code := 0x31, band := .m, off := -7000, dumpLen := 511, chips := 511, secLen := 2, secDumps := 10, d := 20, symDumps := 10 },
   { code := 0x32, band := .l, off := 10230, dumpLen := 10230, chips := 10230, secLen := 5, partner := some 0x33, d := 25 },
   { code := 0x33, band := .l, off := 10230, dumpLen := 10230, chips := 10230, secLen := 10, partner := some 0x32, pilot := true, d := 25 },
   { code := 0x47, band := .m, off := 25750, dumpLen := 5115, chips := 20460, d := 30 },
   { code := 0x50, band := .l, off := -15345, dumpLen := 1023, chips := 1023, d := 20 },
   { code := 0x60, band := .u, off := -6580, dumpLen := 1023, chips := 1023, d := 20, symDumps := 2 },
   { code := 0x61, band := .l, off := -15345, dumpLen := 10230, chips := 10230, secLen := 10, partner := some 0x62, d := 25, symDumps := 2 },
   { code := 0x62, band := .l, off := -15345, dumpLen := 10230, chips := 10230, secLen := 20, partner := some 0x61, pilot := true, d := 25 }]

/-- Every signal type (06 R126). -/
def sigTypes : List SigType := l1Family 0x01 ++ otherTypes ++ l1Family 0x40

/-- The type of a code. -/
def sigType (t : Nat) : Option SigType := sigTypes.find? (fun x => x.code == t)

/-- The mask of defined types. -/
def definedTypes : Nat := (sigTypes.map (fun t => 2 ^ t.code)).foldl (· ||| ·) 0

/-- Type and satellite of a signal index (06 R127). -/
def sigT (sigid : Nat) : Nat := sigid / 256
def sigSat (sigid : Nat) : Nat := sigid % 256

/-- The type of a signal index; a BeiDou B1I or B3I signal of a satellite that sends D2 has no secondary code and 500 symbols a second, while
one that sends D1 is as the table states (06 R126, R148). Which satellites send D2 is the system's matter (log 49). -/
def typeOf (sigid : Nat) : Option SigType :=
  (sigType (sigT sigid)).map (fun t =>
    if (t.code = 0x20 ∨ t.code = 0x26) ∧ Config.sendsD2 (sigSat sigid) = true then { t with secLen := 0, symDumps := 2 } else t)

/-- The system of a signal (12 `SYSMASK`): 0 GPS, 1 Galileo, 2 BeiDou, 3 GLONASS, 4 QZSS, 5 NavIC, 6 SBAS. -/
def sigSys (sigid : Nat) : Nat := if sigT sigid < 0x10 then 0 else sigT sigid / 16

/-- A GLONASS FDMA type (07 R161). -/
def isFdma (sigid : Nat) : Bool := sigT sigid == 0x30 || sigT sigid == 0x31

/-- Satellite numbers of a system: those of the code library and the cold set (06 R128, 07 R160); FDMA slots 1 to 24 (06 R127). -/
def satRange (sys : Nat) : Nat × Nat :=
  [(1, 63), (1, 50), (1, 63), (1, 24), (193, 202), (1, 14), (120, 158)].getD sys (1, 0)

/-- A signal index names a type and a satellite; for FDMA types satellite 0 stands while only k is known, and k is −7 to +6. -/
def sigOkIndex (sigid : Nat) (k : Int) : Bool :=
  let r := satRange (sigSys sigid)
  (typeOf sigid).isSome &&
  (if isFdma sigid then decide (sigSat sigid ≤ 24) && decide (-7 ≤ k ∧ k ≤ 6)
   else decide (r.1 ≤ sigSat sigid ∧ sigSat sigid ≤ r.2) && k == 0)

/-- Carrier offset from the band centre in Hz (06 R126). -/
def sigOffset (sigid : Nat) (k : Int) : Int :=
  ((typeOf sigid).map (·.off)).getD 0 * 1000 + (if sigT sigid = 0x30 then 562500 * k else if sigT sigid = 0x31 then 437500 * k else 0)

/-- The band of a signal. -/
def sigBand (sigid : Nat) : Band := ((typeOf sigid).map (·.band)).getD .u

/-- The band centres in Hz, from the offsets of R126 and the carriers of the text (06). -/
def bandCentre : Band → Int
  | .u => 1582000000 | .m => 1253000000 | .l => 1191795000

/-- The carrier of a signal in Hz. -/
def carrier (sigid : Nat) (k : Int) : Int := bandCentre (sigBand sigid) + sigOffset sigid k

/-- The pilot component of a signal where it has one (06 R150). -/
def pilotOf (sigid : Nat) : Nat :=
  match typeOf sigid with
  | some t => if t.pilot then sigid else (match t.partner with | some p => 256 * p + sigSat sigid | none => sigid)
  | none => sigid

end Sys2Proof.Machine
end

