-- ==== Sys2Proof/Machine/Steer.lean ====
section
/-! DEFINITION. The geometry of the array and what is computed from it: directions, path leads, site delays and weights of a beam (04 R78, R95;
05 R101, R107), projection onto the complement of null signatures, and covariances with their eigenvectors (04 R92, R93). Directions and axes in
Q60, lengths in 0.1 mm, complex values in Q20. -/

namespace Sys2Proof.Machine

/-! ### Complex numbers and vectors -/

/-- A complex product, without scaling. -/
def cmul (a b : Int × Int) : Int × Int := (a.1 * b.1 - a.2 * b.2, a.1 * b.2 + a.2 * b.1)

/-- The conjugate. -/
def cconj (a : Int × Int) : Int × Int := (a.1, -a.2)

/-- A complex sum. -/
def cadd (a b : Int × Int) : Int × Int := (a.1 + b.1, a.2 + b.2)

/-- A complex difference. -/
def csub (a b : Int × Int) : Int × Int := (a.1 - b.1, a.2 - b.2)

/-- A complex value times a natural number. -/
def cscale (k : Nat) (a : Int × Int) : Int × Int := ((k : Int) * a.1, (k : Int) * a.2)

/-- A complex value over an integer. -/
def cdiv (a : Int × Int) (d : Int) : Int × Int := (a.1 / d, a.2 / d)

/-- Squared magnitude. -/
def normSq (a : Int × Int) : Nat := (a.1 * a.1 + a.2 * a.2).toNat

/-- Σ conj(a_i) · b_i. -/
def inner (a b : List (Int × Int)) : Int × Int := ((a.zip b).map (fun x => cmul (cconj x.1) x.2)).foldl cadd (0, 0)

/-- Σ |a_i|². -/
def normV (a : List (Int × Int)) : Nat := (a.map normSq).foldl (· + ·) 0

/-- The part of `w` orthogonal to `v`. -/
def reject (v w : List (Int × Int)) : List (Int × Int) :=
  let n := normV v
  if n = 0 then w
  else
    let c := inner v w
    List.zipWith (fun x y => csub y (cdiv (cmul x c) n)) v w

/-- Vectors made orthogonal one after the other. -/
def orthogonal (l : List (List (Int × Int))) : List (List (Int × Int)) :=
  l.foldl (fun basis v => basis ++ [basis.foldl (fun x b => reject b x) v]) []

/-- The projection of `w` onto the orthogonal complement of some vectors. -/
def projectOut (l : List (List (Int × Int))) (w : List (Int × Int)) : List (Int × Int) := (orthogonal l).foldl (fun x b => reject b x) w

/-- A real dot product of three components. -/
def dot3 (a b : Int × Int × Int) : Int := a.1 * b.1 + a.2.1 * b.2.1 + a.2.2 * b.2.2

/-! ### Directions -/

/-- 0.01 degree as a phase of 48 bits. -/
def centiTurn (v : Int) : Nat := bitsOf 48 (v * 2 ^ 48 / 36000)

/-- The unit vector toward an azimuth and elevation in 0.01 degree, east, north and up, in Q60. -/
def unitEnu (az : Nat) (el : Int) : Int × Int × Int :=
  let a := cis 48 (centiTurn az)
  let e := cis 48 (centiTurn el)
  (e.1 * a.2 / 2 ^ 60, e.1 * a.1 / 2 ^ 60, e.2)

/-- A vector of local axes in ECEF axes, the array standing at a position (log 26). -/
def toEcef (pos : Int × Int × Int) (v : Int × Int × Int) : Int × Int × Int :=
  let x := Config.enuAxes pos
  let mix (e n u : Int) : Int := (e * v.1 + n * v.2.1 + u * v.2.2) / 2 ^ 60
  (mix x.1.1 x.2.1.1 x.2.2.1, mix x.1.2.1 x.2.1.2.1 x.2.2.2.1, mix x.1.2.2 x.2.1.2.2 x.2.2.2.2)

/-- The speed of light in 0.1 mm per second. -/
def lightSpeed : Int := 2997924580000

/-- The calibration that governs at a ms (05 R109): the table of the latest generation to commit by then; before the first, the table itself. -/
def State.genFor (s : State) (ms : Nat) : CalTable :=
  match (s.arr.assay.pendingGen.filter (fun g => decide (g.commit ≤ ms))).getLast? with
  | some g => g.table
  | none => s.arr.assay.genTable.getD s.arr.assay.table

/-- Its number. -/
def State.genNumber (s : State) (ms : Nat) : Nat :=
  (((s.arr.assay.pendingGen.filter (fun g => decide (g.commit ≤ ms))).getLast?).map (·.num)).getD s.arr.assay.table.ctGen

/-- A site's entry of a calibration table. -/
def CalTable.site (g : CalTable) (n : Nat) : SiteEntry := vgetD g.sites n {}

/-- An element-band's entry of a calibration table. -/
def CalTable.eb (g : CalTable) (n : Nat) (b : Band) : EbEntry := (vgetD g.ebs n ⟨{}, {}, {}⟩).get b

/-- By how much a wave from a direction reaches a site's reference point before the reference site's, in 0.1 mm and Q60 (05 R107: p_s and the
residual zenith delay z_s under its mapping function). -/
def CalTable.siteLead (g : CalTable) (az : Nat) (el : Int) (site : Nat) : Int :=
  let e := g.site site
  dot3 (toEcef g.refPos (unitEnu az el)) (e.bx, e.by_, e.bz) + Config.mapping el * e.ztd

/-- The same of an element against its site's reference point: its charter offset (05 `o_e`). -/
def State.elemLead (s : State) (az : Nat) (el : Int) (n : Nat) : Int := dot3 (unitEnu az el) (s.elem n).off

/-- A length in 0.1 mm and Q60 as ticks in 1/65 536, without a fraction. -/
def leadTicks (l : Int) : Int := l * 81840000 * 65536 / (2 ^ 60 * lightSpeed)

/-- A length in 0.1 mm and Q60 as phase of a carrier in Hz, 48 bits. -/
def leadPhase (f l : Int) : Int := f * l * 2 ^ 48 / (2 ^ 60 * lightSpeed)

/-! ### Weights -/

/-- What a beam is aimed at: a direction, where one is known, and a carrier in Hz. -/
structure Aim where
  dir : Option (Nat × Int)
  freq : Int
deriving DecidableEq, Repr

/-- By how much the wave leads at each charter site the site at which it arrives last, in 1/65 536 tick (04 R78). -/
def State.siteLeads (s : State) (g : CalTable) (d : Nat × Int) : List Int :=
  let sites := (List.range 12).filter (fun i => (s.site i).isSome)
  let leads := sites.map (g.siteLead d.1 d.2)
  let last := leads.foldl min (leads.headD 0)
  (List.range 12).map (fun i => if (s.site i).isSome then leadTicks (g.siteLead d.1 d.2 i - last) else 0)

/-- The site delays of a direction in ticks (04 R78): the site at which the signal arrives last has delay 0; every charter site takes part (05
R101). The rounding to whole ticks is open (log 6). -/
def siteDelays (leads : List Int) : List Nat := leads.map (fun t => (openRound t (t / 65536) (t % 65536 == 0)).toNat)

/-- The band whose delay an element's adit follows: its first enabled one (05 R107). -/
def State.firstBand (s : State) (n : Nat) : Band := ((bandsOf (s.lane n).bands).head?).getD .u

/-- τ + c of an element-band in 0.01 ps, with what the changes of the reference have taken off it (05 R106, R107). -/
def State.calDelay (s : State) (g : CalTable) (n : Nat) (b : Band) : Int := (g.site (s.siteOf n)).clk.get b + (g.eb n b).dly + g.shift.get b

/-- The band skew of an element in 0.01 ps: τ + c of the band less those of the band that its adit follows (05 R107). -/
def State.skew (s : State) (g : CalTable) (n : Nat) (b : Band) : Int := s.calDelay g n b - s.calDelay g n (s.firstBand n)

/-- The phase in 48 bits that an element's weight takes off: the carrier's lead at the element, less what the site delay takes of the carrier's
offset from the band centre, and the band skew at that offset (05 R107). -/
def State.weightPhase (s : State) (g : CalTable) (b : Band) (d : Nat × Int) (f : Int) (bdly : List Nat) (n : Nat) : Int :=
  let site := s.siteOf n
  let off := f - bandCentre b
  leadPhase f (g.siteLead d.1 d.2 site + s.elemLead d.1 d.2 n) - off * (bdly.getD site 0 : Nat) * 2 ^ 48 / 81840000 +
    off * s.skew g n b * 2 ^ 48 / 10 ^ 14

/-- The weight of an element before it is quantised, in Q20: a magnitude that its signal gain gives (free, log 4) at the phase that aligns it. -/
def State.rawWeight (s : State) (g : CalTable) (b : Band) (d : Nat × Int) (f : Int) (bdly : List Nat) (n : Nat) : Int × Int :=
  let c := cis 48 (bitsOf 48 (-(s.weightPhase g b d f bdly n)))
  let m : Int := (Config.weightSize s.free (g.eb n b).gain % 127 + 1 : Nat)
  (m * c.1 / 2 ^ 40, m * c.2 / 2 ^ 40)

/-- By how much an element's code lies early after its site's delay, in 1/65 536 tick: the rest of the lead, its offset and the band skew. -/
def State.earliness (s : State) (g : CalTable) (b : Band) (d : Nat × Int) (leads : List Int) (bdly : List Nat) (n : Nat) : Int :=
  leads.getD (s.siteOf n) 0 - 65536 * (bdly.getD (s.siteOf n) 0 : Nat) + leadTicks (s.elemLead d.1 d.2 n) - s.skew g n b * 8184 * 65536 / 10 ^ 10

/-- What an aim gives before quantising: weights of 96 elements in Q20, 12 site delays, how early each element then lies, and the sites' leads. -/
structure RawSet where
  w : List (Int × Int)
  bdly : List Nat
  early : List Int
  leads : List Int := []

/-- The set of an aim under a calibration; without a known direction its values are free (log 4). -/
def State.aimed (s : State) (g : CalTable) (b : Band) (a : Aim) : RawSet :=
  match a.dir with
  | none => { w := (Config.weights s.free).1.map (fun x => (x.1 * 2 ^ 20, x.2 * 2 ^ 20)), bdly := (Config.weights s.free).2, early := [] }
  | some d =>
    let leads := s.siteLeads g d
    let bdly := siteDelays leads
    { w := (List.range 96).map (s.rawWeight g b d a.freq bdly), bdly := bdly
      early := (List.range 96).map (s.earliness g b d leads bdly), leads := leads }

/-! ### Nulls -/

/-- The signatures of a site and band that weights are computed with (04 R95): those of the last D2, as far as the site may still hold them. -/
def State.signatures (s : State) (site : Nat) (b : Band) : List (List (Nat × Int × Int)) :=
  (((vgetD s.arr.nulls site ⟨{}, {}, {}⟩).get b).atD2).take (min 8 ((s.serving site b).length - 4))

/-- A site's sub-vector of weights projected so that no signature passes (04 R95): a signature `v` adds Σ w·v to the beam (R76), so that it is
the conjugate of `v` whose complement the weights are brought to. -/
def projectSite (els : List Nat) (sigs : List (List (Nat × Int × Int))) (w : Nat → Int × Int) : List (Nat × Int × Int) :=
  let v (g : List (Nat × Int × Int)) : List (Int × Int) :=
    els.map (fun n => match g.find? (fun p => p.1 == n) with | some p => cconj p.2 | none => (0, 0))
  els.zip (projectOut (sigs.map v) (els.map w))

/-- Weights of the elements that may carry any, projected site by site (04 R95). -/
def State.project (s : State) (b : Band) (ok : Nat → Bool) (w : Nat → Int × Int) : List (Int × Int) :=
  let parts := (List.range 12).map (fun site =>
    projectSite ((List.range 96).filter (fun n => ok n && s.siteOf n == site)) (s.signatures site b) w)
  (List.range 96).map (fun n => if ok n then (((parts.getD (s.siteOf n) []).find? (fun p => p.1 == n)).map (·.2)).getD (0, 0) else (0, 0))

/-! ### Covariances -/

/-- The sample covariance of streams of values over the ticks at which none is blanked (04 R92): entries Σ x_i · conj(x_j). -/
def covariance (xs : List (List (Option (Int × Int)))) : List (List (Int × Int)) :=
  xs.map (fun a => xs.map (fun b =>
    ((a.zip b).map (fun p => match p.1, p.2 with | some x, some y => cmul x (cconj y) | _, _ => (0, 0))).foldl cadd (0, 0)))

/-- An entry of a matrix. -/
def entry (m : List (List (Int × Int))) (i j : Nat) : Int × Int := (m.getD i []).getD j (0, 0)

/-- A Hermitian matrix in Q60 with the columns that diagonalise it. -/
structure Eigen where
  a : List (List (Int × Int))
  v : List (List (Int × Int))

/-- The Jacobi rotation of a pair of axes of a Hermitian matrix: cosine, and sine times the phase of the entry, in Q60. -/
def jacobiAngle (a : List (List (Int × Int))) (p q : Nat) : Int × (Int × Int) :=
  let z := entry a p q
  let m := isqrt (normSq z)
  if m = 0 then (2 ^ 60, (0, 0))
  else
    let d : Int := (entry a q q).1 - (entry a p p).1
    let h := isqrt ((d * d).toNat + 4 * m * m)
    -- tan of the angle, |t| at most 1: 2m / (|d| + h), with the sign of d
    let t : Int := (if 0 ≤ d then 1 else -1) * ((2 * m * 2 ^ 60 : Nat) : Int) / ((d.natAbs + h : Nat) : Int)
    let c : Int := (2 ^ 120 : Int) / (isqrt (2 ^ 120 + (t * t).toNat) : Nat)
    let sn := t * c / 2 ^ 60
    (c, (sn * z.1 / m, sn * z.2 / m))

/-- Rotates columns `p` and `q` of a row. -/
def rotRow (p q : Nat) (c : Int) (e : Int × Int) (r : List (Int × Int)) : List (Int × Int) :=
  let x := r.getD p (0, 0)
  let y := r.getD q (0, 0)
  let sc (k : Int) (z : Int × Int) : Int × Int := (k * z.1 / 2 ^ 60, k * z.2 / 2 ^ 60)
  let x' := csub (sc c x) (cdiv (cmul (cconj e) y) (2 ^ 60))
  let y' := cadd (cdiv (cmul e x) (2 ^ 60)) (sc c y)
  (r.set p x').set q y'

/-- The conjugate transpose of a square matrix. -/
def adjoint (m : List (List (Int × Int))) : List (List (Int × Int)) :=
  (List.range m.length).map (fun j => (List.range m.length).map (fun i => cconj (entry m i j)))

/-- One rotation: A becomes Jᴴ A J and V becomes V J. -/
def Eigen.rotate (x : Eigen) (p q : Nat) : Eigen :=
  let r := jacobiAngle x.a p q
  let aj := x.a.map (rotRow p q r.1 r.2)
  let jaj := adjoint ((adjoint aj).map (rotRow p q r.1 r.2))
  { a := jaj, v := x.v.map (rotRow p q r.1 r.2) }

/-- Eigenvalues with eigenvectors (Q60) of a Hermitian matrix of size n, by sweeps over all pairs of axes. -/
def eigenOf (m : List (List (Int × Int))) : List (Nat × List (Int × Int)) :=
  let n := m.length
  let unit := (List.range n).map (fun i => (List.range n).map (fun j => if i = j then ((2 ^ 60 : Int), (0 : Int)) else (0, 0)))
  let pairs := ((List.range n).map (fun p => ((List.range n).filter (fun q => decide (p < q))).map (fun q => (p, q)))).flatten
  let one (x : Eigen) (_ : Nat) : Eigen := pairs.foldl (fun x pq => x.rotate pq.1 pq.2) x
  let r := (List.range 12).foldl one { a := m.map (fun row => row.map (cscale (2 ^ 20))), v := unit }
  (List.range n).map (fun j => ((entry r.a j j).1.toNat, (List.range n).map (fun i => entry r.v i j)))

end Sys2Proof.Machine
end

