-- ==== Sys2Proof/Machine/Beams.lean ====
section
/-! DEFINITION. Beams (04): weight sets and the removal of elements (R77, R78, R84, R85), the output shift (R80), projection (R95), the beam
descriptor, and the commands of group 0x04. -/

namespace Sys2Proof.Machine

/-- A beam; one in its reset state for a number that names none. -/
def State.beam (s : State) (n : Nat) : BeamState := vgetD s.arr.beams n {}

/-- Changes one beam. -/
def State.mapBeam (n : Nat) (f : BeamState → BeamState) (s : State) : State :=
  { s with arr := { s.arr with beams := vupdN s.arr.beams n f } }

/-- Changes every beam. -/
def State.mapBeams (f : BeamState → BeamState) (s : State) : State := { s with arr := { s.arr with beams := s.arr.beams.map f } }

/-- The band of a beam. -/
def BeamState.bandOf (x : BeamState) : Band := (Band.ofCode x.band).getD .u

/-- The weight of an element; 0 where the set names none. -/
def WeightSet.at_ (x : WeightSet) (n : Nat) : Weight := x.w.getD n {}

/-- A weight is not 0. -/
def Weight.some_ (w : Weight) : Bool := w.i != 0 || w.q != 0

/-- |w|². -/
def Weight.sq (w : Weight) : Nat := (w.i * w.i + w.q * w.q).toNat

/-- A weight set as it is stored, from weights in Q20 (04 R77, R78, R85): rounded to the nearest integers, −128 stored as −127, 0 outside the
elements that may serve, and 0 for every element of a site whose delay would pass 1 023 ticks. -/
def storeWeights (ok : Nat → Bool) (siteOf : Nat → Nat) (w : List (Int × Int)) (bdly : List Nat) : WeightSet :=
  let far (site : Nat) : Bool := decide (1023 < bdly.getD site 0)
  let part (v : Int) : Int := clampI (-127) 127 (roundDiv v (2 ^ 20))
  let one (n : Nat) : Weight :=
    let x := w.getD n (0, 0)
    if ok n && !far (siteOf n) then { i := part x.1, q := part x.2 } else {}
  { w := (List.range 96).map one, bdly := (List.range 12).map (fun i => if far i then 0 else bdly.getD i 0)
    far := (List.range 12).filter far }

/-- The weighted mean of how early the elements lie, by |w|: a beam's code reference (04 worked example); its rounding is open (log 6). -/
def codeBias (w : List Weight) (early : List Int) : Int :=
  let m (x : Weight) : Int := isqrt (x.sq * 2 ^ 40)
  let num := (List.zipWith (fun x e => m x * e) w early).foldl (· + ·) 0
  let den := (w.map m).foldl (· + ·) 0
  if den = 0 then 0 else openRound num (num / den) (num % den == 0)

/-- An element-band admitted at this boundary, whose weight stays 0 in the epoch that opens (04 R85). -/
def State.justAdmitted (s : State) (n : Nat) (b : Band) : Bool := s.inService n b && (s.work n b).qclock == 0

/-- Elements that may carry weight in the epoch that opens. -/
def State.mayWeigh (s : State) (b : Band) (n : Nat) : Bool := s.inService n b && !s.justAdmitted n b

/-- The weight set of an aim for some elements at a ms (04 R77, R78, R95; 05 R107): computed from the calibration that governs then, projected
unless `plain`, quantised to the nearest integers. -/
def State.compute (s : State) (b : Band) (ok : Nat → Bool) (aim : Aim) (ms : Nat) (plain : Bool) : WeightSet × State :=
  let g := s.genFor ms
  let r := s.aimed g b aim
  let raw (n : Nat) : Int × Int := r.w.getD n (0, 0)
  let near (n : Nat) : Bool := decide (r.bdly.getD (s.siteOf n) 0 ≤ 1023)
  let w := if plain then (List.range 96).map raw else s.project b (fun n => ok n && near n) raw
  let x := storeWeights ok s.siteOf w r.bdly
  ({ x with bias := codeBias x.w r.early, gen := s.genNumber ms, leads := r.leads }, { s with free := s.free + 1 })

/-- What a beam's weights are computed for at a ms. -/
def BeamState.aim (x : BeamState) (ms : Nat) : Aim :=
  match x.kind, x.signal with
  | 0, some sig => { dir := Config.direction sig x.glok ms, freq := carrier sig x.glok }
  | _, _ => { dir := some (x.az, x.el), freq := x.seeks.getD (bandCentre x.bandOf) }

/-- round(w·sqrt(a / r)) with ties toward +∞, saturated to ±127 (04 R84). -/
def scaleWeight (a r : Nat) (w : Int) : Int :=
  let q := 4 * w.natAbs * w.natAbs * a
  let root := isqrt (q / r)
  let v : Int := if 0 ≤ w then ((root + 1) / 2 : Nat)
    else Int.neg (((if root * root * r = q then root else root + 1) / 2 : Nat) : Int)
  clampI (-127) 127 v

/-- The set after some elements leave (04 R84): their weights 0, the others scaled by sqrt(Σ_all |w|² / Σ_remaining |w|²). -/
def WeightSet.without (gone : Nat → Bool) (x : WeightSet) : WeightSet :=
  let l := (List.range 96).map (fun n => (n, x.at_ n))
  let all := (l.map (fun p => p.2.sq)).foldl (· + ·) 0
  let rem := ((l.filter (fun p => !gone p.1)).map (fun p => p.2.sq)).foldl (· + ·) 0
  if all = rem ∨ rem = 0 then { x with w := l.map (fun p => if gone p.1 then {} else p.2) }
  else
    { x with w := l.map (fun p =>
        if gone p.1 then {} else { i := scaleWeight all rem p.2.i, q := scaleWeight all rem p.2.q }) }

/-- No weight remains. -/
def WeightSet.empty (x : WeightSet) : Bool := !(x.w.any Weight.some_)

/-- Elements with a weight. -/
def WeightSet.members (x : WeightSet) : List Nat := (List.range 96).filter (fun n => (x.at_ n).some_)

/-- Nulls held at a site and band. -/
def State.nullsAt (s : State) (site : Nat) (b : Band) : List NullEntry := ((vgetD s.arr.nulls site ⟨{}, {}, {}⟩).get b).nulls

/-- A beam takes the removal of elements of its band (04 R84): the committed set, the host's set behind it, and the one that a deputy wrote for
the same boundary are scaled; `EMPTY`, and `NULL_DEGRADED` where a null stands at a leaving element's site. -/
def BeamState.remove (b : Band) (gone : Nat → Bool) (nullSite : Nat → Bool) (x : BeamState) : BeamState :=
  if x.bandOf ≠ b ∨ !(x.ws.members ++ (x.staged.map WeightSet.members).getD []).any gone then x
  else
    let ws := x.ws.without gone
    let hit (l : List Nat) : Bool := x.kind != 2 && !x.flags.nonull && (l.filter gone).any nullSite
    { x with ws := ws, hostSet := x.hostSet.map (WeightSet.without gone)
             staged := if x.owner = 0 then x.staged else x.staged.map (WeightSet.without gone)
             stagedOld := x.stagedOld || hit ((x.staged.map WeightSet.members).getD [])
             flags := { x.flags with empty := ws.empty, nullDegraded := x.flags.nullDegraded || hit x.ws.members } }

/-- Removes elements of a band from every beam (01 R18 step 1). -/
def State.removeElements (b : Band) (gone : List Nat) (s : State) : State :=
  if gone.isEmpty then s
  else s.mapBeams (BeamState.remove b (gone.contains ·) (fun n => !(s.nullsAt (s.siteOf n) b).isEmpty))

/-- The output shift for a new epoch (04 R80): the value from 0 to 22 at which the RMS per component lies from 16 to under 32. -/
def shiftFor (sumSq n : Nat) : Nat :=
  if n = 0 then 0 else ((List.range 23).find? (fun k => decide (sumSq < 1024 * 4 ^ k * (2 * n)))).getD 22

/-- A host's set as it commits (04 R95): projected onto the complement of the nulls of its sites, unless it carries `NONULL`, and quantised. -/
def State.projected (s : State) (b : Band) (plain : Bool) (x : WeightSet) : WeightSet :=
  if plain ∨ (List.range 12).all (fun i => (s.signatures i b).isEmpty) then x
  else
    let r := s.project b (fun n => (x.at_ n).some_) (fun n => ((x.at_ n).i * 2 ^ 20, (x.at_ n).q * 2 ^ 20))
    { x with w := (storeWeights (fun n => (x.at_ n).some_) s.siteOf r x.bdly).w }

/-- Nulls applied to a beam: those of the sites it takes elements from. -/
def State.nullsOf (s : State) (x : BeamState) : Nat :=
  if x.kind = 2 ∨ x.flags.nonull then 0
  else
    let sites := (List.range 12).filter (fun i => x.ws.members.any (fun n => s.siteOf n == i))
    (sites.map (fun i => (s.signatures i x.bandOf).length)).foldl (· + ·) 0

/-- `FLAGS` of the beam descriptor. -/
def BeamFlags.word (f : BeamFlags) : Nat :=
  bbool f.empty + 2 * bbool f.nullDegraded + 4 * bbool f.dlyRange + 8 * bbool f.masked + 16 * bbool f.sat + 32 * bbool f.nonull

/-- The beam descriptor, 24 bytes (04). -/
def BeamState.bytes (n : Nat) (x : BeamState) : List Byte :=
  b8 n ++ b8 x.kind ++ b8 x.band ++ b8 x.mode ++ b8 x.group ++ b8 x.owner ++ b16 x.sites ++ b16 (if x.kind = 0 then x.signal.getD x.az else x.az) ++ bi16 x.el ++
  b8 x.bshift ++ b8 x.nnull ++ b16 x.flags.word ++ b8 x.ws.members.length ++ bz 1 ++ b16 x.pwr ++ b8 x.blankf ++ bz 3

/-- `BEAM_LIST` (04 R99, R100). -/
def specBeamList : CmdSpec :=
  rangeSpec 0x0400 (fun _ => 256) (fun _ _ => List.range 256) (fun s n => (s.beam n).bytes n)

/-- `BEAM_LIST`, served by its spec (12 R315). -/
def execCmdBeamList (p : Packet) (s : State) : Host.Outcome State Fault Refusal := s.command specBeamList p

/-- The coherence state of a band. -/
def State.cohOf (s : State) (b : Band) : BandCoh := s.arr.coh.get b

/-- Changes the coherence state of a band. -/
def State.mapCoh (b : Band) (f : BandCoh → BandCoh) (s : State) : State := { s with arr := { s.arr with coh := s.arr.coh.upd b f } }

/-- A site is the reference site of a band (05 R112). -/
def State.isRef (s : State) (site : Nat) (b : Band) : Bool := bit ((vgetD s.arr.assay.table.sites site {}).refb) b.code

/-- The coherence group of a site in a band (04 R87): 0 for group 0, otherwise a group of its own, numbered 1 + s; none without an element
in service. -/
def State.groupOf (s : State) (site : Nat) (b : Band) : Option Nat :=
  if (s.serving site b).isEmpty then none
  else if (s.cohOf b).policy != .siteOnly && (s.isRef site b || vgetD (s.cohOf b).inGroup site false) then some 0
  else some (1 + site)

/-- `BAND_COHERENCE` (04 R88): per band the group of each site, the policy, the counts of FULL, SPLIT and PART signals. -/
def specBandCoherence : CmdSpec :=
  statusSpec 0x0401 (fun _ s => Config.encodeFields 0x0401 ((bands.map (fun b =>
    (List.range 12).map (fun i => (((s.groupOf i b).getD 0xFF : Nat) : Int)) ++ [((s.cohOf b).policy.code : Int)] ++
    (List.range 3).map (fun m => ((((s.cohOf b).modes.filter (fun x => x.2.2.1 == m)).length : Nat) : Int)))).flatten))

/-- `BAND_COHERENCE`, served by its spec (12 R315). -/
def execCmdBandCoherence (p : Packet) (s : State) : Host.Outcome State Fault Refusal := s.command specBandCoherence p

/-- `NULL_LIST` (04 R94, R98): per site and band the nulls with their ratio to noise, power and residual where a beam watches them, and age, and
the unnulled count. -/
def specNullList : CmdSpec :=
  statusSpec 0x0402 (fun _ s => Config.encodeFields 0x0402 (((List.range 12).map (fun i => (bands.map (fun b =>
    let x := (vgetD s.arr.nulls i ⟨{}, {}, {}⟩).get b
    [(i : Int), (b.code : Int), (x.unnulled : Int)] ++
      (x.nulls.map (fun n => [(n.power : Int), (n.watch.map (·.1)).getD 0, (n.watch.map (·.2)).getD 0, (n.age : Int)])).flatten)).flatten)).flatten))

/-- `NULL_LIST`, served by its spec (12 R315). -/
def execCmdNullList (p : Packet) (s : State) : Host.Outcome State Fault Refusal := s.command specNullList p

/-- The policy of a code (04). -/
def policyOf (n : Nat) : Policy := if n = 1 then .siteOnly else if n = 2 then .noSplit else .auto

/-- `BEAM_POLICY` (04 R91). -/
def specBeamPolicy : CmdSpec :=
  { opcode := 0x0403, role := roleInstaller, len := lenIs 4
    param := fun r _ => firstBad [(decide (2 < r.index), 0), (decide (2 < r.arg), 2)]
    changes := fun _ => true
    run := fun r s =>
      (s.mapCoh ((Band.ofCode r.index).getD .u) (fun c => { c with policyStaged := some (policyOf r.arg) })).accept r r.index }

/-- `BEAM_POLICY`, served by its spec (12 R315). -/
def execCmdBeamPolicy (p : Packet) (s : State) : Host.Outcome State Fault Refusal := s.command specBeamPolicy p

/-- The sectors of a `SITE_MASK` request. -/
def Req.sectors (r : Req) : List (Nat × Nat × Int) :=
  (List.range (u8At r.pay 3)).map (fun i => (u16At r.pay (4 + 8 * i), u16At r.pay (6 + 8 * i), i16At r.pay (8 + 8 * i)))

/-- `SITE_MASK` (12 R322, 04 R99). -/
def specSiteMask : CmdSpec :=
  { opcode := 0x0404, role := roleInstaller
    len := fun r => decide (4 ≤ r.pay.length) && r.pay.length == 4 + 8 * u8At r.pay 3
    param := fun r s => firstBad ([((s.site r.index).isNone, 0), (decide (30 < u8At r.pay 2), 2), (decide (8 < u8At r.pay 3), 3)] ++
      ((List.range (u8At r.pay 3)).map (fun i =>
        [(decide (35999 < u16At r.pay (4 + 8 * i)), 4 + 8 * i), (decide (35999 < u16At r.pay (6 + 8 * i)), 6 + 8 * i),
         (!zeroAt r.pay (10 + 8 * i) 2, 10 + 8 * i)])).flatten)
    changes := fun _ => true
    run := fun r s =>
      let m : SkyMask := { mask := u8At r.pay 2, sectors := r.sectors }
      ({ s with arr := { s.arr with masksStaged := s.arr.masksStaged ++ [(r.index, m)] } }).accept r r.index }

/-- `SITE_MASK`, served by its spec (12 R315). -/
def execCmdSiteMask (p : Packet) (s : State) : Host.Outcome State Fault Refusal := s.command specSiteMask p

/-- The sites of the charter as a mask. -/
def State.charterSiteMask (s : State) : Nat := ((List.range 12).filter (fun n => (s.site n).isSome) |>.map (2 ^ ·)).foldl (· + ·) 0

/-- The plan's slot of a beam, where the host owns it (04 R99). -/
def State.hostSlot (s : State) (n : Nat) : Option BeamSlot :=
  match s.fab.active with
  | none => none
  | some p => p.beams.find? (fun x => x.bnum == n && x.bown == 0)

/-- `BEAM_DEFINE` (04 R82, R99): a host-owned slot's kind, sites and direction; the Overman computes the weights.
DESIGN CHOICE (log 46): `KIND` 0 (track) is taken on a host-owned slot whose `BKINDS` names it; the spec keeps track beams to the runtime and
lets any slot hold any kind. -/
def specBeamDefine : CmdSpec :=
  { opcode := 0x8400, role := roleInstaller, len := lenIs 28
    param := fun r s =>
      let b := r.pay.drop 4
      match s.hostSlot r.index with
      | none => some 0
      | some x =>
        let k := u8At b 1
        let sites := u16At b 6
        firstBad [(!zeroAt r.pay 2 2, 2), (k != 0xFF && !(decide (k ≤ 3) && bit x.bkinds k), 5),
          (sites &&& s.charterSiteMask != sites ||
            (decide (1 ≤ k ∧ k ≤ 3) && ((List.range 12).filter (bit sites)).length != 1), 10),
          (decide (35999 < u16At b 8), 12), (decide (i16At b 10 < -500 ∨ 9000 < i16At b 10), 14),
          (decide (64 ≤ u16At b 14), 18), (!zeroAt b 17 1, 21), (!zeroAt b 21 3, 25)]
    changes := fun _ => true
    run := fun r s =>
      let b := r.pay.drop 4
      (s.mapBeam r.index (fun x => { x with stagedDef := some (u8At b 1, u16At b 6, u16At b 8, i16At b 10) })).accept r r.index }

/-- `BEAM_DEFINE`, served by its spec (12 R315). -/
def execCmdBeamDefine (p : Packet) (s : State) : Host.Outcome State Fault Refusal := s.command specBeamDefine p

/-- The weight set of a `BEAM_WEIGHTS` request: 96 weights and 12 delays, 216 bytes (04 R77, R78). -/
def weightSetOf (b : List Byte) : WeightSet :=
  { w := (List.range 96).map (fun n => { i := i8At b (2 * n), q := i8At b (2 * n + 1) })
    bdly := (List.range 12).map (fun i => u16At b (192 + 2 * i)) }

/-- `BEAM_WEIGHTS` (04 R77, R95, R99). -/
def specBeamWeights : CmdSpec :=
  { opcode := 0x8401, role := roleInstaller, len := lenIs 220
    param := fun r s =>
      let x := weightSetOf (r.pay.drop 4)
      firstBad ([((s.hostSlot r.index).isNone, 0), (!zeroAt r.pay 2 2, 2)] ++
        (List.range 96).map (fun n => ((x.at_ n).i == -128 || (x.at_ n).q == -128, 4 + 2 * n)) ++
        (List.range 12).map (fun i => (decide (1023 < x.bdly.getD i 0), 196 + 2 * i)))
    changes := fun _ => true
    run := fun r s =>
      (s.mapBeam r.index (fun x => { x with
        staged := some (weightSetOf (r.pay.drop 4)), stagedNonull := some (Config.weightNonull r.pay) })).accept r r.index }

/-- `BEAM_WEIGHTS`, served by its spec (12 R315). -/
def execCmdBeamWeights (p : Packet) (s : State) : Host.Outcome State Fault Refusal := s.command specBeamWeights p

/-- The null parameters (04 R92–R94). -/
def nullRows : List (ParRow NullParams) :=
  [natRow 1 64 NullParams.nref (fun x v => { x with nref := v }), natRow 3 30 NullParams.jthr (fun x v => { x with jthr := v }),
   natRow 1 255 NullParams.nhold (fun x v => { x with nhold := v }), natRow 0 24 NullParams.limit (fun x v => { x with limit := v })]

/-- `NULL_PARAMS` (04 R99): in effect at the next survey of each site and band; returns `OK`. -/
def specNullParams : CmdSpec :=
  parCmd 0x8402 roleInstaller nullRows (fun sc _ => sc != 0xFFFF) (fun _ s => s.arr.nullParams) (fun _ s => s.arr.nullParams)
    (fun _ a s => (.ok [], { s with arr := { s.arr with nullParams := a } }))

/-- `NULL_PARAMS`, served by its spec (12 R315). -/
def execCmdNullParams (p : Packet) (s : State) : Host.Outcome State Fault Refusal := s.command specNullParams p

/-- The coherence parameters of a band (04 R87, R89). -/
def cohRows : List (ParRow CohParams) :=
  [natRow 1 50 CohParams.tauIn (fun x v => { x with tauIn := v }), natRow 1 45 CohParams.phiIn (fun x v => { x with phiIn := v }),
   natRow 10 60000 CohParams.dwellIn (fun x v => { x with dwellIn := v }), natRow 2 100 CohParams.tauOut (fun x v => { x with tauOut := v }),
   natRow 2 90 CohParams.phiOut (fun x v => { x with phiOut := v }), natRow 1 10000 CohParams.dwellOut (fun x v => { x with dwellOut := v }),
   natRow 0 255 CohParams.srchMin (fun x v => { x with srchMin := v })]

/-- The rules between coherence parameters (04 R87): `TAU_OUT` above `TAU_IN`, `PHI_OUT` above `PHI_IN`. -/
def cohRule (x : CohParams) : Option (List Nat) :=
  if x.tauOut ≤ x.tauIn then some [0, 3] else if x.phiOut ≤ x.phiIn then some [1, 4] else none

/-- `COHERENCE_PARAMS` (04 R87, R99): `SCOPE` is the band. -/
def specCoherenceParams : CmdSpec :=
  parCmd 0x8403 roleInstaller cohRows (fun sc _ => decide (2 < sc))
    (fun sc s => (s.cohOf ((Band.ofCode sc).getD .u)).params)
    (fun sc s => let c := s.cohOf ((Band.ofCode sc).getD .u); c.paramsStaged.getD c.params)
    (fun r a s => (s.mapCoh ((Band.ofCode r.scope).getD .u) (fun c => { c with paramsStaged := some a })).accept r r.scope) cohRule

/-- `COHERENCE_PARAMS`, served by its spec (12 R315). -/
def execCmdCoherenceParams (p : Packet) (s : State) : Host.Outcome State Fault Refusal := s.command specCoherenceParams p

end Sys2Proof.Machine
end

