-- ==== Sys2Proof/Machine/CodeLib.lean ====
section
/-! DEFINITION. The codes of the signals (06 R125, R126, R128, R130): the code library, the chips that the stopes compute, and the value of a
replica. -/

namespace Sys2Proof.Machine

/-- The sets of the code library in the order of its table (06 R128): types, entries of each type with the first satellite number, bytes of an
entry, and whether they are secondary codes. A set of two types holds the first type's entries before the second's (log 49). -/
def librarySets : List (List Nat × Nat × Nat × Nat × Bool) :=
  [([0x10, 0x11], 50, 1, 512, false), ([0x16, 0x17], 50, 1, 640, false), ([0x02, 0x03], 63, 1, 1280, false), ([0x03], 63, 1, 256, true),
   ([0x41, 0x42], 10, 193, 1280, false), ([0x42], 10, 193, 256, true), ([0x21, 0x22], 63, 1, 1280, false), ([0x22], 63, 1, 256, true),
   ([0x13, 0x15, 0x17], 50, 1, 16, true), ([0x24], 63, 1, 16, true)]

/-- The offset of a component's entry in a list of sets that begins at an offset; none where no set holds it. -/
def libraryFind (sigid : Nat) (sec : Bool) : List (List Nat × Nat × Nat × Nat × Bool) → Nat → Option Nat
  | [], _ => none
  | (l, n, first, size, isSec) :: r, at_ =>
    let i := l.findIdx (· == sigT sigid)
    if isSec = sec ∧ i < l.length ∧ first ≤ sigSat sigid ∧ sigSat sigid < first + n then some (at_ + (i * n + (sigSat sigid - first)) * size)
    else libraryFind sigid sec r (at_ + l.length * n * size)

/-- The byte offset of a component's primary or secondary code in the library (06 R128). -/
def libraryAt (sigid : Nat) (sec : Bool) : Option Nat := libraryFind sigid sec librarySets 0

/-- A byte of the loaded copy: `errors` holds where it differs from the image, and how (06 R128). -/
def libraryByte (errors : Mem) (a : Nat) : Byte := Config.codeLibrary a ^^^ sread 0 errors a

/-- A chip of an entry; its bits lie in the bytes from the least significant one on (log 49). -/
def libraryChip (errors : Mem) (at_ n : Nat) : Bool := (libraryByte errors (at_ + n / 8)).getLsbD (n % 8)

/-- A primary chip of a component: from the library where it holds the code, else computed (06 R128). -/
def primaryChip (errors : Mem) (sigid n : Nat) : Bool :=
  match libraryAt sigid false with
  | some a => libraryChip errors a n
  | none => Config.primaryChip sigid n

/-- A secondary chip of a component (06 R128, R136). -/
def secondaryChip (errors : Mem) (sigid n : Nat) : Bool :=
  match libraryAt sigid true with
  | some a => libraryChip errors a n
  | none => Config.secondaryChip sigid n

/-- A chip as a factor. -/
def chipSign (b : Bool) : Int := if b then -1 else 1

/-- Types whose chips share composite chips with another component's (06 R126, R130): the remainder modulo 2 of those that they occupy. -/
def compositeOf (t : Nat) : Option Nat :=
  if t = 0x04 ∨ t = 0x43 ∨ t = 0x47 then some 0 else if t = 0x05 ∨ t = 0x44 then some 1 else none

/-- Types with a modulation beyond BOC(1,1): CBOC, TMBOC and QMBOC (06 R126). -/
def manyPart (t : Nat) : Bool := [0x03, 0x10, 0x11, 0x22, 0x42].contains t

/-- The subcarrier at a point of a chip (06 R126, arm descriptor): none for BPSK, half a chip of either sign for BOC(1,1) and for the BOC(1,1) part of
the others. -/
def subcarrier (t : SigType) (part : Bool) (chip frac : Nat) : Int :=
  if !t.boc then 1 else if manyPart t.code && !part then Config.subcarrier t.code chip frac else if frac < 2 ^ 47 then 1 else -1

/-- The replica of a component at a position of its code in 2^-48 chip, composite chips counted (06 R126, R128, R130). -/
def replicaAt (errors : Mem) (sigid : Nat) (t : SigType) (part : Bool) (pos : Nat) : Int :=
  let chip := pos / 2 ^ 48
  match compositeOf t.code with
  | none => chipSign (primaryChip errors sigid chip) * subcarrier t part chip (pos % 2 ^ 48)
  | some r => if chip % 2 = r then chipSign (primaryChip errors sigid (chip / 2)) else 0

end Sys2Proof.Machine
end

