-- ==== Sys2Proof/Machine/Adit.lean ====
section
/-! DEFINITION. The adits (03): unpacking, gain normalisation and pulse blanking of a frame as it arrives (R54–R57), and the output stages that
run when a haulage block is released (R58–R63); the uplink frame as a whole (02 R48). Values are in Q16 of the normalised scale. -/

namespace Sys2Proof.Machine

/-- The bands packed in a frame (02 R31, R34). -/
def packed (ver : Nat) : List Band := if ver = 1 then [.u, .l] else [.u, .m, .l]

/-- Bits of a code of a width code. -/
def widthBits (width : Nat) : Nat := if width = 0 then 2 else if width = 1 then 4 else 6

/-- The level at a bit position of the payload (02 R34, R35). -/
def levelAt (bits w pos : Nat) : Int := 2 * sx w (bits / 2 ^ pos) + 1

/-- I and Q levels of a band at a sample time (02 R34). -/
def sampleAt (ver width bits j : Nat) (b : Band) : Int × Int :=
  let l := packed ver
  let w := widthBits width
  let p := (j * l.length + l.idxOf b) * 2 * w
  (levelAt bits w p, levelAt bits w (p + w))

/-- The normalised value of a level, in Q16: (L / 2^(w−1)) · 10^(−n/80), n the steps from the reference times the step size (03 R55). -/
def normalise (width : Nat) (n level : Int) : Int :=
  let v := tenth80 (level.natAbs * 2 ^ (17 - widthBits width)) n
  if level < 0 then -v else v

/-- A tick lies in one of the spans. -/
def inSpans (l : List (Nat × Nat)) (t : Nat) : Bool := l.any (fun x => decide (x.1 ≤ t ∧ t < x.2))

/-- Blanking mode of a band (03 `BLK_MODE`). -/
def AditBlock.mode (a : AditBlock) (b : Band) : Nat := a.blkMode / 4 ^ b.code % 4

/-- The conditioning block in force at a tick: that of the epoch before for samples that arrive after its boundary (01 R17, 03 R62). -/
def AditState.blkAt (a : AditState) (bnd tick : Nat) : AditBlock := if tick < bnd then a.blkBefore else a.blk

/-- A squared magnitude exceeds `BLK_THR` × RMS, the RMS over the latest 81 840 samples not blanked (03 R56); before any such sample there is
no RMS to exceed (log 18). -/
def isPulse (thr sq : Nat) (rms : List (Nat × Nat)) : Bool :=
  let l := rms.take 81840
  !l.isEmpty && decide (thr * thr * (l.map (·.2)).foldl (· + ·) 0 < sq * 256 * l.length)

/-- Takes one sample of a band into the adit, under the block of its tick (03 R54–R56, R62): a pulse blanks the samples before and after it,
which leave the RMS too. -/
def AditState.take (b : Band) (blk : AditBlock) (tick : Nat) (x : Int × Int) (a : AditState) : AditState :=
  let sq := (x.1 * x.1 + x.2 * x.2).toNat
  let spans := a.blanked.get b
  let rms := a.rms.get b
  let held := (tick, x.1, x.2) :: (a.buf.get b).filter (fun e => decide (tick < e.1 + 16384))
  let a1 := { a with buf := a.buf.set b held }
  if blk.mode b = 1 ∧ isPulse blk.blkThr sq rms then
    { a1 with blanked := a1.blanked.set b ((tick - blk.blkPre, tick + blk.blkPost + 1) :: spans)
              rms := a1.rms.set b (rms.filter (fun e => decide (e.1 + blk.blkPre < tick))) }
  else if inSpans spans tick ∨ blk.mode b = 2 then a1
  else { a1 with rms := a1.rms.set b (((tick, sq) :: rms).take 81856) }

/-- Spans that end long before a tick are dropped. -/
def recent (tick : Nat) (l : List (Nat × Nat)) : List (Nat × Nat) := l.filter (fun x => decide (tick < x.2 + 4 * epochTicks))

/-- Takes a whole sample frame of a lane into its adit (03 R54, R55): its first sample has the given tick; `bnd` is the last boundary. -/
def LaneState.intake (l : LaneState) (b : List Byte) (bnd tick : Nat) (a : AditState) : AditState :=
  let bits := leNat ((b.drop 16).take (8 * payloadWords l.lver l.width))
  let step := (l.cap.map (·.gainStep)).getD 0
  let a0 := { a with erased := recent tick a.erased, blanked := a.blanked.map (recent tick) }
  ((packed l.lver).filter (fun x => bit l.bands x.code && bit l.hdr.bandmask x.code)).foldl (fun a x =>
    (List.range 165).foldl (fun a j =>
      let blk := a.blkAt bnd (tick + j)
      let n := ((l.gain.get x : Int) - blk.gref.get x) * step
      let v := sampleAt l.lver l.width bits j x
      a.take x blk (tick + j) (normalise l.width n v.1, normalise l.width n v.2)) a) a0

/-- The gains of a frame's trailer (02 R33). -/
def trailerGain (b : List Byte) : PerBand Nat :=
  let o := b.length - 4
  ⟨u8At b o, u8At b (o + 1), u8At b (o + 2)⟩

/-- A good sample frame of a `LIVE` lane reaches the adit (03 R54). -/
def State.intake (n : Nat) (b : List Byte) (h : UpHeader) (s : State) : State :=
  let l := s.lane n
  (s.mapAdit n (l.intake b s.clk.bnd (indexTick s.clk.tick l.sidxMap h.sidx))).mapLane n (fun l => { l with lastFrame := some (h.fseq, h.sidx) })

/-- A valid sample frame of a `LIVE` lane after its echo (02 R48, R50). -/
def State.liveFrame (n : Nat) (b : List Byte) (h : UpHeader) (c : FrameCheck) (s : State) : State :=
  let l := s.lane n
  match c with
  | .good => s.intake n b h
  | .skipped g =>
    let lost := indexTick s.clk.tick l.sidxMap (((l.lastFrame.map (·.2)).getD 0 + 165) % 2 ^ 48)
    ((s.erase n lost (lost + 165 * g)).mapLane n (fun l => { l with crcErr := satAdd 0xFFFFFFFF l.crcErr g })).intake n b h
  | .slip => s.laneSlip n
  | .missing => s.laneLoss n .framesMissing

/-- A sample frame of a `LIVE` lane: a loss alone counts where it comes with a slip; an echo that shows a slip erases from its frame on (02 R48,
R50). -/
def State.inService_ (n : Nat) (b : List Byte) (h : UpHeader) (arrival : Nat) (gap : Bool) (s : State) : State :=
  let c := checkFrame gap (s.lane n).lastFrame h
  match c with
  | .missing => s.liveFrame n b h c
  | .slip => s.liveFrame n b h c
  | _ =>
    let t := s.echo n h arrival
    if (t.lane n).state = .live then t.liveFrame n b h c else t

/-- A valid frame: its header is held, its acknowledgement and echo taken, and the frame used as the lane's state has it (02 R32, R38,
R41, R44, R45, R48, R52). -/
def State.goodFrame (n : Nat) (b : List Byte) (arrival : Nat) (s : State) : State :=
  let h := headerOf b
  let gap := decide ((s.lane n).lastValid + 1320 ≤ s.clk.tick)
  let held := (s.noteFrame n false).mapLane n (fun l => { l with hdr := h, gain := trailerGain b })
  let s1 := held.takeAck n h
  if h.ftype = 1 then ((s1.capFrame n h (capOf (b.drop 16))).echo n h arrival)
  else
    match (s1.lane n).state with
    | .offer => s1.versionOne n
    | .range => s1.echo n h arrival
    | .sync =>
      let t := (s1.syncFrame n h).echo n h arrival
      if (s1.lane n).woken ∧ (t.lane n).state = .live then t.intake n b h else t
    | .live => s1.inService_ n b h arrival gap
    | _ => s1

/-- An uplink frame at the adit (02 R30, R48): one that holds fill or an unknown control item, or that the lane's state, version and width do
not allow, is discarded; the `CRC` is checked before the header is read. -/
def State.uplink (n : Nat) (f : RawFrame) (s0 : State) : State :=
  let s := s0.tellSlip n
  let l := s.lane n
  if !l.listening then s
  else
    match frameBytes l.rate f.items with
    | none => s
    | some b =>
      let t :=
        if 24 ≤ b.length ∧ frameCrcOk b = true then (if l.accepts b then s.goodFrame n b f.arrival else s)
        else s.badFrame n
      t.mapLane n (fun x => if x.state = l.state then { x with arrivals := (f.arrival :: l.arrivals).take 4 } else x)

/-! ### The output stages -/

/-- A sample of a band at an input tick: missing, blanked (value 0) or present (03 R56). -/
def AditState.sampleOf (a : AditState) (blk : AditBlock) (b : Band) (t : Nat) : Option (Bool × Int × Int) :=
  if blk.mode b = 2 || inSpans a.erased t || inSpans (a.blanked.get b) t then some (true, 0, 0)
  else ((a.buf.get b).find? (fun e => e.1 == t)).map (fun e => (false, e.2.1, e.2.2))

/-- The poles of a notch of width code k as tangents in Q60 (03 R58): with u the tangent of half the phase from the centre to the 3 dB point at
half of 10 kHz · 2^k, u²/(u² + t1²) · u²/(u² + t2²) = 1/2; how the two share it is free (log 15). -/
def notchPoles (k : Nat) : Nat × Nat :=
  let c := cis 48 (2 ^ 48 * 2 ^ k / 32736)
  let u2 := ((c.2 * 2 ^ 60 / c.1) ^ 2).toNat
  let f := Config.notchSplit k % 2 ^ 60
  (isqrt (u2 * f / 2 ^ 60), isqrt (u2 * (2 ^ 60 - f) / (2 ^ 60 + f)))

/-- A product with a complex factor in Q60. -/
def scaleC (z v : Int × Int) : Int × Int := ((z.1 * v.1 - z.2 * v.2) / 2 ^ 60, (z.1 * v.2 + z.2 * v.1) / 2 ^ 60)

/-- One first-order section of a notch: its zero on the unit circle at the centre, so that the centre vanishes, its pole at radius
(1 − t)/(1 + t), and unity gain far from the centre. -/
def notchSection (z0 : Int × Int) (t : Nat) (x x1 y1 : Int × Int) : Int × Int :=
  let p := (2 ^ 60 - (t : Int)) * 2 ^ 60 / (2 ^ 60 + t)
  let d := scaleC z0 x1
  let g := (2 ^ 60 + p) / 2
  let back := scaleC ((p * z0.1) / 2 ^ 60, (p * z0.2) / 2 ^ 60) y1
  ((x.1 - d.1) * g / 2 ^ 60 + back.1, (x.2 - d.2) * g / 2 ^ 60 + back.2)

/-- One sample through an enabled notch (03 R58), in Q32. -/
def Notch.run (e : Notch) (m : NotchMem) (x : Int × Int) : (Int × Int) × NotchMem :=
  let z0 := cis 24 (bitsOf 24 e.centre)
  let t := notchPoles e.k
  let y := notchSection z0 t.1 x m.x1 m.y1
  let w := notchSection z0 t.2 y m.x2 m.y2
  (w, { x1 := x, y1 := y, x2 := y, y2 := w })

/-- One sample through the four notch entries of its band, in Q32. -/
def notchChain (v : Vector Notch 4) (m : Vector NotchMem 4) (x : Int × Int) : (Int × Int) × Vector NotchMem 4 :=
  (List.range 4).foldl (fun (a : (Int × Int) × Vector NotchMem 4) i =>
    let e := vgetD v i {}
    if e.enable then
      let r := e.run (vgetD a.2 i {}) a.1
      (r.1, vupdN a.2 i (fun _ => r.2))
    else (a.1, vupdN a.2 i (fun _ => {}))) (x, m)

/-- What was in force at a tick: of the present epoch or of the one before (03 R62). -/
structure AditSet where
  bnd : Nat
  notch : Vector Notch 4
  notchBefore : Vector Notch 4

/-- The notches of a tick. -/
def AditSet.notches (c : AditSet) (t : Nat) : Vector Notch 4 := if t < c.bnd then c.notchBefore else c.notch

/-- One tick of a band through the notch chain; a sample that is missing enters as a blanked one, 0 (03 R58, R65). -/
def AditState.notchTick (b : Band) (c : AditSet) (a : AditState) (t : Nat) : AditState :=
  let x := (a.sampleOf (a.blkAt c.bnd t) b t).getD (true, 0, 0)
  let r := notchChain (c.notches t) (a.nmem.get b) (x.2.1 * 2 ^ 16, x.2.2 * 2 ^ 16)
  let out := (t, x.1, r.1.1 / 2 ^ 16, r.1.2 / 2 ^ 16)
  { a with nbuf := a.nbuf.upd b (fun l => out :: l.filter (fun e => decide (t < e.1 + 16384))), nmem := a.nmem.set b r.2 }

/-- The notch chain runs on to a tick, from the one after its last output or else from a first one. -/
def AditState.notchTo (b : Band) (c : AditSet) (first last : Nat) (a : AditState) : AditState :=
  let from_ := match (a.nbuf.get b).head? with | some e => max (e.1 + 1) (first - 16384) | none => first
  ((List.range (last + 1 - from_)).map (fun i => from_ + i)).foldl (AditState.notchTick b c) a

/-- A haulage component from a value in Q120 of the haulage scale (03 R63): rounded with ties toward +∞; the flag marks saturation. -/
def requant (v : Int) : Int × Bool :=
  let r := roundDiv v (2 ^ 120)
  (clampI (-127) 127 r, decide (r < -127 ∨ 127 < r))

/-- e^(j·2π·GPH/65 536) in Q60 (03 R63). -/
def gainPhase (n : Nat) : Int × Int := cis 16 (n % 65536)

/-- The input position of an output tick in 1/65 536 tick (03 R59). -/
def aditPos (blk : AditBlock) (term : Int) (n : Nat) : Int := (n : Int) * 65536 - (blk.idelay * 65536 + blk.fdelay + term)

/-- One output sample of an adit (03 R59–R63) with the block and lane term of its tick: the sample, how many of its components saturated, and
whether an input was missing. The taps lie from 5 before to 6 after the input position (log 15). -/
def AditState.output (a : AditState) (blk : AditBlock) (term : Int) (bnd : Nat) (b : Band) (n : Nat) : HSample × Nat × Bool :=
  let pos := aditPos blk term n
  let k := pos / 65536
  let taps := (List.range 12).map (fun (i : Nat) => (k + 6 - (i : Int)).toNat)
  let late := taps.any (fun t => (a.sampleOf (a.blkAt bnd t) b t).isNone)
  let ins := taps.map (fun t => (((a.nbuf.get b).find? (fun e => e.1 == t)).map (·.2)).getD (true, 0, 0))
  if late || ins.any (·.1) then ({ tick := n, i := 0, q := 0, blank := true }, 0, late)
  else
    let c (i : Nat) : Int := Config.interpTap (pos % 65536).toNat i
    let v := (List.range 12).foldl (fun (s : Int × Int) i => let x := ins.getD i (true, 0, 0); (s.1 + c i * x.2.1, s.2 + c i * x.2.2)) (0, 0)
    let g : Int := blk.gmag.get b
    let e := gainPhase (blk.gph.get b)
    let i := requant (64 * g * (v.1 * e.1 - v.2 * e.2))
    let q := requant (64 * g * (v.1 * e.2 + v.2 * e.1))
    ({ tick := n, i := i.1, q := q.1, blank := false }, bbool i.2 + bbool q.2, late)

/-- Blanked or erased sample times of a band in a span of ticks of the epoch before or of the present one (03 R57). -/
def AditState.countBlanked (a : AditState) (bnd : Nat) (b : Band) (lo n : Nat) : Nat :=
  if (a.blkAt bnd lo).mode b = 2 then n
  else ((List.range n).filter (fun i => inSpans a.erased (lo + i) || inSpans (a.blanked.get b) (lo + i))).length

end Sys2Proof.Machine
end

