-- ==== Sys2Proof/Machine/Wear.lean ====
section
/-! DEFINITION. Wear (22 R519–R523): the wear entries and their monitors' margins, the wear index, the prediction of the end of life, its reports and
proposals, and the spare rows. -/

namespace Sys2Proof.Machine

/-- A deep test leaves its result and time in the unit's wear entry (22 R524). -/
def State.noteTest (cls idx res : Nat) (s : State) : State :=
  { s with hea := { s.hea with wear := vupdN s.hea.wear (wearIndex cls idx) (fun w => { w with testRes := res, testTm := s.ms, testDue := false }) } }

/-- `WSTATE` (22 R521). -/
def State.wearState (cls idx : Nat) (s : State) : Nat :=
  match cls with
  | 0 | 7 =>
    if s.fab.stRetired.contains idx then 3 else if s.fab.lsMap.toList.contains idx then 0 else if s.fab.stSuspect.contains idx then 2 else 1
  | 1 | 8 =>
    if s.fab.dpRetired.contains idx then 3 else if s.fab.ldMap.toList.contains idx then 0 else if s.fab.dpSuspect.contains idx then 2 else 1
  | 6 =>
    match vgetD s.smp.lode.use idx .retired with
    | .service => 0 | .spare => 1 | .copying => 1 | .testing => 1 | .retired => 3
  | _ => 0

/-- The sensors that serve a unit (22 R526): those of its pair or quadrant, otherwise those of the part it lies in (log 7). -/
def unitSensors (cls idx : Nat) : List Nat :=
  match cls with
  | 0 | 7 => [idx / 2]
  | 1 | 8 => [18 + idx / 2]
  | 2 => if idx = 0 then [27] else if idx = 1 then [28, 29, 30, 31] else [36, 37]
  | 3 => [32 + idx / 24]
  | 5 => [36, 37]
  | 6 => [28 + idx / 17]
  | 9 => if idx ≤ 1 then [27] else if idx = 3 then [38, 39] else [28, 29, 30, 31]
  | _ => [38, 39]

/-- `TMAX`: the hottest reading of a unit's sensors over 24 h, by the hour (22 R521). -/
def State.tmax (s : State) (cls idx : Nat) : Int :=
  match ((unitSensors cls idx).map (fun n => (vgetD s.hea.sens n {}).hours.take 25)).flatten with
  | [] => 0
  | x :: r => r.foldl max x

/-- A wear entry's 32 bytes (22 R521). -/
def State.wearBytes (n : Nat) (s : State) : List Byte :=
  let c := wearClass n
  let w := vgetD s.hea.wear n {}
  b8 c.1 ++ b8 c.2 ++ b8 (s.wearState c.1 c.2) ++
  b8 (bbool w.proposed + 2 * bbool w.eolWarn + 4 * bbool w.eolCrit + 8 * bbool w.testDue + 16 * bbool w.unmon) ++
  b16 w.widx ++ b16 w.eolM ++ b16 w.eolLo ++ b16 w.eolHi ++ bi16 w.margin ++ bi16 (s.tmax c.1 c.2) ++ b32 w.ageH ++ b8 w.testRes ++ bz 1 ++
  b16 w.srows ++ b64 w.testTm

/-- `FLT_CANARY` (22 R522): cause and wear entry. -/
def State.canary (cause n : Nat) (s : State) : State :=
  s.report 0x1601 1 0xFF (8 * n + cause) (b8 cause ++ bz 3 ++ s.wearBytes n)

/-- Changes a wear entry. -/
def State.mapWear (n : Nat) (f : WearEntry → WearEntry) (s : State) : State :=
  { s with hea := { s.hea with wear := vupdN s.hea.wear n f } }

/-- The wear entry of the list. -/
def State.wearOf (s : State) (n : Nat) : WearEntry := vgetD s.hea.wear n {}

/-- The margin of a unit at Relwa's final test, in its manufacturing record (22 R520; log 5). -/
opaque Config.firstMargin : Nat → Int
/-- The frequency in kHz at the worst corner, projected from a unit's ring loss in 0.01 % (22 R519; the spec does not give the relation: log 60). -/
opaque Config.cornerFreq : Nat → Int → Int
/-- A monitor's reading lies inside its physical range (22 R522; the spec gives no range: log 60). -/
opaque Config.plausible : Nat → Int → Bool
/-- Median, 10th and 90th percentile of the months to the end of life (22 R521): by M0, Mf, the history of stress time (2^-40 h) and margin, and the mean
weight of the last 30 days (2^-40). The fit's method is open (log 60). -/
opaque Config.eolMonths : Int → Int → List (Nat × Int) → Nat → Nat × Nat × Nat

/-- The floor that a stope's end of life is held to, in MHz (22 R519): that of the logical stope it serves, for a reserve the highest of the active plan, without a
plan the default one (DEDUCED: log 60). -/
def State.lifeFloor (n : Nat) (s : State) : Nat :=
  match s.fab.active with
  | none => 720
  | some p =>
    match (List.range p.nlst).find? (fun i => vgetD s.fab.lsMap i 0xFF == n) with
    | some i => p.floorOf i
    | none => ((List.range p.nlst).map p.floorOf).foldl max 0

/-- The present margin M from a monitor's reading (22 R519, R520): the projected frequency, the eye, the test row's margin, or a port path's change
as a loss. -/
def marginOf (n : Nat) (reading : Int) : Int :=
  if n < 57 then Config.cornerFreq n reading else if 155 ≤ n ∧ n < 187 then -((reading.natAbs : Nat) : Int) else reading

/-- M0 (22 R520); a path has changed by nothing at its first measurement. -/
def firstOf (n : Nat) : Int := if 155 ≤ n ∧ n < 187 then 0 else Config.firstMargin n

/-- Mf, the margin at the end-of-life criterion (22 R519). -/
def State.endMargin (n : Nat) (s : State) : Int :=
  if n < 36 then 1000 * (s.lifeFloor n : Nat)
  else if n < 57 then 840000
  else if n < 155 then (s.hea.canary.eyeMin : Nat)
  else if n < 187 then -500
  else 20

/-- WIDX from M0, M and Mf (22 R520). -/
def widxOf (m0 m mf : Int) : Nat := (clampI 0 1000 (quotI (1000 * (m0 - m)) (m0 - mf))).toNat

/-- The weight of an hour at a temperature in 0.25 °C, in Q40 (22 R521): exp((0.6 eV / k) × (1/358.15 K − 1/T)), with k 8.617333262 × 10^-5 eV/K
(PRESUMED: log 60). -/
def stressWeight (t : Int) : Nat :=
  let k := 27315 + 25 * t
  if k ≤ 0 then 0 else expFix (6 * 10 ^ 15 * (k - 35815)) (8617333262 * 35815 * k.toNat)

/-- The hottest reading of a unit's sensors in an hour, the present one first; none without a reading. -/
def State.hotIn (hour n : Nat) (s : State) : Option Int :=
  let c := wearClass n
  match (unitSensors c.1 c.2).filterMap (fun k => (vgetD s.hea.sens k {}).hours[hour]?) with
  | [] => none
  | x :: r => some (r.foldl max x)

/-- The mean weight of a unit's hours over the last 30 days (22 R521). -/
def State.meanWeight (n : Nat) (s : State) : Nat :=
  let l := (List.range 720).filterMap (fun h => (s.hotIn (h + 1) n).map stressWeight)
  if l.isEmpty then 0 else l.foldl (· + ·) 0 / l.length

/-- Proposes the remedy of a unit (22 R525): by the logical unit that a stope or deputy serves, or by its bank; others are reported only. -/
def State.remedyFor (n cause : Nat) (s : State) : State :=
  let c := wearClass n
  let ls := (List.range 32).find? (fun i => vgetD s.fab.lsMap i 0xFF == c.2)
  let ld := (List.range 16).find? (fun i => vgetD s.fab.ldMap i 0xFF == c.2)
  match c.1 with
  | 0 | 7 => match ls with | some i => s.proposeStope i cause | none => s
  | 1 | 8 => match ld with | some i => s.proposeDeputy i cause | none => s
  | 6 => if vgetD s.smp.lode.use c.2 .retired = .service then s.proposeBank c.2 cause else s
  | _ => s

/-- Withdraws the open proposals of a unit whose cause has cleared (22 R525). -/
def State.withdraw (n cause : Nat) (s : State) : State :=
  let drop (p : Proposal) : Proposal :=
    if p.scause == cause && p.sstate == 0 && p.sact != 5 && s.unitEntry p.sact p.sclass p.sindex == n then { p with sstate := 3 } else p
  let t := { s with hea := { s.hea with props := s.hea.props.map drop } }
  t.mapWear n (fun w => { w with proposed := t.hea.props.any (fun p => p.sact != 5 && s.unitEntry p.sact p.sclass p.sindex == n && decide (p.sstate ≤ 1)) })

/-- A monitor's reading outside its physical range: the third in a row marks the unit `UNMON` with cause 6 (22 R522). -/
def State.badReading (n : Nat) (s : State) : State :=
  let w := s.wearOf n
  if w.badReads = 2 then (s.mapWear n (fun w => { w with badReads := 3, unmon := true })).canary 6 n
  else s.mapWear n (fun w => { w with badReads := w.badReads + 1 })

/-- End-of-life months as an entry shows them (22 R521). -/
def eolField (known : Bool) (m : Nat) : Nat := if known && decide (m ≤ 600) then m else 0xFFFF

/-- The prediction of a unit's end of life (22 R521, R522): known from 1 000 h of history and 12 measurements on; the horizons are reported when
first passed, and `EOL_CRIT` brings a proposal. -/
def State.predict (n : Nat) (s : State) : State :=
  let w := s.wearOf n
  let (m, lo, hi) := Config.eolMonths (firstOf n) (s.endMargin n) w.history (s.meanWeight n)
  let known := decide (1000 ≤ w.ageH ∧ 12 ≤ w.history.length)
  let l := eolField known lo
  let warn := decide (l < s.hea.canary.eolWarn)
  let crit := decide (l < s.hea.canary.eolCrit)
  let s1 := s.mapWear n (fun w => { w with eolM := eolField known m, eolLo := l, eolHi := eolField known hi, eolWarn := warn, eolCrit := crit })
  let s2 := if warn && !w.eolWarn then s1.canary 1 n else s1
  let s3 := if crit && !w.eolCrit then (s2.canary 2 n).remedyFor n 1 else s2
  if !crit && w.eolCrit then s3.withdraw n 1 else s3

/-- A monitor's reading of a unit (22 R519–R522): out of its range it is only counted; otherwise it gives the margin and the index, enters the
history, and the prediction follows. A memory with fewer than two spare rows left has reached its end of life (DEDUCED: log 60). A unit that has lost
its monitor keeps its mark. -/
def State.measure (n : Nat) (reading : Int) (s : State) : State :=
  if !Config.plausible n reading then s.badReading n
  else
    let m := marginOf n reading
    let t := s.mapWear n (fun w => { w with
      badReads := if 3 ≤ w.badReads then w.badReads else 0, unmon := decide (3 ≤ w.badReads), margin := reading
      history := (w.stress, m) :: w.history
      widx := if 187 ≤ n ∧ w.srows < 2 then 1000 else widxOf (firstOf n) m (s.endMargin n) })
    t.predict n

/-- A full hour of power (22 R521): every unit ages, its stress time by the weight of the hour's hottest reading, and a new hour of the sensors'
maxima begins. -/
def State.hour (s : State) : State :=
  { s with hea := { s.hea with
    minutes := 0
    wear := Vector.ofFn (fun i => { s.hea.wear[i] with
      ageH := satAdd 0xFFFFFFFF s.hea.wear[i].ageH 1, stress := s.hea.wear[i].stress + ((s.hotIn 0 i.val).map stressWeight).getD 0 })
    sens := s.hea.sens.map (fun x => { x with hours := (x.reading :: x.hours).take 721 }) } }

/-- A minute of power. -/
def State.minute (s : State) : State :=
  if s.hea.minutes + 1 < 60 then { s with hea := { s.hea with minutes := s.hea.minutes + 1 } } else s.hour

/-- A row is spared (22 R523): remapped, recorded, reported; with the last spare row the memory's remedy is proposed. -/
def State.spareRow (n row : Nat) (s : State) : State :=
  let w := s.wearOf n
  if w.srows = 0 then s
  else
    let c := wearClass n
    let s1 := s.mapWear n (fun w => { w with srows := w.srows - 1 })
    let s2 := { s1 with hea := { s1.hea with remap := s1.hea.remap ++ [(n, row)] } }
    let s3 := (s2.sparingRecord 0 c.1 0xFF c.2 0xFF 3 0 row).canary 3 n
    if w.srows = 1 then (s3.canary 4 n).remedyFor n 4 else s3

end Sys2Proof.Machine
end

