-- ==== Sys2Proof/Machine/Haulage.lean ====
section
/-! DEFINITION. The haulage and the lode (03 R64–R75): the release of a block, the captures and their triggers, scrub-and-swap; the island
clock monitors that the block marks drive (17 R429). -/

namespace Sys2Proof.Machine

/-- Ticks of a haulage block and of the delivery bound, 32 µs rounded down (01 R15). -/
def blockTicks5115 : Nat := 5115
def deliveryTicks : Nat := 2618

/-- The epoch whose block k is released next: the first whose release time has not passed. -/
def releaseEpoch (tick k : Nat) : Nat := ceilDiv (tick - ((k + 1) * 5115 + deliveryTicks)) epochTicks * epochTicks

/-- `ESTATE` of an element-band in the present epoch or in the one before, whose last block and strides run after the boundary (03 R64,
R66): 2 while its lane is not `LIVE`. -/
def State.estate (s : State) (before : Bool) (n : Nat) (b : Band) : Nat :=
  if (s.lane n).state != .live then 2 else if before then (s.adit n).stBefore.get b else (s.eb n b).ebstate

/-- The element is carried fully blanked: its lane is not `LIVE`, or it has left the beams (03 R66). -/
def State.carriedOut (s : State) (before : Bool) (n : Nat) (b : Band) : Bool := s.estate before n b == 2

/-- What was in force for a band (03 R62). -/
def State.aditSet (s : State) (b : Band) : AditSet := { bnd := s.clk.bnd, notch := s.smp.notch.get b, notchBefore := s.smp.notchBefore.get b }

/-- Runs the notch chains of an element-band over the inputs that a block draws on (03 R58, R60). -/
def State.notchBlock (before : Bool) (n : Nat) (b : Band) (first : Nat) (s : State) : State :=
  if s.carriedOut before n b then s
  else
    s.mapAdit n (fun a =>
      let blk := if before then a.blkBefore else a.blk
      let term := if before then a.termBefore else a.laneTerm
      let pos (t : Nat) : Int := aditPos blk term t / 65536
      a.notchTo b (s.aditSet b) (pos first - 5).toNat (pos (first + 5114) + 6).toNat)

/-- The samples of one element-band stream of a block, with the components that saturated and whether samples were missing. -/
def State.streamOf (s : State) (before : Bool) (n : Nat) (b : Band) (first : Nat) : List HSample × Nat × Bool :=
  let ticks := (List.range 5115).map (fun i => first + i)
  if s.carriedOut before n b then (ticks.map (fun t => { tick := t, i := 0, q := 0, blank := true }), 0, false)
  else
    let a := s.adit n
    let blk := if before then a.blkBefore else a.blk
    let term := if before then a.termBefore else a.laneTerm
    let r := ticks.map (a.output blk term s.clk.bnd b)
    (r.map (·.1), (r.map (·.2.1)).foldl (· + ·) 0, r.any (·.2.2))

/-- Releases one stream: its header and samples, its saturation count and a late adit's report (03 R63–R65). -/
def releaseStream (before : Bool) (e k : Nat) (acc : State × List BlockHeader × List (Nat × Band × List HSample)) (x : Nat × Band) :
    State × List BlockHeader × List (Nat × Band × List HSample) :=
  let s := acc.1.notchBlock before x.1 x.2 (e + 5115 * k)
  let st := s.streamOf before x.1 x.2 (e + 5115 * k)
  let h : BlockHeader :=
    { epoch := e / epochTicks % 2 ^ 32, blk := k, elem := x.1, band := x.2.code
      estate := s.estate before x.1 x.2
      late := st.2.2, nblank := (st.1.filter (·.blank)).length }
  let s1 := s.mapAdit x.1 (fun a => { a with nsatRun := a.nsatRun.upd x.2 (satAdd 255 · st.2.1) })
  let s2 := if st.2.2 then s1.report 0x1104 1 0xFF x.1 (Config.encodeFields 0x1104 [x.1]) else s1
  (s2, acc.2.1 ++ [h], acc.2.2 ++ [(x.1, x.2, st.1)])

/-- The 288 streams, by element and within an element U, M, L (03 R66, R68). -/
def allStreams : List (Nat × Band) := ((List.range 96).map (fun n => bands.map (fun b => (n, b)))).flatten

/-! ### Captures -/

/-- A haulage component scaled for storage (03 R67). -/
def storeVal (div : Nat) (lim v : Int) : Int := clampI (-lim) lim (roundDiv v div)

/-- A stored sample (03 R67). -/
def storedSample (cwidth : Nat) (x : HSample) : List Byte :=
  if cwidth = 1 then
    if x.blank then b16 0x40
    else b16 (bitsOf 6 (storeVal 4 31 x.i) + 256 * bitsOf 6 (storeVal 4 31 x.q))
  else if x.blank then b8 0x08
  else b8 (bitsOf 4 (storeVal 16 7 x.i) + 16 * bitsOf 4 (storeVal 16 7 x.q))

/-- Writes bytes into the logical lode; a word written anew is good again. -/
def LodeState.write (l : LodeState) (a : Nat) (b : List Byte) : LodeState :=
  { l with mem := swrites 0 l.mem a b, badWords := l.badWords.filter (fun w => decide (w + 8 ≤ a ∨ a + b.length ≤ w)) }

/-- Writes a block of a region's streams at a slot (03 R68). -/
def State.storeBlock (r : Region) (slot : Nat) (s : State) : State :=
  let picked := s.smp.block.filter (fun x => bit r.elems x.1 && bit r.bands x.2.1.code)
  let data := (picked.map (fun x => (x.2.2.map (storedSample r.cwidth)).flatten)).flatten
  { s with smp := { s.smp with lode := s.smp.lode.write (r.base + slot * streamCount r.elems r.bands * blockBytes r.cwidth) data } }

/-- One block of a region (03 R69): whether it is written and where, and the region after it. A ring's first block is the first one released after
its arming, which may have begun before (DESIGN CHOICE, log 48). -/
def Region.block (r : Region) (first : Nat) : Option Nat × Region :=
  let trig := match r.trigAt with | some t => r.left.isNone && decide (t < first + 5115) | none => false
  if r.cstate ≠ .armed ∧ r.cstate ≠ .filling then (none, r)
  else if r.cmode = 0 then
    if trig then
      (some 0, { r with cstate := if r.nblk ≤ 1 then .held else .filling, written := 1, left := some (r.nblk - 1), tblk := 0, gotpre := 0 })
    else
      match r.left with
      | none => (none, r)
      | some n => (some r.written, { r with written := r.written + 1, left := some (n - 1), cstate := if n ≤ 1 then .held else .filling })
  else
    let slot := r.written % r.nblk
    if trig then
      let got := min r.pre r.written
      let after := r.nblk - r.pre - 1
      (some slot, { r with written := r.written + 1, left := some after, tblk := got, gotpre := got,
                           cstate := if after = 0 then .held else .filling })
    else
      match r.left with
      | none => (some slot, { r with written := r.written + 1, cstate := .filling })
      | some n => (some slot, { r with written := r.written + 1, left := some (n - 1), cstate := if n ≤ 1 then .held else .filling })

/-- Changes one region. -/
def State.mapRegion (c : Nat) (f : Region → Region) (s : State) : State :=
  { s with smp := { s.smp with lode := { s.smp.lode with regions := vupdN s.smp.lode.regions c f } } }

/-- The region of a number. -/
def State.region (s : State) (c : Nat) : Region := vgetD s.smp.lode.regions c {}

/-- A region takes the block just released. -/
def captureBlock (first : Nat) (s : State) (c : Nat) : State :=
  let x := (s.region c).block first
  match x.1 with
  | none => s.mapRegion c (fun _ => x.2)
  | some slot => (s.storeBlock (s.region c) slot).mapRegion c (fun _ => { x.2 with newest := first })

/-- A trigger of a region at a tick (03 R70): the first of an `ARMED` or `FILLING` region is taken, later ones are counted. -/
def Region.trigger (r : Region) (tick : Nat) : Bool × Region :=
  if r.cstate = .armed ∨ r.cstate = .filling then
    if r.trigAt.isNone then (true, { r with trigAt := some tick })
    else (false, { r with laterTrigs := r.laterTrigs + 1 })
  else (false, r)

/-- Fires a trigger kind with an argument for every region that waits for it (03 capture descriptor). -/
def State.fire (kind targ tick : Nat) (s : State) : State :=
  { s with smp := { s.smp with lode := { s.smp.lode with
    regions := s.smp.lode.regions.map (fun r => if r.ctrig = kind ∧ r.targ = targ then (r.trigger tick).2 else r) } } }

/-! ### The island clock monitors -/

/-- An island takes the count of a block period (17 R429). -/
def IslandState.count (i : IslandState) (n : Nat) : IslandState := { i with counts := (n :: i.counts).take 16 }

/-- The epoch's measurement (17 R429): the lowest of its counts, in steps of 16 kHz, and the lowest over 1 000 epochs. -/
def IslandState.measure (i : IslandState) : IslandState :=
  match i.counts with
  | [] => i
  | c :: r =>
    let m := 16 * r.foldl min c
    let h := (m :: i.hist).take 1000
    { i with meas := m, hist := h, minMeas := h.foldl min m, counts := [] }

/-- Takes the counts of one block period; with the epoch's last one each monitored island reports (17 R429). -/
def State.clockMeasure (counts : List Nat) (last : Bool) (s : State) : State :=
  let isl := (List.range counts.length).foldl (fun v i => if i < 56 then vupdN v i (IslandState.count · (counts.getD i 0)) else v) s.clk.isl
  { s with clk := { s.clk with isl := if last then isl.map IslandState.measure else isl, marks := if last then 0 else s.clk.marks + 1 } }

/-- Closes the saturation counts with the epoch's last block (03 `NSAT`). -/
def State.closeSat (s : State) : State :=
  { s with smp := { s.smp with adits := s.smp.adits.map (fun a => { a with nsat := a.nsatRun, nsatRun := ⟨0, 0, 0⟩ }) } }

/-- The blanked fraction of an element-band in the epoch that starts at a tick, once its last block has been released and all its frames have
arrived; over-blanking triggers the captures that wait for it (03 R57, R70). -/
def State.closeBlanking (e : Nat) (s : State) (x : Nat × Band) : State :=
  let n := x.1
  let b := x.2
  if (s.lane n).state ≠ .live ∨ !bit (s.lane n).bands b.code then
    s.mapAdit n (fun a => { a with nblankLast := a.nblankLast.upd b (fun _ => 0), overBlank := a.overBlank.upd b (fun _ => false) })
  else
    let a := s.adit n
    let k := a.countBlanked s.clk.bnd b e epochTicks
    let beyond := decide ((a.blkAt s.clk.bnd e).blimit * epochTicks < 100 * k)
    let t := s.mapAdit n (fun a => { a with nblankLast := a.nblankLast.upd b (fun _ => k), overBlank := a.overBlank.upd b (fun _ => beyond) })
    if beyond then t.fire 3 (4 * n + b.code) (e + epochTicks) else t

/-- `HAULAGE_BLOCK_RELEASE` (01 R15, 03 R64–R69, 17 R429): block k of every stream, at its release time. -/
def State.releaseBlock (counts : List Nat) (s0 : State) : State :=
  let k := s0.smp.blockK
  let e := releaseEpoch s0.clk.tick k
  let s := s0.wait (e + (k + 1) * 5115 + deliveryTicks - s0.clk.tick)
  let before := decide (e < s.clk.bnd)
  let r := allStreams.foldl (releaseStream before e k) (s, [], [])
  let s1 := { r.1 with smp := { r.1.smp with headers := r.2.1, block := r.2.2, blockK := (k + 1) % 16 } }
  let s2 := (List.range 8).foldl (captureBlock (e + 5115 * k)) s1
  let s3 := if k = 15 then allStreams.foldl (State.closeBlanking e) s2.closeSat else s2
  s3.clockMeasure counts (k == 15)

def execEvHaulageBlockRelease (counts : List Nat) (s : State) : Host.Outcome State Fault Refusal :=
  .next (if s.fabricUp || (s.pow.pst == .lamp && s.pow.lampBusy) then s.releaseBlock counts else s)

/-- `CAPTURE_TIME_TRIGGER` (03 R69): a region armed with trigger 1 triggers once TCNT has reached `TTIME`; before that nothing is due. A `TTIME`
already past at the arming triggers at the next block released (DESIGN CHOICE, log 48). -/
def execEvCaptureTimeTrigger (region : Fin 8) (s : State) : Host.Outcome State Fault Refusal :=
  let r := s.region region
  let past := (s.tcnt + 2 ^ 48 - r.ttime % 2 ^ 48) % 2 ^ 48
  .next (if r.ctrig = 1 ∧ past < 2 ^ 47 then s.mapRegion region (fun r => (r.trigger (s.clk.tick - past)).2) else s)

/-! ### Scrub-and-swap -/

/-- What a read of a word meets (03 R74): one found uncorrectable stays so until it is written anew. -/
def State.wordRead (s : State) (w : Nat) : Nat := if s.smp.lode.badWords.contains w then 2 else Config.lodeWord s.free w % 3

/-- The row of its bank that a lode word lies in, by the word's address in the bank (22 R523; the spec gives no geometry: log 4). -/
opaque Config.lodeRow : Nat → Nat

/-- A read of a lode word gave a correctable error (22 R523): the row that has given `ROW_TRIG` of them within 24 h is spared. -/
def State.rowError (s : State) (w : Nat) : State :=
  let key := (187 + vgetD s.smp.lode.bankMap (w / 786432) 0, Config.lodeRow (w % 786432))
  let l := (s.hea.rowErrs.filter (fun x => decide (s.upMs < x.2 + 86400000))) ++ [(key, s.upMs)]
  if (l.filter (fun x => x.1 == key)).length < s.hea.canary.rowTrig then { s with hea := { s.hea with rowErrs := l } }
  else ({ s with hea := { s.hea with rowErrs := l.filter (fun x => x.1 != key) } }).spareRow key.1 key.2

/-- Words have been read (03 R74): errors of one bit are corrected, counted and written back, uncorrectable words are marked; whether one of these
was met. -/
def State.readWords (l : List Nat) (s : State) : Bool × State :=
  if l.isEmpty then (false, s) else
  let bad := l.filter (fun w => s.wordRead w == 2)
  let one := l.filter (fun w => s.wordRead w == 1)
  let d := s.smp.lode
  let t := { s with free := s.free + 1, smp := { s.smp with lode := { d with
    corrected := d.corrected + one.length, badWords := d.badWords ++ bad.filter (fun w => !d.badWords.contains w) } } }
  (!bad.isEmpty, one.foldl State.rowError t)

/-- Lode address of a byte of a region in capture order, block 0 the oldest (03 R68). -/
def Region.captureAddr (g : Region) (o : Nat) : Nat :=
  let bs := streamCount g.elems g.bands * blockBytes g.cwidth
  let first := if g.cmode = 1 ∧ g.nblk < g.written then g.written % g.nblk else 0
  g.base + (first + o / bs) % g.nblk * bs + o % bs

/-- The lode byte of a region for a reader, the samples of an uncorrectable word as blanked (03 R74). -/
def State.lodeByte (s : State) (g : Region) (o : Nat) : Byte :=
  let a := g.captureAddr o
  if s.wordRead (a / 8 * 8) = 2 then (if g.cwidth = 0 then 0x08#8 else if o % 2 = 0 then 0x40#8 else 0#8) else sread 0 s.smp.lode.mem a

/-- Free read windows among the first `n` of an epoch; without a plan every window is free (03 R73). -/
def freeBefore (wmap : List Nat) (n : Nat) : Nat := if wmap.isEmpty then n else ((wmap.take n).filter (· == 0xFF)).length

/-- Free read windows that have ended between two ticks; a window lasts 1.25 µs, 800 of them an epoch. -/
def freeWindows (wmap : List Nat) (from_ to_ : Nat) : Nat :=
  let at_ (t : Nat) : Nat := t / epochTicks * freeBefore wmap 800 + freeBefore wmap (t % epochTicks * 800 / epochTicks)
  at_ to_ - at_ from_

/-- The copy of a bank is complete (03 R73): 786 432 bytes in windows of 128 000 bytes, of which it takes one free one in four. -/
def State.copyDone (s : State) : Bool :=
  decide (4 * ceilDiv 786432 128000 ≤ freeWindows ((s.fab.active.map (·.wmap)).getD []) s.smp.lode.swapAt s.clk.tick)

/-- The words of the logical bank that a physical one serves, by byte address. -/
def LodeState.bankWords (l : LodeState) (phys : Nat) : List Nat :=
  match l.bankMap.toList.findIdx? (· == phys) with
  | some b => (List.range 98304).map (fun i => b * 786432 + 8 * i)
  | none => []

/-- `SCRUB_COPY_COMPLETE` (03 R73–R75): once the free windows have carried the copy, which corrects single-bit errors on its way, the bank map is
switched and the released bank is tested. -/
def execEvScrubCopyComplete (s0 : State) : Host.Outcome State Fault Refusal :=
  .next (match s0.smp.lode.swap with
    | some (phys, spare, false) =>
      if !s0.copyDone then s0 else
      let s := (s0.readWords (s0.smp.lode.bankWords phys)).2
      { s with smp := { s.smp with lode := { s.smp.lode with
        bankMap := s.smp.lode.bankMap.map (fun b => if b = phys then spare else b)
        use := vupdN (vupdN s.smp.lode.use phys (fun _ => .testing)) spare (fun _ => .service)
        swap := some (phys, spare, true) } } }
    | _ => s0)

/-- `BANK_TEST_COMPLETE` (03 R75): the released bank is kept as a spare, or retired. -/
def execEvBankTestComplete (pass : Bool) (s : State) : Host.Outcome State Fault Refusal :=
  .next (match s.smp.lode.swap with
    | some (phys, _, true) =>
      let s1 := { s with smp := { s.smp with lode := { s.smp.lode with
        swap := none, use := vupdN s.smp.lode.use phys (fun _ => if pass then .spare else .retired) } } }
      let s2 := (s1.noteTest 6 phys (if pass then 1 else 2)).settle 3 phys 2
      let s3 := if pass then s2 else s2.canary 5 (wearIndex 6 phys)
      s3.endAct (fun a => a.code == 5) (if pass then 1 else 2)
    | _ => s)

end Sys2Proof.Machine
end

