-- ==== Sys2Proof/Machine/Fabric.lean ====
section
/-! DEFINITION. What a stope computes (04 R76–R80, 05 R101–R103, 06 R129–R137, 08 R175–R187): beams, dumps and assay sums of the groups that a
stride covers, the landing of the results, and the row `STRIDE_START`. -/

namespace Sys2Proof.Machine

/-! ### NCOs and replicas -/

/-- A channel. -/
def State.chan (s : State) (n : Nat) : ChanState := vgetD s.trk.ch n {}

/-- Changes one channel. -/
def State.mapChan (n : Nat) (f : ChanState → ChanState) (s : State) : State := { s with trk := { s.trk with ch := vupdN s.trk.ch n f } }

/-- The code position in 2^-48 chip, counted from code period 0 (06 R129). -/
def Nco.code (x : Nco) (t : SigType) : Nat := (x.kper * t.chips + x.kchip) * 2 ^ 48 + x.kph

/-- Chips of one secondary chip (06 R131, R136). -/
def SigType.secChips (t : SigType) : Nat := t.secDumps * t.dumpLen

/-- The NCO state `k` ticks on (06 R129, R130): carrier and code advance by their rates, `SECIDX` by one per secondary chip length. -/
def Nco.ticks (x : Nco) (t : SigType) (k : Nat) : Nco :=
  let car := bitsOf 64 (((x.carcyc * 2 ^ 48 + x.carph : Nat) : Int) + k * sx 48 x.crate)
  let pos := x.code t + k * x.krate
  let chips := pos / 2 ^ 48
  let sec := chips / t.secChips - (x.code t / 2 ^ 48) / t.secChips
  { x with
    carph := car % 2 ^ 48, carcyc := car / 2 ^ 48
    kph := pos % 2 ^ 48, kchip := chips % t.chips, kper := chips / t.chips % 65536
    secidx := if t.secLen = 0 then x.secidx else (x.secidx + sec) % t.secLen }

/-- Which dump of the code's numbering a position lies in, modulo 65 536 code periods (06 R131). -/
def dumpIndex (t : SigType) (pos : Nat) : Nat := pos / 2 ^ 48 / t.dumpLen % (65536 * (t.chips / t.dumpLen))

/-- A dump point lies between two dump numbers: the code has gone forward (06 R131). -/
def passedPoint (t : SigType) (old new : Nat) : Bool :=
  let m := 65536 * (t.chips / t.dumpLen)
  let d := (new + m - old % m) % m
  decide (0 < d ∧ 2 * d < m)

/-- The component of a channel that an arm correlates (06 arm descriptor). -/
def armSig (sigid : Nat) (t : SigType) (a : Arm) : Nat := if a.acomp = 1 then 256 * t.partner.getD t.code + sigSat sigid else sigid

/-- The replica value of an arm (06 R128–R130, R136): the component's chip at the arm's offset, with the secondary chip of a pilot component
while wiped. The code position of a partner component is the channel's, in the length of the partner's own code. -/
def armReplica (errors : Mem) (sigid : Nat) (t : SigType) (x : Nco) (secwipe : Bool) (a : Arm) : Int :=
  let comp := armSig sigid t a
  let ct := (typeOf comp).getD t
  let len : Nat := ct.chips * 2 ^ 48
  let pos := (((x.code t : Nat) : Int) + a.aoff * (2 ^ 40 : Int)) % (len : Int)
  let v := replicaAt errors comp ct (a.amod == 1) pos.toNat
  if secwipe && ct.pilot then v * chipSign (secondaryChip errors comp x.secidx) else v

/-- One product of a sample, the carrier replica e^(−j·2π·phase) and a replica value (06 R130), as the fabric adds it: the rounding of each
component is open (log 6). -/
def mix (y : Int × Int) (phase : Nat) (rep : Int) : Int × Int :=
  let p := cis 48 phase
  (quotI (rep * (y.1 * p.1 + y.2 * p.2)) (2 ^ 60), quotI (rep * (y.2 * p.1 - y.1 * p.2)) (2 ^ 60))

/-! ### Beams -/

/-- One output tick of a beam: value, |S|² before the shift, whether a component saturated, the elements of its weights that were blanked. -/
structure BeamOut where
  y : Int × Int
  sq : Nat
  sat : Bool
  blank : List Nat

/-- A haulage sample at a tick, with what was in force in the sample's own epoch (01 R17, 03 R63). -/
def State.sampleAt (s : State) (n : Nat) (b : Band) (t : Nat) : HSample :=
  let before := decide (t < s.clk.bnd)
  if s.carriedOut before n b then { tick := t, i := 0, q := 0, blank := true }
  else
    let a := s.adit n
    let blk := if before then a.blkBefore else a.blk
    let term := if before then a.termBefore else a.laneTerm
    let k := aditPos blk term t / 65536
    ((a.notchTo b (s.aditSet b) (k - 5).toNat (k + 6).toNat).output blk term s.clk.bnd b t).1

/-- The same from a stope's ring, which holds nothing before `from_` (08 R204). -/
def State.ringAt (s : State) (from_ n : Nat) (b : Band) (t : Nat) : HSample :=
  if t < from_ then { tick := t, i := 0, q := 0, blank := true } else s.sampleAt n b t

/-- A beam component (04 R76): rounded with ties toward +∞ and saturated to ±127. -/
def beamComponent (bshift : Nat) (v : Int) : Int × Bool :=
  let r := roundDiv v (2 ^ bshift)
  (clampI (-127) 127 r, decide (r < -127 ∨ 127 < r))

/-- A beam's output at a tick over the routed elements (04 R76, R79). -/
def State.beamAt (s : State) (from_ : Nat) (b : Band) (els : List Nat) (ws : WeightSet) (bshift t : Nat) : BeamOut :=
  let used := els.filter (fun n => (ws.at_ n).some_)
  let xs := used.map (fun n => (n, ws.at_ n, s.ringAt from_ n b (t - ws.bdly.getD (s.siteOf n) 0)))
  let sum := (xs.map (fun x => (x.2.1.i * x.2.2.i - x.2.1.q * x.2.2.q, x.2.1.i * x.2.2.q + x.2.1.q * x.2.2.i))).foldl cadd (0, 0)
  let i := beamComponent bshift sum.1
  let q := beamComponent bshift sum.2
  { y := (i.1, q.1), sq := normSq sum, sat := i.2 || q.2, blank := (xs.filter (fun x => x.2.2.blank)).map (·.1) }

/-- Counts blanked ticks per element. -/
def addBlank (counts els : List Nat) : List Nat := (List.range 96).map (fun n => counts.getD n 0 + (if els.contains n then 1 else 0))

/-- The share of blanked ticks of a beam's inputs, weighted by |w|, in % (04 R79); its rounding is open (log 6). -/
def blankOf (ws : WeightSet) (counts : List Nat) (ticks : Nat) : Nat :=
  let m (n : Nat) : Nat := isqrt ((ws.at_ n).sq * 2 ^ 40)
  let num : Int := 100 * ((ws.members.map (fun n => m n * counts.getD n 0)).foldl (· + ·) 0 : Nat)
  let den : Int := ticks * ((ws.members.map m).foldl (· + ·) 0 : Nat)
  if den = 0 then 0 else (openRound num (num / den) (num % den == 0)).toNat

/-- The beam's running figures after a stride's outputs (04 R79, R80, beam descriptor). -/
def BeamState.gather (l : List BeamOut) (x : BeamState) : BeamState :=
  l.foldl (fun x o => { x with
    sumRun := x.sumRun + o.sq, pwrRun := x.pwrRun + normSq o.y, nRun := x.nRun + 1
    satRun := x.satRun + bbool o.sat, blankRun := addBlank x.blankRun o.blank }) x

/-- `PWR`: a mean power in 1/256 dB relative to 1 LSB² (04 beam descriptor); free where it does not fit the field (log 4). -/
def powerField (sum n : Nat) : Nat :=
  let v := decibels 256 sum n
  if sum = 0 ∨ v < 0 ∨ 65535 < v then Config.noPower sum n % 65536 else v.toNat

/-- Closes a beam's figures of the epoch worked through: `PWR`, `BLANKF` and `SAT` of the descriptor, and `BSHIFT` of the epoch that follows it, whose
outputs are formed after those of the one closed (04 R80). -/
def BeamState.closeEpoch (ws : WeightSet) (x : BeamState) : BeamState :=
  if x.nRun = 0 then x
  else
    { x with
      sumSq := x.sumRun, nOut := x.nRun, pwr := powerField x.pwrRun x.nRun, blankf := blankOf ws x.blankRun x.nRun
      flags := { x.flags with sat := decide (x.nRun < 100 * x.satRun) }
      bshift := shiftFor x.sumRun x.nRun, sumRun := 0, nRun := 0, satRun := 0, pwrRun := 0, blankRun := [] }

/-! ### Dumps -/

/-- A channel's set of the present epoch (08 R181). -/
def ChanState.setNow (c : ChanState) : ChSet :=
  { on := c.st != .idle && c.st != .handover, sigid := c.sigid, glok := c.glok, beam := c.beam, nco := c.nco, arms := c.arms, secwipe := c.secwipe }

/-- The entry of a dump at its dump point (06 R131–R133, R137). -/
def OpenDump.entry (d : OpenDump) (ch : Nat) (set : ChSet) (ws : WeightSet) (epoch off seq : Nat) (x : Nco) : ChEntry :=
  let half := d.nsamp / 2
  let old := d.prompts.reverse
  { chid := ch, sigid := set.sigid, epoch := epoch, valid := true, sat := decide (d.nsamp < 100 * d.sat), bshift := d.bshift
    narm := set.arms.length, blankf := blankOf ws d.blank d.nsamp, dumpoff := off
    cph := x.kchip * 2 ^ 40 + x.kph / 2 ^ 8, carph := x.carcyc * 2 ^ 48 + x.carph, arm := d.arms
    phalf := [(old.take half).foldl cadd (0, 0), (old.drop half).foldl cadd (0, 0)], pwrin := d.pwr / 256 % 2 ^ 32
    dumpseq := seq, nsamp := d.nsamp }

/-- A dump takes one beam output (06 R130, R133): the side with the larger `BSHIFT` is multiplied by 2^Δ. -/
def OpenDump.take (d : OpenDump) (bshift : Nat) (o : BeamOut) (prods : List (Int × Int)) : OpenDump :=
  let low := if d.nsamp = 0 then bshift else min d.bshift bshift
  let ka := 2 ^ (d.bshift - low)
  let kb := 2 ^ (bshift - low)
  let new := prods.map (cscale kb)
  let arms := if d.nsamp = 0 then new else List.zipWith (fun a b => cadd (cscale ka a) b) d.arms new
  { d with
    arms := arms, prompts := (new.headD (0, 0)) :: d.prompts.map (cscale ka), nsamp := d.nsamp + 1, bshift := low
    pwr := ka * ka * d.pwr + kb * kb * normSq o.y, blank := addBlank d.blank o.blank, sat := d.sat + bbool o.sat }

/-- A channel works one tick: `off` counts from the epoch's first tick `t0` (06 R130–R132). A dump that began before `floor` gives no entry
(09 R222). -/
def ChanState.tick (errors : Mem) (ch : Nat) (set : ChSet) (t : SigType) (ws : WeightSet) (bshift t0 floor : Nat) (c : ChanState) (off : Nat)
    (o : BeamOut) : ChanState :=
  let epoch := t0 / epochTicks % 2 ^ 32
  let x := set.nco.ticks t off
  let i := dumpIndex t (x.code t)
  let prev := c.dump.last.getD (dumpIndex t (x.code t + 65536 * t.chips * 2 ^ 48 - set.nco.krate))
  let c1 :=
    if passedPoint t prev i then
      let d := c.dump
      let full := d.started
      { c with
        pend := if full ∧ floor ≤ d.from_ then c.pend ++ [d.entry ch set ws epoch off ((c.dumpseq + 1) % 2 ^ 32) x] else c.pend
        dumpseq := if full then (c.dumpseq + 1) % 2 ^ 32 else c.dumpseq
        dump := { started := true, last := some i, from_ := t0 + off } }
    else { c with dump := { c.dump with last := some i } }
  if c1.dump.started then
    let prods := set.arms.map (fun a => mix o.y x.carph (armReplica errors set.sigid t x set.secwipe a))
    { c1 with dump := c1.dump.take bshift o prods }
  else c1

/-! ### Assay sums -/

/-- A dithered replica (05 R115): a quarter of a chip early on even ms, late on odd ones. -/
def ditherArm (dither : Bool) (ms : Nat) : Arm := if dither then { aoff := if ms % 2 = 0 then -64 else 64 } else {}

/-- Limits an assay component to 32 bits (05 R102). -/
def satSum (v : Int) : Int := clampI (-(2 ^ 31 - 1)) (2 ^ 31 - 1) v

/-- An assay slot takes one tick of the routed elements (05 R101, R102). -/
def AsyAcc.take (els : List Nat) (dly : Nat → Option Nat) (x : Nat → Nat → HSample) (t : Nat) (phase : Nat) (rep : Int) (a : AsyAcc) : AsyAcc :=
  els.foldl (fun a n =>
    match dly n with
    | none => a
    | some d =>
      let h := x n (t - d)
      if h.blank then a
      else
        let v := cadd (a.sum.getD n (0, 0)) (mix (h.i, h.q) phase rep)
        let w := (satSum v.1, satSum v.2)
        { sum := (List.range 96).map (fun k => if k = n then w else a.sum.getD k (0, 0))
          n := (List.range 96).map (fun k => a.n.getD k 0 + (if k = n then 1 else 0)), sat := a.sat || decide (w ≠ v) }) a

/-! ### A stride -/

/-- The group of ticks of a stride, its epoch and which committed set it uses (08 R175, R181). -/
structure StrideAt where
  ls : Nat
  from_ : Nat
  t0 : Nat
  before : Bool
  band : Band
  els : List Nat
  first : Nat
  count : Nat
  beams : List BeamSlot
  chans : List ChanSlot
  assays : List AssaySlot
  /-- the stope's clock in MHz, the stride's first cycle after T0, and the plan's read windows (08 R184, R195). -/
  clock : Nat
  start : Nat
  wmap : List Nat

/-- Weight set and shift of a beam for a stride. -/
def StrideAt.beamSet (g : StrideAt) (x : BeamState) : WeightSet × Nat := if g.before then (x.wsBefore, x.bshiftBefore) else (x.ws, x.bshift)

/-- What a channel correlates in a stride. -/
def StrideAt.chSet (g : StrideAt) (c : ChanState) : ChSet := if g.before then c.before else c.setNow

/-- The ticks of a stride. -/
def StrideAt.ticks (g : StrideAt) : List Nat := (List.range g.count).map (fun i => g.first + i)

/-- An output in the live-search area: 4 bits a component, as R67 stores them (08 `SNAP`; DEDUCED, log 54). -/
def liveSample (o : BeamOut) : Int × Int := (storeVal 16 7 o.y.1, storeVal 16 7 o.y.2)

/-- `BFORM` of one beam slot, whose output also goes to the live-search area where `BOUTW` is 1 (08 R177). -/
def StrideAt.form (g : StrideAt) (acc : State × List (Nat × List BeamOut)) (x : BeamSlot) : State × List (Nat × List BeamOut) :=
  let s := acc.1
  let w := g.beamSet (s.beam x.bnum)
  let l := g.ticks.map (s.beamAt g.from_ g.band g.els w.1 w.2)
  (s.mapBeam x.bnum (fun y =>
    let z := BeamState.gather l y
    if x.boutw = 1 then { z with liveRun := z.liveRun ++ l.map liveSample } else z), acc.2 ++ [(x.bnum, l)])

/-- The first stride of an epoch ends the dump that a swap or a new signal cuts off (08 R205, 06 R131). -/
def ChanState.dropped (c : ChanState) : ChanState :=
  match c.dropDump with
  | none => c
  | some anew =>
    { c with dump := {}, dropDump := none, dumpseq := if anew then 0 else if c.dump.started then (c.dumpseq + 1) % 2 ^ 32 else c.dumpseq }

/-- `ARM` of one channel slot: a unit without a signal accumulates nothing (08 R178). -/
def StrideAt.arm (g : StrideAt) (outs : List (Nat × List BeamOut)) (s : State) (x : ChanSlot) : State :=
  let floor := match s.fab.stSub with
    | some u => if u.ls = g.ls ∧ g.t0 / epochTicks = u.b1 + 2 then (u.b1 + 1) * epochTicks else 0
    | none => 0
  let c := s.chan x.cnum
  let set := g.chSet c
  match typeOf set.sigid, outs.find? (fun o => o.1 == set.beam) with
  | some t, some o =>
    if set.on then
      let w := g.beamSet (s.beam set.beam)
      let offs := g.ticks.map (fun t => t - g.t0)
      s.mapChan x.cnum (fun c => (offs.zip o.2).foldl (fun c p => c.tick s.trk.library x.cnum set t w.1 w.2 g.t0 floor p.1 p.2) (if g.before then c else c.dropped))
    else s
  | _, _ => s

/-- The delay of an element's site in a weight set; none beyond 1 023 ticks (05 R101, R102). -/
def WeightSet.delay (w : WeightSet) (site : Nat) : Option Nat := if w.far.contains site then none else some (w.bdly.getD site 0)

/-- A band is dithered in a stride's epoch (05 R115). -/
def StrideAt.dithers (g : StrideAt) (a : AssayState) : Bool :=
  if g.before then a.ditherBefore.get g.band else bit a.table.ctFlags g.band.code || a.ditherEnd.get g.band

/-- The assay sums of what a channel correlates take a stride's ticks (05 R101, R102). -/
def StrideAt.sums (g : StrideAt) (s : State) (set : ChSet) (t : SigType) (acc : AsyAcc) : AsyAcc :=
  let w := (g.beamSet (s.beam set.beam)).1
  let arm := ditherArm (g.dithers s.arr.assay) (g.t0 / epochTicks)
  g.ticks.foldl (fun acc tk =>
    let n := set.nco.ticks t (tk - g.t0)
    acc.take g.els (fun e => w.delay (s.siteOf e)) (fun e => s.ringAt g.from_ e g.band) tk n.carph (armReplica s.trk.library set.sigid t n set.secwipe arm)) acc

/-- `ASY` of one assay slot. -/
def StrideAt.asy (g : StrideAt) (s : State) (x : AssaySlot) : State :=
  let a := s.arr.assay
  match vgetD (if g.before then a.slotsBefore else a.slots) x.aslot none with
  | none => s
  | some (_, ch) =>
    let set := g.chSet (s.chan ch)
    match typeOf set.sigid with
    | none => s
    | some t => if set.on then s.mapAssay (fun a => { a with acc := vupdN a.acc x.aslot (g.sums s set t) }) else s

/-- The channels of a stope whose signals a running sweep correlates beyond the assay selection (05 R122). -/
def StrideAt.sweepChans (g : StrideAt) (s : State) : List Nat :=
  let a := s.arr.assay
  if a.sweep.isNone then []
  else (g.chans.map (·.cnum)).filter (fun n =>
    (g.chSet (s.chan n)).on && (s.chan n).st == .track && (s.chan n).prim.isNone &&
    !((if g.before then a.slotsBefore else a.slots).toList.any (fun x => x.any (fun y => y.2 == n))))

/-- A background slice's part of a sweep: the sums of one more signal (05 R122, 08 R182). -/
def StrideAt.sweepSum (g : StrideAt) (s : State) (n : Nat) : State :=
  let set := g.chSet (s.chan n)
  match typeOf set.sigid with
  | none => s
  | some t => s.mapAssay (fun a =>
      let old := ((a.sweepAcc.find? (fun x => x.1 == n)).map (·.2)).getD {}
      { a with sweepAcc := a.sweepAcc.filter (fun x => x.1 != n) ++ [(n, g.sums s set t old)] })

/-- Read windows of a stope whose data it has by a cycle of an epoch, counted from a ms on (08 R195): window w of block period p is there
⌈f·(62.5p + 1.25(w + 1) + 0.5)⌉ cycles after T0. -/
def windowsRead (wmap : List Nat) (ls f since ms cycle : Nat) : Nat :=
  let own (i : Nat) : Bool := wmap.getD i 0xFF == ls
  let now (i : Nat) : Bool := own i && decide (ceilDiv (f * (250 * (i / 50) + 5 * (i % 50 + 1) + 2)) 4 ≤ cycle)
  if ms < since then 0
  else (ms - since) * ((List.range 800).filter own).length + ((List.range 800).filter now).length

/-- Cells that a job may work on now (07 R155, 08 R182): those of the live input that it holds; those of a snapshot once it has been read. -/
def SearchJob.ready (read : Nat) (j : SearchJob) : Nat :=
  (if j.live then min j.total (j.perMs * j.input.length) else if j.need ≤ read then j.total else 0) - j.done

/-- A stope's searches take cells, one after the other in the order of their placing (07 R163). -/
def workJobs (ls : Nat) (read : SearchJob → Nat) : List SearchJob → Nat → List SearchJob
  | [], _ => []
  | j :: r, n =>
    let k := if j.ls = ls then min n (j.ready (read j)) else 0
    { j with done := j.done + k } :: workJobs ls read r (n - k)

/-- A background slice of c cycles (07 R164, 08 R182): the surveys and the sweep take their complex MAC of 256·c first, the searches the rest at
95 a cell. -/
def StrideAt.slice (g : StrideAt) (cyc at_ : Nat) (s : State) : State :=
  let a := s.trk.acq
  let pay := min (256 * cyc) (a.owed.get g.band)
  let read (j : SearchJob) : Nat := windowsRead g.wmap g.ls g.clock j.since (g.t0 / epochTicks) at_
  { s with trk := { s.trk with acq := { a with
    owed := a.owed.upd g.band (fun v => v - pay), jobs := workJobs g.ls read a.jobs ((256 * cyc - pay) / 95) } } }

/-- What a stride's ops have done so far: the state, the beams' outputs, and the cycles taken. -/
structure OpsDone where
  s : State
  outs : List (Nat × List BeamOut) := []
  cyc : Nat := 0

/-- One op of the template over its slots (08 R177); a background slice forms the sweep's sums too. -/
def StrideAt.op (g : StrideAt) (acc : OpsDone) (o : TmplOp) : OpsDone :=
  let r : State × List (Nat × List BeamOut) :=
    match o.opc with
    | 1 => ((g.beams.drop o.first).take o.count).foldl g.form (acc.s, acc.outs)
    | 2 => (((g.chans.drop o.first).take o.count).foldl (g.arm acc.outs) acc.s, acc.outs)
    | 3 => (((g.assays.drop o.first).take o.count).foldl g.asy acc.s, acc.outs)
    | 4 => (g.slice o.cyc (g.start + acc.cyc) ((g.sweepChans acc.s).foldl g.sweepSum acc.s), acc.outs)
    | _ => (acc.s, acc.outs)
  { s := r.1, outs := r.2, cyc := acc.cyc + o.cyc }

/-- The entry that a channel's epoch lands (06 R132, R137; 08 R178). -/
def landingEntry (ch : Nat) (set : ChSet) (empty : Bool) (epoch : Nat) (c : ChanState) : ChEntry :=
  if !set.on then { chid := ch, epoch := epoch }
  else
    match c.pend.getLast? with
    | none => { chid := ch, sigid := set.sigid, epoch := epoch, valid := true, nodump := true, empty := empty, narm := set.arms.length, dumpseq := c.dumpseq }
    | some e => { e with drop := decide (1 < c.pend.length), empty := empty }

/-- A channel's entry lands in a bank. -/
def StrideAt.landChan (g : StrideAt) (bank : Nat) (s : State) (x : ChanSlot) : State :=
  let set := g.chSet (s.chan x.cnum)
  let empty := (g.beamSet (s.beam set.beam)).1.empty
  s.mapChan x.cnum (fun c => { c with
    entry := vupdN c.entry bank (fun _ => landingEntry x.cnum set empty (g.t0 / epochTicks % 2 ^ 32) c)
    landed := some (g.t0 / epochTicks + 1), pend := [] })

/-- The unblanked share of an element's ticks in 1/255 (05 R103, log 6). -/
def nvalOf (n : Nat) : Nat := (quotI (255 * n) epochTicks).toNat

/-- The assay entry of a signal's sums (05 R103). -/
def StrideAt.assayEntry (g : StrideAt) (s : State) (sig ch : Nat) (acc : AsyAcc) : AssayEntry :=
  { sigid := sig, ch := ch, band := g.band.code, valid := (g.chSet (s.chan ch)).on, sat := acc.sat
    dither := if g.dithers s.arr.assay then 1 + g.t0 / epochTicks % 2 else 0, epoch := g.t0 / epochTicks % 2 ^ 32
    sum := acc.sum, nval := acc.n.map nvalOf }

/-- An assay slot's entry lands in a bank (05 R103). -/
def StrideAt.landAssay (g : StrideAt) (bank : Nat) (s : State) (x : AssaySlot) : State :=
  let a := s.arr.assay
  let acc := vgetD a.acc x.aslot {}
  let e : AssayEntry :=
    match vgetD (if g.before then a.slotsBefore else a.slots) x.aslot none with
    | none => { band := g.band.code, epoch := g.t0 / epochTicks % 2 ^ 32 }
    | some (sig, ch) => g.assayEntry s sig ch acc
  s.mapAssay (fun a => { a with
    entries := vupdN a.entries bank (fun v => vupdN v x.aslot (fun _ => e)), acc := vupdN a.acc x.aslot (fun _ => {}) })

/-- The sweep's sums of a stope's channels end with the epoch: they land in a bank, or are lost (05 R122). -/
def StrideAt.landSweep (g : StrideAt) (bank : Nat) (lands : Bool) (s : State) : State :=
  let mine (n : Nat) : Bool := g.chans.any (fun c => c.cnum == n)
  let new := if lands then (s.arr.assay.sweepAcc.filter (fun x => mine x.1)).map (fun x => g.assayEntry s (g.chSet (s.chan x.1)).sigid x.1 x.2) else []
  s.mapAssay (fun a => { a with
    sweepAcc := a.sweepAcc.filter (fun x => !mine x.1)
    sweepEntries := vupdN a.sweepEntries bank (fun l => l.filter (fun e => !mine e.ch) ++ new) })

/-! ### The stope -/

/-- The running figures of a logical stope. -/
def State.runOf (s : State) (ls : Nat) : StopeRun := vgetD s.fab.run ls {}

/-- Changes them. -/
def State.mapRun (ls : Nat) (f : StopeRun → StopeRun) (s : State) : State := { s with fab := { s.fab with run := vupdN s.fab.run ls f } }

/-- The island of a physical stope (17). -/
def State.stopeIsl (s : State) (phys : Nat) : IslandState := vgetD s.clk.isl phys {}

/-- The physical stope whose results count for a logical stope's epoch that starts at a ms (09 R221): the reserve from the epoch that closes at
B4 on. -/
def State.servedBy (s : State) (ls ms : Nat) : Nat :=
  match s.fab.stSub with
  | some u => if u.ls = ls ∧ u.b1 + 2 ≤ ms then u.phys else vgetD s.fab.lsMap ls 0
  | none => vgetD s.fab.lsMap ls 0

/-- The reserve that runs a logical stope's strides in shadow in the epoch that starts at a ms (09 R221). -/
def State.shadowOf (s : State) (ls ms : Nat) : Option Nat :=
  match s.fab.stSub with
  | some u => if u.ls = ls ∧ u.b1 + 1 ≤ ms then some u.phys else none
  | none => none

/-- The plan whose programs work a logical stope's next stride (08 R205, R206): after a swap boundary the old programs finish the old epoch. -/
def State.program (s : State) (ls : Nat) : Option Plan :=
  match s.fab.swap with
  | some w => if w.phase = 2 ∧ 0 < (s.runOf ls).stride ∧ (s.runOf ls).at_ < w.bs then w.old else s.fab.active
  | none => s.fab.active

/-- The plan whose results the deputies process in this epoch (08 R206). -/
def State.closingPlan (s : State) : Option Plan :=
  match s.fab.swap with
  | some w => if w.phase = 2 then w.old else s.fab.active
  | none => s.fab.active

/-- The clock that a stope runs at in MHz: its cap or what its generator follows (17 R426, R427). -/
def IslandState.clock (i : IslandState) : Nat := max 600 (min i.cap i.gen)

/-- The moment of `RDY(i)` in ticks after T0 (08 R184). -/
def readyTick (sg i : Nat) : Nat := ceilDiv (261888 + 1600 * sg * (i + 1)) 100

/-- 1.25 ns units of a number of stope cycles (09 R217). -/
def cyclesIn (f cycles : Nat) : Nat := cycles * 800 / f

/-- A live search takes a beam's epoch of output as its next ms; where an epoch is incomplete its ms would not be consecutive, and it begins anew
(07 R155, R159). -/
def SearchJob.hear (beam t0 : Nat) (out : List (Int × Int)) (j : SearchJob) : SearchJob :=
  if !j.live || j.src != beam || decide (t0 / epochTicks < j.since) || decide (j.x.nnc ≤ j.input.length) then j
  else if out.length ≠ epochTicks then { j with input := [], done := 0 }
  else { j with input := j.input ++ [out], first := if j.input.isEmpty then t0 else j.first }

/-- The epoch's output of a live-search area is complete (07 R155). -/
def State.closeLive (t0 : Nat) (s : State) (x : BeamSlot) : State :=
  if x.boutw ≠ 1 then s
  else
    let out := (s.beam x.bnum).liveRun
    let t := s.mapBeam x.bnum (fun y => { y with live := some (t0, out), liveRun := [] })
    { t with trk := { t.trk with acq := { t.trk.acq with jobs := t.trk.acq.jobs.map (SearchJob.hear x.bnum t0 out) } } }

/-- The results of a stope's epoch land where they are in time (08 R186, 09 R212): `cmp` in units of 1.25 ns after T0. Otherwise its dumps and sums
are lost, and the next epoch's entry takes that epoch's own (06 R132, 05 R101). -/
def State.landEpoch (g : StrideAt) (cmp : Nat) (s : State) : State :=
  let b := g.t0 / epochTicks + 1
  let s1 := g.beams.foldl (fun s x => (s.mapBeam x.bnum (fun y => y.closeEpoch (g.beamSet y).1)).closeLive g.t0 x) s
  let s2 := s1.mapRun g.ls (fun r => { r with cmpm := cmp })
  if cmp ≤ 1040000 ∧ s.fab.d1At ≠ some b ∧ (s.runOf g.ls).abandoned = false then
    ((g.landSweep (b % 2) true (g.assays.foldl (g.landAssay (b % 2)) (g.chans.foldl (g.landChan (b % 2)) s2))).mapRun g.ls (fun r => { r with landed := some b }))
  else
    (g.landSweep (b % 2) false (g.chans.foldl (fun s x => s.mapChan x.cnum (fun c => { c with pend := [] })) s2)).mapAssay (fun a => { a with
      acc := g.assays.foldl (fun v x => vupdN v x.aslot (fun _ => {})) a.acc })

/-- A stope at its clock does not end stride `i` before the next is ready (08 R180), or does not run at all: below 600 MHz its clock stops
(17 R427). -/
def IslandState.overruns (isl : IslandState) (sg i : Nat) (m : StopeModel) : Bool :=
  let f := isl.clock
  decide (ready f sg (i + 1) - ready f sg i < m.cost) || decide (isl.frep < 600) || isl.istate == .stalled || isl.istate == .off

/-- The routes of two plans together bring a stope more than 96 streams, or two bands (08 R204). -/
def routesClash (old new : Plan) (ls : Nat) : Bool :=
  decide (96 < ((List.range 96).filter (fun e => (old.routed ls ++ new.routed ls).contains e)).length) ||
  old.routes.any (fun r => bit r.lsmask ls && new.routes.any (fun q => bit q.lsmask ls && q.rband != r.rband))

/-- The first tick that a stope's ring holds in the epoch of a swap boundary: its start, where the new plan's routes begin there; 0 elsewhere
(08 R204). -/
def State.ringFrom (s : State) (p : Plan) (ls ms : Nat) : Nat :=
  match s.fab.swap with
  | some w => if w.phase = 2 ∧ ms = w.bs ∧ w.old.any (fun o => routesClash o p ls) then w.bs * epochTicks else 0
  | none => 0

/-- A stope's generator follows its replica (17 R426): down at once, up by at most 1 MHz for each whole µs since it last did. -/
def IslandState.follow (frep up : Nat) (i : IslandState) : IslandState :=
  { i with frep := frep, gen := min frep (i.clock + (up - i.genAt) * 100 / 8184), genAt := up }

/-- The replica of a stope passes a frequency in MHz. -/
def State.follow (phys frep : Nat) (s : State) : State :=
  { s with clk := { s.clk with isl := vupdN s.clk.isl phys (IslandState.follow frep s.clk.up) } }

/-- Runs stride `i` of a logical stope under a plan, at its ready time and the f_rep of that time (08 R175–R181). A stride that has not ended at the next ready time is
abandoned, and so are those of a stalled stope, which does not run (17 R427); a reserve in shadow runs it all the same (09 R221). -/
def State.stride (p : Plan) (h : StopeHdr) (ls frep : Nat) (s0 : State) : State :=
  let i := (s0.runOf ls).stride
  let rt := readyTick h.sg i
  let t0 := if i = 0 then ceilDiv (s0.clk.tick - rt) epochTicks * epochTicks else (s0.runOf ls).at_ * epochTicks
  let phys := s0.servedBy ls (t0 / epochTicks)
  let s1 := ((s0.wait (t0 + rt - s0.clk.tick)).follow phys frep).mapRun ls (fun r =>
    if i = 0 then { r with abandoned := false, slkRun := none, at_ := t0 / epochTicks } else r)
  let m := p.modelOf ls
  let isl := s1.stopeIsl phys
  let f := isl.clock
  let late := isl.overruns h.sg i m
  let runs := !late || ((s1.shadowOf ls (t0 / epochTicks)).any (fun n => !(s1.stopeIsl n).overruns h.sg i m))
  let slack : Int := (((ready f h.sg (i + 1) - ready f h.sg i : Nat) : Int) - m.cost) * 800 / (f : Int)
  let band := (Band.ofCode h.bandin).getD .u
  let g : StrideAt :=
    { ls := ls, from_ := s1.ringFrom p ls (t0 / epochTicks), t0 := t0, before := decide (t0 < s1.clk.bnd), band := band, els := p.routed ls, first := t0 + 16 * h.sg * i, count := 16 * h.sg
      beams := p.beamsOf ls, chans := p.chansOf ls, assays := p.assaysOf ls, clock := f, start := ready f h.sg i, wmap := p.wmap }
  let s2 := if runs then ((p.template ls).foldl g.op { s := s1 }).s else s1
  let s3 := s2.mapRun ls (fun r => { r with
    abandoned := r.abandoned || late
    stride := if i + 1 < strides h.sg then i + 1 else 0
    slkRun := some (match r.slkRun with | none => slack | some x => min x slack) })
  if i + 1 < strides h.sg then s3
  else
    let cyc := ready f h.sg i + m.tres + m.nbeat + seamCost f
    (s3.mapRun ls (fun r => { r with slkm := r.slkRun.getD 0, lost := r.abandoned, known := some (t0 / epochTicks + 1) })).landEpoch g (if m.hasSlots then cyclesIn f cyc else 0)

/-- `STRIDE_START` (08 R179): the next stride of a logical stope that the plan at work names; without a plan, nothing runs. -/
def execEvStrideStart (ls : Fin 32) (frep : Nat) (s : State) : Host.Outcome State Fault Refusal :=
  .next (match (if s.fabricUp then s.program ls else none) with
    | none => s
    | some p =>
      match p.stopes[ls.val]? with
      | none => s
      | some h => s.stride p h ls frep)

end Sys2Proof.Machine
end

