-- ==== Sys2Proof/Machine/Integrity.lean ====
section
/-! DEFINITION. Suspicions and grades (10 R249–R257): what is under suspicion, the integrity report, and the grade of the solution. -/

namespace Sys2Proof.Machine

/-- A suspicion covers a satellite-band (10, Integrity). -/
def Suspicion.covers (x : Suspicion) (sys sat : Nat) (b : Band) : Bool :=
  x.sys == sys && (x.sat.isNone || x.sat == some sat) && (x.band.isNone || x.band == some b)

/-- A satellite-band is under suspicion. -/
def State.suspect (s : State) (sys sat : Nat) (b : Band) : Bool := s.sol.susp.any (fun x => x.covers sys sat b)

/-- A signal is under suspicion. -/
def State.suspectSig (s : State) (sigid : Nat) : Bool := s.suspect (sigSys sigid) (sigSat sigid) (sigBand sigid)

/-- Distinct elements, first occurrences. -/
def nub {α : Type} [DecidableEq α] : List α → List α
  | [] => []
  | x :: r => x :: (nub r).filter (fun y => decide (y ≠ x))

/-- Suspect satellites (10 R257). -/
def State.suspectSats (s : State) : List (Nat × Nat) := nub (s.sol.susp.filterMap (fun x => x.sat.map (fun n => (x.sys, n))))

/-- An integrity alarm is active (10 R257). -/
def State.alarm (s : State) : Bool :=
  decide (s.sol.integP.suspMax < s.suspectSats.length) || s.sol.susp.any (fun x => x.sat.isNone)

/-- An entry may be used (10 R238, R251, R253, R261, R262). -/
def State.usable (s : State) (o : Obs) : Bool :=
  o.prValid && !o.excluded && !(s.suspectSig o.sigid) && !(s.sol.integP.sigreq == 1 && o.unchecked) &&
  !(s.sol.integP.osnmaReq == 1 && sigSys o.sigid == 1 && !o.osnma) && bit s.sol.solP.solSys (sigSys o.sigid) &&
  !(s.sol.exclude.contains (sigSys o.sigid, sigSat o.sigid))

/-- Satellites that count as used: some entry of the latest solution still carries `USED` (10 R257). -/
def State.usedSats (s : State) : List (Nat × Nat) :=
  nub ((s.sol.obs.filter (fun o => s.sol.usedCh.contains o.ch && s.usable o)).map (fun o => (sigSys o.sigid, sigSat o.sigid)))

/-- Sites of a band in group 0 (04 R87). -/
def State.groupZero (s : State) (b : Band) : Nat := ((List.range 12).filter (fun i => s.groupOf i b == some 0)).length

/-- Satellites with pseudoranges in two bands among some entries: the ionosphere-free combination serves them (10 R238). -/
def ionoSats (l : List Obs) : List (Nat × Nat) :=
  (nub (l.map (fun o => (sigSys o.sigid, sigSat o.sigid)))).filter (fun k =>
    decide (2 ≤ (nub ((l.filter (fun o => (sigSys o.sigid, sigSat o.sigid) == k)).map (fun o => sigBand o.sigid))).length))

/-- Satellites that count as used through the ionosphere-free combination (10 R257). -/
def State.usedIono (s : State) : List (Nat × Nat) := ionoSats (s.sol.obs.filter (fun o => s.sol.usedCh.contains o.ch && s.usable o))

/-- The grade (10 R257). An alarm that ended exactly 60 s ago no longer counts (log 24). -/
def State.gradeOf (s : State) : Grade :=
  let r := s.sol.rec_
  let n := s.usedSats.length
  if s.alarm then .suspect
  else if !r.valid || decide (n < 2) then .none
  else if (s.sol.smode = 2 ∨ s.sol.smode = 3) ∧ r.terrSig ≤ 1000 * s.sol.integP.sigNom ∧ 4 ≤ n then
    let calm := match s.sol.lastAlarm with | none => true | some t => decide (t + 60000 ≤ s.ms)
    if bands.any (fun b => decide (4 ≤ s.groupZero b)) && decide (6 ≤ s.usedIono.length) && decide (2 ≤ (nub (s.usedSats.map (·.1))).length) && calm &&
       (s.sol.integP.osnmaReq = 0 || s.sol.osnma == 3)
    then .prime else .nominal
  else .degraded

/-- Satellite-bands under suspicion, as `NSUSP` counts them: one for a band, three for a satellite in every band (10 R256). -/
def State.nsusp (s : State) : Nat :=
  (s.sol.susp.map (fun x => match x.sat, x.band with | some _, some _ => 1 | some _, none => 3 | none, _ => 0)).foldl (· + ·) 0

/-- The first type code of a system. -/
def sysBase (sys : Nat) : Nat := [1, 0x10, 0x20, 0x30, 0x40, 0x50, 0x60].getD sys 1

/-- A signal of a satellite, tracked where one is (10 R256 `SIGID`). -/
def State.aSignal (s : State) (sys : Nat) (sat : Option Nat) (b : Option Band) : Nat :=
  match sat with
  | none => 256 * sysBase sys
  | some n =>
    match s.trk.ch.toList.find? (fun c => c.st != .idle && sigSys c.sigid == sys && sigSat c.sigid == n && (b.isNone || b == some (sigBand c.sigid))) with
    | some c => c.sigid
    | none => 256 * sysBase sys + n

/-- Figures of an integrity report that belong to one cause (10 R256). -/
structure SpoofFig where
  sitemap : Nat := 0
  ntest : Nat := 0
  angMax : Nat := 0
  dcn0 : Int := 0
  step : Int := 0

/-- Raises `FLT_SPOOF_SUSPECT` (0x1701; 10 R256). -/
def State.spoof (x : Suspicion) (f : SpoofFig) (s : State) : State :=
  s.report 0x1701 3 0xFF ((x.sys * 512 + x.sat.getD 256) * 4 + ((x.band.map Band.code).getD 3))
    (b8 x.cause ++ b8 ((x.band.map Band.code).getD 0xFF) ++ b16 (s.aSignal x.sys x.sat x.band) ++ b32 ((x.last + 2 ^ 32 - 1) % 2 ^ 32) ++
     b16 f.sitemap ++ b8 f.ntest ++ bz 1 ++ b16 f.angMax ++ bi16 f.dcn0 ++ bi32 f.step ++ b8 s.sol.osnma ++ bz 3 ++ b16 s.nsusp ++
     b8 s.gradeOf.code ++ bz 5)

/-- A held observation of a suspected signal is discarded (05 R105). -/
def State.dropHeld (x : Suspicion) (s : State) : State :=
  s.mapAssay (fun a => { a with held := a.held.filter (fun h => !x.covers (sigSys h.sigid) (sigSat h.sigid) h.band) })

/-- Two suspicions have one subject and cause. -/
def Suspicion.same (x y : Suspicion) : Bool := x.cause == y.cause && x.sys == y.sys && x.sat == y.sat && x.band == y.band

/-- Places a subject under suspicion, or prolongs the suspicion it is under (10 R249–R256); the condition held last at `x.last`. -/
def State.addSuspicion (x : Suspicion) (f : SpoofFig) (s : State) : State :=
  if s.sol.susp.any (fun y => y.same x) then
    { s with sol := { s.sol with susp := s.sol.susp.map (fun y => if y.same x then { y with last := x.last } else y) } }
  else
    (({ s with sol := { s.sol with susp := s.sol.susp ++ [x] } }).dropHeld x).spoof x f

/-- A suspicion ends (10 R250, R253–R255); the ms of its end is kept for R105. -/
def State.endSuspicion (x : Suspicion) (s : State) : State :=
  { s with sol := { s.sol with
    susp := s.sol.susp.filter (fun y => !y.same x)
    ended := (x, s.ms) :: s.sol.ended.filter (fun e => decide (s.ms < e.2 + 60000)) } }

/-- When a suspicion is over: a signature's at the boundary 60 s after the one that closed the last failing epoch, the others 60 s after their
condition last held; the Galileo system's with its status back at `OK`. -/
def State.suspicionOver (s : State) (x : Suspicion) : Bool :=
  if x.cause = 2 ∧ x.sat = none then s.sol.osnma == 3 else decide (x.last + 60000 ≤ s.ms)

/-- `SUSPICION_EXPIRY` (10 R254): the suspicion at a place of the list ends when it is over. -/
def execEvSuspicionExpiry (index : Nat) (s : State) : Host.Outcome State Fault Refusal :=
  .next (match s.sol.susp[index]? with
    | some x => if s.suspicionOver x then s.endSuspicion x else s
    | none => s)

/-- Sites in a mask. -/
def sitesIn (m : Nat) : Nat := ((List.range 12).filter (bit m)).length

/-- A satellite-band failed an epoch's signature test (10 R250). -/
def sigFailed (nfail : Nat) (f : SigFind) : Bool :=
  let n := sitesIn f.failed
  let t := sitesIn f.tested
  decide (nfail ≤ n) || (decide (0 < t) && decide (n = t) && decide (t < nfail))

/-- The histories take the epoch's results (10 R250, R251): ten epochs each; an untested epoch counts no failure. -/
def State.signatureEpoch (s : State) : State :=
  let old := s.sol.sig
  let fresh := s.sol.sigNow.filter (fun f => !(old.any (fun h => h.sys == f.sys && h.sat == f.sat && h.band == f.band)))
  let upd (h : SigHist) : SigHist :=
    match s.sol.sigNow.find? (fun (f : SigFind) => h.sys == f.sys && h.sat == f.sat && h.band == f.band) with
    | none => { h with fails := (false :: h.fails).take 10, lastResult := 2 }
    | some f =>
      let bad := sigFailed s.sol.integP.sigNfail f
      { h with fails := (bad :: h.fails).take 10, lastResult := if f.tested = 0 then 2 else if bad then 1 else 0 }
  { s with sol := { s.sol with
    sig := (old ++ fresh.map (fun f => ({ sys := f.sys, sat := f.sat, band := f.band, fails := [], lastResult := 2 } : SigHist))).map upd } }

/-- Suspicions that begin or go on at a boundary from the signature test (10 R250). -/
def State.signatureSuspicions (s : State) : State :=
  s.sol.sigNow.foldl (fun t f =>
    match t.sol.sig.find? (fun h => h.sys == f.sys && h.sat == f.sat && h.band == f.band) with
    | none => t
    | some h =>
      let x : Suspicion := { cause := 1, sys := f.sys, sat := some f.sat, band := some f.band, last := t.ms - 1,
                               first := t.ms - 2 - (((List.range 10).filter (fun i => h.fails.getD i false)).getLastD 0) }
      if h.fails.headD false && (decide (3 ≤ (h.fails.filter (·)).length) || t.sol.susp.any (fun y => y.same x)) then
        t.addSuspicion x { sitemap := f.failed, ntest := sitesIn f.tested, angMax := f.angMax }
      else t) s

/-- Power conditions of the epoch (10 R255): over 100 epochs they bring suspicion. -/
def State.powerSuspicions (s : State) : State :=
  let now := s.sol.pwrNow
  let runs := now.map (fun p =>
    (p.1, p.2.1, p.2.2.1, 1 + (((s.sol.pwr.find? (fun q => q.1 == p.1 && q.2.1 == p.2.1 && q.2.2.1 == p.2.2.1)).map (·.2.2.2)).getD 0)))
  let t := { s with sol := { s.sol with pwr := runs } }
  now.foldl (fun t p =>
    let run : Nat := ((runs.find? (fun q => q.1 == p.1 && q.2.1 == p.2.1 && q.2.2.1 == p.2.2.1)).map (·.2.2.2)).getD 0
    if 100 ≤ run then t.addSuspicion { cause := 4, sys := p.1, sat := some p.2.1, band := some p.2.2.1, last := t.ms - 1, first := t.ms - 101 } { dcn0 := p.2.2.2 } else t) t

/-- The integrity work of a boundary (10 R250, R255). -/
def State.integrityBoundary (s : State) : State :=
  let t := (s.signatureEpoch.signatureSuspicions).powerSuspicions
  let u := { t with sol := { t.sol with sigNow := [], pwrNow := [] } }
  if u.alarm then
    { u with sol := { u.sol with lastAlarm := some u.ms, alarmSince := some (u.sol.alarmSince.getD ((u.sol.susp.map (·.first)).foldl min u.ms)) } }
  else { u with sol := { u.sol with alarmSince := none } }

end Sys2Proof.Machine
end

