-- ==== Sys2Proof/Machine/IoRegs.lean ====
section
/-! DEFINITION. The I/O registers of the cores by address (15 R369, R393, R396; 16 R404, R416, R417, R421; 06 R138, R139; 18 R451; 19):
one read and one write, by the access codes of 01 R6. -/

namespace Sys2Proof.Machine

/-- The low 24 bits of a number. -/
def w24 (v : Nat) : Word24 := BitVec.ofNat 24 v

/-- Bits [31:24] of a 32-bit field as its second register: sign-extended for a signed field (06 R138). -/
def hi32s (v : Int) : Word24 := BitVec.ofInt 24 (v / 2 ^ 24)

/-- Replaces [23:0] (part 0) or [47:24] (part 1) of a 48-bit register pair. -/
def put48 (part old : Nat) (v : Word24) : Nat :=
  if part = 0 then old / 2 ^ 24 * 2 ^ 24 + v.toNat else v.toNat * 2 ^ 24 + old % 2 ^ 24

/-- Register `part` of a 48-bit pair or a 64-bit triple. -/
def part24 (part v : Nat) : Word24 := w24 (v / 2 ^ (24 * part))

/-- The channel that a physical deputy's local slot holds in the active plan (06 R138, R150). -/
def State.chanAt (s : State) (k slot : Nat) : Option Nat :=
  (List.range 384).find? (fun i =>
    let c := vgetD s.trk.ch i {}
    c.bound && c.slot == slot && vgetD s.fab.ldMap c.dep 99 == k)

/-- The result bank that the deputies read: that of the epoch just closed from its D1 on, the one before it until then (01 R14). -/
def State.readBank (s : State) : Nat :=
  if s.clk.tick % epochTicks < d1Ticks then (s.ms + 1) % 2 else s.ms % 2

/-- `RFLAGS` of an entry (06 R137). -/
def ChEntry.rflags (e : ChEntry) : Nat :=
  bbool e.valid + 2 * bbool e.void + 4 * bbool e.nodump + 8 * bbool e.drop + 16 * bbool e.sat + 32 * bbool e.empty

/-- Register `i` of four that show an I and Q pair of 32 bits each (06 R138). -/
def iqReg (p : Int × Int) (i : Nat) : Word24 :=
  match i with
  | 0 => w24 (bitsOf 24 p.1) | 1 => hi32s p.1 | 2 => w24 (bitsOf 24 p.2) | _ => hi32s p.2

/-- The result view of a channel entry by offset (06 R138). -/
def ChEntry.view (e : ChEntry) (off : Nat) : Word24 :=
  match off with
  | 0 => w24 e.chid | 1 => w24 e.sigid | 2 => w24 e.epoch
  | 3 => w24 (e.rflags + 256 * e.bshift + 65536 * e.narm)
  | 4 => w24 e.blankf | 5 => w24 e.dumpoff
  | 6 => part24 0 e.cph | 7 => part24 1 e.cph | 8 => part24 2 e.cph
  | 9 => part24 0 e.carph | 10 => part24 1 e.carph | 11 => part24 2 e.carph
  | 12 => part24 0 e.dumpseq | 13 => part24 1 e.dumpseq
  | 14 => w24 e.nsamp | 15 => part24 0 e.pwrin | 16 => part24 1 e.pwrin
  | _ =>
    if 0x20 ≤ off ∧ off < 0x40 then iqReg (e.arm.getD ((off - 0x20) / 4) (0, 0)) ((off - 0x20) % 4)
    else if 0x40 ≤ off ∧ off < 0x48 then iqReg (e.phalf.getD ((off - 0x40) / 4) (0, 0)) ((off - 0x40) % 4)
    else 0

/-- The update registers by offset (06 R138). -/
def ChanState.updView (c : ChanState) (off : Nat) : Word24 :=
  match off with
  | 0x80 => part24 0 c.upd.uCrate | 0x81 => part24 1 c.upd.uCrate
  | 0x82 => part24 0 c.upd.uKrate | 0x83 => part24 1 c.upd.uKrate
  | 0x84 => part24 0 c.upd.uCstep | 0x85 => part24 1 c.upd.uCstep
  | 0x86 => part24 0 c.upd.uKstep | 0x87 => part24 1 c.upd.uKstep
  | 0x8F => w24 c.upd.uSec
  | 0x90 => w24 c.upd.uCtrl
  | 0x91 => w24 (bbool c.upd.pending + 2 * bbool c.upd.late + 4 * bbool c.prim.isSome + 8 * bbool c.kernel.isSome)
  | _ => if 0x88 ≤ off ∧ off < 0x8F then w24 (vgetD c.upd.uAoff (off - 0x88) 0) else 0

/-- The update that `COMMIT` takes (06 R139). -/
def UpdRegs.take (u : UpdRegs) (ctrl : Nat) : ChUpdate :=
  { crate := u.uCrate, krate := u.uKrate
    cstep := if bit ctrl 1 then some u.uCstep else none
    kstep := if bit ctrl 2 then some u.uKstep else none
    aoff := if bit ctrl 3 then some u.uAoff.toList else none
    sec := if bit ctrl 4 then some u.uSec else none }

/-- Writes `U_CTRL` of a channel (06 R139): with `COMMIT`, an update is staged by D2 and discarded after it. -/
def State.writeCtrl (ch : Nat) (v : Word24) (s : State) : State :=
  let off := s.clk.tick % epochTicks
  let ctrl := v.toNat % 32
  let upd (f : ChanState → ChanState) : State := { s with trk := { s.trk with ch := vupdN s.trk.ch ch f } }
  if bit ctrl 0 then
    if off ≤ d2Ticks then
      upd (fun c => { c with staged := some (c.upd.take ctrl), upd := { c.upd with uCtrl := 0, pending := true, late := false } })
    else
      let t := upd (fun c => { c with voided := true, upd := { c.upd with uCtrl := 0, late := true } })
      { t with fab := { t.fab with lateCommits := t.fab.lateCommits ++ [(ch, (off - d2Ticks) * 1000000 / epochTicks)] } }
  else upd (fun c => { c with upd := { c.upd with uCtrl := ctrl } })

/-- Writes an update register of a channel (06 R138). -/
def State.writeUpd (ch off : Nat) (v : Word24) (s : State) : State :=
  if off = 0x90 then s.writeCtrl ch v
  else
    let f (u : UpdRegs) : UpdRegs :=
      match off with
      | 0x80 => { u with uCrate := put48 0 u.uCrate v } | 0x81 => { u with uCrate := put48 1 u.uCrate v }
      | 0x82 => { u with uKrate := put48 0 u.uKrate v } | 0x83 => { u with uKrate := put48 1 u.uKrate v }
      | 0x84 => { u with uCstep := put48 0 u.uCstep v } | 0x85 => { u with uCstep := put48 1 u.uCstep v }
      | 0x86 => { u with uKstep := put48 0 u.uKstep v } | 0x87 => { u with uKstep := put48 1 u.uKstep v }
      | 0x8F => { u with uSec := v.toNat % 2 ^ 14 }
      | _ => if 0x88 ≤ off ∧ off < 0x8F then { u with uAoff := vupdN u.uAoff (off - 0x88) (fun _ => v.toNat % 2 ^ 16) } else u
    { s with trk := { s.trk with ch := vupdN s.trk.ch ch (fun c => { c with upd := f c.upd }) } }

/-- A read of `BEVn_TS_LO` pops the oldest entry and latches its high part (19 R475); of an empty FIFO it returns an open value. -/
def State.bevPop (n : Fin 2) (s : State) : Word24 × State :=
  match s.bak.bev[n].fifo with
  | [] => s.takeWord
  | e :: r =>
    (w24 e.ts, { s with bak := { s.bak with
      bev := vupd s.bak.bev n (fun b => { b with fifo := r, tsHi := e.ts / 2 ^ 24 % 2 ^ 24 })
      lastRise := e.rising, lastHst := e.hstamp } })

/-- `BK_STAT` (19). -/
def BackupState.stat (b : BackupState) : Nat :=
  bbool b.halted + 2 * bbool b.tickErr + 4 * bbool b.onVbat + 8 * bbool b.pwFlag + 16 * bbool b.bev[0].level + 32 * bbool b.bev[1].level

/-- A read of a backup domain register (19, register table). -/
def State.backupRead (a : Nat) (s : State) : Word24 × State :=
  let b := s.bak
  match a with
  | 0x80 => (w24 b.count, { s with bak := { b with cntHi := b.count / 2 ^ 24, fracL := b.frac } })
  | 0x81 => (w24 b.cntHi, s)
  | 0x82 => (w24 b.fracL, s)
  | 0x83 => (w24 (bbool b.tickHalt + 2 * bbool b.trimEn + 4 * bbool b.tvalid), s)
  | 0x84 => (w24 b.stat, s)
  | 0x85 => (part24 0 b.bkNew, s)
  | 0x86 => (part24 1 b.bkNew, s)
  | 0x87 => (w24 (b.hcnt % 2 ^ 16), s)
  | 0x88 => (part24 0 (bitsOf 48 b.local_), s)
  | 0x89 => (part24 1 (bitsOf 48 b.local_), s)
  | 0x8B => (w24 (bitsOf 24 b.trim), s)
  | 0x8C => (w24 (bitsOf 24 b.padj), s)
  | 0x8D => (w24 (bitsOf 12 b.temp), s)
  | 0x8E => (w24 (bbool b.pwEn + 2 * b.pwE), s)
  | 0x8F => (w24 b.bevCfg, s)
  | 0x90 => (w24 (b.bev[0].fifo.length + 8 * b.bev[1].fifo.length + 64 * bbool b.lastRise + 128 * bbool b.lastHst), s)
  | 0x91 => s.bevPop 0
  | 0x92 => (w24 b.bev[0].tsHi, s)
  | 0x93 => s.bevPop 1
  | 0x94 => (w24 b.bev[1].tsHi, s)
  | 0x95 => (w24 (b.bev[0].merge + 4096 * b.bev[1].merge), { s with bak := { b with bev := b.bev.map (fun x => { x with merge := 0 }) } })
  | 0x96 => (w24 b.chg, s)
  | 0x97 => (w24 b.vbat, s)
  | 0x98 => (w24 b.capt, { s with bak := { b with captHi := b.capt / 2 ^ 24 % 2 ^ 24 } })
  | 0x99 => (w24 b.captHi, s)
  | 0x9A => (w24 b.wkLost, s)
  | 0x9B => (w24 b.lastWake, s)
  | 0x9C => (w24 b.wkpAddr, s)
  | _ => (0, s)

/-- The ticks of one hour of the local offset (19 R470). -/
def hourTicks : Int := 117964800

/-- Writes `TICK_HALT` (19 R468): 1 freezes the count at the next tick edge, where `BK_HCNT` begins from 0; 0 releases it at the next. -/
def BackupState.setHalt (v : Bool) (b : BackupState) : BackupState :=
  if v then (if b.tickHalt then b else { b with tickHalt := true, hcnt := if b.halted then b.hcnt else 0 })
  else { b with tickHalt := false }

/-- A write of a backup domain register (19, register table, R468, R470, R471, R474, R475). -/
def BackupState.write (a : Nat) (v : Word24) (b : BackupState) : BackupState :=
  match a with
  | 0x83 => ({ b with trimEn := v.getLsbD 1, tvalid := v.getLsbD 2 }).setHalt (v.getLsbD 0)
  | 0x84 => { b with tickErr := b.tickErr && !v.getLsbD 1, pwFlag := b.pwFlag && !v.getLsbD 3 }
  | 0x85 => { b with bkNew := put48 0 b.bkNew v }
  | 0x86 => { b with bkNew := put48 1 b.bkNew v }
  | 0x88 => { b with local_ := sx 48 (put48 0 (bitsOf 48 b.local_) v) }
  | 0x89 => { b with local_ := sx 48 (put48 1 (bitsOf 48 b.local_) v) }
  | 0x8A =>
    match v.toNat % 4 with
    | 1 => { b with local_ := sx 48 (bitsOf 48 (b.local_ + hourTicks)) }
    | 2 => { b with local_ := sx 48 (bitsOf 48 (b.local_ - hourTicks)) }
    | _ => b
  | 0x8C => { b with padj := v.toInt }
  | 0x8E => { b with pwEn := v.getLsbD 0, pwE := v.toNat / 2 % 32, pwLast := b.count / 2 ^ (v.toNat / 2 % 32 + 7) }
  | 0x8F => { b with bevCfg := v.toNat % 16 }
  | 0x96 => { b with chg := v.toNat % 32 }
  | _ => b

/-- The logical deputy field of `FEAT2` and the role (15 R396). -/
def State.feat2 (s : State) (k : Fin 19) : Word24 :=
  if k = overman then w24 (0x1F * 128) else w24 (1 + 4 * k.val + 128 * s.logicalOf k.val)

/-- A read of an I/O register by a core: the value, the core and the state after its side effects. An address without a register reads
0 (15 R369). -/
def State.ioRead (k : Fin 19) (c : CoreState) (a : Nat) (s : State) : Word24 × CoreState × State :=
  let own := decide (k = overman)
  match a with
  | 0x00 => (0x0000FF#24, c, s)
  | 0x01 => (if own then 0x200400#24 else 0x030040#24, c, s)
  | 0x02 => (s.feat2 k, c, s)
  | 0x03 => (0x0001B0#24, c, s)
  | 0x10 => (w24 s.tcnt, { c with tcntHi := w24 (s.tcnt / 2 ^ 24) }, s)
  | 0x11 => (c.tcntHi, c, s)
  | 0x12 => (w24 s.clk.bnd, { c with bndHi := w24 (s.clk.bnd / 2 ^ 24) }, s)
  | 0x13 => (c.bndHi, c, s)
  | 0x20 => (c.intPend.setWidth 24, c, s)
  | 0x21 => (c.intEn.setWidth 24, c, s)
  | 0x24 => (c.excCause.setWidth 24, c, s)
  | 0x25 => (c.excAddr, c, s)
  | 0x26 => (c.excInfo, c, s)
  | 0x27 => (c.dsr, c, s)
  | 0x3A => (if own then 0 else c.kcycLim.setWidth 24, c, s)
  | 0x40 => (if own then w24 s.pow.brstUnit else 0, c, s)
  | 0x42 => (if own then w24 s.pow.brstStat else 0, c, s)
  | _ =>
    if 0x30 ≤ a ∧ a ≤ 0x39 then (if own then 0 else vgetD c.uw (a - 0x30) 0, c, s)
    else if 0x80 ≤ a ∧ a ≤ 0x9C then
      if own then let r := s.backupRead a; (r.1, c, r.2) else (0, c, s)
    else if 0x100 ≤ a ∧ a ≤ 0x1FF then (sread 0 c.mailbox a, c, s)
    else if 0x4000 ≤ a ∧ a ≤ 0x5FFF ∧ !own then
      match s.chanAt k.val ((a - 0x4000) / 256) with
      | none => (0, c, s)
      | some ch =>
        let x := vgetD s.trk.ch ch {}
        let off := a % 256
        (if off < 0x80 then (vgetD x.entry s.readBank {}).view off else x.updView off, c, s)
    else (0, c, s)

/-- A write of an I/O register by a core (01 R6, R8): `RO` fields, reserved bits and addresses without a register change nothing. -/
def State.ioWrite (k : Fin 19) (c : CoreState) (a : Nat) (v : Word24) (s : State) : CoreState × State :=
  let own := decide (k = overman)
  match a with
  | 0x20 => ({ c with intPend := c.intPend &&& ~~~ (v.setWidth 16) }, s)
  | 0x21 => ({ c with intEn := v.setWidth 16 }, s)
  | 0x24 => ({ c with excCause := v.setWidth 7 }, s)
  | 0x27 => ({ c with dsr := v }, s)
  | 0x3A => (if own then c else { c with kcycLim := v.setWidth 16 }, s)
  | 0x40 => (c, if own then { s with pow := { s.pow with brstUnit := v.toNat % 4096 } } else s)
  | 0x41 => (c, if own && v.getLsbD 0 then s.blockGo else s)
  | _ =>
    if 0x30 ≤ a ∧ a ≤ 0x39 then (if own then c else { c with uw := vupdN c.uw (a - 0x30) (fun _ => v) }, s)
    else if 0x80 ≤ a ∧ a ≤ 0x9C then (c, if own then { s with bak := s.bak.write a v } else s)
    else if 0x100 ≤ a ∧ a ≤ 0x1FF then ({ c with mailbox := swrite 0 c.mailbox a v }, if own then s else s.signal 18 2)
    else if 0x4000 ≤ a ∧ a ≤ 0x5FFF ∧ !own then
      match s.chanAt k.val ((a - 0x4000) / 256) with
      | none => (c, s)
      | some ch => (c, s.writeUpd ch (a % 256) v)
    else (c, s)

/-- The island that holds a register, and the cycles of an `IN` from it (15 R397; 17). -/
def ioHome (k : Fin 19) (a : Nat) : Nat × Nat :=
  let own := 36 + k.val
  if a = 0x10 ∨ a = 0x11 then (56, 24)
  else if 0x80 ≤ a ∧ a ≤ 0x9C ∧ k = overman then (59, 48833)
  else if 0x100 ≤ a ∧ a ≤ 0x1FF ∧ k ≠ overman then (54, 6)
  else if 0x4000 ≤ a ∧ a ≤ 0x5FFF ∧ k ≠ overman then (55, 6)
  else (own, 2)

/-- The seam between two islands is broken, either way (17 R437). -/
def State.seamBroken (s : State) (i j : Nat) : Bool :=
  s.clk.brokenSeams.any (fun b => (b.src == i && b.dst == j) || (b.src == j && b.dst == i))

/-- Counts a transfer dropped on a broken seam (17 R437). -/
def State.seamDrop (src dst : Nat) (s : State) : State :=
  let l := s.clk.brokenSeams.map (fun b => if b.src == src && b.dst == dst then { b with dropped := b.dropped + 1 } else b)
  { s with clk := { s.clk with brokenSeams := l } }

/-- An `IN`'s access: over a broken seam it returns 0 and sets `DOV` (17 R437). -/
def State.ioIn (k : Fin 19) (c : CoreState) (a : Nat) (s : State) : Word24 × CoreState × State :=
  let h := ioHome k a
  if h.1 ≠ 36 + k.val ∧ s.seamBroken (36 + k.val) h.1 then
    (0, { c with st := wsticky c.st stDOV true, ioData := 0 }, s.seamDrop (36 + k.val) h.1)
  else
    let r := s.ioRead k c a
    (r.1, { r.2.1 with ioData := r.1 }, r.2.2)

/-- An `OUT`'s access: a broken seam drops it (17 R437). -/
def State.ioOut (k : Fin 19) (c : CoreState) (a : Nat) (v : Word24) (s : State) : CoreState × State :=
  let h := ioHome k a
  if h.1 ≠ 36 + k.val ∧ s.seamBroken (36 + k.val) h.1 then (c, s.seamDrop (36 + k.val) h.1)
  else s.ioWrite k c a v

/-- A register read as a command: the value stands in `ioData` of the core. -/
def State.regIn (k : Fin 19) (a : Nat) (s : State) : State :=
  let r := s.ioRead k s.cor.core[k] a
  r.2.2.setCore k { r.2.1 with ioData := r.1 }

/-- A register write as a command. -/
def State.regOut (k : Fin 19) (a : Nat) (v : Word24) (s : State) : State :=
  let r := s.ioWrite k s.cor.core[k] a v
  r.2.setCore k r.1

/-- `TCNT_LO` read (15 R393). -/
def execRegTcntLo (k : Fin 19) (s : State) : Host.Outcome State Fault Refusal := .next (s.regIn k 0x10)

/-- `BND_LO` read (16 R417). -/
def execRegBndLo (k : Fin 19) (s : State) : Host.Outcome State Fault Refusal := .next (s.regIn k 0x12)

/-- `INT_PEND` write: 1 clears a pending line (16 R405). -/
def execRegIntPend (k : Fin 19) (v : Word24) (s : State) : Host.Outcome State Fault Refusal := .next (s.regOut k 0x20 v)

/-- `U_CTRL` write of a deputy's local slot (06 R139). -/
def execRegCommit (k : Fin 18) (slot : Fin 32) (v : Word24) (s : State) : Host.Outcome State Fault Refusal :=
  .next (s.regOut ⟨k.val, by omega⟩ (0x4090 + 0x100 * slot.val) v)

/-- `BK_CNT_LO` read (19 R466). -/
def execRegBkCntLo (s : State) : Host.Outcome State Fault Refusal := .next (s.regIn overman 0x80)

/-- `TICK_HALT` written 1 (19 R468). -/
def execRegTickHalt (s : State) : Host.Outcome State Fault Refusal := .next { s with bak := s.bak.setHalt true }

/-- `TICK_HALT` written 0 (19 R468). -/
def execRegTickRelease (s : State) : Host.Outcome State Fault Refusal := .next { s with bak := s.bak.setHalt false }

/-- `BK_DST` write (19 R470). -/
def execRegBkDst (v : Word24) (s : State) : Host.Outcome State Fault Refusal := .next (s.regOut overman 0x8A v)

/-- `BK_PADJ` write (19 R471). -/
def execRegBkPadj (v : Word24) (s : State) : Host.Outcome State Fault Refusal := .next (s.regOut overman 0x8C v)

/-- `BK_STAT` write (19 R464, R474). -/
def execRegBkStat (v : Word24) (s : State) : Host.Outcome State Fault Refusal := .next (s.regOut overman 0x84 v)

/-- `BEVn_TS_LO` read (19 R475). -/
def execRegBevTsLo (n : Fin 2) (s : State) : Host.Outcome State Fault Refusal := .next (s.regIn overman (0x91 + 2 * n.val))

/-- `BEV_MERGE` read (19 R475). -/
def execRegBevMerge (s : State) : Host.Outcome State Fault Refusal := .next (s.regIn overman 0x95)

/-- `BK_CAPT_LO` read (19 R466). -/
def execRegBkCaptLo (s : State) : Host.Outcome State Fault Refusal := .next (s.regIn overman 0x98)

/-- A write of any I/O register (01 R6). -/
def execRegRegisterWrite (k : Fin 19) (a : BitVec 16) (v : Word24) (s : State) : Host.Outcome State Fault Refusal :=
  .next (s.regOut k a.toNat v)

end Sys2Proof.Machine
end

