-- ==== Sys2Proof/Machine/Loops.lean ====
section
/-! DEFINITION. The discriminator record (06 R140–R142), the standard loop filters (06 R141) and the channel states that follow a dump. -/

namespace Sys2Proof.Machine

/-! ### What a dump gives -/

/-- A sum of an entry in units of one LSB before the beam output shift (06 R133). -/
def ChEntry.wide (e : ChEntry) (v : Int × Int) : Int × Int := cscale (2 ^ e.bshift) v

/-- The sum of an arm. -/
def ChEntry.armSum (e : ChEntry) (i : Nat) : Int × Int := e.wide (e.arm.getD i (0, 0))

/-- The last of the arms before the prompt and the first after it, on the tracked component: early and late. -/
def earlyArm (l : List Arm) : Option Nat :=
  (sortBy (fun i => (l.getD i {}).aoff.natAbs)
    ((List.range l.length).filter (fun i => let a := l.getD i {}; decide (a.aoff < 0) && a.acomp == 0 && a.anoise == 0))).head?
def lateArm (l : List Arm) : Option Nat :=
  (sortBy (fun i => (l.getD i {}).aoff.natAbs)
    ((List.range l.length).filter (fun i => let a := l.getD i {}; decide (0 < a.aoff) && a.acomp == 0 && a.anoise == 0))).head?

/-- The arm that carries the data component of a channel: the prompt, or the partner's prompt of a pilot (06 R148). -/
def dataArm (t : SigType) (l : List Arm) : Option Nat :=
  if t.pilot then (List.range l.length).find? (fun i => let a := l.getD i {}; a.acomp == 1 && a.aoff == 0 && a.anoise == 0) else some 0

/-- The noise power in a dump: of its noise arm, or of the beam outputs that it adds (06 R135, `PWRIN`; log 50). -/
def ChEntry.noise (l : List Arm) (e : ChEntry) : Nat :=
  match (List.range l.length).find? (fun i => (l.getD i {}).anoise == 1) with
  | some i => normSq (e.armSum i)
  | none => e.pwrin * 256 * 4 ^ e.bshift

/-- A discriminator that has nothing to divide by is open (log 50). -/
def openWord (word seq : Nat) : Int := sx 24 (bitsOf 24 (Config.noDiscriminator word seq))

/-- A vector on the side of positive I: a Costas discriminator does not see the data sign (06 `DPH`). -/
def costasFold (costas : Bool) (v : Int × Int) : Int × Int := if costas && decide (v.1 < 0) then (-v.1, -v.2) else v

/-- `DPH` in 2^-23 turn (06 discriminator record). -/
def phaseError (costas : Bool) (seq : Nat) (v : Int × Int) : Int :=
  let f := costasFold costas v
  if f = (0, 0) then openWord 0 seq else angleOf 23 f.1 f.2

/-- `DFR` in 1/256 Hz, from the cross and dot products of two consecutive coherent sums of `n` and `m` dumps (06 discriminator record). -/
def freqError (costas : Bool) (seq n m : Nat) (old new : Int × Int) : Int :=
  let f := costasFold costas (new.1 * old.1 + new.2 * old.2, new.2 * old.1 - new.1 * old.2)
  if n = 0 ∨ f = (0, 0) then openWord 1 seq else quotI (angleOf 24 f.1 f.2 * 2000 * 256) (2 ^ 24 * ((n + m : Nat) : Int))

/-- `DCODE` of one channel's dump in 2^-20 chip: (|E|² − |L|²) / (|E|² + |L|²) × (1 − d/2), d in 1/100 chip (06 discriminator record). -/
def codeError (d seq : Nat) (e l : Nat) : Int :=
  if e + l = 0 then openWord 2 seq else quotI (((e : Int) - l) * (200 - d) * 2 ^ 20) (((e + l : Nat) : Int) * 200)

/-- The code error of a dump; without an early and a late arm the record's value is open (log 50). -/
def ChEntry.dcode (t : SigType) (l : List Arm) (e : ChEntry) : Int :=
  match earlyArm l, lateArm l with
  | some i, some j => codeError t.d e.dumpseq (normSq (e.armSum i)) (normSq (e.armSum j))
  | _, _ => openWord 2 e.dumpseq

/-- 10·log10(a/b) in 1/`per` dB, limited to a field of `bits` bits. -/
def dbField (per bits a b : Nat) : Nat :=
  if a ≤ b then 0 else if b = 0 then 2 ^ bits - 1
  else
    let v := lastWhere (dbAtLeast per a b) bits 0
    (min (2 ^ bits - 1 : Int) (openRound a v (dbAtLeast per b a (-v)))).toNat

/-- The sums of the prompt powers and of the noise powers that a channel has averaged. -/
def LoopState.powers (l : LoopState) : Nat × Nat := ((l.figs.map (fun f => normSq f.prompt)).foldl (· + ·) 0, (l.figs.map (·.noise)).foldl (· + ·) 0)

/-- `CN0` in 2^-16 dB-Hz over the dumps held (06 discriminator record; log 50). -/
def LoopState.cn0 (l : LoopState) : Nat := dbField 65536 24 (1000 * (l.powers.1 - l.powers.2)) l.powers.2

/-- The same as a ratio in 2^-20 Hz·ms, by which SPLIT weights its groups (04 R90; log 50). -/
def LoopState.weight (l : LoopState) : Int := if l.powers.2 = 0 then 0 else quotI ((l.powers.1 - l.powers.2 : Nat) * 2 ^ 20) l.powers.2

/-- `LOCK`: cos 2φ over the dumps held, in 2^-23 (06 discriminator record; log 50). -/
def LoopState.lock (seq : Nat) (l : LoopState) : Int :=
  let num := (l.figs.map (fun f => f.prompt.1 * f.prompt.1 - f.prompt.2 * f.prompt.2)).foldl (· + ·) 0
  if l.powers.1 = 0 then openWord 4 seq else min (2 ^ 23 - 1) (quotI (num * 2 ^ 23) l.powers.1)

/-- Mantissas of 24 bits and their exponent for a vector (06 `PI`, `PQ`, `PEXP`). -/
def mantissas (v : Int × Int) : Int × Int × Int :=
  let top := max v.1.natAbs v.2.natAbs
  if top = 0 then (0, 0, 0)
  else
    let e : Int := (Nat.log2 top : Int) - 22
    let one (x : Int) : Int := if 0 ≤ e then clampI (-(2 ^ 23)) (2 ^ 23 - 1) (quotI x (2 ^ e.natAbs)) else x * 2 ^ e.natAbs
    (one v.1, one v.2, e)

/-! ### Coherent sums and averages -/

/-- Dumps combined coherently (06 R140). -/
def ChanState.ncoh (c : ChanState) (t : SigType) : Nat :=
  if c.loop.tcoh ≠ 0 then c.loop.tcoh
  else if c.secsync ∧ t.secLen ≠ 0 then min (t.secLen * t.secDumps) 20
  else if c.bitsync then t.symDumps
  else 1

/-- A dump joins the coherent sum, which begins anew at a symbol's first dump and once it holds `n` dumps, and the averages (06 R140; log 50). -/
def LoopState.take (n : Nat) (first : Bool) (fig : DumpFig) (l : LoopState) : LoopState :=
  let anew := first || decide (n ≤ l.sumN)
  { l with
    prev := if anew then l.sum else l.prev, prevN := if anew then l.sumN else l.prevN
    sum := if anew then fig.prompt else cadd l.sum fig.prompt, sumN := if anew then 1 else l.sumN + 1
    figs := (fig :: l.figs).take 100 }

/-- A gap in the dumps: the next sum has none before it. -/
def LoopState.gap (l : LoopState) : LoopState := { l with sum := (0, 0), sumN := 0, prev := (0, 0), prevN := 0 }

/-! ### Multipath -/

/-- The fit runs on this channel (06 R142). -/
def ChanState.fits (c : ChanState) : Bool := decide (7 ≤ c.narm) && c.loop.mpMode != 0

/-- A dump joins what the multipath fit works on; every 100 dumps it gives `MPDLY` and `MPAMP` (06 R142). -/
def ChanState.multipath (set : ChSet) (e : ChEntry) (c : ChanState) : ChanState :=
  if !c.fits then { c with loops := { c.loops with mpSums := [], mpDumps := 0 }, disc := { c.disc with mpdly := 0, mpamp := 0 } }
  else
    let p := e.armSum 0
    let now := (List.range set.arms.length).map (fun i => let a := e.armSum i; (a.1 * p.1 + a.2 * p.2, a.2 * p.1 - a.1 * p.2))
    let sums := if c.loops.mpSums.length = now.length then List.zipWith cadd c.loops.mpSums now else now
    if c.loops.mpDumps + 1 < 100 then { c with loops := { c.loops with mpSums := sums, mpDumps := c.loops.mpDumps + 1 } }
    else
      let f := Config.multipath (set.arms.map (·.aoff)) sums
      { c with loops := { c.loops with mpSums := [], mpDumps := 0 }
               disc := { c.disc with mpdly := sx 24 (bitsOf 24 f.1), mpamp := f.2 % 2 ^ 24 } }

/-- What mode 2 takes off `DCODE`: the reflected path's part, while `MPAMP` is at least 0.1 and `MPDLY` lies between d/2 and 1.5 chips (06 R142). -/
def ChanState.reflected (t : SigType) (l : List Arm) (c : ChanState) : Int :=
  let d := c.disc
  if c.fits && c.loop.mpMode == 2 && decide (2 ^ 23 ≤ 10 * d.mpamp) && decide (t.d * 2 ^ 20 ≤ 200 * d.mpdly) && decide (2 * d.mpdly ≤ 3 * 2 ^ 20) then
    Config.multipathCode (((earlyArm l).map (fun i => (l.getD i {}).aoff)).getD 0) (((lateArm l).map (fun i => (l.getD i {}).aoff)).getD 0) d.mpdly d.mpamp
  else 0

/-! ### The record -/

/-- The channels of a signal in SPLIT: its primary channel and those linked to it (06 R134). -/
def State.splitChans (s : State) (n : Nat) : List Nat :=
  let p := ((s.chan n).prim).getD n
  p :: (List.range 384).filter (fun m => (s.chan m).prim == some p)

/-- `DCODE` (06 R140, R142): of the channel's own dump, or in SPLIT that of the groups weighted by their C/N0 (04 R90). -/
def State.codeOf (s : State) (n : Nat) (t : SigType) : Int :=
  let own (m : Nat) : Int :=
    let c := s.chan m
    (vgetD c.entry s.readBank {}).dcode t c.before.arms - c.reflected t c.before.arms
  let l := (s.splitChans n).filter (fun m => let e := vgetD (s.chan m).entry s.readBank {}; e.valid && !e.void && !e.nodump)
  let den := (l.map (fun m => (s.chan m).loops.weight)).foldl (· + ·) 0
  if l.length ≤ 1 ∨ den ≤ 0 then own n
  else quotI ((l.map (fun m => own m * (s.chan m).loops.weight)).foldl (· + ·) 0) den

/-- Another channel of the signal's is linked to this one, or this one to another (06 R134). -/
def State.splitNow (s : State) (n : Nat) : Bool := (s.chan n).prim.isSome || s.trk.ch.toList.any (fun c => c.prim == some n)

/-- The channel is Costas-tracked: its prompt carries data or an unwiped secondary code (06 `DPH`, `DFLAGS`). -/
def ChSet.costas (x : ChSet) (t : SigType) : Bool := !(t.pilot && (x.secwipe || t.secLen == 0))

/-- `DFLAGS` (06 discriminator record). -/
def State.dflags (s : State) (n : Nat) (t : SigType) (e : ChEntry) : Nat :=
  let c := s.chan n
  bbool e.nodump + 2 * bbool e.drop + 4 * bbool (c.voids != 0) + 8 * bbool c.bitsync + 16 * bbool c.secsync + 32 * bbool (c.before.costas t) +
  64 * bbool c.prim.isSome + 128 * bbool (s.splitNow n) + 256 * bbool e.empty

/-- Lanes of a site that are `LIVE`. -/
def State.liveAt (s : State) (site : Nat) : List Nat := (List.range 96).filter (fun n => s.siteOf n == site && (s.lane n).state == .live)

/-- The bootstrap site (05 R115): `REF_SITE`, or, where that has no `LIVE` element, the site with the most, the lowest-numbered on ties. -/
def State.bootSite (s : State) : Nat :=
  let home := (charterDevice s.boo.charter).refSite
  if (s.liveAt home).isEmpty then (List.range 12).foldl (fun m i => if (s.liveAt m).length < (s.liveAt i).length then i else m) 0 else home

/-- The sums of the assay slot of a bootstrap channel in a bank over the elements of a site (05 R115). -/
def State.bootSums (s : State) (n bank : Nat) : Option AssayEntry :=
  (vgetD s.arr.assay.entries bank (Vector.replicate 160 {})).toList.find? (fun e => e.valid && e.ch == n)

/-- Frequency and code error of a bootstrap channel (05 R115): Σ A(n) · conj(A(n − 1)) over the elements of the bootstrap site, and the power of the
epochs with the replica early against that of those with it late. -/
def State.bootErrors (s : State) (n seq : Nat) (d : Nat) : Int × Int :=
  match s.bootSums n s.readBank, s.bootSums n (1 - s.readBank) with
  | some a, some b =>
    let els := (List.range 96).filter (fun e => s.siteOf e == s.bootSite)
    let at_ (x : AssayEntry) (e : Nat) : Int × Int := x.sum.getD e (0, 0)
    let z := (els.map (fun e => ((at_ a e).1 * (at_ b e).1 + (at_ a e).2 * (at_ b e).2, (at_ a e).2 * (at_ b e).1 - (at_ a e).1 * (at_ b e).2))).foldl cadd (0, 0)
    let pow (x : AssayEntry) : Nat := (els.map (fun e => normSq (at_ x e))).foldl (· + ·) 0
    let early := if a.dither = 1 then pow a else pow b
    let late := if a.dither = 1 then pow b else pow a
    (if z = (0, 0) then openWord 1 seq else quotI (angleOf 24 z.1 z.2 * 1000 * 256) (2 ^ 24), codeError d seq early late)
  | _, _ => (openWord 1 seq, openWord 2 seq)

/-- The discriminator record of a dump, after the averages have taken it (06; 05 R115). -/
def State.record (s : State) (n : Nat) (t : SigType) (e : ChEntry) : DiscRec :=
  let c := s.chan n
  let costas := c.before.costas t
  let m := mantissas c.loops.sum
  let boot := if c.st = .boot then some (s.bootErrors n e.dumpseq 50) else none
  { dph := phaseError costas e.dumpseq c.loops.sum
    dfr := (boot.map (·.1)).getD (freqError costas e.dumpseq c.loops.prevN c.loops.sumN c.loops.prev c.loops.sum)
    dcode := (boot.map (·.2)).getD (s.codeOf n t), cn0 := c.loops.cn0, lock := c.loops.lock e.dumpseq
    pi := m.1, pq := m.2.1, pexp := m.2.2, ncoh := c.ncoh t, dflags := s.dflags n t e
    mpdly := c.disc.mpdly, mpamp := c.disc.mpamp, crateIn := c.nco.crate, krateIn := c.nco.krate }

/-- The record's 16 words (06 discriminator record). -/
def DiscRec.words (d : DiscRec) : List Word24 :=
  [w24 (bitsOf 24 d.dph), w24 (bitsOf 24 d.dfr), w24 (bitsOf 24 d.dcode), w24 d.cn0, w24 (bitsOf 24 d.lock), w24 (bitsOf 24 d.pi),
   w24 (bitsOf 24 d.pq), w24 (bitsOf 24 d.pexp), w24 d.ncoh, w24 d.dflags, w24 (bitsOf 24 d.mpdly), w24 d.mpamp,
   w24 d.crateIn, w24 (d.crateIn / 2 ^ 24), w24 d.krateIn, w24 (d.krateIn / 2 ^ 24)]

/-! ### Channel states -/

/-- A channel enters a state: its timer and dwell counts start. -/
def ChanState.enter (st : ChState) (c : ChanState) : ChanState :=
  { c with st := st, cage := 0, dwellHigh := 0, dwellLow := 0, dwellUnlock := 0, codeErrs := [] }

/-- `LOCK` of 0.8 and of 0.2 in the record's format, without a fraction (06). -/
def lockHigh : Int := 6710886
def lockLow : Int := 1677721

/-- The state after a dump whose record has been formed (06 channel states): only `PULLIN`, `TRACK` and `COAST` change here. -/
def ChanState.afterDump (empty : Bool) (c : ChanState) : ChanState :=
  let d := c.disc
  let thr := c.loop.cn0Loss * 65536
  let c1 := { c with
    dwellHigh := if thr + 3 * 65536 ≤ d.cn0 then c.dwellHigh + 1 else 0
    dwellLow := if d.cn0 < thr then c.dwellLow + 1 else 0
    dwellUnlock := if d.lock ≤ lockLow then c.dwellUnlock + 1 else 0
    codeErrs := (d.dcode.natAbs :: c.codeErrs).take 100 }
  match c.st with
  | .pullin =>
    if lockHigh < d.lock ∧ c1.codeErrs.length = 100 ∧ 10 * c1.codeErrs.foldl (· + ·) 0 ≤ 100 * 2 ^ 20 then c1.enter .track else c1
  | .track => if empty ∨ 200 ≤ c1.dwellLow ∨ 200 ≤ c1.dwellUnlock then c1.enter .coast else c1
  | .coast => if 100 ≤ c1.dwellHigh then c1.enter .pullin else c1
  | _ => c1

/-! ### The standard filters -/

/-- What a channel's loop writes: rates, optional steps. -/
structure LoopOut where
  crate : Nat
  krate : Nat
  cstep : Option Nat := none
  kstep : Option Nat := none

/-- The code rate that goes with a carrier rate: the nominal one scaled by the Doppler ratio (06 R141, worked example). -/
def aidedRate (sigid : Nat) (k : Int) (t : SigType) (crate : Nat) : Int :=
  let f := carrier sigid k
  let dopp := sx 48 crate * 81840000 - sigOffset sigid k * 2 ^ 48
  quotI (t.dumpLen * (f * 2 ^ 48 + dopp)) (81840 * f)

/-- The output that a channel's standard filter holds. -/
def ChanState.heldOut (c : ChanState) : LoopOut :=
  match c.loops.out with
  | some r => { crate := r.1, krate := r.2 }
  | none => { crate := c.nco.crate, krate := c.nco.krate }

/-- The standard filters take a record (06 R141; 05 R115): a PLL, which the FLL assists in `PULLIN`, a carrier-aided DLL; in bootstrap an FLL. -/
def ChanState.filtered (t : SigType) (c : ChanState) : ChanState :=
  let d := c.disc
  let l := c.loop
  let boot := c.st == .boot
  let car := Config.carrierLoop (if boot then 0 else l.pllBw) l.pllOrd (if boot || c.st == .pullin then l.fllBw else 0) c.loops.carrier
    (if boot then 0 else d.dph) d.dfr
  let crate := bitsOf 48 (sx 48 c.nco.crate + car.1)
  let code := Config.codeLoop l.dllBw c.loops.code d.dcode
  { c with loops := { c.loops with
      carrier := car.2, code := code.2, out := some (crate, bitsOf 48 (aidedRate c.sigid c.glok t crate + code.1)) } }

end Sys2Proof.Machine
end

