-- ==== Sys2Proof/Machine/Demod.lean ====
section
/-! DEFINITION. Data demodulation (06 R148, R149) and what the Overman takes from the messages (07 R161, R162; 10 R233, R240, R252, R253). -/

namespace Sys2Proof.Machine

/-- What the Overman decodes (06 R148): ephemeris and almanac of a satellite (system and number), UTC parameters of a source, the slot of a GLONASS
satellite, a frame boundary with its time of week in ms, the OSNMA status, an authenticated or failed ADKD 0 set of a Galileo satellite, an
authenticated ADKD 4 set. -/
inductive NavItem where
  | eph (sys sat : Nat)
  | alm (sys sat : Nat)
  | utc (src : Nat)
  | slot (n : Nat)
  | frame (tow : Nat)
  | osnma (status : Nat)
  | auth (sat : Nat)
  | tagFail (sat : Nat)
  | authUtc
deriving DecidableEq, Repr

/-- What the Overman decodes from a signal's symbols, newest first, when the newest arrives: the codes and messages are those of the signal's
document (06 R125, R148; log 51). -/
opaque Config.decoded : Nat → List Int → List NavItem

/-- Types whose messages the Overman decodes (06 R148); of the others it reports the symbols only. -/
def decodes (t : Nat) : Bool :=
  [0x01, 0x40, 0x04, 0x06, 0x43, 0x45, 0x10, 0x14, 0x12, 0x20, 0x26, 0x21, 0x23, 0x30, 0x31, 0x60, 0x61].contains t

/-- The component whose data a channel demodulates, and its type. -/
def dataSig (sigid : Nat) (t : SigType) : Nat × SigType :=
  if t.pilot then (let c := 256 * t.partner.getD t.code + sigSat sigid; (c, (typeOf c).getD t)) else (sigid, t)

/-- Bit sync after a dump of the data component (06 R148). -/
def Demod.take (comp : Nat) (v : Int × Int) (seq : Nat) (d : Demod) : Demod :=
  let l := ((v, seq) :: d.dumps).take 2000
  { d with dumps := l, edge := match d.edge with | some e => some e | none => Config.bitSync comp l }

/-- The dump is the last of a symbol, or the first (06 R131, R148). -/
def Demod.ends (t : SigType) (seq : Nat) (d : Demod) : Bool := match d.edge with | some e => (seq + 1) % t.symDumps == e % t.symDumps | none => false
def Demod.begins (t : SigType) (seq : Nat) (d : Demod) : Bool := match d.edge with | some e => seq % t.symDumps == e % t.symDumps | none => false

/-- The soft symbol that a dump completes, of 8 bits (06 R148): from the symbol's dumps, oldest first, with the secondary chips of the component taken
off as they count back from the last. -/
def Demod.symbol (errors : Mem) (comp : Nat) (t : SigType) (secidx noise seq : Nat) (d : Demod) : Option Int :=
  if d.ends t seq then
    let l := d.dumps.filter (fun x => decide (seq < x.2 + t.symDumps))
    let chip (x : (Int × Int) × Nat) : Int × Int :=
      if t.secLen = 0 then x.1
      else
        let i := (secidx + t.secLen * t.symDumps - (seq - x.2) / t.secDumps) % t.secLen
        let w := chipSign (secondaryChip errors comp i)
        (w * x.1.1, w * x.1.2)
    some (sx 8 (bitsOf 8 (Config.softSymbol comp (l.reverse.map chip) noise)))
  else none

/-- The place in dumps, of the 65 536 code periods that `KPER` counts, at which the dump of an entry ended (06 R131). -/
def ChanState.dumpEnd (t : SigType) (e : ChEntry) (c : ChanState) : Nat := (c.before.nco.ticks t e.dumpoff).code t / 2 ^ 48 / t.dumpLen

/-- Secondary sync of the tracked component (06 R136, R148): what the deputy writes to `U_SEC` on finding it: the index at the next boundary, counted on
from the newest dump's, and the wipe of a pilot. -/
def ChanState.findSecondary (t : SigType) (e : ChEntry) (c : ChanState) : ChanState × Option Nat :=
  if c.secsync ∨ t.secLen = 0 then (c, none)
  else
    match Config.secondarySync c.sigid (c.loops.figs.map (·.prompt)) with
    | none => (c, none)
    | some i =>
      let chips : Nat := 65536 * t.chips
      let newest := (c.dumpEnd t e * t.dumpLen + chips - t.dumpLen) % chips / t.secChips
      let next := (c.nco.ticks t epochTicks).code t / 2 ^ 48 / t.secChips
      let all := chips / t.secChips
      ({ c with secsync := true }, some ((i + (next + all - newest) % all) % t.secLen + 4096 + (if t.pilot then 8192 else 0)))

/-- The status of OSNMA lets its results apply: the charter gives a root, and device time is known within the bound (10 R252). -/
def State.osnmaRuns (s : State) : Bool := decide (2 ≤ s.sol.osnma)

/-- An OSNMA result (10 R252, R253). -/
def State.osnmaItem (s : State) : NavItem → State
  | .osnma st =>
    let t := { s with sol := { s.sol with osnma := max 2 (min 5 st) } }
    if st = 4 ∨ st = 5 then t.addSuspicion { cause := 2, sys := 1, sat := none, band := none, last := s.ms, first := s.ms } {} else t
  | .auth sat => { s with sol := { s.sol with osnmaAuth := if s.sol.osnmaAuth.contains sat then s.sol.osnmaAuth else s.sol.osnmaAuth ++ [sat] } }
  | .tagFail sat =>
    ({ s with sol := { s.sol with osnmaAuth := s.sol.osnmaAuth.filter (· != sat) } }).addSuspicion
      { cause := 2, sys := 1, sat := some sat, band := none, last := s.ms, first := s.ms } {}
  | .authUtc => { s with sol := { s.sol with utcAuth := true } }
  | _ => s

/-- What the Overman takes from a decoded message on a channel (06 R148, 07 R161, R162, 10 R233, R240, R252, R253); a new data set of a Galileo
satellite and new GST-UTC parameters are not authenticated yet. -/
def State.navItem (n : Nat) (s : State) (i : NavItem) : State :=
  let keep (l : List (Nat × Nat)) (key : Nat) : List (Nat × Nat) := (key, s.ms) :: l.filter (fun x => x.1 != key)
  match i with
  | .eph sys sat =>
    { s with
      trk := { s.trk with acq := { s.trk.acq with eph := keep s.trk.acq.eph (256 * sys + sat) } }
      sol := { s.sol with osnmaAuth := if sys = 1 then s.sol.osnmaAuth.filter (· != sat) else s.sol.osnmaAuth } }
  | .alm sys sat => { s with trk := { s.trk with acq := { s.trk.acq with alm := keep s.trk.acq.alm (256 * sys + sat) } } }
  | .utc src =>
    { s with sol := { s.sol with
      utcKnown := if s.sol.utcKnown.contains src then s.sol.utcKnown else s.sol.utcKnown ++ [src], utcAuth := src != 1 && s.sol.utcAuth } }
  | .slot g => s.mapChan n (fun c => if isFdma c.sigid && sigSat c.sigid == 0 then { c with gloSlot := some g } else c)
  | .frame tow =>
    s.mapChan n (fun c =>
      match typeOf c.sigid with
      | some t => { c with framesync := true, frame := some (tow, c.dumpEnd t (vgetD c.entry s.readBank {})) }
      | none => c)
  | i => if s.osnmaRuns then s.osnmaItem i else s

/-- A symbol reaches the Overman (06 R148): it joins the channel's, and the messages that it completes are taken. -/
def State.symbol (n : Nat) (v : Int) (seq : Nat) (s : State) : State :=
  let c := s.chan n
  let comp := (dataSig c.sigid ((typeOf c.sigid).getD { code := 0, band := .u, off := 0, dumpLen := 1, chips := 1, d := 0 })).1
  let l := ((v, seq) :: c.symbols).take 16384
  let t := s.mapChan n (fun c => { c with symbols := l })
  if decodes (sigT comp) then (Config.decoded comp (l.map (·.1))).foldl (State.navItem n) t else t

/-- `HALFCYC` (06 R149): the preamble of a Costas-tracked component shows the polarity. -/
def ChanState.polarity (costas : Bool) (comp : Nat) (c : ChanState) : ChanState :=
  match if costas then Config.preamble comp (c.symbols.map (·.1)) else none with
  | some inverted => { c with halfcyc := inverted, polar := true }
  | none => c

end Sys2Proof.Machine
end

