-- ==== Sys2Proof/Machine/HbMem.lean ====
section
/-! DEFINITION. HB24: loads, stores and the stack (15 R373, R381, R384), and the block instructions (15 R389–R391). -/

namespace Sys2Proof.Machine

/-- The data access exception at an address (15 R370, 16 R404). -/
def dataFault (a : Nat) : Res := .fault vData (some (BitVec.ofNat 24 a))

/-- `LD` x or g, [...]: dest := dmem[ea] with the load delay; then post-modify (15 operations table, R381). -/
def execHbLd (k : Fin 19) (f : MemForm) (st : State) : Host.Outcome State Fault Refusal :=
  ans (st.runCore k f.len kPlain fun s c =>
    match memForm c f with
    | none => illegal
    | some (r, a, p) =>
      if dataOk k c false a then .done s { c := c.applyPtr p, load := some (r, c.rd a) } else dataFault a)

/-- `ST` x or g, [...]: dmem[ea] := src; then post-modify. -/
def execHbSt (k : Fin 19) (f : MemForm) (st : State) : Host.Outcome State Fault Refusal :=
  ans (st.runCore k f.len kPlain fun s c =>
    match memForm c f with
    | none => illegal
    | some (r, a, p) =>
      if dataOk k c true a then .done s { c := (c.wr a c.g[r]).applyPtr p } else dataFault a)

/-- `PUSH` g: v := g; sp := sp − 1; dmem[sp] := v (15 R384). -/
def execHbPush (k : Fin 19) (g : Fin 16) (st : State) : Host.Outcome State Fault Refusal :=
  ans (st.runCore k 1 kPlain fun s c =>
    let sp := c.g[spReg] - 1
    if dataOk k c true sp.toNat then .done s { c := (c.wr sp.toNat c.g[g]).setG spReg sp } else dataFault sp.toNat)

/-- `POP` g: g := dmem[sp] with the load delay; sp := sp + 1; p7 is illegal (15 R376, R381, R384). -/
def execHbPop (k : Fin 19) (g : Fin 16) (st : State) : Host.Outcome State Fault Refusal :=
  ans (st.runCore k 1 kPlain fun s c =>
    let sp := c.g[spReg]
    if g = spReg then illegal
    else if dataOk k c false sp.toNat then
      .done s { c := c.setG spReg (sp + 1), load := some (g, c.rd sp.toNat) }
    else dataFault sp.toNat)

/-- One word of `BMOV` (15 R389): the core after it, or the exception. -/
def bmovWord (k : Fin 19) (pd ps kd ks : Fin 8) (c : CoreState) : Except Res CoreState :=
  let a := c.g[preg ps]
  match postMod c ks a with
  | none => .error (.fault vIllegal none (some c))
  | some a' =>
    let c1 := c.setG (preg ps) a'
    let d := c1.g[preg pd]
    match postMod c1 kd d with
    | none => .error (.fault vIllegal none (some c))
    | some d' =>
      if !dataOk k c false a.toNat then .error (.fault vData (some a) (some c))
      else if dataOk k c true d.toNat then .ok { (c1.wr d.toNat (c.rd a.toNat)).setG (preg pd) d' with lc := c.lc - 1 }
      else .error (.fault vData (some d) (some c))

/-- One word of `BEXP` (15 R390): ex := min(ex, sbits(w)); post-modify; lc falls by 1. -/
def bexpWord (k : Fin 19) (p km : Fin 8) (c : CoreState) : Except Res CoreState :=
  let a := c.g[preg p]
  match postMod c km a with
  | none => .error (.fault vIllegal none (some c))
  | some a' =>
    if dataOk k c false a.toNat then
      .ok { c.setG (preg p) a' with ex := BitVec.ofInt 6 (min c.ex.toInt (sbits (c.rd a.toNat))), lc := c.lc - 1 }
    else .error (.fault vData (some a) (some c))

/-- Runs `n` words of a block instruction. -/
def blockRun (word : CoreState → Except Res CoreState) : Nat → CoreState → Except Res CoreState
  | 0, c => .ok c
  | n + 1, c =>
    match word c with
    | .error r => .error r
    | .ok c1 => blockRun word n c1

/-- A block instruction over lc words, or up to the word after which an interrupt arrives (15 R391): pc then stays at it. The post-modify codes
`pms` may not be the reserved one, whatever lc is (15 R373, R375). -/
def blockIns (z : Nat) (pms : List (Fin 8)) (upTo : Option Nat) (word : CoreState → Except Res CoreState) (s : State) (c : CoreState) : Res :=
  if z ≠ 0 ∨ pms.contains 3 then illegal
  else
    let n := min c.lc.toNat (upTo.getD c.lc.toNat)
    match blockRun word n c with
    | .error r => r
    | .ok c1 => .done s { c := c1, cycles := 2 + n, stay := c1.lc != 0 }

/-- `BMOV` [pd]kd, [ps]ks (15 R389). -/
def execHbBmov (k : Fin 19) (pd ps kd ks : Fin 8) (z : Nat) (upTo : Option Nat) (st : State) :
    Host.Outcome State Fault Refusal :=
  ans (st.runCore k 2 kNone (blockIns z [kd, ks] upTo (bmovWord k pd ps kd ks)))

/-- `BEXP` [pn]k (15 R390). -/
def execHbBexp (k : Fin 19) (p km : Fin 8) (z : Nat) (upTo : Option Nat) (st : State) : Host.Outcome State Fault Refusal :=
  ans (st.runCore k 2 kNone (blockIns z [km] upTo (bexpWord k p km)))

end Sys2Proof.Machine
end

