-- ==== Sys2Proof/Machine/HbBranch.lean ====
section
/-! DEFINITION. HB24: control transfers with their delay slot (15 R379, R380, R384; 16 R408–R410). -/

namespace Sys2Proof.Machine

/-- A branch: the target is the branch's own address plus the signed offset; not taken, execution goes on after the slot. -/
def branch (taken : Bool) (o : Word24) (s : State) (c : CoreState) : Res :=
  .done s { c := c, slot := some { outcome := if taken then some (BitVec.ofNat 24 c.pc + o).toNat else none } }

/-- A `CALL` to a target: sp falls by 1, and N is written there before the slot executes. -/
def callTo (k : Fin 19) (t : Word24) (s : State) (c : CoreState) : Res :=
  let sp := c.g[spReg] - 1
  if dataOk k c true sp.toNat then
    .done s { c := c.setG spReg sp, slot := some { outcome := some t.toNat, link := some sp.toNat } }
  else dataFault sp.toNat

/-- `J` target. -/
def execHbJ (k : Fin 19) (t : Word24) (st : State) : Host.Outcome State Fault Refusal :=
  ans (st.runCore k 2 kNone fun s c => .done s { c := c, slot := some { outcome := some t.toNat } })

/-- `CALL` target. -/
def execHbCall (k : Fin 19) (t : Word24) (st : State) : Host.Outcome State Fault Refusal :=
  ans (st.runCore k 2 kNone (callTo k t))

/-- `JR` g. -/
def execHbJr (k : Fin 19) (g : Fin 16) (st : State) : Host.Outcome State Fault Refusal :=
  ans (st.runCore k 1 kNone fun s c => .done s { c := c, slot := some { outcome := some (c.g[g]).toNat } })

/-- `CALLR` g: the target is read before sp falls. -/
def execHbCallr (k : Fin 19) (g : Fin 16) (st : State) : Host.Outcome State Fault Refusal :=
  ans (st.runCore k 1 kNone fun s c => callTo k c.g[g] s c)

/-- `RET`: t := dmem[sp]; sp := sp + 1. -/
def execHbRet (k : Fin 19) (st : State) : Host.Outcome State Fault Refusal :=
  ans (st.runCore k 1 kNone fun s c =>
    let sp := c.g[spReg]
    if dataOk k c false sp.toNat then
      .done s { c := c.setG spReg (sp + 1), slot := some { outcome := some (c.rd sp.toNat).toNat } }
    else dataFault sp.toNat)

/-- `RETI`: pops st and then pc; the delay slot executes in the mode before it, the popped st governs from the return address (15 R379,
R383, R384). A fault in the slot undoes it (16 R410). -/
def execHbReti (k : Fin 19) (st : State) : Host.Outcome State Fault Refusal :=
  ans (st.runCore k 1 kNone fun s c =>
    let sp := c.g[spReg]
    if c.user then .fault vPriv none
    else if !dataOk k c false sp.toNat then dataFault sp.toNat
    else if !dataOk k c false (sp + 1).toNat then dataFault (sp + 1).toNat
    else
      .done s { c := { c.setG spReg (sp + 2) with st := c.rd sp.toNat &&& stMask }
                mode := true
                slot := some { outcome := some (c.rd (sp + 1).toNat).toNat, reti := some (c.pc, sp, c.st) } })

/-- The two registers and the offset of a `CB.eq` or `CB.ne` form. -/
def cbRegs : CbForm → Fin 16 × Fin 16 × Word24
  | .short d s o => (xreg d, xreg s, o.signExtend 24)
  | .long a b o => (a, b, o.signExtend 24)

/-- The register and the offset of a `CBZ` or `CBNZ` form, when its reserved field is 0. -/
def cbzReg : CbzForm → Option (Fin 16 × Word24)
  | .short x o => some (xreg x, o.signExtend 24)
  | .long g o z => if z = 0 then some (g, o.signExtend 24) else none

/-- `CB.eq`. -/
def execHbCbEq (k : Fin 19) (f : CbForm) (st : State) : Host.Outcome State Fault Refusal :=
  ans (st.runCore k f.len kNone fun s c =>
    branch (c.g[(cbRegs f).1] == c.g[(cbRegs f).2.1]) (cbRegs f).2.2 s c)

/-- `CB.ne`. -/
def execHbCbNe (k : Fin 19) (f : CbForm) (st : State) : Host.Outcome State Fault Refusal :=
  ans (st.runCore k f.len kNone fun s c =>
    branch (c.g[(cbRegs f).1] != c.g[(cbRegs f).2.1]) (cbRegs f).2.2 s c)

/-- `CB.lt`, signed (15 R378). -/
def execHbCbLt (k : Fin 19) (a b : Fin 16) (o : BitVec 16) (st : State) : Host.Outcome State Fault Refusal :=
  ans (st.runCore k 2 kNone fun s c => branch (decide ((c.g[a]).toInt < (c.g[b]).toInt)) (o.signExtend 24) s c)

/-- `CB.ge`, signed. -/
def execHbCbGe (k : Fin 19) (a b : Fin 16) (o : BitVec 16) (st : State) : Host.Outcome State Fault Refusal :=
  ans (st.runCore k 2 kNone fun s c => branch (decide ((c.g[b]).toInt ≤ (c.g[a]).toInt)) (o.signExtend 24) s c)

/-- `CB.ltu`, unsigned. -/
def execHbCbLtu (k : Fin 19) (a b : Fin 16) (o : BitVec 16) (st : State) : Host.Outcome State Fault Refusal :=
  ans (st.runCore k 2 kNone fun s c => branch (decide ((c.g[a]).toNat < (c.g[b]).toNat)) (o.signExtend 24) s c)

/-- `CB.geu`, unsigned. -/
def execHbCbGeu (k : Fin 19) (a b : Fin 16) (o : BitVec 16) (st : State) : Host.Outcome State Fault Refusal :=
  ans (st.runCore k 2 kNone fun s c => branch (decide ((c.g[b]).toNat ≤ (c.g[a]).toNat)) (o.signExtend 24) s c)

/-- `CBZ`. -/
def execHbCbz (k : Fin 19) (f : CbzForm) (st : State) : Host.Outcome State Fault Refusal :=
  ans (st.runCore k f.len kNone fun s c =>
    match cbzReg f with
    | none => illegal
    | some (r, o) => branch (c.g[r] == 0) o s c)

/-- `CBNZ`. -/
def execHbCbnz (k : Fin 19) (f : CbzForm) (st : State) : Host.Outcome State Fault Refusal :=
  ans (st.runCore k f.len kNone fun s c =>
    match cbzReg f with
    | none => illegal
    | some (r, o) => branch (c.g[r] != 0) o s c)

end Sys2Proof.Machine
end

