-- ==== Sys2Proof/Machine/HbMac.lean ====
section
/-! DEFINITION. HB24: the MAC forms, `MACM` and the ACC forms (15 MAC and ACC tables; 16 R399–R402, R415). -/

namespace Sys2Proof.Machine

/-- The exact signed product. -/
def prod (u v : Word24) : Int := u.toInt * v.toInt

/-- The exact value of a MAC operation before accw (15 MAC table); none for the reserved codes. -/
def macValue (op : Fin 8) (a : Int) (p : Int) : Option Int :=
  match op.val with
  | 0 => some (a + p)
  | 1 => some (a - p)
  | 2 => some p
  | 3 => some (rnd (a + p))
  | 4 => some (rnd (a - p))
  | 5 => some (rnd p)
  | _ => none

/-- A short MAC form over two x registers. -/
def macIns (op : Fin 8) (a : Fin 4) (x y : Fin 8) (s : State) (c : CoreState) : Res :=
  match macValue op (c.ac[a]).toInt (prod c.g[xreg x] c.g[xreg y]) with
  | none => illegal
  | some v => .done s { c := c.setAccw a v }

/-- `MAC` a, x, y: a := accw(a + prod). -/
def execHbMac (k : Fin 19) (a : Fin 4) (x y : Fin 8) (st : State) : Host.Outcome State Fault Refusal :=
  ans (st.runCore k 1 kPlain (macIns 0 a x y))

/-- `MSU`: a := accw(a − prod). -/
def execHbMsu (k : Fin 19) (a : Fin 4) (x y : Fin 8) (st : State) : Host.Outcome State Fault Refusal :=
  ans (st.runCore k 1 kPlain (macIns 1 a x y))

/-- `MPY`: a := accw(prod). -/
def execHbMpy (k : Fin 19) (a : Fin 4) (x y : Fin 8) (st : State) : Host.Outcome State Fault Refusal :=
  ans (st.runCore k 1 kPlain (macIns 2 a x y))

/-- `MACR`: a := accw(rnd(a + prod)). -/
def execHbMacr (k : Fin 19) (a : Fin 4) (x y : Fin 8) (st : State) : Host.Outcome State Fault Refusal :=
  ans (st.runCore k 1 kPlain (macIns 3 a x y))

/-- `MSUR`: a := accw(rnd(a − prod)). -/
def execHbMsur (k : Fin 19) (a : Fin 4) (x y : Fin 8) (st : State) : Host.Outcome State Fault Refusal :=
  ans (st.runCore k 1 kPlain (macIns 4 a x y))

/-- `MPYR`: a := accw(rnd(prod)). -/
def execHbMpyr (k : Fin 19) (a : Fin 4) (x y : Fin 8) (st : State) : Host.Outcome State Fault Refusal :=
  ans (st.runCore k 1 kPlain (macIns 5 a x y))

/-- `MACM` op a, [pa]k1, [pb]k2: u and v are dmem[pa] and dmem[pb]; a data access fault leaves pointers and accumulator unchanged
(15 MAC table, 16 R415). With pa and pb one pointer, k1 applies and then k2 (log 9). -/
def execHbMacm (k : Fin 19) (op : Fin 8) (a : Fin 4) (pa pb k1 k2 : Fin 8) (z : Fin 128) (st : State) :
    Host.Outcome State Fault Refusal :=
  ans (st.runCore k 2 kPlain fun s c =>
    let aa := c.g[preg pa]
    let ab := c.g[preg pb]
    if z ≠ 0 then illegal
    else
      match postMod c k1 aa with
      | none => illegal
      | some va =>
        let c1 := c.setG (preg pa) va
        match postMod c k2 c1.g[preg pb] with
        | none => illegal
        | some vb =>
          match macValue op (c.ac[a]).toInt (prod (c.rd aa.toNat) (c.rd ab.toNat)) with
          | none => illegal
          | some v =>
            if !dataOk k c false aa.toNat then dataFault aa.toNat
            else if !dataOk k c false ab.toNat then dataFault ab.toNat
            else .done s { c := (c1.setG (preg pb) vb).setAccw a v })

/-- A shift immediate above 23 raises the illegal-instruction exception (15 R375), in the ACC forms as in the ALUI ones (DEDUCED, log 9). -/
def accShift (sh z : Fin 32) (g : CoreState → CoreState) (s : State) (c : CoreState) : Res :=
  if z = 0 ∧ sh.val ≤ 23 then .done s { c := g c } else illegal

/-- An ACC form: its reserved field must be 0 (15 R375). -/
def accIns (z : Fin 32) (g : CoreState → CoreState) (s : State) (c : CoreState) : Res :=
  if z = 0 then .done s { c := g c } else illegal

/-- `CLR` a. -/
def execHbClr (k : Fin 19) (a : Fin 4) (z : Fin 32) (st : State) : Host.Outcome State Fault Refusal :=
  ans (st.runCore k 2 kPlain (accIns z fun c => c.setA a 0))

/-- `MOVA` a, b. -/
def execHbMova (k : Fin 19) (a b : Fin 4) (z : Fin 32) (st : State) : Host.Outcome State Fault Refusal :=
  ans (st.runCore k 2 kPlain (accIns z fun c => c.setA a c.ac[b]))

/-- `ADDA`: a := accw(a + b). -/
def execHbAdda (k : Fin 19) (a b : Fin 4) (z : Fin 32) (st : State) : Host.Outcome State Fault Refusal :=
  ans (st.runCore k 2 kPlain (accIns z fun c => c.setAccw a ((c.ac[a]).toInt + (c.ac[b]).toInt)))

/-- `SUBA`: a := accw(a − b). -/
def execHbSuba (k : Fin 19) (a b : Fin 4) (z : Fin 32) (st : State) : Host.Outcome State Fault Refusal :=
  ans (st.runCore k 2 kPlain (accIns z fun c => c.setAccw a ((c.ac[a]).toInt - (c.ac[b]).toInt)))

/-- `NEGA`: a := accw(−b). -/
def execHbNega (k : Fin 19) (a b : Fin 4) (z : Fin 32) (st : State) : Host.Outcome State Fault Refusal :=
  ans (st.runCore k 2 kPlain (accIns z fun c => c.setAccw a (-(c.ac[b]).toInt)))

/-- `ABSA`: a := accw(|b|). -/
def execHbAbsa (k : Fin 19) (a b : Fin 4) (z : Fin 32) (st : State) : Host.Outcome State Fault Refusal :=
  ans (st.runCore k 2 kPlain (accIns z fun c => c.setAccw a ((c.ac[b]).toInt.natAbs : Int)))

/-- `SHLA`: a := accw(a << sh). -/
def execHbShla (k : Fin 19) (a : Fin 4) (sh z : Fin 32) (st : State) : Host.Outcome State Fault Refusal :=
  ans (st.runCore k 2 kPlain (accShift sh z fun c => c.setAccw a ((c.ac[a]).toInt * 2 ^ sh.val)))

/-- `SARA`: a := a >> sh, sign fill; never sets `AOV` (16 R400). -/
def execHbSara (k : Fin 19) (a : Fin 4) (sh z : Fin 32) (st : State) : Host.Outcome State Fault Refusal :=
  ans (st.runCore k 2 kPlain (accShift sh z fun c => c.setA a ((c.ac[a]).sshiftRight sh.val)))

/-- `RND`: a := accw(rnd(a)). -/
def execHbRnd (k : Fin 19) (a : Fin 4) (z : Fin 32) (st : State) : Host.Outcome State Fault Refusal :=
  ans (st.runCore k 2 kPlain (accIns z fun c => c.setAccw a (rnd (c.ac[a]).toInt)))

/-- `SATA`: a := sat48(a); no flag. -/
def execHbSata (k : Fin 19) (a : Fin 4) (z : Fin 32) (st : State) : Host.Outcome State Fault Refusal :=
  ans (st.runCore k 2 kPlain (accIns z fun c => c.setA a (BitVec.ofInt 56 (sat48 (c.ac[a]).toInt))))

/-- `NORM`: a := norm(a); no flag (16 R399, R400). -/
def execHbNorm (k : Fin 19) (a : Fin 4) (z : Fin 32) (st : State) : Host.Outcome State Fault Refusal :=
  ans (st.runCore k 2 kPlain
    (accIns z fun c => c.setA a (BitVec.ofInt 56 (shiftI (c.ac[a]).toInt (accExp (c.ac[a]).toInt)))))

/-- `EXP` g, a: exp(a) sign-extended; `DOV` when it does not fit and g is an x register (16 R400, R401). -/
def execHbExp (k : Fin 19) (g : Fin 16) (a : Fin 4) (z : Fin 32) (st : State) : Host.Outcome State Fault Refusal :=
  ans (st.runCore k 2 kPlain
    (accIns z fun c => c.setInt g (accExp (c.ac[a]).toInt) (!fits24 (accExp (c.ac[a]).toInt))))

/-- `SHI` g, a: g := hi(a); `DOV` when r does not fit and g is an x register, whether or not `SATM` limits it (16 R399, R400). -/
def execHbShi (k : Fin 19) (g : Fin 16) (a : Fin 4) (z : Fin 32) (st : State) : Host.Outcome State Fault Refusal :=
  ans (st.runCore k 2 kPlain
    (accIns z fun c => c.setInt g (hi c.satm c.rndm (c.ac[a]).toInt).toInt (!fits24 (hiRaw c.rndm (c.ac[a]).toInt))))

/-- `LDA` a, g: a := sx56(g) << 24. -/
def execHbLda (k : Fin 19) (a : Fin 4) (g : Fin 16) (z : Fin 32) (st : State) : Host.Outcome State Fault Refusal :=
  ans (st.runCore k 2 kPlain (accIns z fun c => c.setA a (BitVec.ofInt 56 ((c.g[g]).toInt * 2 ^ 24))))

/-- `LDAL` a, g: a := sx56(g). -/
def execHbLdal (k : Fin 19) (a : Fin 4) (g : Fin 16) (z : Fin 32) (st : State) : Host.Outcome State Fault Refusal :=
  ans (st.runCore k 2 kPlain (accIns z fun c => c.setA a (BitVec.ofInt 56 (c.g[g]).toInt)))

/-- `SCALE`: a := accw(a shifted left by ex, or right for negative ex) (16 R401). -/
def execHbScale (k : Fin 19) (a : Fin 4) (z : Fin 32) (st : State) : Host.Outcome State Fault Refusal :=
  ans (st.runCore k 2 kPlain (accIns z fun c => c.setAccw a (shiftI (c.ac[a]).toInt c.ex.toInt)))

end Sys2Proof.Machine
end

