-- ==== Sys2Proof/Machine/HbAlu.lean ====
section
/-! DEFINITION. HB24: the ALU2, ALU3 and ALUI operations, `ADDI`, `MOVI` and `LDI` (15 R376–R378 and the sub-operation tables). -/

namespace Sys2Proof.Machine

/-- A two-operand operation with an integer result and its `DOV` condition (15 R378). -/
def aluInt (op : Word24 → Word24 → Int × Bool) (form : AluForm) (s : State) (c : CoreState) : Res :=
  match form.regs with
  | none => illegal
  | some (d, a, b) =>
    let r := op c.g[a] c.g[b]
    .done s { c := c.setInt d r.1 r.2 }

/-- A two-operand operation on bits, which leaves `DOV` alone. -/
def aluBits (op : Word24 → Word24 → Word24) (form : AluForm) (s : State) (c : CoreState) : Res :=
  match form.regs with
  | none => illegal
  | some (d, a, b) => .done s { c := c.setG d (op c.g[a] c.g[b]) }

/-- An immediate operation on bits. -/
def aluImm (op : Word24 → Word24 → Word24) (g : Fin 16) (i : BitVec 16) (s : State) (c : CoreState) : Res :=
  .done s { c := c.setG g (op c.g[g] (i.setWidth 24)) }

/-- A shift or bit operation by an immediate: i[15:5] must be 0 and the number at most 23 (15 R375, ALUI table). -/
def bitImm (op : Word24 → Nat → Word24) (g : Fin 16) (i : BitVec 16) (s : State) (c : CoreState) : Res :=
  if 23 < i.toNat then illegal else .done s { c := c.setG g (op c.g[g] i.toNat) }

/-- The exact signed sum and difference and whether they overflow 24 bits. -/
def addOp (a b : Word24) : Int × Bool := (a.toInt + b.toInt, !fits24 (a.toInt + b.toInt))
def subOp (a b : Word24) : Int × Bool := (a.toInt - b.toInt, !fits24 (a.toInt - b.toInt))

/-- The saturating sum and difference and whether they saturate. -/
def addsOp (a b : Word24) : Int × Bool := (sat24 (a.toInt + b.toInt), !fits24 (a.toInt + b.toInt))
def subsOp (a b : Word24) : Int × Bool := (sat24 (a.toInt - b.toInt), !fits24 (a.toInt - b.toInt))

/-- Shifts by s[4:0]; 24 to 31 give 0, and all sign bits for `SAR` (15 R378). -/
def shlOp (a b : Word24) : Word24 := a <<< (b.toNat % 32)
def shrOp (a b : Word24) : Word24 := a >>> (b.toNat % 32)
def sarOp (a b : Word24) : Word24 := a.sshiftRight (b.toNat % 32)

/-- Signed minimum and maximum. -/
def minOp (a b : Word24) : Word24 := if a.toInt ≤ b.toInt then a else b
def maxOp (a b : Word24) : Word24 := if a.toInt ≤ b.toInt then b else a

/-- `MOV` d, s: d := s (15 ALU2 0x0). -/
def execHbMov (k : Fin 19) (d s : Fin 16) (st : State) : Host.Outcome State Fault Refusal :=
  ans (st.runCore k 1 kPlain (pureIns fun c => c.setG d c.g[s]))

/-- `ADD` (15 ALU2 0x1, ALU3 0x00): `DOV` on signed overflow. -/
def execHbAdd (k : Fin 19) (f : AluForm) (st : State) : Host.Outcome State Fault Refusal :=
  ans (st.runCore k f.len kPlain (aluInt addOp f))

/-- `SUB` (15 ALU2 0x2, ALU3 0x01). -/
def execHbSub (k : Fin 19) (f : AluForm) (st : State) : Host.Outcome State Fault Refusal :=
  ans (st.runCore k f.len kPlain (aluInt subOp f))

/-- `AND` (15 ALU2 0x3, ALU3 0x02). -/
def execHbAnd (k : Fin 19) (f : AluForm) (st : State) : Host.Outcome State Fault Refusal :=
  ans (st.runCore k f.len kPlain (aluBits (· &&& ·) f))

/-- `OR` (15 ALU2 0x4, ALU3 0x03). -/
def execHbOr (k : Fin 19) (f : AluForm) (st : State) : Host.Outcome State Fault Refusal :=
  ans (st.runCore k f.len kPlain (aluBits (· ||| ·) f))

/-- `XOR` (15 ALU2 0x5, ALU3 0x04). -/
def execHbXor (k : Fin 19) (f : AluForm) (st : State) : Host.Outcome State Fault Refusal :=
  ans (st.runCore k f.len kPlain (aluBits (· ^^^ ·) f))

/-- `NOT` d, s: d := ~s (15 ALU2 0x6). -/
def execHbNot (k : Fin 19) (d s : Fin 16) (st : State) : Host.Outcome State Fault Refusal :=
  ans (st.runCore k 1 kPlain (pureIns fun c => c.setG d (~~~ c.g[s])))

/-- `NEG` d, s: d := −s (15 ALU2 0x7); `DOV` on overflow. -/
def execHbNeg (k : Fin 19) (d s : Fin 16) (st : State) : Host.Outcome State Fault Refusal :=
  ans (st.runCore k 1 kPlain (pureIns fun c => c.setInt d (-(c.g[s]).toInt) (!fits24 (-(c.g[s]).toInt))))

/-- `SHL` (15 ALU2 0x8, ALU3 0x05). -/
def execHbShl (k : Fin 19) (f : AluForm) (st : State) : Host.Outcome State Fault Refusal :=
  ans (st.runCore k f.len kPlain (aluBits shlOp f))

/-- `SHR` (15 ALU2 0x9, ALU3 0x06). -/
def execHbShr (k : Fin 19) (f : AluForm) (st : State) : Host.Outcome State Fault Refusal :=
  ans (st.runCore k f.len kPlain (aluBits shrOp f))

/-- `SAR` (15 ALU2 0xA, ALU3 0x07). -/
def execHbSar (k : Fin 19) (f : AluForm) (st : State) : Host.Outcome State Fault Refusal :=
  ans (st.runCore k f.len kPlain (aluBits sarOp f))

/-- `ADDS` (15 ALU2 0xB, ALU3 0x08): saturates and then sets `DOV`. -/
def execHbAdds (k : Fin 19) (f : AluForm) (st : State) : Host.Outcome State Fault Refusal :=
  ans (st.runCore k f.len kPlain (aluInt addsOp f))

/-- `SUBS` (15 ALU2 0xC, ALU3 0x09). -/
def execHbSubs (k : Fin 19) (f : AluForm) (st : State) : Host.Outcome State Fault Refusal :=
  ans (st.runCore k f.len kPlain (aluInt subsOp f))

/-- `MIN` (15 ALU2 0xD, ALU3 0x0A), signed. -/
def execHbMin (k : Fin 19) (f : AluForm) (st : State) : Host.Outcome State Fault Refusal :=
  ans (st.runCore k f.len kPlain (aluBits minOp f))

/-- `MAX` (15 ALU2 0xE, ALU3 0x0B), signed. -/
def execHbMax (k : Fin 19) (f : AluForm) (st : State) : Host.Outcome State Fault Refusal :=
  ans (st.runCore k f.len kPlain (aluBits maxOp f))

/-- `ABS` d, s: d := sat24(|s|) (15 ALU2 0xF). -/
def execHbAbs (k : Fin 19) (d s : Fin 16) (st : State) : Host.Outcome State Fault Refusal :=
  ans (st.runCore k 1 kPlain
    (pureIns fun c => c.setInt d (sat24 ((c.g[s]).toInt.natAbs : Int)) (!fits24 ((c.g[s]).toInt.natAbs : Int))))

/-- `MUL`: bits [23:0] of the signed product (15 ALU3 0x0C). -/
def execHbMul (k : Fin 19) (d a b z : Fin 16) (st : State) : Host.Outcome State Fault Refusal :=
  ans (st.runCore k 2 kPlain (aluBits (fun x y => word (x.toInt * y.toInt)) (.three d a b z)))

/-- `MULH`: bits [47:24] of the signed product (15 ALU3 0x0D). -/
def execHbMulh (k : Fin 19) (d a b z : Fin 16) (st : State) : Host.Outcome State Fault Refusal :=
  ans (st.runCore k 2 kPlain (aluBits (fun x y => word (x.toInt * y.toInt / 2 ^ 24)) (.three d a b z)))

/-- `MULHU`: bits [47:24] of the unsigned product (15 ALU3 0x0E). -/
def execHbMulhu (k : Fin 19) (d a b z : Fin 16) (st : State) : Host.Outcome State Fault Refusal :=
  ans (st.runCore k 2 kPlain (aluBits (fun x y => BitVec.ofNat 24 (x.toNat * y.toNat / 2 ^ 24)) (.three d a b z)))

/-- `ADDI` g, #i: g := g + sx24(i); `DOV` on overflow (15 R378). -/
def execHbAddi (k : Fin 19) (g : Fin 16) (f : AddiForm) (st : State) : Host.Outcome State Fault Refusal :=
  ans (st.runCore k f.len kPlain
    (pureIns fun c => c.setInt g (addOp c.g[g] f.imm).1 (addOp c.g[g] f.imm).2))

/-- `MOVI` g, #i: g := sx24(i). -/
def execHbMovi (k : Fin 19) (g : Fin 16) (i : BitVec 8) (st : State) : Host.Outcome State Fault Refusal :=
  ans (st.runCore k 1 kPlain (pureIns fun c => c.setG g (i.signExtend 24)))

/-- `LDI` g, #i: g := i. -/
def execHbLdi (k : Fin 19) (g : Fin 16) (i : Word24) (st : State) : Host.Outcome State Fault Refusal :=
  ans (st.runCore k 2 kPlain (pureIns fun c => c.setG g i))

/-- `ANDI` (15 ALUI 0x0). -/
def execHbAndi (k : Fin 19) (g : Fin 16) (i : BitVec 16) (st : State) : Host.Outcome State Fault Refusal :=
  ans (st.runCore k 2 kPlain (aluImm (· &&& ·) g i))

/-- `ORI` (15 ALUI 0x1). -/
def execHbOri (k : Fin 19) (g : Fin 16) (i : BitVec 16) (st : State) : Host.Outcome State Fault Refusal :=
  ans (st.runCore k 2 kPlain (aluImm (· ||| ·) g i))

/-- `XORI` (15 ALUI 0x2). -/
def execHbXori (k : Fin 19) (g : Fin 16) (i : BitVec 16) (st : State) : Host.Outcome State Fault Refusal :=
  ans (st.runCore k 2 kPlain (aluImm (· ^^^ ·) g i))

/-- `SHLI` (15 ALUI 0x3). -/
def execHbShli (k : Fin 19) (g : Fin 16) (i : BitVec 16) (st : State) : Host.Outcome State Fault Refusal :=
  ans (st.runCore k 2 kPlain (bitImm (fun w n => w <<< n) g i))

/-- `SHRI` (15 ALUI 0x4). -/
def execHbShri (k : Fin 19) (g : Fin 16) (i : BitVec 16) (st : State) : Host.Outcome State Fault Refusal :=
  ans (st.runCore k 2 kPlain (bitImm (fun w n => w >>> n) g i))

/-- `SARI` (15 ALUI 0x5). -/
def execHbSari (k : Fin 19) (g : Fin 16) (i : BitVec 16) (st : State) : Host.Outcome State Fault Refusal :=
  ans (st.runCore k 2 kPlain (bitImm (fun w n => w.sshiftRight n) g i))

/-- `BSET`: g[i] := 1 (15 ALUI 0x6). -/
def execHbBset (k : Fin 19) (g : Fin 16) (i : BitVec 16) (st : State) : Host.Outcome State Fault Refusal :=
  ans (st.runCore k 2 kPlain (bitImm (fun w n => w ||| BitVec.twoPow 24 n) g i))

/-- `BCLR`: g[i] := 0 (15 ALUI 0x7). -/
def execHbBclr (k : Fin 19) (g : Fin 16) (i : BitVec 16) (st : State) : Host.Outcome State Fault Refusal :=
  ans (st.runCore k 2 kPlain (bitImm (fun w n => w &&& ~~~ (BitVec.twoPow 24 n)) g i))

/-- `BTGL`: g[i] := ~g[i] (15 ALUI 0x8). -/
def execHbBtgl (k : Fin 19) (g : Fin 16) (i : BitVec 16) (st : State) : Host.Outcome State Fault Refusal :=
  ans (st.runCore k 2 kPlain (bitImm (fun w n => w ^^^ BitVec.twoPow 24 n) g i))

end Sys2Proof.Machine
end

