-- ==== Sys2Proof/Machine/HbSys.lean ====
section
/-! DEFINITION. HB24: modes, traps, repeats, special registers, I/O and events (15 R382, R383, R386–R388, R392–R395, R398; 16 R403–R407,
R421), and the core's own events: an interrupt line, a spent cycle budget, the end of a wait. -/

namespace Sys2Proof.Machine

/-- `NOP`; an encoding that no table defines raises the illegal-instruction exception (15 R375). -/
def execHbNop (k : Fin 19) (f : NopForm) (st : State) : Host.Outcome State Fault Refusal :=
  ans (match f with
    | .plain => st.runCore k 1 kPlain (pureIns id)
    | .undefined long => st.runCore k (if long then 2 else 1) kPlain fun _ _ => illegal)

/-- Writes the mode bits of st with the mode-change shadow (15 R382). -/
def modeWrite (g : BitVec 4 → BitVec 4) (s : State) (c : CoreState) : Res :=
  let v := g (modeBits c.st)
  .done s { c := { c with st := (c.st &&& 0xFFFFF0#24) ||| v.setWidth 24 }, mode := true }

/-- `SETM` #b: st[3:0] := st[3:0] | b; b[0] and b[1] are privileged (15 R383). -/
def execHbSetm (k : Fin 19) (b : BitVec 4) (st : State) : Host.Outcome State Fault Refusal :=
  ans (st.runCore k 1 kSlot fun s c =>
    if c.user ∧ b &&& 3#4 ≠ 0 then .fault vPriv none else modeWrite (· ||| b) s c)

/-- `CLRM` #b: st[3:0] := st[3:0] & ~b. -/
def execHbClrm (k : Fin 19) (b : BitVec 4) (st : State) : Host.Outcome State Fault Refusal :=
  ans (st.runCore k 1 kSlot fun s c =>
    if c.user ∧ b &&& 3#4 ≠ 0 then .fault vPriv none else modeWrite (· &&& ~~~ b) s c)

/-- `BRK`: the breakpoint trap, with pc the next instruction, or the outcome of the transfer in a delay slot (16 R403, R409). -/
def execHbBrk (k : Fin 19) (st : State) : Host.Outcome State Fault Refusal :=
  ans (st.runCore k 1 kSlot fun s c => .done s { c := c, trap := some (vBrk, 0) })

/-- `TRAP` #n: the trap exception with n in `EXC_INFO` (16 R403). -/
def execHbTrap (k : Fin 19) (n : BitVec 8) (z : BitVec 16) (st : State) : Host.Outcome State Fault Refusal :=
  ans (st.runCore k 2 kNone fun s c =>
    if z = 0 then .done s { c := c, trap := some (vTrap, n.toNat) } else illegal)

/-- The count of a repeat form: immediate, or g[15:0] for `REPI`; none where the form's
reserved field is set; a field that the form does not use is not looked at (15 R375, R377, R386). -/
def repCount (c : CoreState) : RepForm → Option Nat
  | .short n => some n.toNat
  | .imm n _ z => if z = 0 then some n.toNat else none
  | .reg g _ z => if z = 0 then some ((c.g[g]).toNat % 2 ^ 16) else none

/-- `REP` #n: the next instruction runs n times, n from 1 to 1 023 (15 R386). `REP` has no register form. -/
def execHbRep (k : Fin 19) (f : RepForm) (st : State) : Host.Outcome State Fault Refusal :=
  ans (st.runCore k f.len kNone fun s c =>
    match f, repCount c f with
    | .reg .., _ => illegal
    | _, none => illegal
    | _, some n =>
      if n = 0 ∨ 1023 < n then illegal
      else .done s { c := { c with rep := some { left := n, done := 0, prefixAt := c.pc } } })

/-- `REPI`: lc := n, `RPT` := (n ≠ 0), and the next instruction repeats under them (15 R388). -/
def execHbRepi (k : Fin 19) (f : RepForm) (st : State) : Host.Outcome State Fault Refusal :=
  ans (st.runCore k f.len kNone fun s c =>
    match repCount c f with
    | none => illegal
    | some n =>
      .done s { c := { c with lc := BitVec.ofNat 16 n, st := wbit c.st stRPT (n ≠ 0), repi := some (c.pc, c.lc) } })

/-- The register and the I/O address of an `IN` or `OUT` form; none where a reserved field is set. -/
def ioForm (c : CoreState) : IoForm → Option (Fin 16 × Nat)
  | .ptr g p o => some (g, ((c.g[preg p] + o.signExtend 24).toNat) % 2 ^ 16)
  | .abs g io z => if z = 0 then some (g, io.toNat) else none

/-- `IN` g, [io] with the load delay; privileged (15 R381, R383, R397, R398). -/
def execHbIn (k : Fin 19) (f : IoForm) (st : State) : Host.Outcome State Fault Refusal :=
  ans (st.runCore k 2 kPlain fun s c =>
    match ioForm c f with
    | none => illegal
    | some (g, a) =>
      if c.user then .fault vPriv none
      else
        let r := s.ioIn k c a
        .done r.2.2 { c := r.2.1, load := some (g, r.1), cycles := (ioHome k a).2 })

/-- `OUT` [io], g: a posted write; privileged. -/
def execHbOut (k : Fin 19) (f : IoForm) (st : State) : Host.Outcome State Fault Refusal :=
  ans (st.runCore k 2 kPlain fun s c =>
    match ioForm c f with
    | none => illegal
    | some (g, a) =>
      if c.user then .fault vPriv none
      else
        let r := s.ioOut k c a c.g[g]
        .done r.2 { c := r.1, cycles := 2 })

/-- Bits of an accumulator from `lo` on, replaced. -/
def putAcc (a : Acc) (lo n : Nat) (v : Nat) : Acc :=
  BitVec.ofNat 56 (a.toNat / 2 ^ (lo + n) * 2 ^ (lo + n) + v % 2 ^ n * 2 ^ lo + a.toNat % 2 ^ lo)

/-- A special register read by `MOVS` (15 special register numbers); none for a reserved number. -/
def spRead (c : CoreState) (n : Nat) : Option Word24 :=
  if n < 0x04 then some (((vgetD c.ac n 0).extractLsb' 48 8).signExtend 24)
  else if n < 0x08 then some ((vgetD c.ac (n - 4) 0).extractLsb' 24 24)
  else if n < 0x0C then some ((vgetD c.ac (n - 8) 0).extractLsb' 0 24)
  else if n < 0x10 then some (vgetD c.m (n - 0x0C) 0)
  else if n = 0x10 then some (c.lc.setWidth 24)
  else if n = 0x11 then some (c.ex.signExtend 24)
  else if n = 0x12 then some c.st
  else if n = 0x13 then some (w24 c.pc)
  else none

/-- A special register written by `MOVS`; none for pc and the reserved numbers. In user mode st keeps `IE` and `U` (15 R382). -/
def spWrite (c : CoreState) (n : Nat) (v : Word24) : Option CoreState :=
  if n < 0x04 then some { c with ac := vupdN c.ac n (fun a => putAcc a 48 8 v.toNat) }
  else if n < 0x08 then some { c with ac := vupdN c.ac (n - 4) (fun a => putAcc a 24 24 v.toNat) }
  else if n < 0x0C then some { c with ac := vupdN c.ac (n - 8) (fun a => putAcc a 0 24 v.toNat) }
  else if n < 0x10 then some { c with m := vupdN c.m (n - 0x0C) (fun _ => v) }
  else if n = 0x10 then some { c with lc := v.setWidth 16 }
  else if n = 0x11 then some { c with ex := v.setWidth 6 }
  else if n = 0x12 then
    let w := v &&& stMask
    some { c with st := if c.user then (w &&& 0xFFFFFC#24) ||| (c.st &&& 3#24) else w }
  else none

/-- `MOVS`: S := g (00) or g := S (01) (15 R377, R382). A write of st has the mode-change shadow, and no repeat admits it (15 R387). -/
def execHbMovs (k : Fin 19) (n : Fin 64) (dir : Fin 4) (g : Fin 16) (z : BitVec 12) (st : State) : Host.Outcome State Fault Refusal :=
  ans (st.runCore k 2 (if dir = 0 ∧ n = 0x12 then kSlot else kPlain) fun s c =>
    if z ≠ 0 then illegal
    else
      match dir.val with
      | 0 =>
        match spWrite c n.val c.g[g] with
        | none => illegal
        | some c1 => .done s { c := c1, mode := decide (n = 0x12) }
      | 1 =>
        match spRead c n.val with
        | none => illegal
        | some v => .done s { c := c.setG g v }
      | _ => illegal)

/-- An event from core `k` reaches core `j` when their seam carries it (15 R392, 17 R435, R437). -/
def State.sendEvent (k j : Fin 19) (line : Bool) (s : State) : State :=
  if k ≠ j ∧ s.seamBroken (36 + k.val) (36 + j.val) then s.seamDrop (36 + k.val) (36 + j.val)
  else
    let c := s.cor.core[j]
    let d : CoreState := { c with latch := true }
    s.setCore j (if line then d.signal 1 else d)

/-- Sends the events of a `SEV` mask: bits 15..0 name logical deputies, bit 16 the Overman (15 R392). From the Overman, a `SEV` signals
line 1 of the deputy as well (16 interrupt lines). -/
def State.sev (k : Fin 19) (mask : Nat) (s : State) : State :=
  let s1 := (List.range 16).foldl (fun t ld =>
    let p := vgetD t.fab.ldMap ld 99
    if bit mask ld then (if h : p < 18 then t.sendEvent k ⟨p, by omega⟩ (k == overman) else t) else t) s
  if bit mask 16 then s1.sendEvent k overman false else s1

/-- The mask of a `SEV` form; none where a reserved field is set. -/
def sevMask (c : CoreState) : SevForm → Option Nat
  | .imm m z => if z = 0 then some m.toNat else none
  | .reg g z => if z = 0 then some ((c.g[g]).toNat % 2 ^ 17) else none

/-- `SEV`; privileged (15 R383, R392). -/
def execHbSev (k : Fin 19) (f : SevForm) (st : State) : Host.Outcome State Fault Refusal :=
  ans (st.runCore k 2 kSlot fun s c =>
    match sevMask c f with
    | none => illegal
    | some m =>
      if c.user then .fault vPriv none
      else
        let s1 := (s.setCore k c).sev k m
        .done s1 { c := s1.cor.core[k] })

/-- TCNT has reached T (15 R394). -/
def State.reached (s : State) (t : Nat) : Bool := decide ((s.tcnt + 2 ^ 48 - t % 2 ^ 48) % 2 ^ 48 < 2 ^ 47)

/-- The 48-bit value of a register pair. -/
def pairTime (c : CoreState) (q : Fin 4) : Nat :=
  (c.g[2 * q.val]'(by omega)).toNat + (c.g[2 * q.val + 1]'(by omega)).toNat * 2 ^ 24

/-- `WFE`; privileged (15 R383, R392). -/
def execHbWfe (k : Fin 19) (st : State) : Host.Outcome State Fault Refusal :=
  ans (st.runCore k 1 kNone fun s c =>
    if c.user then .fault vPriv none
    else if c.latch then .done s { c := { c with latch := false } }
    else .done s { c := { c with wait := some .event, waitAt := s.clk.up }, stay := true, cycles := 0 })

/-- `WAITT`; privileged (15 R394). -/
def execHbWaitt (k : Fin 19) (q : Fin 4) (z : Nat) (st : State) : Host.Outcome State Fault Refusal :=
  ans (st.runCore k 2 kNone fun s c =>
    if z ≠ 0 then illegal
    else if c.user then .fault vPriv none
    else if s.reached (pairTime c q) then .done s { c := c }
    else .done s { c := { c with wait := some (.time (pairTime c q)), waitAt := s.clk.up }, stay := true, cycles := 0 })

/-- `WFET`: the event writes 1 to xd and clears the latch, T writes 0; privileged (15 R394). -/
def execHbWfet (k : Fin 19) (q : Fin 4) (xd : Fin 8) (z : Nat) (st : State) : Host.Outcome State Fault Refusal :=
  ans (st.runCore k 2 kNone fun s c =>
    if z ≠ 0 then illegal
    else if c.user then .fault vPriv none
    else if c.latch then .done s { c := { c.setG (xreg xd) 1 with latch := false } }
    else if s.reached (pairTime c q) then .done s { c := c.setG (xreg xd) 0 }
    else .done s { c := { c with wait := some (.either (pairTime c q) xd.val), waitAt := s.clk.up }, stay := true, cycles := 0 })

/-- A core after its wait has ended, with pc after the waiting instruction; none while the wait stands (15 R392, R394). -/
def State.released (s : State) (c : CoreState) : Option CoreState :=
  match c.wait with
  | none => none
  | some .event => if c.latch then some { c with latch := false, wait := none, pc := c.pc + 1 } else none
  | some (.time t) => if s.reached t then some { c with wait := none, pc := c.pc + 2 } else none
  | some (.either t xd) =>
    if c.latch then some { c with latch := false, wait := none, pc := c.pc + 2, g := vupdN c.g xd (fun _ => 1) }
    else if s.reached t then some { c with wait := none, pc := c.pc + 2, g := vupdN c.g xd (fun _ => 0) }
    else none

/-- `WAIT_RELEASE`: a waiting core resumes when its event or its time has come, and goes on waiting otherwise (15 R392–R395). -/
def execEvWaitRelease (k : Fin 19) (s : State) : Host.Outcome State Fault Refusal :=
  let c := s.cor.core[k]
  ans (if c.lockup then s
    else
      match s.released c with
      | some c1 => (s.setCore k { c1 with cycles := c1.cycles + c.waited s.clk.up }).takeIrq k
      | none => s)

/-- `INTERRUPT`: the lines set their bits, and the core takes the first one pending and enabled at the boundary (16 R404, R405). Lines
4–15 of a deputy are never pending. -/
def execEvInterrupt (k : Fin 19) (lines : BitVec 16) (s : State) : Host.Outcome State Fault Refusal :=
  let c := s.cor.core[k]
  ans (if c.lockup then s
    else (s.setCore k { c with intPend := c.intPend ||| (if k = overman then lines else lines &&& 0xF#16) }).takeIrq k)

/-- The length in parcels of the instruction at an address (15 R375). -/
def CoreState.lenAt (c : CoreState) (a : Nat) : Nat := if (sread 0 c.imem a).toNat / 2 ^ 14 = 3 then 2 else 1

/-- `KCYC_LIM_EXPIRY`: the spent user budget raises vector 7 before the next instruction (16 R421). -/
def execEvKcycLimExpiry (k : Fin 19) (s : State) : Host.Outcome State Fault Refusal :=
  let c := s.cor.core[k]
  ans (if c.kexp && !c.lockup then s.fault k { c with kexp := false } (c.pc + c.lenAt c.pc) c.pc vBudget none 0 else s)

end Sys2Proof.Machine
end

