-- ==== Sys2Proof/Machine/HbDecode.lean ====
section
/-! DEFINITION. HB24: what a core executes where its memory says so: the forms of 15 R375–R377 read from one or two parcels, and the step of a
core that fetches at its pc. The rows of the opcode table give a core single instructions; a loop kernel runs by this step (16 R422). -/

namespace Sys2Proof.Machine

/-- What an instruction does to the state. -/
abbrev HbMeaning := Fin 19 → State → Host.Outcome State Fault Refusal

/-- Bits [lo + n − 1 : lo] of a parcel as a number below 2^n. -/
def fld (v lo n : Nat) : Nat := v / 2 ^ lo % 2 ^ n

/-- The same as a register field or code of 2, 3, 4, 5 and 6 bits. -/
def f2 (v lo : Nat) : Fin 4 := Fin.ofNat 4 (v / 2 ^ lo)
def f3 (v lo : Nat) : Fin 8 := Fin.ofNat 8 (v / 2 ^ lo)
def f4 (v lo : Nat) : Fin 16 := Fin.ofNat 16 (v / 2 ^ lo)
def f5 (v lo : Nat) : Fin 32 := Fin.ofNat 32 (v / 2 ^ lo)
def f6 (v lo : Nat) : Fin 64 := Fin.ofNat 64 (v / 2 ^ lo)
def f7 (v lo : Nat) : Fin 128 := Fin.ofNat 128 (v / 2 ^ lo)

/-- An encoding that no table defines (15 R375). -/
def hbUndefined (long : Bool) : HbMeaning := fun k => execHbNop k (.undefined long)

/-- The ALU2 operations (15 "ALU2 ops"). -/
def hbAlu2 (op : Nat) (d s : Fin 16) : HbMeaning := fun k =>
  match op with
  | 0 => execHbMov k d s | 1 => execHbAdd k (.two d s) | 2 => execHbSub k (.two d s) | 3 => execHbAnd k (.two d s)
  | 4 => execHbOr k (.two d s) | 5 => execHbXor k (.two d s) | 6 => execHbNot k d s | 7 => execHbNeg k d s
  | 8 => execHbShl k (.two d s) | 9 => execHbShr k (.two d s) | 10 => execHbSar k (.two d s) | 11 => execHbAdds k (.two d s)
  | 12 => execHbSubs k (.two d s) | 13 => execHbMin k (.two d s) | 14 => execHbMax k (.two d s) | _ => execHbAbs k d s

/-- The ALU3 operations (15 "ALU3 ops"). -/
def hbAlu3 (op : Nat) (d a b z : Fin 16) : HbMeaning := fun k =>
  match op with
  | 0 => execHbAdd k (.three d a b z) | 1 => execHbSub k (.three d a b z) | 2 => execHbAnd k (.three d a b z)
  | 3 => execHbOr k (.three d a b z) | 4 => execHbXor k (.three d a b z) | 5 => execHbShl k (.three d a b z)
  | 6 => execHbShr k (.three d a b z) | 7 => execHbSar k (.three d a b z) | 8 => execHbAdds k (.three d a b z)
  | 9 => execHbSubs k (.three d a b z) | 10 => execHbMin k (.three d a b z) | 11 => execHbMax k (.three d a b z)
  | 12 => execHbMul k d a b z | 13 => execHbMulh k d a b z | 14 => execHbMulhu k d a b z
  | _ => hbUndefined true k

/-- The ALUI operations (15 "ALUI ops"). -/
def hbAlui (op : Nat) (g : Fin 16) (i : BitVec 16) : HbMeaning := fun k =>
  match op with
  | 0 => execHbAndi k g i | 1 => execHbOri k g i | 2 => execHbXori k g i | 3 => execHbShli k g i | 4 => execHbShri k g i
  | 5 => execHbSari k g i | 6 => execHbBset k g i | 7 => execHbBclr k g i | 8 => execHbBtgl k g i
  | _ => hbUndefined true k

/-- The short MAC form (15 "MAC ops"). -/
def hbMacOp (op : Nat) (a : Fin 4) (s t : Fin 8) : HbMeaning := fun k =>
  match op with
  | 0 => execHbMac k a s t | 1 => execHbMsu k a s t | 2 => execHbMpy k a s t | 3 => execHbMacr k a s t | 4 => execHbMsur k a s t
  | 5 => execHbMpyr k a s t
  | _ => hbUndefined false k

/-- The ACC operations (15 "ACC ops"). -/
def hbAcc (op : Nat) (a b : Fin 4) (g : Fin 16) (sh z : Fin 32) : HbMeaning := fun k =>
  match op with
  | 0 => execHbClr k a z | 1 => execHbMova k a b z | 2 => execHbAdda k a b z | 3 => execHbSuba k a b z | 4 => execHbNega k a b z
  | 5 => execHbAbsa k a b z | 6 => execHbShla k a sh z | 7 => execHbSara k a sh z | 8 => execHbRnd k a z | 9 => execHbSata k a z
  | 10 => execHbNorm k a z | 11 => execHbExp k g a z | 12 => execHbShi k g a z | 13 => execHbLda k a g z | 14 => execHbLdal k a g z
  | 15 => execHbScale k a z
  | _ => hbUndefined true k

/-- The system, mode, stack and jump groups, whose bits [15:12] are 0 (15 R376). -/
def hbSystem (v : Nat) : HbMeaning := fun k =>
  match fld v 4 8, f4 v 0 with
  | 0x00, n =>
    match n.val with
    | 0 => execHbNop k .plain | 1 => execHbRet k | 2 => execHbReti k | 3 => execHbWfe k | 4 => execHbBrk k
    | _ => hbUndefined false k
  | 0x10, n => execHbSetm k (BitVec.ofNat 4 n.val)
  | 0x20, n => execHbClrm k (BitVec.ofNat 4 n.val)
  | 0x30, g => execHbPush k g
  | 0x40, g => execHbPop k g
  | 0x50, g => execHbJr k g
  | 0x60, g => execHbCallr k g
  | _, _ => hbUndefined false k

/-- A 16-bit form (15 R376). -/
def hbShort (v : Nat) : HbMeaning := fun k =>
  match fld v 12 4 with
  | 0 => hbSystem v k
  | 1 => hbAlu2 (fld v 0 4) (f4 v 8) (f4 v 4) k
  | 2 => execHbAddi k (f4 v 8) (.short (BitVec.ofNat 8 v))
  | 3 => execHbMovi k (f4 v 8) (BitVec.ofNat 8 v)
  | 4 | 5 => execHbLd k (.disp (f3 v 10) (f3 v 7) (BitVec.ofNat 7 v))
  | 6 | 7 => execHbSt k (.disp (f3 v 10) (f3 v 7) (BitVec.ofNat 7 v))
  | 8 => execHbCbEq k (.short (f3 v 9) (f3 v 6) (BitVec.ofNat 6 v))
  | 9 => execHbCbNe k (.short (f3 v 9) (f3 v 6) (BitVec.ofNat 6 v))
  | 10 =>
    if fld v 11 1 = 0 then execHbCbz k (.short (f3 v 8) (BitVec.ofNat 8 v)) else execHbCbnz k (.short (f3 v 8) (BitVec.ofNat 8 v))
  | _ =>
    if fld v 11 1 = 0 then hbMacOp (fld v 8 3) (f2 v 6) (f3 v 3) (f3 v 0) k
    else
      match fld v 9 2 with
      | 0 => execHbLd k (.post (f3 v 6) (f3 v 3) (f3 v 0))
      | 1 => execHbSt k (.post (f3 v 6) (f3 v 3) (f3 v 0))
      | 2 => execHbRep k (.short (BitVec.ofNat 9 v))
      | _ => execHbRepi k (.short (BitVec.ofNat 9 v))

/-- The compare and branch forms of majors 0x03 to 0x08 (15 R377). -/
def hbCompare (m f q : Nat) : HbMeaning := fun k =>
  let a := f4 f 4
  let b := f4 f 0
  let o := BitVec.ofNat 16 q
  match m with
  | 3 => execHbCbEq k (.long a b o) | 4 => execHbCbNe k (.long a b o) | 5 => execHbCbLt k a b o | 6 => execHbCbGe k a b o
  | 7 => execHbCbLtu k a b o | _ => execHbCbGeu k a b o

/-- `REP` and `REPI` of major 0x29. -/
def hbRepeat (f q : Nat) : HbMeaning := fun k =>
  let n := BitVec.ofNat 16 q
  let form : RepForm := if fld f 6 1 = 0 then .imm n (f4 f 0) (f2 f 4) else .reg (f4 f 0) n (f2 f 4)
  if fld f 7 1 = 0 then execHbRep k form else execHbRepi k form

/-- A 32-bit form: the major code, the field f of the first parcel, the second parcel (15 R377). -/
def hbLong (m f q : Nat) : HbMeaning := fun k =>
  let h := BitVec.ofNat 16 q
  match m with
  | 0x00 => execHbJ k (BitVec.ofNat 24 (65536 * f + q))
  | 0x01 => execHbCall k (BitVec.ofNat 24 (65536 * f + q))
  | 0x02 => if fld f 7 1 = 0 then execHbIn k (.ptr (f4 f 3) (f3 f 0) h) else execHbOut k (.ptr (f4 f 3) (f3 f 0) h)
  | 0x09 => if fld f 0 1 = 0 then execHbCbz k (.long (f4 f 4) h (f3 f 1)) else execHbCbnz k (.long (f4 f 4) h (f3 f 1))
  | 0x0A => execHbAddi k (f4 f 4) (.long (BitVec.ofNat 20 (65536 * fld f 0 4 + q)))
  | 0x0B => hbAlu3 f (f4 q 12) (f4 q 8) (f4 q 4) (f4 q 0) k
  | 0x0C => hbAlui (fld f 0 4) (f4 f 4) h k
  | 0x0D => execHbMovs k (f6 f 2) (f2 f 0) (f4 q 0) (BitVec.ofNat 12 (q / 16))
  | 0x0E => if fld f 7 1 = 0 then execHbLd k (.off (f4 f 3) (f3 f 0) h) else execHbSt k (.off (f4 f 3) (f3 f 0) h)
  | 0x0F => if fld f 7 1 = 0 then execHbIn k (.abs (f4 f 3) h (f3 f 0)) else execHbOut k (.abs (f4 f 3) h (f3 f 0))
  | 0x20 => hbAcc (fld f 2 6) (f2 f 0) (f2 q 14) (f4 q 10) (f5 q 0) (f5 q 5) k
  | 0x21 => execHbMacm k (f3 f 5) (f2 f 3) (f3 f 0) (f3 q 13) (f3 q 10) (f3 q 7) (f7 q 0)
  | 0x22 => execHbBmov k (f3 f 5) (f3 f 2) (f3 q 3) (f3 q 0) (fld f 0 2 + fld q 6 10) none
  | 0x23 => execHbBexp k (f3 f 5) (f3 f 2) (fld f 0 2 + q) none
  | 0x24 => execHbWaitt k (f2 f 6) (fld f 0 6 + q)
  | 0x25 => execHbWfet k (f2 f 6) (f3 f 0) (fld f 3 3 + q)
  | 0x26 => execHbSev k (.imm (BitVec.ofNat 17 (65536 * fld f 0 1 + q)) (f7 f 1))
  | 0x27 => execHbSev k (.reg (f4 f 4) (fld f 0 4 + q))
  | 0x28 => execHbTrap k (BitVec.ofNat 8 f) h
  | 0x29 => hbRepeat f q k
  | _ =>
    if 3 ≤ m ∧ m ≤ 8 then hbCompare m f q k
    else if 0x10 ≤ m ∧ m ≤ 0x1F then execHbLdi k (f4 m 0) (BitVec.ofNat 24 (65536 * f + q))
    else hbUndefined true k

/-- The instruction of a parcel and the one that follows it (15 R375): bits [15:14] of 11 open a 32-bit form. -/
def hbDecode (a b : BitVec 16) : HbMeaning :=
  if a.toNat / 2 ^ 14 = 3 then hbLong (fld a.toNat 8 6) (fld a.toNat 0 8) b.toNat else hbShort a.toNat

/-- A core executes the instruction at its pc. -/
def State.hbStep (k : Fin 19) (s : State) : State :=
  let c := s.cor.core[k]
  match hbDecode (sread 0 c.imem c.pc) (sread 0 c.imem (c.pc + 1)) k s with
  | .next t => t
  | _ => s

/-- A core executes up to `n` instructions, while it runs in user mode (16 R421). -/
def State.hbUser (k : Fin 19) : Nat → State → State
  | 0, s => s
  | n + 1, s => if (s.cor.core[k]).st.getLsbD 1 && !(s.cor.core[k]).lockup then State.hbUser k n (s.hbStep k) else s

end Sys2Proof.Machine
end

