-- ==== Sys2Proof/Machine/KernelRun.lean ====
section
/-! DEFINITION. The call of a loop kernel (06 R143–R145; 16 R421–R424): the kernel's HB24 code runs in user mode on the deputy. -/

namespace Sys2Proof.Machine

/-- A kernel's header; zero figures for a slot without a verified kernel. -/
def State.kernelHdr (s : State) (k : Nat × Nat) : KernelHdr :=
  ((vgetD (vgetD s.ten.t k.1 {}).kslots k.2 {}).ver).getD { kid := 0, kcode := 0, kconst := 0, kentry := 0, kcyc := 0, kstate := 0, kver := 0 }

/-- A number of `n` bytes of an image, little-endian. -/
def imageNat (m : Mem) (at_ n : Nat) : Nat := leNat (sreads 0 m at_ n)

/-- Where a kernel lies on every deputy: its first parcel and its first constant, within the kernel areas (13 R337, 16 R416; log 52). -/
def kernelBase (k : Nat × Nat) (h : KernelHdr) : Nat × Nat :=
  let p := Config.kernelPlace k.1 k.2
  (0xC000 + p.1 % (16385 - h.kcode), 0xB000 + p.2 % (4097 - h.kconst))

/-- A kernel's code as instruction memory at a base (13 R335). -/
def kernelCode (m : Mem) (h : KernelHdr) (base : Nat) : ParcelMem :=
  (List.range h.kcode).filterMap (fun i =>
    let v := BitVec.ofNat 16 (imageNat m (64 + 2 * i) 2)
    if v = 0 then none else some (base + i, v))

/-- A kernel's constants (13 R335). -/
def kernelConsts (m : Mem) (h : KernelHdr) : List Word24 := (List.range h.kconst).map (fun i => w24 (imageNat m (64 + 2 * h.kcode + 3 * i) 3))

/-- The output record as a call finds it: the standard filter's result, `OCTL` 0 (16 R422). -/
def LoopOut.words (o : LoopOut) : List Word24 :=
  let cs := o.cstep.getD 0
  let ks := o.kstep.getD 0
  [0, w24 o.crate, w24 (o.crate / 2 ^ 24), w24 o.krate, w24 (o.krate / 2 ^ 24), w24 cs, w24 (cs / 2 ^ 24), w24 ks, w24 (ks / 2 ^ 24)]

/-- The core at a kernel's entry (16 R421, R422, R424): a first call finds its state area zeroed. Interrupts of the deputy are served without effect on
the call, so none is enabled here (log 52). -/
def CoreState.kernelEntry (c : CoreState) (k : Nat × Nat) (h : KernelHdr) (m : Mem) (slot : Nat) (first prevVoid : Bool) (std : LoopOut) : CoreState :=
  let b := kernelBase k h
  let area := 0x2000 + 0x100 * slot
  let rec_ := 0x4000 + 0x10 * slot
  let d1 := swrites 0 c.dmem b.2 (kernelConsts m h)
  let d2 := if first then swrites 0 d1 area (List.replicate h.kstate 0) else d1
  let x1 := bbool first + 2 * bbool prevVoid
  { c with
    g := #v[w24 slot, w24 x1, 0, 0, 0, 0, 0, 0, w24 rec_, w24 area, 0x4800, w24 b.2, 0, 0, 0, 0x4880]
    ac := Vector.replicate 4 0, m := Vector.replicate 4 0, lc := 0, ex := 0, st := 3, pc := b.1 + h.kentry
    dmem := swrites 0 d2 0x4800 std.words, imem := kernelCode m h b.1
    load := none, modeShadow := none, slot := none, rep := none, repi := none, wait := none, fresh := false, kexp := false, intEn := 0
    uw := #v[w24 b.1, w24 (b.1 + h.kcode - 1), w24 rec_, w24 (rec_ + 15), w24 b.2, w24 (b.2 + h.kconst - 1), w24 area, w24 (area + h.kstate - 1),
             0x4800, 0x487F]
    kcycLim := BitVec.ofNat 16 h.kcyc }

/-- A call that has ended by `TRAP` #0 (16 R423). -/
def CoreState.returned (c : CoreState) : Bool := !c.lockup && c.excCause.toNat % 32 == vTrap && c.excInfo == 0

/-- The core after a call: the runtime has its registers and its sp again, `DS` and `RPT` are clear; what the call left in data memory, the exception
registers, the windows and the cycle count stand (16 R423). A core in lockup stays as it is, its runtime in
instruction memory (16 R407). -/
def CoreState.afterKernel (c c0 : CoreState) (base : Nat) (consts : Nat) : CoreState :=
  if c.lockup then { c with imem := c0.imem }
  else
    { c0 with
      dmem := swrites 0 c.dmem base (sreads 0 c0.dmem base consts)
      excCause := c.excCause &&& 0x5F#7, excAddr := c.excAddr, excInfo := c.excInfo, dsr := c.dsr, uw := c.uw, kcycLim := c.kcycLim
      cycles := c.cycles }

/-- Reads 48 bits of data memory, low word first. -/
def CoreState.pair (c : CoreState) (a : Nat) : Nat := (c.rd a).toNat + 2 ^ 24 * (c.rd (a + 1)).toNat

/-- Calls a channel's kernel on a deputy core for a local slot (06 R143, 16 R422): the output record `OCTL`, `CRATE`, `KRATE`, carrier step, code step;
none where the call ends as a failure (16 R423). -/
def State.callKernel (core : Fin 19) (slot : Nat) (k : Nat × Nat) (first prevVoid : Bool) (std : LoopOut) (s : State) :
    Option (Nat × Nat × Nat × Nat × Nat) × State :=
  let h := s.kernelHdr k
  let c0 := s.cor.core[core]
  let t := (s.setCore core (c0.kernelEntry k h (vgetD (vgetD s.ten.t k.1 {}).kslots k.2 {}).copy slot first prevVoid std)).hbUser core (h.kcyc + 2)
  let c := t.cor.core[core]
  let u := t.setCore core (c.afterKernel c0 (kernelBase k h).2 h.kconst)
  (if c.returned then some ((c.rd 0x4800).toNat, c.pair 0x4801, c.pair 0x4803, c.pair 0x4805, c.pair 0x4807) else none, u)

/-- A kernel's output is within R145 and R423: `OCTL`, carrier rate within 60 kHz, code rate within 100 ppm of nominal. -/
def kernelOutputOk (sigid : Nat) (k : Int) (t : SigType) (o : Nat × Nat × Nat × Nat × Nat) : Bool :=
  let dev := sx 48 o.2.1 * 81840000 - sigOffset sigid k * 2 ^ 48
  let code := ((o.2.2.1 * 81840 : Nat) : Int) - t.dumpLen * 2 ^ 48
  decide (o.1 < 4) && decide (dev.natAbs ≤ 60000 * 2 ^ 48) && decide (code.natAbs * 10 ^ 6 ≤ 100 * t.dumpLen * 2 ^ 48)

end Sys2Proof.Machine
end

