-- ==== Sys2Proof/Machine/Channels.lean ====
section
/-! DEFINITION. Channels (06): default arm sets (R135), channel states, the deputy's loop update (R139–R149, 16 R418–R424), the code library
check (R128), what a boundary does with a channel's update, and the commands of group 0x06. -/

namespace Sys2Proof.Machine

/-! ### Arm sets -/

/-- An offset of n hundredths of the signal's d, in 1/256 chip: the rounding is not stated (log 6). -/
def offD (d : Nat) (n : Int) : Int := quotI (n * d * 256) 10000

/-- The default arm set (06 R135). -/
def defaultArms (narm : Nat) (t : SigType) : List Arm :=
  let p : Arm := {}
  let e : Arm := { aoff := offD t.d (-50) }
  let l : Arm := { aoff := offD t.d 50 }
  let n : Arm := { aoff := 1024, anoise := 1 }
  let d : Arm := { acomp := 1 }
  let ve : Arm := { aoff := offD t.d (-100) }
  let vl : Arm := { aoff := offD t.d 100 }
  let t2 : Arm := { aoff := offD t.d 200 }
  let t3 : Arm := { aoff := offD t.d 300 }
  let paired := t.partner.isSome
  match narm with
  | 0 => []
  | 1 => [p]
  | 2 => if paired then [p, d] else [p, n]
  | 3 => [p, e, l]
  | k => ((if paired then [p, e, l, d, n, ve, vl, t2] else [p, e, l, n, ve, vl, t2, t3]).take k)

/-- The default set of a channel that holds a signal, and the same in its update registers. -/
def ChanState.armed (c : ChanState) : ChanState :=
  match typeOf c.sigid with
  | none => c
  | some t =>
    let l := defaultArms c.narm t
    { c with arms := l, upd := { c.upd with uAoff := Vector.ofFn (fun i => bitsOf 16 ((l.getD (i.val + 1) {}).aoff)) } }

/-- A set keeps the rules of R135 for a type; the number of the first arm at fault. -/
def armsBad (t : Option SigType) (l : List Arm) : Option Nat :=
  (List.range l.length).find? (fun i =>
    let a := l.getD i {}
    (i == 0 && a != ({} : Arm)) || decide (a.aoff < -2048 ∨ 2048 < a.aoff) || (a.acomp == 1 && ((t.map (·.partner.isSome)).getD false == false)) ||
    (a.anoise == 1 && (decide (a.aoff.natAbs < 768) || (l.take i).any (fun x => x.anoise == 1))) ||
    (l.take i).any (fun x => x.aoff == a.aoff && x.acomp == a.acomp && x.amod == a.amod))

/-! ### Channel states -/

/-- What stays of a channel that gives up its signal: its slot, holder, loop parameters, kernel and stored entries. -/
def ChanState.idle (c : ChanState) : ChanState :=
  { dep := c.dep, slot := c.slot, narm := c.narm, bound := c.bound, owner := c.owner, loop := c.loop, loopStaged := c.loopStaged,
    kernel := c.kernel, kernelStaged := c.kernelStaged, kfirst := c.kfirst, kernelOld := c.kernelOld, kfirstOld := c.kfirstOld, entry := c.entry, before := c.before, dump := c.dump, dumpseq := c.dumpseq,
    pend := c.pend, dropDump := some true }

/-! ### The deputy's loop update -/

/-- Counts a failure of a kernel (06 R145): the eighth within 1 000 epochs has it unbound at the next boundary. -/
def State.kernelFailed (k : Nat × Nat) (s : State) : State :=
  let l := (k.1, k.2, s.ms) :: s.trk.kfails.filter (fun f => decide (s.ms < f.2.2 + 1000))
  let many := decide (8 ≤ (l.filter (fun f => f.1 == k.1 && f.2.1 == k.2)).length)
  { s with trk := { s.trk with kfails := l, kunbind := if many && !(s.trk.kunbind.contains k) then s.trk.kunbind ++ [k] else s.trk.kunbind } }

/-- The kernel's part (06 R143, R145; 16 R419, R422, R423): its output, or the standard one after a failure or a skip. It is the kernel that was bound
in the epoch whose dump this is (01 R18), while its code is still loaded. -/
def State.kernelOut (ld n slot : Nat) (core : Fin 19) (t : SigType) (std : LoopOut) (s : State) : LoopOut × State :=
  let c := s.chan n
  match c.kernelOld with
  | none => (std, s)
  | some k =>
    if (vgetD (vgetD s.ten.t k.1 {}).kslots k.2 {}).ver.isNone then (std, s)
    else if d2Ticks - 1637 < s.clk.tick % epochTicks then
      (std, { s with fab := { s.fab with kskip := vupdN s.fab.kskip ld (· + 1) } })
    else
      let r := s.callKernel core slot k c.kfirstOld (c.voids != 0) std
      let u := r.2.mapChan n (fun c => { c with kfirstOld := false, kfirst := c.kfirst && c.kernel != some k })
      match r.1 with
      | some o =>
        if kernelOutputOk c.sigid c.glok t o then
          ({ crate := o.2.1, krate := o.2.2.1, cstep := if bit o.1 0 then some o.2.2.2.1 else none,
             kstep := if bit o.1 1 then some o.2.2.2.2 else none }, u)
        else (std, u.kernelFailed k)
      | none => (std, u.kernelFailed k)

/-- Writes a channel's update registers and `COMMIT` (06 R138, R139). -/
def State.commitLoop (n : Nat) (o : LoopOut) (sec : Option Nat) (s : State) : State :=
  let t := s.mapChan n (fun c => { c with upd := { c.upd with
    uCrate := o.crate % 2 ^ 48, uKrate := o.krate % 2 ^ 48, uCstep := o.cstep.getD c.upd.uCstep, uKstep := o.kstep.getD c.upd.uKstep,
    uSec := (sec.map (· % 2 ^ 14)).getD c.upd.uSec } })
  t.writeCtrl n (w24 (1 + 2 * bbool o.cstep.isSome + 4 * bbool o.kstep.isSome + 16 * bbool sec.isSome))

/-- A dump's part of a local slot's work (06 R136, R140–R142, R148, R149): sums and averages, bit and secondary sync, the record, dwell counts and state,
the filters; and what is written to `U_SEC`. -/
def State.workDump (n : Nat) (t : SigType) (e : ChEntry) (s : State) : State × Option Nat :=
  let c := s.chan n
  let set := c.before
  let ds := dataSig c.sigid t
  let noise := e.noise set.arms
  let c1 := { c with demod := match dataArm t set.arms with | some i => c.demod.take ds.1 (e.armSum i) e.dumpseq | none => c.demod }
  let c2 := { c1 with
    demod := { c1.demod with sign := some (if (e.armSum 0).1 < 0 then -1 else 1, e.dumpseq) }
    bitsync := c1.demod.edge.isSome
    loops := (if c1.voids = 0 then c1.loops else c1.loops.gap).take (c1.ncoh t) (set.costas t && c1.demod.begins ds.2 e.dumpseq)
      { prompt := e.armSum 0, noise := noise } }
  let f := c2.findSecondary t e
  let s1 := s.mapChan n (fun _ => f.1.multipath set e)
  let s2 := s1.mapChan n (fun c => (({ c with disc := s1.record n t e }).afterDump e.empty).filtered t)
  let s3 := match (s2.chan n).demod.symbol s.trk.library ds.1 ds.2 set.nco.secidx noise e.dumpseq with
    | some v => s2.symbol n v e.dumpseq
    | none => s2
  (s3.mapChan n (ChanState.polarity (set.costas t) ds.1), f.2)

/-- An entry without a dump has no discriminators, and the filters hold their state (06 R140); a beam without elements still ends `TRACK`. -/
def State.workGap (n : Nat) (t : SigType) (e : ChEntry) (s : State) : State :=
  s.mapChan n (fun c =>
    let d := { c with disc := { c.disc with dflags := s.dflags n t e }, loops := c.loops.gap }
    if e.empty ∧ d.st = .track then d.enter .coast else d)

/-- The runtime's work on one local slot (16 R418): entry, record, filter, kernel, commit. A void entry carries no discriminators and gets no
update (06 R147, 09 R214); past D2 the commit comes too late, the epoch is void, and the channel's state stays as it is (06 R139). -/
def State.loopSlot (ld : Nat) (core : Fin 19) (s : State) (slot : Nat) : State :=
  match s.chanAt core.val slot with
  | none => s
  | some n =>
    let c := s.chan n
    let e := vgetD c.entry s.readBank {}
    match typeOf c.sigid with
    | none => s
    | some t =>
      if !c.setNow.on || !c.before.on || !e.valid || e.void then s
      else if d2Ticks < s.clk.tick % epochTicks then s.commitLoop n c.heldOut none
      else if c.voided then s
      else
        let w := if e.nodump then (s.workGap n t e, none) else s.workDump n t e
        let x := w.1.cor.core[core]
        let s1 := w.1.setCore core { x with dmem := swrites 0 x.dmem (0x4000 + 0x10 * slot) ((w.1.chan n).disc.words) }
        let k := s1.kernelOut ld n slot core t (w.1.chan n).heldOut
        let c1 := k.2.chan n
        let out := match c1.st, c1.trackRates with
          | .coast, some r => { crate := r.1, krate := r.2 }
          | _, _ => k.1
        let s2 := if c1.st = .track then k.2.mapChan n (fun c => { c with trackRates := some (out.crate, out.krate) }) else k.2
        s2.commitLoop n out w.2

/-- `DEPUTY_LOOP_UPDATE` (16 R418): from the D1 tick on, the runtime works the deputy's local slots in ascending order and passes its assay
reductions to the Overman. A deputy in lockup does nothing (16 R407). -/
def execEvDeputyLoopUpdate (ld : Fin 16) (_ : NoInput) (s0 : State) : Host.Outcome State Fault Refusal :=
  .next (
    if !s0.fabricUp ∨ s0.fab.active = none then s0
    else
      let s := s0.waitTo d1Ticks
      let phys := vgetD s.fab.ldMap ld 0
      if h : phys < 18 then
        let core : Fin 19 := ⟨phys, by omega⟩
        if (s.cor.core[core]).lockup then s
        else
          let s1 := (List.range 32).foldl (State.loopSlot ld core) s
          if s1.clk.tick % epochTicks ≤ d2Ticks then { s1 with fab := { s1.fab with reduced := vupdN s1.fab.reduced ld (fun _ => true) } } else s1
      else s)

/-! ### Timers -/

/-- `PULLIN_TIMEOUT` (06 channel states): 2 000 epochs in `PULLIN`. -/
def execEvPullinTimeout (ch : Fin 384) (s : State) : Host.Outcome State Fault Refusal :=
  .next (if (s.chan ch).st = .pullin ∧ 2000 ≤ (s.chan ch).cage then s.mapChan ch (ChanState.enter .lost) else s)

/-- `COAST_TIMEOUT` (06 R146): longer than `COAST_T` in `COAST`. -/
def execEvCoastTimeout (ch : Fin 384) (s : State) : Host.Outcome State Fault Refusal :=
  .next (if (s.chan ch).st = .coast ∧ (s.chan ch).loop.coastT ≤ (s.chan ch).cage then s.mapChan ch (ChanState.enter .lost) else s)

/-- A channel drew a code from the library (06 R128). -/
def ChanState.drewLibrary (c : ChanState) : Bool :=
  c.setNow.on && (((typeOf c.sigid).map (·.lib)).getD false || (c.secwipe && [0x13, 0x15, 0x24].contains (sigT c.sigid)))

/-- The channel-epochs that drew on a failed library are void. -/
def ChanState.libraryFailed (c : ChanState) : ChanState :=
  if c.drewLibrary then { c with voided := true, entry := c.entry.map (fun e => { e with void := true, valid := false }) } else c

/-- The image's and the loaded copy's CRC-32 (06 R128). -/
def libraryCrc (errors : Mem) : Nat := crc32 ((List.range 524288).map (libraryByte errors))

/-- Errors that the loaded copy takes: addresses and the bits that flip. -/
def upset (errors : Mem) (l : List (Nat × Byte)) : Mem := l.foldl (fun m x => if x.1 < 524288 then swrite 0 m x.1 (sread 0 m x.1 ^^^ x.2) else m) errors

/-- `CODE_LIBRARY_CHECK` (06 R128): `flips` are the errors that the copy has taken since the last command. Every 10 s the copy is checked: one that fails
the image's CRC is reloaded, with `FLT_ECC`, and the channel-epochs that drew on it are void. -/
def execEvCodeLibraryCheck (flips : List (Nat × Byte)) (s : State) : Host.Outcome State Fault Refusal :=
  .next (
    let bad := upset s.trk.library flips
    if s.ms < s.trk.libChecked + 10000 ∨ s.awake = false then { s with trk := { s.trk with library := bad } }
    else if libraryCrc bad = libraryCrc [] then { s with trk := { s.trk with library := bad, libChecked := s.ms } }
    else
      let t := { s with trk := { s.trk with library := [], libChecked := s.ms, ch := s.trk.ch.map ChanState.libraryFailed } }
      t.report 0x1501 2 0xFF 0xFFFF (Config.encodeFields 0x1501 [2]))

/-! ### What a boundary does with a channel -/

/-- Applies a committed update to the state at the new epoch's first tick (06 R134, R139): `own` code fields are ignored by a linked channel,
which takes those of `prim`. Offsets that would break a rule of R135 change no arm. -/
def ChanState.applyUpdate (t : SigType) (prim : Option ChUpdate) (c : ChanState) : ChanState :=
  let x := c.nco.ticks t epochTicks
  match c.staged with
  | none =>
    match prim with
    | none => { c with nco := x }
    | some p => { c with nco := { x with krate := p.krate } }
  | some u =>
    let code := prim.getD u
    let car := bitsOf 64 (((x.carcyc * 2 ^ 48 + x.carph : Nat) : Int) + (u.cstep.map (sx 48)).getD 0)
    let len : Nat := t.chips * 65536 * 2 ^ 48
    let pos := (((x.code t : Nat) : Int) + (code.kstep.map (sx 48)).getD 0 * 2 ^ 8) % (len : Int)
    let chips := pos.toNat / 2 ^ 48
    let sec := code.sec
    { c with
      nco := { carph := car % 2 ^ 48, carcyc := car / 2 ^ 48, crate := u.crate, kph := pos.toNat % 2 ^ 48, kchip := chips % t.chips
               kper := chips / t.chips % 65536, krate := code.krate
               secidx := match sec with | some v => if bit v 12 then v % 4096 else x.secidx | none => x.secidx }
      secwipe := match sec with | some v => bit v 13 | none => c.secwipe
      arms := match u.aoff with
        | some l =>
          let new := (List.range c.arms.length).map (fun i =>
            let a := c.arms.getD i {}
            if i = 0 then a else { a with aoff := sx 16 (l.getD (i - 1) 0) })
          if (armsBad (some t) new).isNone then new else c.arms
        | none => c.arms
      lockPhase := c.lockPhase + (u.cstep.map (sx 48)).getD 0 }

/-! ### Commands -/

/-- `CN0` of a channel in 1/64 dB-Hz (06 channel descriptor). -/
def ChanState.cn0 (c : ChanState) : Nat := c.disc.cn0 / 1024 % 65536

/-- Doppler from the type's nominal offset in mHz (06 channel descriptor, 10 R235). -/
def ChanState.dopp (c : ChanState) : Int :=
  if c.setNow.on then quotI (sx 48 c.nco.crate * 81840000000) (2 ^ 48) - 1000 * sigOffset c.sigid c.glok else 0

/-- The channel descriptor, 32 bytes (06). -/
def State.chanBytes (s : State) (n : Nat) : List Byte :=
  let c := s.chan n
  b16 n ++ b16 c.sigid ++ b8 c.st.code ++
  b8 (bbool c.bitsync + 2 * bbool c.secsync + 4 * bbool c.framesync + 8 * bbool c.halfcyc + 16 * bbool c.prim.isSome + 32 * bbool c.kernel.isSome +
    64 * bbool c.secwipe) ++
  b8 (vgetD s.fab.ldMap c.dep 0) ++ b8 c.slot ++ b8 c.beam ++ b8 c.group ++ b8 c.narm ++ b8 (bitsOf 8 c.glok) ++ b16 (c.prim.getD 0xFFFF) ++
  b16 c.cn0 ++ bi32 c.dopp ++ b32 (min c.cage 0xFFFFFFFF) ++ bi16 (c.disc.lock / 256) ++ bi16 (quotI (c.disc.mpdly * 1000) (2 ^ 20)) ++
  b8 c.owner ++ bz 3

/-- A session may see a channel: an operator those that its tenant holds or shares (12 R319). -/
def Req.seesChan (r : Req) (s : State) (n : Nat) : Bool := r.role != 1 || (s.chan n).owner == 0xFF || (s.chan n).owner == r.x.tenant

/-- `CH_LIST` (06 R153). -/
def specChList : CmdSpec :=
  rangeSpec 0x0600 (fun _ => 384) (fun r s => (List.range 384).filter (r.seesChan s)) State.chanBytes (gcp1 := true)

/-- `CH_LIST`, served by its spec (12 R315). -/
def execCmdChList (p : Packet) (s : State) : Host.Outcome State Fault Refusal := s.command specChList p

/-- The loop parameters (06 R141). -/
def loopRows : List (ParRow LoopParams) :=
  [natRow 10 5000 LoopParams.pllBw (fun x v => { x with pllBw := v }), natRow 2 3 LoopParams.pllOrd (fun x v => { x with pllOrd := v }),
   natRow 0 2000 LoopParams.fllBw (fun x v => { x with fllBw := v }), natRow 1 500 LoopParams.dllBw (fun x v => { x with dllBw := v }),
   natRow 0 20 LoopParams.tcoh (fun x v => { x with tcoh := v }), natRow 15 45 LoopParams.cn0Loss (fun x v => { x with cn0Loss := v }),
   natRow 100 10000 LoopParams.coastT (fun x v => { x with coastT := v }), natRow 0 2 LoopParams.mpMode (fun x v => { x with mpMode := v })]

/-- `CH_STATUS` (06 R153): descriptor, then NCO state, arm set and loop parameters. -/
def specChStatus : CmdSpec :=
  { opcode := 0x0601, role := roleAny, len := lenIs 4, idle := true, gcp1 := true
    tenant := fun r s => r.seesChan s r.index
    param := fun r _ => firstBad [(decide (384 ≤ r.index), 0), (r.arg != 0, 2)]
    run := fun r s =>
      let c := s.chan r.index
      let x := c.nco
      (.ok (s.chanBytes r.index ++ Config.encodeFields 0x0601
        ([(x.carph : Int), x.carcyc, sx 48 x.crate, x.kph, x.kchip, x.kper, x.krate, x.secidx] ++
         (c.arms.map (fun a => [a.aoff, (a.acomp : Int), (a.amod : Int), (a.anoise : Int)])).flatten ++ loopRows.map (fun w => w.get c.loop))), s) }

/-- `CH_STATUS`, served by its spec (12 R315). -/
def execCmdChStatus (p : Packet) (s : State) : Host.Outcome State Fault Refusal := s.command specChStatus p

/-- `CH_PIN` (06 R150, R153): up to 32 signals, with k for GLONASS. -/
def specChPin : CmdSpec :=
  { opcode := 0x0602, role := roleInstaller, len := lenList
    param := fun r _ =>
      if 32 < u8At r.pay 0 then some 0
      else match listReserved r with
        | some f => some f
        | none => r.entryBad (fun e => !sigOkIndex e.1 0) (fun e => !sigOkIndex e.1 (sx 8 e.2))
    changes := fun _ => true
    run := fun r s =>
      ({ s with trk := { s.trk with pinsStaged := some (r.entries.map (fun (e : Nat × Nat) => (e.1, sx 8 e.2))) } }).accept r 0xFFFF }

/-- `CH_PIN`, served by its spec (12 R315). -/
def execCmdChPin (p : Packet) (s : State) : Host.Outcome State Fault Refusal := s.command specChPin p

/-- `CH_RELEASE` (06 R153). -/
def specChRelease : CmdSpec :=
  { opcode := 0x0603, role := roleInstaller, len := lenIs 4
    param := fun r _ => firstBad [(decide (384 ≤ r.index), 0), (r.arg != 0, 2)]
    changes := fun _ => true
    run := fun r s => (s.mapChan r.index (fun c => { c with releaseStaged := true })).accept r r.index }

/-- `CH_RELEASE`, served by its spec (12 R315). -/
def execCmdChRelease (p : Packet) (s : State) : Host.Outcome State Fault Refusal := s.command specChRelease p

/-- `SIG_POLICY` (12 R322): the mask enables signal types. -/
def specSigPolicy : CmdSpec :=
  { opcode := 0x0604, role := roleInstaller, len := lenIs 32
    param := fun r _ => if leNat r.pay &&& definedTypes = leNat r.pay then none else some 0
    changes := fun _ => true
    run := fun r s => ({ s with trk := { s.trk with policyStaged := some (leNat r.pay) } }).accept r 0xFFFF }

/-- `SIG_POLICY`, served by its spec (12 R315). -/
def execCmdSigPolicy (p : Packet) (s : State) : Host.Outcome State Fault Refusal := s.command specSigPolicy p

/-- `CH_LOOP` (06 R141, R153): `SCOPE` is the channel. -/
def specChLoop : CmdSpec :=
  parCmd 0x8600 roleInstOp loopRows (fun sc _ => decide (384 ≤ sc)) (fun sc s => (s.chan sc).loop)
    (fun sc s => ((s.chan sc).loopStaged).getD (s.chan sc).loop)
    (fun r a s => (s.mapChan r.scope (fun c => { c with loopStaged := some a })).accept r r.scope)
    (tenant := fun r s => r.role != 1 || (s.chan r.scope).owner == r.x.tenant)

/-- `CH_LOOP`, served by its spec (12 R315). -/
def execCmdChLoop (p : Packet) (s : State) : Host.Outcome State Fault Refusal := s.command specChLoop p

/-- The arms of a `CH_ARMS` request (12 R322). -/
def Req.armSet (r : Req) : List Arm :=
  (List.range (u8At r.pay 2)).map (fun i =>
    let f := u8At r.pay (6 + 4 * i)
    { aoff := i16At r.pay (4 + 4 * i), acomp := f % 2, amod := f / 2 % 2, anoise := f / 4 % 2 })

/-- `CH_ARMS` (06 R135, R153). -/
def specChArms : CmdSpec :=
  { opcode := 0x8601, role := roleInstaller
    len := fun r => decide (4 ≤ r.pay.length) && r.pay.length == 4 + 4 * u8At r.pay 2
    param := fun r s =>
      let c := s.chan r.index
      firstBad ([(decide (384 ≤ r.index), 0), (u8At r.pay 2 != c.narm, 2), (!zeroAt r.pay 3 1, 3)] ++
        ((List.range (u8At r.pay 2)).map (fun i =>
          [(decide (8 ≤ u8At r.pay (6 + 4 * i)), 6 + 4 * i), (!zeroAt r.pay (7 + 4 * i) 1, 7 + 4 * i)])).flatten ++
        (match armsBad (typeOf c.sigid) r.armSet with | some i => [(true, 4 + 4 * i)] | none => []))
    changes := fun _ => true
    run := fun r s => (s.mapChan r.index (fun c => { c with armsStaged := some r.armSet })).accept r r.index }

/-- `CH_ARMS`, served by its spec (12 R315). -/
def execCmdChArms (p : Packet) (s : State) : Host.Outcome State Fault Refusal := s.command specChArms p

/-- The kernel that a channel will have after the changes staged. -/
def ChanState.kernelNext (c : ChanState) : Option (Nat × Nat) := c.kernelStaged.getD c.kernel

/-- Loop-kernel cycles that a tenant's bound channels are charged on a logical deputy (13 R338). -/
def State.chargeOf (s : State) (ld ten : Nat) : Nat :=
  (s.trk.ch.toList.map (fun c =>
    match c.kernelNext with
    | some (t, k) => if t = ten ∧ c.dep = ld ∧ c.bound then 64 + (((vgetD (vgetD s.ten.t t {}).kslots k {}).ver.map (·.kcyc)).getD 0) else 0
    | none => 0)).foldl (· + ·) 0

/-- The first logical deputy on which a tenant's charge exceeds its share (13 R338). -/
def State.overShare (s : State) (ten : Nat) : Option Nat :=
  match s.fab.active with
  | none => none
  | some p => (List.range 16).find? (fun ld => decide ((vgetD s.ten.t ten {}).klim.kShare * p.dbudget ld / 100 < s.chargeOf ld ten))

/-- Binds (kernel slot 0 to 3) or unbinds (0xFF) channels (06 R153). -/
def State.bindKernels (ten : Nat) (l : List (Nat × Nat)) (s : State) : State :=
  l.foldl (fun t e => t.mapChan e.1 (fun c => { c with kernelStaged := some (if e.2 = 0xFF then none else some (ten, e.2)) })) s

/-- A `KERNEL_EVENT` record (13 R574): event, cause, slot, kernel, channels. -/
def State.kernelRecord (role ten sid event cause slot : Nat) (k : KernelHdr) (chans : List Nat) (s : State) : State :=
  s.tally 0x0402 role ten sid
    (b8 event ++ b8 cause ++ b8 slot ++ bz 1 ++ b16 k.kid ++ b16 chans.length ++ b32 k.kver ++ b32 0 ++ (chans.map b16).flatten)

/-- The records of the bindings and unbindings that a `CH_KERNEL` places (13 R340): one for each kernel, with its channels; `old` is the
state before it. -/
def Req.bindRecords (r : Req) (old s : State) : State :=
  let t := r.x.tenant
  (List.range 4).foldl (fun u k =>
    let on := (r.entries.filter (fun e => e.2 == k)).map (·.1)
    let off := (r.entries.filter (fun e => e.2 == 0xFF && (old.chan e.1).kernelNext == some (t, k))).map (·.1)
    let h := old.kernelHdr (t, k)
    let u1 := if on.isEmpty then u else u.kernelRecord 1 t r.x.sid 3 0 k h on
    if off.isEmpty then u1 else u1.kernelRecord 1 t r.x.sid 4 0 k h off) s

/-- `CH_KERNEL` (06 R153, 13 R338). -/
def specChKernel : CmdSpec :=
  { opcode := 0x8602, role := roleOperator, len := lenList
    tenant := fun r s => r.entries.all (fun e => decide (384 ≤ e.1) || (s.chan e.1).owner == r.x.tenant)
    foreign := fun r s => r.entryAt (fun e => decide (e.1 < 384) && (s.chan e.1).owner != r.x.tenant)
    param := fun r s =>
      if 32 < u8At r.pay 0 then some 0
      else match listReserved r with
        | some f => some f
        | none => r.entryBad (fun e => decide (384 ≤ e.1)) (fun e =>
            let k := vgetD (vgetD s.ten.t r.x.tenant {}).kslots e.2 {}
            !(e.2 == 0xFF || (decide (e.2 < 4) && k.ver.isSome && !k.deleting)))
    changes := fun _ => true
    run := fun r s =>
      let t := s.bindKernels r.x.tenant r.entries
      match t.overShare r.x.tenant with
      | some ld => ({ status := stNoCapacity, item := ld }, s)
      | none => (r.bindRecords s t).accept r ((r.entries.headD (0xFFFF, 0)).1) }

/-- `CH_KERNEL`, served by its spec (12 R315). -/
def execCmdChKernel (p : Packet) (s : State) : Host.Outcome State Fault Refusal := s.command specChKernel p

end Sys2Proof.Machine
end

