-- ==== Sys2Proof/Machine/Survey.lean ====
section
/-! DEFINITION. The interference survey (04 R92–R98): covariance, noise floor and signatures of a site and band, the nulls and their limits, what
null-monitor beams report, the depth check, `FLT_JAM`, and the hold that a strong interferer puts on a site's calibration (05 R121). -/

namespace Sys2Proof.Machine

/-- The interference state of a site and band. -/
def State.nullSite (s : State) (site : Nat) (b : Band) : NullSite := (vgetD s.arr.nulls site ⟨{}, {}, {}⟩).get b

/-- Changes the interference state of a site and band. -/
def State.mapNull (site : Nat) (b : Band) (f : NullSite → NullSite) (s : State) : State :=
  { s with arr := { s.arr with nulls := vupdN s.arr.nulls site (fun x => x.upd b f) } }

/-! ### The covariance -/

/-- The samples of a site's in-service elements in the last haulage block of a band (04 R92); blanked ones are omitted. -/
def State.surveyRows (s : State) (site : Nat) (b : Band) : List (List (Option (Int × Int))) :=
  (s.serving site b).map (fun n =>
    (((s.smp.block.find? (fun x => x.1 == n && x.2.1 == b)).map (·.2.2)).getD []).map (fun h => if h.blank then none else some (h.i, h.q)))

/-- An eigenvector of a survey: its number, twice its eigenvalue, its components by element in Q60. -/
structure Mode where
  idx : Nat
  twice : Nat
  sig : List (Nat × Int × Int)
deriving DecidableEq, Repr

/-- What a survey finds (04 R92, R93): the eigenvectors, and twice the noise floor, the median of the eigenvalues (of an even number the mean of
the middle two, log 45). -/
structure Spectrum where
  modes : List Mode
  floor : Nat
deriving DecidableEq, Repr

/-- Decomposes the covariance of a site and band. -/
def State.spectrum (s : State) (site : Nat) (b : Band) : Spectrum :=
  let els := s.serving site b
  let l := eigenOf (covariance (s.surveyRows site b))
  let vals := sortBy (fun x => x) (l.map (·.1))
  { modes := (List.range l.length).map (fun j => { idx := j, twice := 2 * (l.getD j (0, [])).1, sig := els.zip (l.getD j (0, [])).2 })
    floor := vals.getD ((vals.length - 1) / 2) 0 + vals.getD (vals.length / 2) 0 }

/-- An eigenvalue is at least `k` dB above the floor (04 R93). -/
def Spectrum.above (x : Spectrum) (k : Int) (m : Mode) : Bool := decide (0 < m.twice) && dbAtLeast 1 m.twice x.floor k

/-- Its interferer-to-noise ratio in 0.25 dB; the rounding is open (log 6). -/
def Spectrum.ratio (x : Spectrum) (m : Mode) : Nat := (decibels 4 m.twice x.floor).toNat

/-- Σ conj(a_e)·b_e over the elements of two signatures, squared. -/
def overlap (a b : List (Nat × Int × Int)) : Nat :=
  normSq (inner (a.map (·.2)) (a.map (fun p => ((b.find? (fun q => q.1 == p.1)).map (·.2)).getD (0, 0))))

/-- Squared length of a signature. -/
def sigNorm (a : List (Nat × Int × Int)) : Nat := normV (a.map (·.2))

/-- Two signatures differ by less than 1 % (04 R96): their correlation is above 99 % (log 45). -/
def steadySig (a b : List (Nat × Int × Int)) : Bool := decide (9801 * (sigNorm a * sigNorm b) < 10000 * overlap a b)

/-! ### Signatures -/

/-- A standing signature takes the eigenvector that overlaps it most among those not yet taken (log 45). -/
def takeMode (acc : List Mode × List (NullEntry × Option Mode)) (n : NullEntry) : List Mode × List (NullEntry × Option Mode) :=
  let top := acc.1.foldl (fun (r : Option Mode) m =>
    match r with | none => some m | some q => if overlap n.sig q.sig < overlap n.sig m.sig then some m else r) none
  (acc.1.filter (fun m => some m != top), acc.2 ++ [(n, top)])

/-- A standing signature after a survey (04 R93): none once its eigenvalue has been below `JTHR` − 3 dB for `NHOLD` surveys. -/
def NullEntry.after (prm : NullParams) (x : Spectrum) (p : NullEntry × Option Mode) : Option NullEntry :=
  let n := { p.1 with age := p.1.age + 1 }
  let low := match p.2 with | some m => !x.above (prm.jthr - 3 : Nat) m | none => true
  if low then
    if prm.nhold ≤ n.below + 1 then none else some { n with below := n.below + 1, power := (p.2.map x.ratio).getD n.power }
  else
    match p.2 with
    | some m => some { n with below := 0, power := x.ratio m, sig := m.sig, steady := steadySig n.sig m.sig }
    | none => some n

/-- The signatures of a site and band after a survey, strongest first (04 R93). -/
def NullSite.signatures (prm : NullParams) (x : Spectrum) (old : NullSite) : List NullEntry :=
  let m := (sortBy (fun n => 2 ^ 16 - n.power) (old.nulls ++ old.spare)).foldl takeMode (x.modes, [])
  let kept := m.2.filterMap (NullEntry.after prm x)
  let fresh := (m.1.filter (x.above prm.jthr)).map (fun y => ({ sig := y.sig, power := x.ratio y } : NullEntry))
  sortBy (fun n => 2 ^ 16 - n.power) (kept ++ fresh)

/-- Nulls that a site may hold in a band (04 R94). -/
def State.siteRoom (s : State) (site : Nat) (b : Band) : Nat := min 8 ((s.serving site b).length - 4)

/-- The signatures of a site that are to be nulled, and those left. -/
def NullSite.divide (k : Nat) (x : NullSite) : NullSite :=
  let l := sortBy (fun n => 2 ^ 16 - n.power) (x.nulls ++ x.spare)
  { x with nulls := l.take k, spare := (l.drop k).map (fun n => { n with monitor := none, watch := none, depthFail := false }) }

/-- How many nulls each site gets in a band (04 R94): the strongest signatures of the band first, within the sites' limits and the band's. -/
def State.shares (s : State) (b : Band) : List Nat :=
  let all := ((List.range 12).map (fun i => ((s.nullSite i b).nulls ++ (s.nullSite i b).spare).map (fun n => (i, n.power)))).flatten
  (sortBy (fun (x : Nat × Nat) => 2 ^ 16 - x.2) all).foldl (fun (acc : List Nat) x =>
    if acc.getD x.1 0 < s.siteRoom x.1 b ∧ acc.foldl (· + ·) 0 < s.arr.nullParams.limit then acc.set x.1 (acc.getD x.1 0 + 1) else acc)
    (List.replicate 12 0)

/-- Divides the nulls of a band among its sites (04 R94). -/
def State.allot (b : Band) (s : State) : State :=
  let k := s.shares b
  (List.range 12).foldl (fun t i => t.mapNull i b (NullSite.divide (k.getD i 0))) s

/-! ### Reports -/

/-- `FLT_JAM` (04 R97): the site, the band, the ratio of its strongest signature and the unnulled count; a strong one holds the site's calibration
(05 R121). -/
def State.jam (site : Nat) (b : Band) (s : State) : State :=
  let x := s.nullSite site b
  let power := ((x.nulls ++ x.spare).map (·.power)).foldl max 0
  let t := s.report 0x1702 2 0xFF (4 * site + b.code) (Config.encodeFields 0x1702 [site, b.code, power, x.unnulled])
  if 4 * t.arr.assay.params.jamFreeze ≤ power then t.mapNull site b (fun x => { x with frozen := true, calm := 0 }) else t

/-- Complex MAC that the background slices of a band owe to surveys or to the sweep (07 R164). -/
def State.owe (b : Band) (macs : Nat) (s : State) : State :=
  { s with trk := { s.trk with acq := { s.trk.acq with owed := s.trk.acq.owed.upd b (· + macs), asked := s.trk.acq.asked + macs } } }

/-- Complex MAC of a survey: every entry of the covariance of n streams over a block (04 R92; log 54). -/
def surveyMacs (n : Nat) : Nat := n * n * 5115

/-- A survey of a site and band (04 R92–R94, R97). -/
def State.survey (site : Nat) (b : Band) (s0 : State) : State :=
  let s := s0.owe b (surveyMacs (s0.serving site b).length)
  let x := s.spectrum site b
  let l := (s.nullSite site b).signatures s.arr.nullParams x
  let t := (s.mapNull site b (fun y => { y with nulls := l, spare := [], due := s.arr.nullParams.nref })).allot b
  (List.range 12).foldl (fun u i =>
    let old := s.nullSite i b
    let new := t.nullSite i b
    if (old.nulls.isEmpty && !new.nulls.isEmpty) || (i == site && !new.spare.isEmpty) || decide (old.spare.length < new.spare.length) then u.jam i b else u) t

/-- `INTERFERENCE_SURVEY` (04 R92): every `NREF` epochs per site and band, over the last haulage block; before that nothing is due. -/
def execEvInterferenceSurvey (site : Fin 12) (b : Band) (_ : NoInput) (s : State) : Host.Outcome State Fault Refusal :=
  .next (if (s.nullSite site b).due = 0 then s.survey site b else s)

/-! ### Null-monitor beams -/

/-- The conditions of R96 that the device sees: 6-bit width and `NSAT` 0 at every element of the site, at most 45 dB above noise, and a signature
that has stayed. -/
def State.depthHolds (s : State) (site : Nat) (b : Band) (n : NullEntry) : Bool :=
  decide (n.power ≤ 180) && n.steady && (s.serving site b).all (fun n => (s.lane n).width == 2 && (s.adit n).nsat.get b == 0)

/-- A weight set's response to a signature at a site: |Σ w·v|² and Σ |w|² over the site's elements. -/
def State.response (s : State) (site : Nat) (sig : List (Nat × Int × Int)) (w : WeightSet) : Nat × Nat :=
  let l := sig.filter (fun p => s.siteOf p.1 == site)
  (normSq ((l.map (fun p => cmul ((w.at_ p.1).i, (w.at_ p.1).q) p.2)).foldl cadd (0, 0)),
   (l.map (fun p => (w.at_ p.1).sq)).foldl (· + ·) 0)

/-- What a null-monitor beam reports of its null each epoch (04 R98): the beam's power, and the same power as the site sub-vector of that projected
track beam sees it which sees most of it. -/
def State.watchNull (s : State) (site : Nat) (b : Band) (n : NullEntry) : NullEntry :=
  match n.monitor with
  | none => { n with watch := none, depthFail := false }
  | some k =>
    let m := s.beam k
    if m.sumSq = 0 then n else
    let power := decibels 256 m.sumSq m.nOut
    let g := s.response site n.sig m.ws
    let seen := (s.arr.beams.toList.filter (fun x => x.kind == 0 && x.bandOf == b && !x.flags.nonull)).filterMap (fun x =>
      let h := s.response site n.sig x.ws
      if h.2 = 0 then none else some (power + decibels 256 (h.1 * g.2) (g.1 * h.2)))
    let res := seen.foldl max (seen.headD power)
    { n with watch := some (power, res), depthFail := s.depthHolds site b n && !seen.isEmpty && decide (power - 40 * 256 < res) }

/-- The epoch's reports of the null-monitor beams of a site and band, and the depth check (04 R97, R98). -/
def State.watchNulls (b : Band) (s : State) (site : Nat) : State :=
  let old := (s.nullSite site b).nulls
  let new := old.map (s.watchNull site b)
  let t := s.mapNull site b (fun x => { x with nulls := new })
  if (List.zipWith (fun (o n : NullEntry) => !o.depthFail && n.depthFail) old new).any (·) then t.jam site b else t

/-- The epoch's part of the interference state (04 R92, 05 R121): surveys fall due, and a held site is released after 10 s in which its strongest
signature stays below `JAM_FREEZE` − 3 dB. -/
def NullSite.epoch (freeze : Nat) (x : NullSite) : NullSite :=
  let quiet := decide (((x.nulls ++ x.spare).map (·.power)).foldl max 0 < 4 * (freeze - 3))
  let calm := if x.frozen && quiet then x.calm + 1 else 0
  { x with due := x.due - 1, calm := calm, frozen := x.frozen && decide (calm < 10000) }

/-- At D2 the signatures nulled become those that the weights of the next boundary are computed with (04 R95). -/
def State.nullsAtD2 (s : State) : State :=
  { s with arr := { s.arr with nulls := s.arr.nulls.map (fun v => v.map (fun x => { x with atD2 := x.nulls.map (·.sig) })) } }

end Sys2Proof.Machine
end

