-- ==== Sys2Proof/Machine/Estimate.lean ====
section
/-! DEFINITION. Assay's estimator (05): held observations (R105, 06 R136), the conditions under which each quantity is updated (R111), the
reference (R106), ambiguities, the survey (R117), and the sweep's fresh solution (R122). The estimator's own arithmetic is the spec's only by what
it fits: its values are constants without a body (log 53). -/

namespace Sys2Proof.Machine

/-- Changes a site entry of the table. -/
def State.mapSite (n : Nat) (f : SiteEntry → SiteEntry) (s : State) : State :=
  s.mapAssay (fun a => { a with table := { a.table with sites := vupdN a.table.sites n f } })

/-- A site entry of the table. -/
def State.siteEntry (s : State) (n : Nat) : SiteEntry := vgetD s.arr.assay.table.sites n {}

/-- Working figures of a site. -/
def State.siteWork (s : State) (n : Nat) : SiteWork := vgetD s.arr.assay.siteWork n {}

/-- Changes them. -/
def State.mapSiteWork (n : Nat) (f : SiteWork → SiteWork) (s : State) : State :=
  s.mapAssay (fun a => { a with siteWork := vupdN a.siteWork n f })

/-- The reference site in force for a band (05 R112): the one that `REFB` marks, else the charter's. -/
def State.refSite (s : State) (b : Band) : Nat :=
  ((List.range 12).find? (fun i => s.isRef i b)).getD (charterDevice s.boo.charter).refSite

/-! ### What the estimator gives -/

/-- A quantity that the estimator gives (05, estimated quantities, R111, R113, R114, R116). -/
inductive EstOf where
  /-- θ in 1/65 536 turn and its 1-sigma in 0.25 degree. -/
  | phase (n : Nat) (b : Band)
  /-- τ in 0.01 ps. -/
  | delay (n : Nat) (b : Band)
  /-- g in 0.01 dB. -/
  | gain (n : Nat) (b : Band)
  /-- c in 0.01 ps. -/
  | clock (site : Nat) (b : Band)
  /-- a component of p in 0.1 mm. -/
  | position (site axis : Nat)
  /-- z in 0.1 mm. -/
  | zenith (site : Nat)
  /-- N of a site and signal, its float uncertainty in 0.001 cycle. -/
  | ambiguity (site sigid : Nat) (glok : Int)
  /-- the figure of the ratio test in 0.01. -/
  | ratio (site sigid : Nat) (glok : Int)
  /-- the post-fit phase residual RMS over the last 1 s, in 0.1 degree. -/
  | residual (n : Nat) (b : Band)
  /-- the RMS over signals of the 10 s mean post-fit phase residual, in 0.1 degree. -/
  | meanResidual (n : Nat) (b : Band)
  /-- the same with the charter offset of another element. -/
  | swapped (n : Nat) (b : Band) (other : Nat)
deriving DecidableEq, Repr

/-- The estimator's state after an epoch: the state before, the table, the epoch's observations with the generation in force (05 R109, R111; log 53). -/
opaque Config.estimator : List Int → CalTable → List HeldObs → List Int

/-- A value of the estimator with its 1-sigma (05; log 53). -/
opaque Config.estimate : List Int → EstOf → Int × Nat

/-- A site's position in ECEF axes, relative to the reference site, by its own code solution: site, observations (05 R117; log 53). -/
opaque Config.codeSolution : Nat → List HeldObs → Int × Int × Int

/-! ### Held observations -/

/-- A sum of an element in an assay entry is valid (05 R111). -/
def State.sumValid (s : State) (e : AssayEntry) (b : Band) (n : Nat) : Bool :=
  decide (128 ≤ e.nval.getD n 0) && !e.sat && !((s.adit n).overBlank.get b) && (s.adit n).nsat.get b == 0

/-- The elements whose sums in an entry are valid. -/
def State.validEls (s : State) (e : AssayEntry) : List Nat := (List.range 96).filter (s.sumValid e (sigBand e.sigid))

/-- A signal has been free of suspicion for 60 s (05 R105). -/
def State.cleared (s : State) (sigid : Nat) : Bool :=
  !(s.suspectSig sigid) &&
  !(s.sol.ended.any (fun e => decide (s.ms < e.2 + 60000) && e.1.covers (sigSys sigid) (sigSat sigid) (sigBand sigid)))

/-- The data sign of an epoch (06 R136): the dump whose prompt shows the sign of the larger side of the symbol edge, and the ticks of the smaller
side. A dump point is an edge where the dump that it ends is the last of a symbol, or where bit sync has not yet told; a replica without data, or with
its secondary code wiped off, shows no sign. -/
def ChanState.signDump (c : ChanState) (t : SigType) (e : ChEntry) : Option Nat × Nat :=
  if !c.before.costas t then (none, 0)
  else if e.nodump then (some ((e.dumpseq + 1) % 2 ^ 32), 0)
  else if c.demod.edge.isSome && !c.demod.ends (dataSig c.sigid t).2 e.dumpseq then (some e.dumpseq, 0)
  else (some (if epochTicks ≤ 2 * e.dumpoff then e.dumpseq else (e.dumpseq + 1) % 2 ^ 32), min e.dumpoff (epochTicks - e.dumpoff))

/-- What a deputy passes of one assay entry (05 R105, 06 R136): the valid sums, held for `AHOLD`. An epoch whose symbol edge leaves more than 20 460
ticks on its smaller side is discarded. -/
def State.observed (s : State) (extra : Bool) (e : AssayEntry) : Option HeldObs :=
  let c := s.chan e.ch
  match typeOf e.sigid with
  | none => none
  | some t =>
    let d := c.signDump t (vgetD c.entry s.readBank {})
    if e.valid && s.cleared e.sigid && decide (d.2 ≤ 20460) then
      let b := sigBand e.sigid
      let k := c.before.glok
      some { sigid := e.sigid, glok := k, ch := e.ch, band := b, car := carrier e.sigid k, epoch := s.ms - 1, gen := s.sol.genClosed
             sign := if d.1.isNone then some 1 else none, signSeq := d.1.getD 0, extra := extra
             data := (s.validEls e).map (fun n => (n, e.sum.getD n (0, 0))) }
    else none

/-- Held observations of a channel that wait for the sign of its newest dump take it (06 R136). -/
def State.signed (s : State) (h : HeldObs) : HeldObs :=
  match (s.chan h.ch).demod.sign with
  | some (v, q) => if h.sign.isNone ∧ h.signSeq = q ∧ (s.chan h.ch).sigid = h.sigid then { h with sign := some v } else h
  | none => h

/-- The reductions of a logical deputy join the held observations (05 R105, R122; 09 R213). -/
def State.holdDeputy (ld : Nat) (s : State) : State :=
  match s.closingPlan with
  | none => s
  | some p =>
    let bank := vgetD s.arr.assay.entries s.readBank (Vector.replicate 160 {})
    let new := (p.assays.filter (fun x => x.aldep == ld)).filterMap (fun x => s.observed false (vgetD bank x.aslot {}))
    let mine := (p.chans.filter (fun c => c.ldep == ld)).map (·.cnum)
    let more := ((vgetD s.arr.assay.sweepEntries s.readBank []).filter (fun e => mine.contains e.ch)).filterMap (s.observed true)
    s.mapAssay (fun a => { a with held := (a.held ++ new ++ more).map s.signed })

/-! ### Conditions -/

/-- The interferer hold of R121 stands on a site and band. -/
def State.frozen (s : State) (site : Nat) (b : Band) : Bool := (s.nullSite site b).frozen

/-- Observations of a list that hold a valid sum of an element-band. -/
def obsOf (due : List HeldObs) (n : Nat) (b : Band) : List HeldObs := due.filter (fun h => h.band == b && h.data.any (fun d => d.1 == n))

/-- Two of the carriers differ by at least 10 MHz (05 R111). -/
def spanTen (l : List HeldObs) : Bool := l.any (fun x => l.any (fun y => decide (10000000 ≤ x.car - y.car)))

/-- Adds ms of valid sums to the signals that an element-band was observed on. -/
def foldedAfter (l : List (Nat × Nat)) (obs : List HeldObs) : List (Nat × Nat) :=
  obs.foldl (fun l h =>
    if l.any (fun x => x.1 == h.sigid) then l.map (fun x => if x.1 == h.sigid then (x.1, x.2 + 1) else x) else l ++ [(h.sigid, 1)]) l

/-- Signals with at least 10 s of valid sums (05 R113, R119 `NSIG`). -/
def EbWork.nsig (w : EbWork) : Nat := (w.folded.filter (fun x => decide (10000 ≤ x.2))).length

/-- An uncertainty that has been held for some more epochs grows by one step every `per` epochs, up to `top` (05 R111). -/
def grow (per top held epochs sig : Nat) : Nat × Nat := (min top (sig + (held + epochs) / per), (held + epochs) % per)

/-- Observations of a list that hold a valid sum at a site. -/
def State.obsAt (s : State) (due : List HeldObs) (site : Nat) : List HeldObs := due.filter (fun h => h.data.any (fun d => s.siteOf d.1 == site))

/-- The delay condition holds for some element-band of a site. -/
def State.tauAt (s : State) (due : List HeldObs) (site : Nat) (b : Band) : Bool :=
  (List.range 96).any (fun n => s.siteOf n == site && spanTen (obsOf due n b))

/-- A minor of a matrix: without its first row and a column. -/
def minor (m : List (List Int)) (j : Nat) : List (List Int) := (m.drop 1).map (fun r => r.eraseIdx j)

/-- The determinant of a matrix of `n` rows, along its first row. -/
def det : Nat → List (List Int) → Int
  | 0, _ => 1
  | n + 1, m => ((List.range (n + 1)).map (fun j => (if j % 2 = 0 then 1 else -1) * (m.headD []).getD j 0 * det n (minor m j))).foldl (· + ·) 0

/-- A matrix without a row and a column. -/
def without (m : List (List Int)) (i : Nat) : List (List Int) := (m.eraseIdx i).map (fun r => r.eraseIdx i)

/-- The PDOP of some directions is at most 6 (05 R111): position and a common clock from one range each. -/
def pdopOk (dirs : List (Nat × Int)) : Bool :=
  let rows := dirs.map (fun d => let u := unitEnu d.1 d.2; [u.1 / 2 ^ 30, u.2.1 / 2 ^ 30, u.2.2 / 2 ^ 30, 2 ^ 30])
  let m := (List.range 4).map (fun i => (List.range 4).map (fun j => (rows.map (fun r => r.getD i 0 * r.getD j 0)).foldl (· + ·) 0))
  let d := det 4 m
  decide (0 < d) && decide ((det 3 (without m 0) + det 3 (without m 1) + det 3 (without m 2)) * 2 ^ 60 ≤ 36 * d)

/-- The directions of observations' signals, as far as they are predicted. -/
def obsDirs (l : List HeldObs) : List (Nat × Int) := l.filterMap (fun h => Config.direction h.sigid h.glok h.epoch)

/-- Elevations that span at least 30 degrees (05 R111). -/
def spanThirty (l : List (Nat × Int)) : Bool := l.any (fun x => l.any (fun y => decide (3000 ≤ x.2 - y.2)))

/-! ### Element-bands -/

/-- Folds an epoch's observations of one element-band, or holds it for `epochs` epochs without any (05 R111, R121): the quantities whose conditions
hold take the estimator's values, the others are held and their uncertainty grows, the phase by 0.5°/s, the delay by 0.2 ps/s. For the gain the row
gives no rate of a magnitude: σ(g) is held as it stands (DESIGN CHOICE, log 53). -/
def State.foldEb (est : List Int) (due : List HeldObs) (epochs : Nat) (s : State) (x : Nat × Band) : State :=
  let n := x.1
  let b := x.2
  let obs := obsOf due n b
  let thaw : Bool := !s.frozen (s.siteOf n) b
  let th : Bool := thaw && !obs.isEmpty
  let tau : Bool := thaw && spanTen obs
  let v (q : EstOf) : Int × Nat := Config.estimate est q
  let w := s.work n b
  let e := s.eb n b
  let gp := grow 500 0xFF w.phHeld epochs e.sigPh
  let gd := grow 50 0xFFFF w.dlyHeld epochs e.sigDly
  let w1 : EbWork :=
    { w with
      folded := foldedAfter w.folded obs
      phHeld := if th then 0 else gp.2, dlyHeld := if tau then 0 else gd.2
      res1 := if th then (v (.residual n b)).1.toNat else w.res1, res10 := if th then (v (.meanResidual n b)).1.toNat else w.res10
      sigGain := if th then min 0xFFFF (v (.gain n b)).2 else w.sigGain
      tauHist := (if tau then (s.ms, (v (.delay n b)).1) :: w.tauHist else w.tauHist).filter (fun t => decide (s.ms < t.1 + 10000)) }
  (s.mapWork n b (fun _ => w1)).mapEb n b (fun e => { e with
    dly := if tau then (v (.delay n b)).1 else e.dly, sigDly := if tau then min 0xFFFF (v (.delay n b)).2 else gd.1
    ph := if th then bitsOf 16 (v (.phase n b)).1 else e.ph, gain := if th then (v (.gain n b)).1 else e.gain
    sigPh := if th then min 0xFF (v (.phase n b)).2 else gp.1, nsig := min 255 w1.nsig })

/-- Every element-band. -/
def allEbs : List (Nat × Band) := ((List.range 96).map (fun n => bands.map (fun b => (n, b)))).flatten

/-! ### Sites -/

/-- The squared distance of two points. -/
def dist2 (a b : Int × Int × Int) : Int :=
  (a.1 - b.1) * (a.1 - b.1) + (a.2.1 - b.2.1) * (a.2.1 - b.2.1) + (a.2.2 - b.2.2) * (a.2.2 - b.2.2)

/-- A difference of points. -/
def sub3 (a b : Int × Int × Int) : Int × Int × Int := (a.1 - b.1, a.2.1 - b.2.1, a.2.2 - b.2.2)

/-- The baseline that the charter's survey gives a site, from the reference site: both are surveyed by the installer (05 R117). -/
def State.surveyed (s : State) (site : Nat) : Option ((Int × Int × Int) × Nat) :=
  match s.site site, s.site s.arr.assay.table.refSite with
  | some x, some r => if x.mode = 1 ∧ r.mode = 1 then some (sub3 x.pos r.pos, x.sig) else none
  | _, _ => none

/-- The fitted position departs from an installer survey, or from the position that the installer has accepted in its place, by more than the larger of
`SURVEY_TOL` and three times its uncertainty (05 R117). -/
def State.conflictAt (s : State) (site : Nat) (pos : Int × Int × Int) : Bool :=
  match s.surveyed site with
  | none => false
  | some (p, sig) =>
    let lim : Nat := max (10 * s.arr.assay.params.surveyTol) (3 * sig)
    decide ((lim * lim : Nat) < dist2 pos ((vgetD s.arr.assay.accepted site none).getD p))

/-- The ambiguities of a site. -/
def AssayState.ambsAt (a : AssayState) (site : Nat) : List Amb := a.ambs.filter (fun x => x.site == site)

/-- A site's fixed ambiguities of a band. -/
def AssayState.fixedIn (a : AssayState) (site : Nat) (b : Band) : List Amb :=
  (a.ambsAt site).filter (fun x => x.isFixed && sigBand x.sigid == b)

/-- A site's calibration is invalid for some band (05 R117, R118). -/
def AssayState.invalidAt (a : AssayState) (site : Nat) : Bool :=
  let v := vgetD a.invalid site ⟨false, false, false⟩
  v.u || v.m || v.l || vgetD a.conflict site false

/-- `SSTATE` of a site: 0 no element `LIVE`, 1 float, 2 fixed, 3 invalid (05 R119). -/
def State.sstate (s : State) (site : Nat) : Nat :=
  if s.arr.assay.invalidAt site then 3
  else if (s.liveAt site).isEmpty then 0
  else if (s.arr.assay.ambsAt site).any (·.isFixed) then 2 else 1

/-- `NFIX` of a site (05 R119). -/
def State.nfix (s : State) (site : Nat) : Nat := min 255 ((s.arr.assay.ambsAt site).filter (·.isFixed)).length

/-- `SCAUSE` of a site (05 R119); of several causes the one that waits for the installer first (log 53). -/
def State.scause (s : State) (site : Nat) : Nat :=
  let a := s.arr.assay
  let v := vgetD a.invalid site ⟨false, false, false⟩
  if vgetD a.conflict site false then 1 else if a.sweepDiff.any (fun d => d.site == site) then 3 else if v.u || v.m || v.l then 2 else 0

/-- An ambiguity takes an epoch in which its signal is valid at the site and at the reference site (05 R111): the ratio test at least 3 over 1 000
consecutive epochs, the float uncertainty at most 0.15 cycle. -/
def Amb.step (est : List Int) (a : Amb) : Amb :=
  let v := Config.estimate est (.ambiguity a.site a.sigid a.glok)
  let ok := decide (300 ≤ (Config.estimate est (.ratio a.site a.sigid a.glok)).1) && decide (v.2 ≤ 150)
  let good := if ok then min 1000 (a.good + 1) else 0
  if a.isFixed then { a with good := good }
  else if good = 1000 then { a with n := v.1, isFixed := true, good := good, lost := false }
  else { a with good := good }

/-- A site's ambiguities take an epoch; those of signals not seen in it break their run. -/
def ambsStep (est : List Int) (site : Nat) (seen : List (Nat × Int)) (l : List Amb) : List Amb :=
  let have_ (x : Nat × Int) : Bool := l.any (fun a => a.site == site && a.sigid == x.1 && a.glok == x.2)
  let all := l ++ ((nub seen).filter (fun x => !have_ x)).map (fun x => ({ site := site, sigid := x.1, glok := x.2 } : Amb))
  all.map (fun a => if a.site != site then a else if seen.contains (a.sigid, a.glok) then a.step est else { a with good := 0 })

/-- The signals valid at a site and at the reference site of their band, where no hold of R121 stands. -/
def State.bothAt (s : State) (due : List HeldObs) (site : Nat) : List HeldObs :=
  (s.obsAt due site).filter (fun h => !s.frozen site h.band && s.refSite h.band != site && h.data.any (fun d => s.siteOf d.1 == s.refSite h.band))

/-- The clock offsets of a site after an epoch: the reference site's is 0 (05 R106); updated where the delay condition holds at both (R111). -/
def State.foldClock (est : List Int) (due : List HeldObs) (epochs site : Nat) (s : State) (b : Band) : State :=
  let e := s.siteEntry site
  let ok : Bool := !s.frozen site b && s.tauAt due site b && s.tauAt due (s.refSite b) b
  let v := Config.estimate est (.clock site b)
  let held := grow 50 0xFFFF ((s.siteWork site).clkHeld.get b) epochs (e.sigClk.get b)
  (s.mapSite site (fun e => { e with
    clk := e.clk.set b (if s.refSite b = site then 0 else if ok then v.1 else e.clk.get b)
    sigClk := e.sigClk.set b (if ok then min 0xFFFF v.2 else held.1) })).mapSiteWork site (fun w => { w with
      clkHeld := w.clkHeld.set b (if ok then 0 else held.2) })

/-- p_s of a site after an epoch (05 R106, R111, R117): under self-survey it starts from the site's code solution, 5 m 1-sigma per axis; a fit that
conflicts with the survey is kept for the installer and not taken. -/
def State.foldPosition (est : List Int) (due : List HeldObs) (epochs site : Nat) (s : State) : State :=
  let e := s.siteEntry site
  let both := s.bothAt due site
  let ok : Bool := decide (4 ≤ (nub (both.map (fun h => (h.sigid, h.glok)))).length) && pdopOk (obsDirs both)
  let x := Config.estimate est (.position site 0)
  let pos := (x.1, (Config.estimate est (.position site 1)).1, (Config.estimate est (.position site 2)).1)
  let held := grow 2000 0xFFFF (s.siteWork site).posHeld epochs e.sigPos
  if site = s.arr.assay.table.refSite then s
  else if (s.surveyed site).isNone && !(s.siteWork site).started then
    if both.length < 4 then s
    else
      let p := Config.codeSolution site both
      (s.mapSite site (fun e => { e with bx := p.1, by_ := p.2.1, bz := p.2.2, sigPos := 50000 })).mapSiteWork site (fun w => { w with started := true })
  else
    let clash := ok && (s.arr.assay.ambsAt site).any (·.isFixed) && s.conflictAt site pos
    let s1 := s.mapSiteWork site (fun w => { w with started := true, posHeld := if ok then 0 else held.2 })
    if clash then
      let t := s1.mapAssay (fun a => { a with fitted := vupdN a.fitted site (fun _ => some pos), conflict := vupdN a.conflict site (fun _ => true) })
      let u := t.mapSite site (fun e => { e with sigPos := min 0xFFFF x.2 })
      if vgetD s.arr.assay.conflict site false then u else u.report 0x1A02 2 0xFF site (Config.encodeFields 0x1A02 [site, 1])
    else
      s1.mapSite site (fun e => { e with
        bx := if ok then pos.1 else e.bx, by_ := if ok then pos.2.1 else e.by_, bz := if ok then pos.2.2 else e.bz
        sigPos := if ok then min 0xFFFF x.2 else held.1 })

/-- z_s of a site after an epoch (05 R106, R111). -/
def State.foldZenith (est : List Int) (due : List HeldObs) (epochs site : Nat) (s : State) : State :=
  let both := s.bothAt due site
  let ok := spanThirty (obsDirs both)
  let v := Config.estimate est (.zenith site)
  let w := s.siteWork site
  let held := grow 1000 0xFFFF w.ztdHeld epochs w.sigZtd
  if site = s.arr.assay.table.refSite then (s.mapSite site (fun e => { e with ztd := 0 })).mapSiteWork site (fun w => { w with sigZtd := 0, ztdHeld := 0 })
  else (s.mapSite site (fun e => if ok then { e with ztd := v.1 } else e)).mapSiteWork site (fun w => { w with
      sigZtd := if ok then min 0xFFFF v.2 else held.1, ztdHeld := if ok then 0 else held.2 })

/-- The ambiguities of a site after an epoch (05 R111); `AMB_LOST` ends for a band once what was lost is fixed again (R118). -/
def State.foldAmbs (est : List Int) (due : List HeldObs) (site : Nat) (s : State) : State :=
  let seen := (s.bothAt due site).map (fun h => (h.sigid, h.glok))
  s.mapAssay (fun a =>
    let l := ambsStep est site seen a.ambs
    let back (b : Band) : Bool := !(l.any (fun x => x.site == site && sigBand x.sigid == b && x.lost)) &&
      l.any (fun x => x.site == site && sigBand x.sigid == b && x.isFixed)
    { a with ambs := l, invalid := vupdN a.invalid site (fun v => ⟨v.u && !back .u, v.m && !back .m, v.l && !back .l⟩) })

/-- A signal's part of a site's phase uncertainty, squared, in (0.25 degree · 2^-40)² (05 R111): what p_s, z_s and c_s project onto it. -/
def State.projected2 (s : State) (site : Nat) (x : Nat × Int) : Nat :=
  let b := sigBand x.1
  let e := s.siteEntry site
  let f := carrier x.1 x.2
  let m := match Config.direction x.1 x.2 s.ms with | some d => Config.mapping d.2 | none => 2 ^ 60
  let p := 1440 * f * e.sigPos * 2 ^ 40 / lightSpeed
  let z := 1440 * f * m * (s.siteWork site).sigZtd / 2 ^ 20 / lightSpeed
  let c := 1440 * (f - bandCentre b) * (e.sigClk.get b : Nat) * 2 ^ 40 / 10 ^ 14
  (p * p + z * z + c * c).toNat

/-- `SIG_PH` of a site and band (05 R111): the RMS over the band's assay signals of what p_s, z_s, c_s and the mean θ of the site project onto each;
0xFF while one of them has no estimate. -/
def State.sitePhase (s : State) (site : Nat) (b : Band) : Nat :=
  let e := s.siteEntry site
  let sigs := (s.arr.assay.slots.toList.filterMap id).filterMap (fun x => if sigBand x.1 = b then some (x.1, (s.chan x.2).glok) else none)
  let els := s.serving site b
  if sigs.isEmpty then e.sigPh.get b
  else if e.sigPos = 0xFFFF ∨ (s.siteWork site).sigZtd = 0xFFFF ∨ e.sigClk.get b = 0xFFFF ∨ els.isEmpty then 0xFF
  else
    let th := (els.map (fun n => (s.eb n b).sigPh * (s.eb n b).sigPh)).foldl (· + ·) 0 * 2 ^ 80 / (els.length * els.length)
    let mean := (sigs.map (fun x => s.projected2 site x + th)).foldl (· + ·) 0 / sigs.length
    let r := isqrt mean
    min 0xFF (openRound r (r / 2 ^ 40) (r % 2 ^ 40 == 0)).toNat

/-- Folds an epoch's observations for a site (05 R106, R111, R117, R118). -/
def State.foldSite (est : List Int) (due : List HeldObs) (epochs : Nat) (s : State) (site : Nat) : State :=
  let s1 := bands.foldl (State.foldClock est due epochs site) s
  let s2 := ((s1.foldAmbs est due site).foldPosition est due epochs site).foldZenith est due epochs site
  s2.mapSite site (fun e => { e with sigPh := ⟨s2.sitePhase site .u, s2.sitePhase site .m, s2.sitePhase site .l⟩ })

/-! ### The reference -/

/-- The mean of the delays of a site's in-service element-bands, without a fraction; 0 without one. -/
def State.meanDelay (s : State) (site : Nat) (b : Band) : Int :=
  let l := s.serving site b
  if l.isEmpty then 0 else ((l.map (fun n => (s.eb n b).dly)).foldl (· + ·) 0) / (l.length : Int)

/-- Takes a delay off every τ of a site and band. -/
def State.shiftDelays (site : Nat) (b : Band) (d : Int) (s : State) : State :=
  if d = 0 then s else
    (List.range 96).foldl (fun t n => if t.siteOf n = site then
      (t.mapEb n b (fun e => { e with dly := e.dly - d })).mapWork n b (fun w => { w with tauHist := w.tauHist.map (fun x => (x.1, x.2 - d)) }) else t) s

/-- The delays of a site's in-service element-bands sum to zero (05 R106), as far as the field's unit allows: their mean goes into the site's clock
offset, and the reference site's out of everyone's. `keep` is a change of membership: what is taken off τ + c of the whole array is kept for the adit
settings, which do not change. -/
def State.zeroSum (keep : Bool) (b : Band) (s : State) (site : Nat) : State :=
  let d := s.meanDelay site b
  let t := s.shiftDelays site b d
  if s.refSite b = site then
    if keep then
      (List.range 12).foldl (fun u i => if i = site then u else u.mapSite i (fun e => { e with clk := e.clk.upd b (· - d) }))
        (t.mapAssay (fun a => { a with table := { a.table with shift := a.table.shift.upd b (· + d) } }))
    else t
  else t.mapSite site (fun e => { e with clk := e.clk.upd b (· + d) })

/-- The phases of the reference site's in-service element-bands keep their sum through an epoch (05 R106): the mean of their changes goes off every
phase of the band. -/
def State.keepPhases (old : State) (s : State) (b : Band) : State :=
  let l := s.serving (s.refSite b) b
  if l.isEmpty then s
  else
    let d := ((l.map (fun n => sx 16 (bitsOf 16 ((s.eb n b).ph - (old.eb n b).ph)))).foldl (· + ·) 0) / (l.length : Int)
    if d = 0 then s else (List.range 96).foldl (fun t n => t.mapEb n b (fun e => { e with ph := bitsOf 16 (e.ph - d) })) s

/-- The reference of R106 after an epoch's fold. -/
def State.refer (old : State) (s : State) : State :=
  let t := bands.foldl (fun t b => (List.range 12).foldl (State.zeroSum false b) t) s
  bands.foldl (State.keepPhases old) t

/-- The sets of in-service element-bands of two states differ in a band. -/
def State.memberChange (old s : State) (b : Band) : Bool := (List.range 96).any (fun n => old.inService n b != s.inService n b)

/-- The reference is defined anew where the membership of a band changes (05 R106). -/
def State.redefine (old : State) (s : State) : State :=
  bands.foldl (fun t b => if old.memberChange s b then (List.range 12).foldl (State.zeroSum true b) t else t) s

/-! ### The fold -/

/-- The sweep takes an epoch (05 R122): all signals, those beyond the selection too, from its start on. -/
def State.foldSweep (due : List HeldObs) (s : State) : State :=
  match s.arr.assay.sweep with
  | none => s
  | some t0 =>
    let l := due.filter (fun h => decide (t0 ≤ h.epoch))
    if l.isEmpty then s
    else
      let est := Config.estimator s.arr.assay.sweepEst s.arr.assay.table l
      s.mapAssay (fun a => { a with
        sweepEst := est
        sweepAmbs := (List.range 12).foldl (fun v site => ambsStep est site ((s.bothAt l site).map (fun h => (h.sigid, h.glok))) v) a.sweepAmbs })

/-- Holds every quantity for some epochs without observations (05 R111). -/
def State.holdEpochs (epochs : Nat) (s : State) : State :=
  if epochs = 0 then s
  else (List.range 12).foldl (State.foldSite s.arr.assay.est [] epochs) (allEbs.foldl (State.foldEb s.arr.assay.est [] epochs) s)

/-- Folds the observations of one epoch, after the epochs before it that have none (05 R105, R111). -/
def State.foldEpoch (due : List HeldObs) (s0 : State) (epoch : Nat) : State :=
  let s := s0.holdEpochs (epoch - s0.arr.assay.foldedTo.getD epoch)
  let all := due.filter (fun h => h.epoch == epoch && h.sign.isSome)
  let l := all.filter (fun h => !h.extra)
  let t :=
    if l.isEmpty then s.holdEpochs 1
    else
      let est := Config.estimator s.arr.assay.est s.arr.assay.table l
      let s1 := s.mapAssay (fun a => { a with est := est })
      ((List.range 12).foldl (State.foldSite est l 1) (allEbs.foldl (State.foldEb est l 1) s1)).refer s
  (t.foldSweep all).mapAssay (fun a => { a with foldedTo := some (epoch + 1) })

/-- Ambiguities of signals that have left assay and of which no observation is held any more go (05 R121). -/
def State.dropAmbs (s : State) : State :=
  s.mapAssay (fun a => { a with
    ambs := a.ambs.filter (fun x => a.slots.toList.any (fun y => y.any (fun z => z.1 == x.sigid)) || a.held.any (fun h => h.sigid == x.sigid)) })

/-- `ASSAY_FOLD` (05 R105, R111): the epochs of which `AHOLD` has passed are folded in turn; of those without observations the uncertainties grow. -/
def execEvAssayFold (_ : NoInput) (s : State) : Host.Outcome State Fault Refusal :=
  let limit := s.ms - 1000 * s.arr.assay.params.ahold + 1
  let dueNow (h : HeldObs) : Bool := decide (h.epoch < limit)
  .next (
    if s.ms < 1000 * s.arr.assay.params.ahold ∨ !s.fabricUp then s
    else
      let due := s.arr.assay.held.filter dueNow
      let s1 := s.mapAssay (fun a => { a with held := a.held.filter (fun h => !dueNow h) })
      let s2 := (sortBy (fun x => x) (nub (due.map (·.epoch)))).foldl (State.foldEpoch due) s1
      (s2.holdEpochs (limit - s2.arr.assay.foldedTo.getD limit)).dropAmbs.mapAssay (fun a => { a with foldedTo := some limit }))

end Sys2Proof.Machine
end

