-- ==== Sys2Proof/Machine/Assay.lean ====
section
/-! DEFINITION. Assay (05): generations (R107, R109, R110), quarantine, admission and
demotion (R113–R116), signal selection (R104), the reference site (R112), the sweep (R122), and the commands of group 0x05. -/

namespace Sys2Proof.Machine

/-! ### Generations -/

/-- The adit delay that R107 gives an element, in 1/65 536 tick: −(c + τ) / T of its first enabled band, rounded; what the changes of the reference
have taken off c + τ stays in it (R106, R112). -/
def State.aditDelay (s : State) (n : Nat) : Int :=
  match (bandsOf (s.lane n).bands).head? with
  | none => 65536 * (s.adit n).blk.idelay + (s.adit n).blk.fdelay
  | some b => roundDiv (-(s.calDelay s.arr.assay.table n b) * 8184 * 65536) (10 ^ 10)

/-- `GMAG` of R107 before it is limited: `NTGT` / (64 × RMS) in UQ2.14, none without samples. The rule states no rounding: the model takes either
neighbour of the exact value, by `Config.roundUp` (log 6). -/
def State.gmagRaw (s : State) (n : Nat) (b : Band) : Option Nat :=
  let l := ((s.adit n).rms.get b).take 81840
  let sum := (l.map (·.2)).foldl (· + ·) 0
  let num := (s.arr.assay.table.ntgt * 2 ^ 24) ^ 2 * l.length
  let v := isqrt (num / sum)
  if l.isEmpty ∨ sum = 0 then none else some (openRound num v (v * v * sum == num)).toNat

/-- What a generation writes for an element (05 R107, R121). -/
def State.genWrite (s : State) (n : Nat) : GenWrite :=
  let a := s.adit n
  let mag (b : Band) : Nat := if s.frozen (s.siteOf n) b then a.blk.gmag.get b else min 0xFFFF ((s.gmagRaw n b).getD (a.blk.gmag.get b))
  let ph (b : Band) : Nat := (65536 - (s.eb n b).ph % 65536) % 65536
  { el := n, delay := s.aditDelay n, gph := ⟨ph .u, ph .m, ph .l⟩, gmag := ⟨mag .u, mag .m, mag .l⟩ }

/-- `CAL_GENERATION` (05 R109): every `AGEN` epochs a generation is published; it commits at the boundary 2 000 µs after the one that closes
the epoch. -/
def execEvCalGeneration (s : State) : Host.Outcome State Fault Refusal :=
  let a := s.arr.assay
  .next (
    if a.sinceGen < a.params.agen then s
    else
      let gen := (a.pendingGen.getLast?.map (·.num)).getD a.table.ctGen + 1
      s.mapAssay (fun a => { a with sinceGen := 0, pendingGen := a.pendingGen ++ [{ num := gen, commit := s.ms + 3, table := a.table, writes := (List.range 96).map s.genWrite }] }))

/-- The steps of an in-service element-band (05 R110): 5/65 536 tick is at most 1 ps, 182/65 536 turn at most 1°; 0.1 dB as a ratio. -/
def stepDelay (cur new : Int) : Int := clampI (cur - 5) (cur + 5) new
def stepPhase (cur new : Nat) : Nat := bitsOf 16 ((cur : Int) + clampI (-182) 182 (sx 16 (new + 65536 - cur % 65536)))
def stepMag (cur new : Nat) : Nat :=
  min 0xFFFF (min (cur * 101157945425 / 10 ^ 11) (max ((cur * 10 ^ 11 + 101157945425 - 1) / 101157945425) new))

/-- A generation's write reaches an adit (05 R107, R110; 01 R18 step 5). -/
def State.writeAdit (s : State) (g : GenWrite) : State :=
  let lim (b : Band) : Bool := s.inService g.el b
  s.mapAdit g.el (fun a =>
    let cur := 65536 * a.blk.idelay + a.blk.fdelay
    let d := clampI (-256 * 65536) (256 * 65536 - 1) (if lim .u || lim .m || lim .l then stepDelay cur g.delay else g.delay)
    let ph (b : Band) : Nat := if lim b then stepPhase (a.blk.gph.get b) (g.gph.get b) else g.gph.get b
    let mag (b : Band) : Nat := if lim b then stepMag (a.blk.gmag.get b) (g.gmag.get b) else g.gmag.get b
    { a with blk := { a.blk with
      idelay := d / 65536, fdelay := (d % 65536).toNat, gph := ⟨ph .u, ph .m, ph .l⟩, gmag := ⟨mag .u, mag .m, mag .l⟩ } })

/-- Generations that are due commit (05 R109): step 5 of the commit order. -/
def State.commitGenerations (s : State) : State :=
  s.arr.assay.pendingGen.foldl (fun s g =>
    if g.commit ≤ s.ms then
      (g.writes.foldl State.writeAdit s).mapAssay (fun a => { a with
        table := { a.table with ctGen := g.num, ctEpoch := s.ms }, genTable := some g.table
        pendingGen := a.pendingGen.filter (fun x => x.num != g.num) })
    else s) s

/-! ### Quarantine -/

/-- `GMAG` saturates (05 R113). -/
def State.gmagSat (s : State) (n : Nat) (b : Band) : Bool := match s.gmagRaw n b with | some v => decide (0xFFFF < v) | none => false

/-- The adit delay of R107 lies in its range. -/
def State.delayOk (s : State) (n : Nat) : Bool := let d := s.aditDelay n; decide (-256 * 65536 ≤ d ∧ d < 256 * 65536)

/-- The admission conditions of R113 in the table's order: clock, signals, three uncertainties, residual, gain window, adit range. The clock starts at
the boundary that makes `qclock` 1. -/
def State.admitConds (s : State) (n : Nat) (b : Band) : List Bool :=
  let p := s.arr.assay.params
  let w := s.work n b
  let e := s.eb n b
  [decide (1000 * p.qmin < w.qclock), decide (p.qsig ≤ w.nsig), decide (e.sigDly ≤ 100 * p.tauAdmit), decide (e.sigPh ≤ 4 * p.phiAdmit),
   decide (w.sigGain ≤ 10 * p.gainAdmit), decide (w.res10 ≤ 10 * p.resAdmit), decide (e.gain.natAbs ≤ 100 * p.cn0Win),
   s.delayOk n && !s.gmagSat n b]

/-- An element-band may be admitted (05 R113, R114). -/
def State.admissible (s : State) (n : Nat) (b : Band) : Bool :=
  (s.eb n b).ebstate == 1 && !(s.work n b).rejected && (s.admitConds n b).all (·)

/-- The other element of an element's site whose charter offset the residuals fit best, where they fit it within `RES_ADMIT` (05 R114 `SWAP`). -/
def State.swapFit (s : State) (n : Nat) (b : Band) : Option Nat :=
  let res (m : Nat) : Nat := (Config.estimate s.arr.assay.est (.swapped n b m)).1.toNat
  leastBy res ((List.range 96).filter (fun m => m != n && (s.elem m).fitted && s.siteOf m == s.siteOf n && decide (res m ≤ 10 * s.arr.assay.params.resAdmit)))

/-- The rejection cause of the first unmet condition (05 R114). -/
def State.rejectCause (s : State) (n : Nat) (b : Band) : Nat :=
  match (s.admitConds n b).findIdx? (fun x => !x) with
  | some 0 | none => 0
  | some 1 => 1
  | some 5 => if (s.swapFit n b).isSome then 4 else 3
  | some 6 => 5
  | some 7 => if s.delayOk n then 5 else 6
  | _ => 2

/-- `QUARANTINE_EXPIRY` (05 R114): `QMAX` without admission rejects, with `FLT_ASSAY_REJECT` (0x1A01). -/
def execEvQuarantineExpiry (el : Fin 96) (b : Band) (s : State) : Host.Outcome State Fault Refusal :=
  let n := el.val
  .next (
    if (s.eb n b).ebstate = 1 ∧ !(s.work n b).rejected ∧ 1000 * s.arr.assay.params.qmax < (s.work n b).qclock ∧ !(s.admitConds n b).all (·) then
      let c := s.rejectCause n b
      ((s.mapWork n b (fun w => { w with rejected := true })).mapEb n b (fun e => { e with cause := c })).report 0x1A01 1 0xFF (3 * n + b.code)
        (Config.encodeFields 0x1A01 [n, b.code, c, if c = 4 then ((s.swapFit n b).getD 0xFF : Nat) else 0xFF])
    else s)

/-- The clocks of every element-band advance by one boundary (05 R113, R119 `QAGE`); one that is out of service has none. -/
def State.ageEbs (s : State) : State :=
  s.mapAssay (fun a =>
    let f (w : EbWork) : EbWork := { w with qclock := w.qclock + 1 }
    let work := a.work.map (fun x => x.map f)
    { a with
      work := work
      table := { a.table with
        ebs := Vector.ofFn (fun (i : Fin 96) =>
          let e := a.table.ebs[i]
          let w := work[i]
          let age (b : Band) : Nat :=
            if (e.get b).ebstate = 2 then 0 else min 0xFFFF (((w.get b).qclock - (if (e.get b).ebstate = 1 then 1 else 0)) / 1000)
          ⟨{ e.u with qage := age .u }, { e.m with qage := age .m }, { e.l with qage := age .l }⟩) } })

/-- The quarantine clock of an element-band that has entered quarantine at the present boundary starts at it (05 R113). -/
def State.startClocks (s : State) : State :=
  s.mapAssay (fun a => { a with work := Vector.ofFn (fun (i : Fin 96) =>
    let w := a.work[i]
    let one (b : Band) : EbWork :=
      if ((a.table.ebs[i]).get b).ebstate = 1 ∧ (w.get b).qclock = 0 then { w.get b with qclock := 1 } else w.get b
    ⟨one .u, one .m, one .l⟩) })

/-- Admits an element-band (05 R113): step 1 of the commit order. -/
def State.certify (s : State) (x : Nat × Band) : State :=
  if s.admissible x.1 x.2 then
    (s.mapEb x.1 x.2 (fun e => { e with ebstate := 0, qage := 0 })).mapWork x.1 x.2 (fun w => { w with qclock := 0 })
  else s

/-- An in-service element-band must return to quarantine (05 R116). -/
def State.demotable (s : State) (n : Nat) (b : Band) : Bool :=
  let w := s.work n b
  let l : List Int := w.tauHist.map (·.2)
  s.inService n b && (decide (20 * s.arr.assay.params.resAdmit < w.res1) || decide (5000 < l.foldl max (l.headD 0) - l.foldl min (l.headD 0)))

/-- A band has no in-service element-band: bootstrap (05 R115). -/
def State.bootstrap (s : State) (b : Band) : Bool := (List.range 96).all (fun n => !s.inService n b)

/-- `CT_FLAGS` bits 0–2 follow the bands; dither of a band that leaves bootstrap ends at the next boundary (05 R115). -/
def State.bootstrapFlags (s : State) : State :=
  let old := s.arr.assay.table.ctFlags
  let now (b : Band) : Bool := s.bootstrap b
  let ends (b : Band) : Bool := bit old b.code && !now b
  s.mapAssay (fun a => { a with
    table := { a.table with ctFlags := bbool (now .u) + 2 * bbool (now .m) + 4 * bbool (now .l) }
    ditherEnd := ⟨ends .u, ends .m, ends .l⟩ })

/-! ### The reference site -/

/-- The reference site that R112 asks for: the charter's where it serves, else the site of group 0 with the most in-service element-bands, the
lowest-numbered on ties, else the present one. -/
def State.wantedRef (s : State) (b : Band) : Nat :=
  let home := (charterDevice s.boo.charter).refSite
  if !(s.serving home b).isEmpty then home
  else
    let c := (List.range 12).filter (fun i => vgetD (s.cohOf b).inGroup i false && !(s.serving i b).isEmpty)
    (leastBy (fun i => 96 - (s.serving i b).length) c).getD (s.refSite b)

/-- A swept solution expressed against a new reference site (05 R112). -/
def SweepSite.refer (base : Bool) (b : Band) (pos : Int × Int × Int) (ztd clk : Int) (d : SweepSite) : SweepSite :=
  { d with clk := d.clk.upd b (· - clk), pos := if base then sub3 d.pos pos else d.pos, ztd := if base then d.ztd - ztd else d.ztd }

/-- Ambiguities of a band against a new reference site: N(s) less the new site's (05 R112); a signal without an ambiguity there starts again. -/
def ambsRefer (old new : Nat) (b : Band) (l : List Amb) : List Amb :=
  let at_ (x : Amb) : Option Amb := l.find? (fun y => y.site == new && y.sigid == x.sigid && y.glok == x.glok)
  let mine (x : Amb) : Bool := sigBand x.sigid == b
  let kept := (l.filter (fun x => mine x && x.site != new)).map (fun x =>
    match at_ x with
    | some y => { x with n := x.n - y.n, isFixed := x.isFixed && y.isFixed, good := min x.good y.good }
    | none => { x with isFixed := false, good := 0 })
  let back := (l.filter (fun x => mine x && x.site == new)).map (fun y => { y with site := old, n := -y.n })
  l.filter (fun x => !mine x) ++ kept ++ back

/-- Takes the reference of a band to a site (05 R112): every relative estimate is expressed against it, and what that takes off τ + c of the band is
kept for the adit settings, of which none changes. -/
def State.moveRef (b : Band) (s : State) : State :=
  let old := s.refSite b
  let new := s.wantedRef b
  let e := s.siteEntry new
  let base : Bool := decide (b = .u)
  let moves : Bool := base && old != new
  let p := (e.bx, e.by_, e.bz)
  let fresh : SweepSite := (s.arr.assay.sweepDiff.find? (fun d => d.site == new)).getD { site := new, pos := p, ztd := e.ztd, clk := e.clk, ambs := [] }
  let marked (i : Nat) (x : SiteEntry) : SiteEntry :=
    let r : Nat := x.refb % 2 ^ b.code + 2 ^ b.code * bbool (i == new) + x.refb / 2 ^ (b.code + 1) * 2 ^ (b.code + 1)
    { x with refb := r, clk := x.clk.upd b (· - e.clk.get b)
             bx := if moves then x.bx - e.bx else x.bx
             by_ := if moves then x.by_ - e.by_ else x.by_
             bz := if moves then x.bz - e.bz else x.bz
             ztd := if moves then x.ztd - e.ztd else x.ztd }
  let s1 := s.mapAssay (fun a => { a with
    table := { a.table with
      sites := Vector.ofFn (fun (i : Fin 12) => marked i.val a.table.sites[i])
      refSite := if base then new else a.table.refSite
      shift := a.table.shift.upd b (· + e.clk.get b)
      refPos := if moves then (a.table.refPos.1 + e.bx, a.table.refPos.2.1 + e.by_, a.table.refPos.2.2 + e.bz) else a.table.refPos }
    fitted := if moves then (a.fitted.map (fun x => x.map (fun q => sub3 q p))) else a.fitted
    accepted := if moves then (a.accepted.map (fun x => x.map (fun q => sub3 q p))) else a.accepted
    sweepDiff := if old = new then a.sweepDiff else
      (a.sweepDiff.filter (fun d => d.site != new)).map (SweepSite.refer moves b fresh.pos fresh.ztd (fresh.clk.get b))
    ambs := if old = new then a.ambs else ambsRefer old new b a.ambs
    sweepAmbs := if old = new then a.sweepAmbs else ambsRefer old new b a.sweepAmbs })
  if old = new then s1 else s1.mapCoh b (fun c => { c with inGroup := vupdN c.inGroup new (fun _ => false) })

/-- The references of the three bands, in step 1 of the commit order. -/
def State.moveRefs (s : State) : State := bands.foldl (fun t b => t.moveRef b) s

/-! ### Signal selection -/

/-- The elevation at which a signal stands, in 0.01 degree. -/
def State.elevation (s : State) (sigid : Nat) (k : Int) : Option Int := (Config.direction sigid k s.ms).map (·.2)

/-- Channels whose signals assay may take in a band (05 R104): tracked, not linked, high enough, not excluded, not under suspicion. A bootstrap signal
whose elevation nothing predicts yet is taken, since a band in bootstrap would otherwise have no assay signal before the first ephemeris (DESIGN CHOICE,
log 53). -/
def State.assayCands (s : State) (b : Band) : List Nat :=
  let a := s.arr.assay
  (List.range 384).filter (fun n =>
    let c := s.chan n
    (c.st == .track || c.st == .boot) && c.prim.isNone && sigBand c.sigid == b && s.cleared c.sigid && !(a.excluded.contains c.sigid) &&
    (match s.elevation c.sigid c.glok with | some e => decide ((100 * a.params.assayMask : Nat) ≤ e) | none => c.st == .boot))

/-- The figures of a channel's signal that the score spreads: its carrier offset in Hz and its direction in Q30, none while nothing predicts it. -/
def State.scored (s : State) (n : Nat) : Int × (Int × Int × Int) :=
  let c := s.chan n
  (sigOffset c.sigid c.glok,
   match Config.direction c.sigid c.glok s.ms with
   | some d => let u := unitEnu d.1 d.2; (u.1 / 2 ^ 30, u.2.1 / 2 ^ 30, u.2.2 / 2 ^ 30)
   | none => (0, 0, 0))

/-- The spread of carrier offsets of some signals: their number times the sum of squares less the square of the sum (05 worked example, rms spread). -/
def carrierSpread (l : List (Int × (Int × Int × Int))) : Int :=
  let m := (l.map (·.1)).foldl (· + ·) 0
  (l.length : Int) * (l.map (fun x => x.1 * x.1)).foldl (· + ·) 0 - m * m

/-- The same of their directions. -/
def directionSpread (l : List (Int × (Int × Int × Int))) : Int :=
  let m := l.foldl (fun a x => (a.1 + x.2.1, a.2.1 + x.2.2.1, a.2.2 + x.2.2.2)) (0, 0, 0)
  (l.length : Int) * (l.map (fun x => dot3 x.2 x.2)).foldl (· + ·) 0 - dot3 m m

/-- The first of a list that no other exceeds in three figures, applied in turn. -/
def bestOf (f : Nat → Int × Int × Int) : List Nat → Option Nat
  | [] => none
  | x :: l => some (l.foldl (fun m y =>
      let a := f m
      let c := f y
      if a.1 < c.1 ∨ (a.1 = c.1 ∧ (a.2.1 < c.2.1 ∨ (a.2.1 = c.2.1 ∧ a.2.2 < c.2.2))) then y else m) x)

/-- The next `k` signals by the score of R104, one after the other: of those left, the one that brings the spread of carrier offsets of those chosen
nearest its maximum, then that of directions, then the one with the highest C/N0 (log 53). -/
def State.chooseAssay (s : State) : Nat → List Nat → List Nat → List Nat
  | 0, chosen, _ => chosen
  | k + 1, chosen, left =>
    let had := chosen.map s.scored
    match bestOf (fun n => (carrierSpread (had ++ [s.scored n]), directionSpread (had ++ [s.scored n]), ((s.chan n).cn0 : Int))) left with
    | none => chosen
    | some n => s.chooseAssay k (chosen ++ [n]) (left.filter (· != n))

/-- The signals that a band's slots take (05 R104): of those that meet the conditions the pinned ones first, then by the score. -/
def State.assayOrder (s : State) (b : Band) (slots : Nat) : List Nat :=
  let c := s.assayCands b
  let pin := (c.filter (fun n => s.arr.assay.pinned.contains (s.chan n).sigid)).take slots
  s.chooseAssay (slots - pin.length) pin (c.filter (fun n => !pin.contains n))

/-- The slots of a band take the chosen signals; a signal that stays keeps its slot. -/
def fillSlots (slots : List Nat) (want : List (Nat × Nat)) (v : Vector (Option (Nat × Nat)) 160) : Vector (Option (Nat × Nat)) 160 :=
  let chosen := want.take slots.length
  let kept := slots.filter (fun i => (match vgetD v i none with | some x => chosen.contains x | none => false))
  let fresh := chosen.filter (fun x => !(kept.any (fun i => vgetD v i none == some x)))
  let free := slots.filter (fun i => !kept.contains i)
  let cleared := free.foldl (fun v i => vupdN v i (fun _ => none)) v
  (free.zip fresh).foldl (fun v p => vupdN v p.1 (fun _ => some p.2)) cleared

/-- Reselects the assay signals of every band (05 R104). -/
def State.reselectAssay (s : State) : State :=
  match s.fab.active with
  | none => s
  | some p =>
    let one (s : State) (b : Band) : State :=
      let slots := sortBy (fun x => x) ((p.assays.filter (fun x => x.aband == b.code)).map (·.aslot))
      let want := (s.assayOrder b slots.length).map (fun n => ((s.chan n).sigid, n))
      s.mapAssay (fun a => { a with slots := fillSlots slots want a.slots })
    (bands.foldl one s).mapAssay (fun a => { a with reselect := false, lastSelect := s.upMs })

/-- Reselection is due: 10 s have passed, or a signal has left tracking (05 R104). -/
def State.reselectDue (s : State) : Bool := s.arr.assay.reselect || decide (s.arr.assay.lastSelect + 10000 ≤ s.upMs)

/-! ### Saves, the sweep -/

/-- Writes the calibration table to flash (05 R120). -/
def State.saveTable (s : State) : State := s.mapAssay (fun a => { a with stored := some a.table, lastSave := s.upMs })

/-- `CAL_TABLE_SAVE` (05 R120): every 600 s. -/
def execEvCalTableSave (s : State) : Host.Outcome State Fault Refusal :=
  .next (if s.arr.assay.lastSave + 600000 ≤ s.upMs ∧ s.boo.dstate = .run then s.saveTable else s)

/-- A site is to leave group 0 in every band, in step 4 of the next boundary (05 R122, 04 R87). -/
def State.leaveGroup (site : Nat) (s : State) : State :=
  bands.foldl (fun t b => t.mapCoh b (fun c => { c with leave := vupdN c.leave site (fun _ => true) })) s

/-- A fresh solution differs from the running one: more than 3 mm, or 5 ps in a clock offset (05 R122). -/
def SiteEntry.differs (e : SiteEntry) (f : SweepSite) : Bool :=
  decide (900 < dist2 (e.bx, e.by_, e.bz) f.pos) || bands.any (fun b => decide (500 < (e.clk.get b - f.clk.get b).natAbs))

/-- The fresh solutions of a sweep (05 R122): of the sites that had signals together with the reference site. -/
def State.sweepFresh (s : State) : List SweepSite :=
  let a := s.arr.assay
  let v (q : EstOf) : Int := (Config.estimate a.sweepEst q).1
  ((List.range 12).filter (fun i => i != a.table.refSite && a.sweepAmbs.any (fun x => x.site == i))).map (fun i =>
    let clk (b : Band) : Int := if s.refSite b = i then 0 else v (.clock i b)
    { site := i, pos := (v (.position i 0), v (.position i 1), v (.position i 2)), ztd := v (.zenith i)
      clk := ⟨clk .u, clk .m, clk .l⟩, ambs := a.sweepAmbs.filter (fun x => x.site == i) })

/-- `SWEEP_END` (05 R122): after `SWEEP_T` the fresh solution is compared with the running one; a site that differs leaves group 0. -/
def execEvSweepEnd (_ : NoInput) (s : State) : Host.Outcome State Fault Refusal :=
  .next (match s.arr.assay.sweep with
    | none => s
    | some t0 =>
      if s.ms < t0 + 1000 * s.arr.assay.params.sweepT then s
      else
        let bad := s.sweepFresh.filter (fun f => (s.siteEntry f.site).differs f)
        let s1 := bad.foldl (fun t f => t.leaveGroup f.site) s
        let s2 := s1.mapAssay (fun a => { a with
          sweep := none, sweepEst := [], sweepAmbs := [], sweepAcc := []
          sweepDiff := a.sweepDiff.filter (fun d => !(bad.any (fun f => f.site == d.site))) ++ bad
          acceptSites := if s.lyparil then a.acceptSites ++ bad.map (·.site) else a.acceptSites })
        s2.endAct (fun a => a.code == 1) 1)

/-- A site's fitted or swept values are adopted (05 R118, R122): position, and of a sweep also zenith delay, clock offsets and ambiguities. -/
def State.acceptSite (s : State) (site : Nat) : State :=
  let a := s.arr.assay
  let s1 := match vgetD a.fitted site none with
    | some p =>
      if vgetD a.conflict site false then
        (s.mapSite site (fun e => { e with bx := p.1, by_ := p.2.1, bz := p.2.2 })).mapAssay (fun a => { a with
          fitted := vupdN a.fitted site (fun _ => none), conflict := vupdN a.conflict site (fun _ => false)
          accepted := vupdN a.accepted site (fun _ => some p) })
      else s
    | none => s
  match a.sweepDiff.find? (fun d => d.site == site) with
  | some d =>
    (s1.mapSite site (fun e => { e with bx := d.pos.1, by_ := d.pos.2.1, bz := d.pos.2.2, ztd := d.ztd, clk := d.clk })).mapAssay (fun a => { a with
      sweepDiff := a.sweepDiff.filter (fun d => d.site != site), accepted := vupdN a.accepted site (fun _ => some d.pos)
      ambs := a.ambs.filter (fun x => x.site != site) ++ d.ambs })
  | none => s1

/-- What a boundary commits of the assay commands (05 R123): requalifications, accepted sites, signals, parameters. -/
def State.assayCommands (s : State) : State :=
  let a := s.arr.assay
  let s1 := a.requal.foldl (fun t x =>
    ((t.mapWork x.1 x.2 (fun w => { w with rejected := false })).quarantine x.1 x.2).mapEb x.1 x.2 (fun e => { e with cause := 0 })) s
  let s2 := a.acceptSites.foldl State.acceptSite s1.startClocks
  s2.mapAssay (fun a => { a with
    requal := [], acceptSites := []
    pinned := (a.signalsStaged.map (·.1)).getD a.pinned, excluded := (a.signalsStaged.map (·.2)).getD a.excluded
    reselect := a.reselect || a.signalsStaged.isSome, signalsStaged := none
    params := a.paramsStaged.getD a.params, paramsStaged := none })

/-! ### Commands -/

/-- `ASSAY_STATUS` (05 R123). -/
def specAssayStatus : CmdSpec :=
  statusSpec 0x0500 (fun _ s => Config.encodeFields 0x0500 (
    (bands.map (fun b =>
      let count (f : Nat → Bool) : Int := (((List.range 96).filter f).length : Nat)
      [((bbool (s.bootstrap b) : Nat) : Int), ((s.refSite b : Nat) : Int), count (fun n => s.inService n b),
       count (fun n => (s.eb n b).ebstate == 1), count (fun n => (s.work n b).rejected)])).flatten ++
    [((s.arr.assay.table.ctGen : Nat) : Int), ((bbool s.arr.assay.sweep.isSome : Nat) : Int)]))

/-- `ASSAY_STATUS`, served by its spec (12 R315). -/
def execCmdAssayStatus (p : Packet) (s : State) : Host.Outcome State Fault Refusal := s.command specAssayStatus p

/-- A site entry's 48 bytes (05 R119), with its `SSTATE`, `NFIX` and `SCAUSE`. -/
def SiteEntry.bytes (sstate nfix scause : Nat) (e : SiteEntry) : List Byte :=
  bi32 e.bx ++ bi32 e.by_ ++ bi32 e.bz ++ b16 e.sigPos ++ bi16 e.ztd ++ bi32 e.clk.u ++ bi32 e.clk.m ++ bi32 e.clk.l ++
  b16 e.sigClk.u ++ b16 e.sigClk.m ++ b16 e.sigClk.l ++ b8 e.sigPh.u ++ b8 e.sigPh.m ++ b8 e.sigPh.l ++
  b8 sstate ++ b8 nfix ++ b8 scause ++ b8 e.refb ++ Machine.bz 7

/-- An identity entry's 8 bytes. -/
def IdEntry.bytes (e : IdEntry) : List Byte := b16 e.vendor ++ b16 e.model ++ b32 e.serial

/-- An element-band entry's 16 bytes. -/
def EbEntry.bytes (e : EbEntry) : List Byte :=
  bi32 e.dly ++ b16 e.sigDly ++ b16 e.ph ++ bi16 e.gain ++ b8 e.sigPh ++ b8 e.ebstate ++ b8 e.nsig ++ b8 e.cause ++ b16 e.qage

/-- The calibration table's 6 000 bytes (05 R119). -/
def State.tableBytes (s : State) : List Byte :=
  let a := s.arr.assay
  let t := a.table
  b8 t.ctVer ++ b8 t.refSite ++ b8 (t.ctFlags % 8 + 8 * bbool a.sweep.isSome) ++ bz 1 ++ b32 t.ctGen ++ b64 t.ctEpoch ++
  bi64 t.refPos.1 ++ bi64 t.refPos.2.1 ++ bi64 t.refPos.2.2 ++ b8 t.ntgt ++ bz 7 ++
  ((List.range 12).map (fun i => (s.siteEntry i).bytes (s.sstate i) (s.nfix i) (s.scause i))).flatten ++ (t.ids.toList.map IdEntry.bytes).flatten ++
  (t.ebs.toList.map (fun e => e.u.bytes ++ e.m.bytes ++ e.l.bytes)).flatten

/-- A read of a byte range (12 R320). `OBJ` is 0 where a command has one object. -/
def readSpec (opcode : Nat) (f : State → List Byte) (size : Nat) : CmdSpec :=
  { opcode := opcode, role := roleAny, len := lenIs 8, idle := true
    param := fun r _ => if r.obj ≠ 0 then some 0 else rangeBad size r
    run := fun r s => (.ok (((f s).drop r.roff).take r.rlen), s) }

/-- `CAL_READ` (05 R119, 12 R320). -/
def specCalRead : CmdSpec :=
  readSpec 0x0501 State.tableBytes 6000

/-- `CAL_READ`, served by its spec (12 R315). -/
def execCmdCalRead (p : Packet) (s : State) : Host.Outcome State Fault Refusal := s.command specCalRead p

/-- `QUAR_LIST` (05 R123): the quarantined element-bands with `QAGE`, `NSIG` and the admission conditions met. -/
def specQuarList : CmdSpec :=
  statusSpec 0x0502 (fun _ s => Config.encodeFields 0x0502 ((allEbs.filter (fun x => (s.eb x.1 x.2).ebstate == 1)).map (fun x =>
    let e := s.eb x.1 x.2
    [((x.1 : Nat) : Int), ((x.2.code : Nat) : Int), ((e.qage : Nat) : Int), ((e.nsig : Nat) : Int),
     (((((s.admitConds x.1 x.2).zip (List.range 8)).map (fun c => if c.1 then 2 ^ c.2 else 0)).foldl (· + ·) 0 : Nat) : Int)])).flatten)

/-- `QUAR_LIST`, served by its spec (12 R315). -/
def execCmdQuarList (p : Packet) (s : State) : Host.Outcome State Fault Refusal := s.command specQuarList p

/-- `ASSAY_SWEEP` (05 R122, R123). -/
def specAssaySweep : CmdSpec :=
  { opcode := 0x0503, role := roleInstaller, len := lenIs 0, changes := fun _ => true
    run := fun r s =>
      s.request r { code := 1, arg := 0, arg2 := 0, sid := r.x.sid, seq := r.p.seq, opcode := 0x0503 } (fun _ => .ok []) (fun _ => .fail stBusy) }

/-- `ASSAY_SWEEP`, served by its spec (12 R315). -/
def execCmdAssaySweep (p : Packet) (s : State) : Host.Outcome State Fault Refusal := s.command specAssaySweep p

/-- `ELEM_REQUAL` (05 R114, R123): `INDEX` the element, `ARG` the band of a quarantined element-band. -/
def specElemRequal : CmdSpec :=
  { opcode := 0x0504, role := roleInstaller, len := lenIs 4, changes := fun _ => true
    param := fun r s => firstBad [(decide (96 ≤ r.index), 0), (decide (2 < r.arg), 2),
      ((s.eb r.index ((Band.ofCode r.arg).getD .u)).ebstate != 1, 0)]
    run := fun r s =>
      (s.mapAssay (fun a => { a with requal := a.requal ++ [(r.index, (Band.ofCode r.arg).getD .u)] })).accept r r.index }

/-- `ELEM_REQUAL`, served by its spec (12 R315). -/
def execCmdElemRequal (p : Packet) (s : State) : Host.Outcome State Fault Refusal := s.command specElemRequal p

/-- `CAL_ACCEPT` (05 R118, R122): a site marked `SURVEY_CONFLICT` or `SWEEP_DIFF`. -/
def specCalAccept : CmdSpec :=
  { opcode := 0x0505, role := roleInstaller, len := lenIs 4, changes := fun _ => true
    param := fun r s => firstBad [(decide (12 ≤ r.index) || !(s.scause r.index == 1 || s.scause r.index == 3), 0),
      (r.arg != 0, 2)]
    run := fun r s => (s.mapAssay (fun a => { a with acceptSites := a.acceptSites ++ [r.index] })).accept r r.index }

/-- `CAL_ACCEPT`, served by its spec (12 R315). -/
def execCmdCalAccept (p : Packet) (s : State) : Host.Outcome State Fault Refusal := s.command specCalAccept p

/-- `CAL_SAVE` (05 R120). -/
def specCalSave : CmdSpec :=
  { opcode := 0x0506, role := roleInstaller, len := lenIs 0, changes := fun _ => true, run := fun _ s => (.ok [], s.saveTable) }

/-- `CAL_SAVE`, served by its spec (12 R315). -/
def execCmdCalSave (p : Packet) (s : State) : Host.Outcome State Fault Refusal := s.command specCalSave p

/-- The assay parameters (05 R124). -/
def assayRows : List (ParRow AssayParams) :=
  [natRow 60 3600 AssayParams.qmin (fun x v => { x with qmin := v }), natRow 6 32 AssayParams.qsig (fun x v => { x with qsig := v }),
   natRow 60 65535 AssayParams.qmax (fun x v => { x with qmax := v }), natRow 2 100 AssayParams.tauAdmit (fun x v => { x with tauAdmit := v }),
   natRow 1 30 AssayParams.phiAdmit (fun x v => { x with phiAdmit := v }), natRow 1 30 AssayParams.gainAdmit (fun x v => { x with gainAdmit := v }),
   natRow 5 45 AssayParams.resAdmit (fun x v => { x with resAdmit := v }), natRow 2 20 AssayParams.cn0Win (fun x v => { x with cn0Win := v }),
   natRow 10 1000 AssayParams.agen (fun x v => { x with agen := v }), natRow 1 10 AssayParams.ahold (fun x v => { x with ahold := v }),
   natRow 5 60 AssayParams.assayMask (fun x v => { x with assayMask := v }), natRow 5 500 AssayParams.surveyTol (fun x v => { x with surveyTol := v }),
   natRow 10 45 AssayParams.jamFreeze (fun x v => { x with jamFreeze := v }), natRow 60 3600 AssayParams.sweepT (fun x v => { x with sweepT := v })]

/-- `ASSAY_PARAMS` (05 R124): `QMAX` is at least `QMIN`. -/
def specAssayParams : CmdSpec :=
  parSpec 0x8500 assayRows (fun s => s.arr.assay.params) (fun s => s.arr.assay.paramsStaged)
    (fun v s => s.mapAssay (fun a => { a with paramsStaged := some v })) (fun x => if x.qmax < x.qmin then some [0, 2] else none)

/-- `ASSAY_PARAMS`, served by its spec (12 R315). -/
def execCmdAssayParams (p : Packet) (s : State) : Host.Outcome State Fault Refusal := s.command specAssayParams p

/-- `ASSAY_SIGNALS` (05 R104, R123): entries with `VAL` 0 are pinned, with `VAL` 1 excluded. -/
def specAssaySignals : CmdSpec :=
  { opcode := 0x8501, role := roleInstaller, len := lenList, changes := fun _ => true
    param := fun r _ =>
      let n (v : Nat) : Nat := (r.entries.filter (fun e => e.2 == v)).length
      if 16 < n 0 ∨ 32 < n 1 then some 0
      else match listReserved r with
        | some f => some f
        | none => r.entryBad (fun e => !sigOkIndex e.1 0) (fun e => decide (1 < e.2))
    run := fun r s =>
      let l (v : Nat) : List Nat := (r.entries.filter (fun e => e.2 == v)).map (·.1)
      (s.mapAssay (fun a => { a with signalsStaged := some (l 0, l 1) })).accept r 0xFFFF }

/-- `ASSAY_SIGNALS`, served by its spec (12 R315). -/
def execCmdAssaySignals (p : Packet) (s : State) : Host.Outcome State Fault Refusal := s.command specAssaySignals p

/-- `CAL_SEED` (05 R108, R123): seeds of element-bands whose lane is not `LIVE`. -/
def specCalSeed : CmdSpec :=
  { opcode := 0x8502, role := roleInstaller, len := fun _ => true, changes := fun _ => true
    param := fun r _ => if (Config.seedEntries r.pay).any (fun e => decide (96 ≤ e.1 ∨ 2 < e.2.1)) then some 0 else none
    run := fun r s =>
      let l := Config.seedEntries r.pay
      if l.any (fun e => (s.lane e.1).state == .live) then (.fail stBusy, s)
      else
        (.ok [], l.foldl (fun t e => (t.mapEb e.1 ((Band.ofCode e.2.1).getD .u) (fun x => { x with
          dly := e.2.2.1, ph := e.2.2.2.1 % 65536, gain := e.2.2.2.2 })).mapAssay (fun a => { a with seedDue := vupdN a.seedDue e.1 (fun _ => false) })) s) }

/-- `CAL_SEED`, served by its spec (12 R315). -/
def execCmdCalSeed (p : Packet) (s : State) : Host.Outcome State Fault Refusal := s.command specCalSeed p

end Sys2Proof.Machine
end

