-- ==== Sys2Proof/Machine/Search.lean ====
section
/-! DEFINITION. What a search computes (07 R154–R161, R165, R166): the sectors of a site and their beams, the input of a search, the grid of its
cells, the threshold, and the detections with their refined peaks. -/

namespace Sys2Proof.Machine

/-! ### Sectors -/

/-- The elevation mask of a site in 0.01 degree. -/
def State.maskOf (s : State) (site : Nat) : Int := (100 * (vgetD s.arr.masks site {}).mask : Nat)

/-- A sector's azimuths and elevations in 0.01 degree (07 R154): from, to. Of 16 sectors octant k has 2k below 35° and 2k + 1 above (log 54). -/
def sectorBounds (nsect : Nat) (mask : Int) (k : Nat) : (Nat × Nat) × (Int × Int) :=
  match nsect with
  | 1 => ((0, 36000), (mask, 9000))
  | 4 => ((9000 * k, 9000 * (k + 1)), (mask, 9000))
  | 16 => ((4500 * (k / 2), 4500 * (k / 2 + 1)), if k % 2 = 0 then (mask, 3500) else (3500, 9000))
  | _ => ((4500 * k, 4500 * (k + 1)), (mask, 9000))

/-- The directions of a sector in steps of 1 degree, edges included, over which its smallest gain is taken (log 54). -/
def sectorGrid (b : (Nat × Nat) × (Int × Int)) : List (Nat × Int) :=
  let azs := (List.range ((b.1.2 - b.1.1) / 100 + 1)).map (fun i => (b.1.1 + 100 * i) % 36000)
  let els := (List.range ((b.2.2 - b.2.1).toNat / 100 + 1)).map (fun (i : Nat) => b.2.1 + 100 * (i : Int))
  (azs.map (fun a => els.map (fun e => (a, e)))).flatten

/-- The response of one site's weights to a wave from a direction, against Σ |w|²: the power gain over one element. -/
def State.gainAt (s : State) (f : Int) (w : List (Nat × Int × Int)) (d : Nat × Int) : Nat × Nat :=
  let r := (w.map (fun p =>
    let c := cis 48 (bitsOf 48 (leadPhase f (s.elemLead d.1 d.2 p.1)))
    cdiv (cmul p.2 c) (2 ^ 40))).foldl cadd (0, 0)
  (normSq r, (w.map (fun p => normSq p.2)).foldl (· + ·) 0 * 2 ^ 40)

/-- The smaller of two gains. -/
def minGain (a b : Nat × Nat) : Nat × Nat := if a.1 * b.2 ≤ b.1 * a.2 then a else b

/-- The smallest gain of weights in a sector. -/
def State.leastGain (s : State) (f : Int) (w : List (Nat × Int × Int)) (b : (Nat × Nat) × (Int × Int)) : Nat × Nat :=
  match (sectorGrid b).map (s.gainAt f w) with
  | [] => (0, 1)
  | x :: r => r.foldl minGain x

/-- The in-service element of a site with the highest g of a band, the lowest-numbered of equals (07 R154). -/
def State.bestElement (s : State) (site : Nat) (b : Band) : Option Nat :=
  (s.serving site b).foldl (fun m n => match m with | none => some n | some k => if (s.eb k b).gain < (s.eb n b).gain then some n else some k) none

/-- The weights of one element alone. -/
def oneElement (n : Option Nat) : WeightSet :=
  { w := (List.range 96).map (fun k => if n = some k then { i := 127 } else {}), bdly := List.replicate 12 0 }

/-- A sector's weight set and its `SGAIN_MIN` in 0.01 dB (07 R154, 04 R95): the set that makes the smallest gain largest, projected, or the best single
element where that gain is below 0 dB, as for the one sector of the whole sky. -/
def State.sectorSet (s : State) (site : Nat) (b : Band) (k : Nat) : WeightSet × Int :=
  let nsect := vgetD s.trk.acq.nsect site 8
  let bounds := sectorBounds nsect (s.maskOf site) k
  let f := bandCentre b
  let els := (s.serving site b).filter (s.mayWeigh b)
  let opt := Config.sectorWeights (els.map (fun n => (n, (s.elem n).off, (s.eb n b).gain))) f bounds
  let at_ (n : Nat) : Int × Int := ((opt.find? (fun p => p.1 == n)).map (·.2)).getD (0, 0)
  let full := storeWeights els.contains s.siteOf (s.project b els.contains at_) (List.replicate 12 0)
  let members (x : WeightSet) : List (Nat × Int × Int) := x.members.map (fun n => (n, (x.at_ n).i * 2 ^ 20, (x.at_ n).q * 2 ^ 20))
  let g := s.leastGain f (members full) bounds
  let single := oneElement (s.bestElement site b)
  let use := if nsect = 1 ∨ g.1 < g.2 then single else full
  let h := s.leastGain f (members use) bounds
  (use, if h.1 = 0 ∨ h.2 = 0 then 0 else decibels 100 h.1 h.2)

/-- The weight set of a search beam for some elements: a sector's, or one steered at its direction for a carrier. -/
def State.searchSet (s : State) (b : Band) (f : Int) (x : SearchBeam) : WeightSet :=
  if x.sect = 0xFF then (s.compute b (fun n => s.mayWeigh b n && s.siteOf n == x.site) { dir := some (x.az, x.el), freq := f } s.ms false).1
  else (s.sectorSet x.site b x.sect).1

/-! ### Input -/

/-- A sample of a stream as a region stores it (03 R67); none where it is blanked. -/
def loadedSample (cwidth : Nat) (b : List Byte) : Option (Int × Int) :=
  let v := b.headD 0
  if cwidth = 1 then
    let q := b.getD 1 0
    if v.getLsbD 6 then none else some (sx 6 (v.toNat % 64), sx 6 (q.toNat % 64))
  else if v = 0x08 then none else some (sx 4 (v.toNat % 16), sx 4 (v.toNat / 16))

/-- First tick of the oldest block that a held region keeps, and its blocks. -/
def Region.oldest (r : Region) : Nat × Nat := let n := min r.nblk r.written; (r.newest - (n - 1) * 5115, n)

/-- A sample of an element-band in a held region at a tick; none outside it, and where it is blanked or its word is uncorrectable (03 R68, R74). -/
def State.snapSample (s : State) (r : Region) (n : Nat) (b : Band) (tick : Nat) : Option (Int × Int) :=
  let o := r.oldest
  if tick < o.1 ∨ o.1 + 5115 * o.2 ≤ tick ∨ bit r.elems n = false ∨ bit r.bands b.code = false then none
  else
    let before := ((List.range n).filter (bit r.elems)).length * ((List.range 3).filter (bit r.bands)).length + ((List.range b.code).filter (bit r.bands)).length
    let per := if r.cwidth = 1 then 2 else 1
    let off := ((tick - o.1) / 5115 * streamCount r.elems r.bands + before) * blockBytes r.cwidth + (tick - o.1) % 5115 * per
    loadedSample r.cwidth ((List.range per).map (fun i => s.lodeByte r (off + i)))

/-- A beam formed from a snapshot over some ticks (04 R76, 07 R155): blanked samples enter as 0; its shift is the one of R80 for its own power
(log 54). -/
def State.snapBeam (s : State) (r : Region) (b : Band) (ws : WeightSet) (ticks : List Nat) : List (Int × Int) :=
  let sums := ticks.map (fun t => (ws.members.map (fun n =>
    cmul ((ws.at_ n).i, (ws.at_ n).q) ((s.snapSample r n b (t - ws.bdly.getD (s.siteOf n) 0)).getD (0, 0)))).foldl cadd (0, 0))
  let k := shiftFor ((sums.map normSq).foldl (· + ·) 0) ticks.length
  sums.map (fun z => ((beamComponent k z.1).1, (beamComponent k z.2).1))

/-- Ticks of one ms of a search. -/
def msTicks (first m : Nat) : List Nat := (List.range epochTicks).map (fun i => first + m * epochTicks + i)

/-- The inputs of a snapshot search on a beam, each a list of samples per ms: one, or in bootstrap one for each `LIVE` element of the site (07 R155,
R156). -/
def State.snapInputs (s : State) (r : Region) (x : Search) (first : Nat) (beam : SearchBeam) : List (List (List (Int × Int))) :=
  let b := sigBand x.sigid
  let ms := List.range x.nnc
  if x.mode = 3 then
    (s.liveAt beam.site).map (fun n => ms.map (fun m => (msTicks first m).map (fun t => (s.snapSample r n b t).getD (0, 0))))
  else [ms.map (fun m => s.snapBeam r b (s.searchSet b (carrier x.sigid x.glok) beam) (msTicks first m))]

/-! ### The grid -/

/-- Spacing of the code bins in 1/256 chip (07 R157): half a chip, a quarter for the BOC family. -/
def SigType.spacing (t : SigType) : Nat := if t.boc then 64 else 128

/-- The cells of a search (07 R157, R158): code phases at the first sample in 1/256 chip, Dopplers in mHz, and whether the code bins go round the
whole period. -/
structure SearchGrid where
  codes : List Nat
  dopps : List Int
  round : Bool
  spacing : Nat
  period : Nat
deriving DecidableEq, Repr

/-- Half-span in code bins of a window of ±w (07 R158). -/
def SigType.windowBins (t : SigType) (w : Nat) : Nat := ceilDiv w t.spacing

/-- Code bins of a search of a type. -/
def Search.codeBins (x : Search) (t : SigType) : Nat :=
  match x.window with | none => 256 * t.chips / t.spacing | some w => 2 * t.windowBins w + 1

/-- The Doppler half-span in nHz with the REFIN term (07 R158): `unc` ppb at the carrier; of the cold set, at least 4 500 Hz and that term. -/
def Search.spanNano (x : Search) (unc : Nat) (f : Int) : Nat :=
  let r := unc * f.toNat
  if !x.sats.isEmpty then max (x.doppHalf * 10 ^ 9) (4500 * 10 ^ 9 + r) else x.doppHalf * 10 ^ 9 + r

/-- Doppler bins to either side of the centre. -/
def Search.doppHalfBins (x : Search) (unc : Nat) (f : Int) : Nat := ceilDiv (x.spanNano unc f) (500 * 10 ^ 9)

/-- `REF_UNC` of the charter in ppb. -/
def State.refUnc (s : State) : Nat := (charterDevice s.boo.charter).refUnc

/-- Code rate in 2^-48 chip a tick at a Doppler in mHz. -/
def codeRate (sigid : Nat) (k : Int) (t : SigType) (dopp : Int) : Nat :=
  let f := carrier sigid k
  (roundDiv (((t.dumpLen * 2 ^ 48 : Nat) : Int) * (f * 1000 + dopp)) (81840 * 1000 * f.toNat)).toNat

/-- Carrier rate in 2^-48 cycle a tick. -/
def carrierRate (sigid : Nat) (k : Int) (dopp : Int) : Nat := bitsOf 48 (roundDiv ((sigOffset sigid k * 1000 + dopp) * 2 ^ 48) 81840000000)

/-- A code phase in 1/256 chip carried from a tick to another at a Doppler. -/
def carryCode (sigid : Nat) (k : Int) (t : SigType) (dopp : Int) (code from_ to_ : Nat) : Nat :=
  let step := (((to_ : Int) - from_) * codeRate sigid k t dopp) / 2 ^ 40
  (((code : Int) + step) % (256 * t.chips : Nat)).toNat

/-- The grid of a search for one satellite. -/
def Search.grid (x : Search) (t : SigType) (unc : Nat) (sigid : Nat) (k : Int) (first : Nat) : SearchGrid :=
  let sp := t.spacing
  let period := 256 * t.chips
  let c0 := match x.codeAt with | some a => carryCode sigid k t x.doppC x.codeC a first | none => x.codeC % period
  let h := x.doppHalfBins unc (carrier sigid k)
  { codes := match x.window with
      | none => (List.range (period / sp)).map (fun i => i * sp)
      | some w =>
        let n := t.windowBins w
        (List.range (2 * n + 1)).map (fun (i : Nat) => (((c0 : Int) + ((i : Int) - n) * sp) % (period : Int)).toNat)
    dopps := (List.range (2 * h + 1)).map (fun (j : Nat) => x.doppC + ((j : Int) - h) * 500000), round := x.window.isNone, spacing := sp, period := period }

/-- The power of a cell over one ms of input (07 R157): the coherent sum against the replica, BOC types by their BOC(1,1) part. -/
def cellPower (errors : Mem) (sigid : Nat) (t : SigType) (krate crate code m : Nat) (y : List (Int × Int)) : Nat :=
  normSq ((y.zip (List.range y.length)).map (fun p =>
    let n := m * epochTicks + p.2
    let pos := (code * 2 ^ 40 + n * krate) % (t.chips * 2 ^ 48)
    mix p.1 (n * crate % 2 ^ 48) (replicaAt errors sigid t true pos)) |>.foldl cadd (0, 0))

/-- The summed cell powers of a grid, a row for each Doppler (07 R156, R159): over the ms of every input. -/
def SearchGrid.powers (g : SearchGrid) (errors : Mem) (sigid : Nat) (k : Int) (t : SigType) (inputs : List (List (List (Int × Int)))) : List (List Nat) :=
  g.dopps.map (fun d =>
    let kr := codeRate sigid k t d
    let cr := carrierRate sigid k d
    g.codes.map (fun c =>
      (inputs.map (fun ms => ((ms.zip (List.range ms.length)).map (fun p => cellPower errors sigid t kr cr c p.2 p.1)).foldl (· + ·) 0)).foldl (· + ·) 0))

/-! ### Threshold and noise -/

/-- Σ over i below n of x^i / i! in Q100, for x in Q20. -/
def expPart (x n : Nat) : Nat :=
  ((List.range n).foldl (fun (a : Nat × Nat) i => (a.1 + a.2, a.2 * x / 2 ^ 20 / (i + 1))) (0, 2 ^ 100)).1

/-- A noise-only sum of n cells of mean 1 exceeds x (Q20) with a probability of at least 10^(−pfa) (07 R165): e^(−x) Σ over i below n of x^i/i!. -/
def falseAlarm (n pfa x : Nat) : Bool := decide (expPart x (8 * n + 700) ≤ 10 ^ pfa * expPart x n)

/-- n·T in Q20 (07 R165): a cell's summed power exceeds T times the noise level of the sums when it exceeds T of its n cells each. -/
def thresholdOf (n pfa : Nat) : Nat := (lastWhere (fun v => falseAlarm n pfa v.toNat) 36 0).toNat

/-- Two code bins of a grid lie within 2 chips. -/
def SearchGrid.near (g : SearchGrid) (i j : Nat) : Bool :=
  let d := (max i j - min i j) * g.spacing
  decide (d ≤ 512) || (g.round && decide (g.period ≤ d + 512))

/-- The mean of a row of cells without those near some of them, as a sum and a count; with none left, a free level (log 54). -/
def SearchGrid.mean (g : SearchGrid) (row : List Nat) (peaks : List Nat) : Nat × Nat :=
  let l := (row.zip (List.range row.length)).filter (fun p => !peaks.any (g.near p.2))
  if l.isEmpty then (Config.noiseLevel row + 1, 1) else ((l.map (·.1)).foldl (· + ·) 0, l.length)

/-- A power exceeds the threshold x (n·T in Q20) over a noise level. -/
def exceeds (n x : Nat) (noise : Nat × Nat) (p : Nat) : Bool := decide (x * noise.1 < p * noise.2 * n * 2 ^ 20)

/-- The cells of a row that exceed the threshold, with the noise level of the row (07 R165): from the strongest cell taken out, until the two agree
(log 54). -/
def SearchGrid.detectRow (g : SearchGrid) (n x : Nat) (row : List Nat) : (Nat × Nat) × List Nat :=
  let beyond (m : Nat × Nat) : List Nat := ((row.zip (List.range row.length)).filter (fun p => exceeds n x m p.1)).map (·.2)
  let top := row.foldl max 0
  let start := g.mean row [row.findIdx (· == top)]
  let step (a : (Nat × Nat) × List Nat) (_ : Nat) : (Nat × Nat) × List Nat := let m := g.mean row a.2; (m, beyond m)
  (row.foldl step (start, beyond start))

/-! ### Peaks -/

/-- A cell above the threshold: indices of its Doppler and code, power, noise level. -/
structure PeakCell where
  dopp : Nat
  code : Nat
  power : Nat
  noise : Nat × Nat
deriving DecidableEq, Repr

/-- A cell stands higher above its noise. -/
def PeakCell.higher (a b : PeakCell) : Bool := decide (b.power * b.noise.2 * a.noise.1 < a.power * a.noise.2 * b.noise.1)

/-- Inserts by falling power ratio. -/
def PeakCell.insert (x : PeakCell) : List PeakCell → List PeakCell
  | [] => [x]
  | y :: r => if y.higher x then y :: PeakCell.insert x r else x :: y :: r

/-- The cells above the threshold, highest first. -/
def SearchGrid.beyond (g : SearchGrid) (n x : Nat) (pw : List (List Nat)) : List PeakCell :=
  let rows := (pw.zip (List.range pw.length)).map (fun r =>
    let d := g.detectRow n x r.1
    d.2.map (fun i => ({ dopp := r.2, code := i, power := r.1.getD i 0, noise := d.1 } : PeakCell)))
  rows.flatten.foldl (fun l c => c.insert l) []

/-- Two cells belong to one detection (07 R161): within 2 chips and 1 000 Hz. -/
def SearchGrid.together (g : SearchGrid) (a b : PeakCell) : Bool :=
  g.near a.code b.code && decide ((max a.dopp b.dopp - min a.dopp b.dopp) * 500 ≤ 1000)

/-- The peaks: each is the largest of its cells (07 R166). -/
def SearchGrid.peaks (g : SearchGrid) (l : List PeakCell) : List PeakCell :=
  l.foldl (fun acc c => if acc.any (g.together c) then acc else acc ++ [c]) []

/-- The vertex of the parabola through three equidistant powers, as an offset from the middle one in units `u` (07 R166); its rounding is open
(log 6). -/
def vertex (a b c u : Nat) : Int :=
  let den : Int := 2 * ((a : Int) - 2 * b + c)
  if den = 0 then 0 else quotI (((a : Int) - c) * u) den

/-- A neighbour of a cell in its row: the next bin, round the period where the window is full; none beyond a window. -/
def SearchGrid.beside (g : SearchGrid) (row : List Nat) (i : Nat) (up : Bool) : Option Nat :=
  if up then (if g.round then row[(i + 1) % row.length]? else row[i + 1]?)
  else if i = 0 then (if g.round then row.getLast? else none) else row[i - 1]?

/-- A detection (07 R165, R166): signal, beam, first tick, code phase in 1/256 chip there, Doppler (mHz), C/N0 (1/64 dB-Hz), margin over the threshold
(0.01 dB). -/
structure Detection where
  sigid : Nat
  glok : Int
  beam : SearchBeam
  tref : Nat
  code : Nat
  dopp : Int
  cn0 : Nat
  margin : Nat
deriving DecidableEq, Repr

/-- A peak refined (07 R166). At the edge of a window, where a neighbour lacks, that coordinate stays the bin's (log 54). -/
def SearchGrid.detection (g : SearchGrid) (n x : Nat) (pw : List (List Nat)) (sigid : Nat) (k : Int) (beam : SearchBeam) (first : Nat) (c : PeakCell) : Detection :=
  let row := pw.getD c.dopp []
  let dc := match g.beside row c.code false, g.beside row c.code true with | some a, some b => vertex a c.power b g.spacing | _, _ => 0
  let dd := match (if c.dopp = 0 then none else pw[c.dopp - 1]?), pw[c.dopp + 1]? with
    | some a, some b => vertex (a.getD c.code 0) c.power (b.getD c.code 0) 500000
    | _, _ => 0
  let p := c.power * c.noise.2
  { sigid := sigid, glok := k, beam := beam, tref := first
    code := (((g.codes.getD c.code 0 : Nat) + dc) % (g.period : Int)).toNat, dopp := g.dopps.getD c.dopp 0 + dd
    cn0 := (decibels 64 (1000 * (p - c.noise.1)) c.noise.1).toNat, margin := (decibels 100 (p * n * 2 ^ 20) (x * c.noise.1)).toNat }

/-- The detections of one satellite on one beam. -/
def State.detectOne (s : State) (x : Search) (first : Nat) (inputs : List (List (List (Int × Int)))) (beam : SearchBeam) (sigid : Nat) (k : Int) : List Detection :=
  match typeOf sigid with
  | none => []
  | some t =>
    let g := x.grid t s.refUnc sigid k first
    let n := x.nnc * inputs.length
    let pw := g.powers s.trk.library sigid k t inputs
    let th := thresholdOf n s.trk.acq.params.pfa
    let named := if isFdma sigid then 256 * sigT sigid else sigid
    (g.peaks (g.beyond n th pw)).map (g.detection n th pw named k beam first)

/-- The satellites of a search, as signal indices with their k (07 R160, R161). -/
def Search.targets (x : Search) : List (Nat × Int) :=
  if x.sats.isEmpty then [(x.sigid, x.glok)] else x.sats.map (fun p => (256 * sigT x.sigid + p.1, p.2))

/-- The detections of a job (07 R165). -/
def State.detections (s : State) (j : SearchJob) : List Detection :=
  (j.x.beams.map (fun beam =>
    let inputs := if j.live then [j.input] else s.snapInputs (s.region j.src) j.x j.first beam
    (j.x.targets.map (fun p => s.detectOne j.x j.first inputs beam p.1 p.2)).flatten)).flatten

end Sys2Proof.Machine
end

