-- ==== Sys2Proof/Machine/Acquisition.lean ====
section
/-! DEFINITION. Acquisition (07): assistance and modes (R162), the search queue and its jobs (R155, R163, R164, R172), candidates and results
(R167–R170), handover (R150, R151, R171), and the commands of group 0x07. -/

namespace Sys2Proof.Machine

/-- Changes the acquisition state. -/
def State.mapAcq (f : AcqState → AcqState) (s : State) : State := { s with trk := { s.trk with acq := f s.trk.acq } }

/-! ### The queue -/

/-- Two searches are of one signal (07 R172); a confirmation is of its candidate alone. -/
def Search.same (x y : Search) : Bool := x.sigid == y.sigid && x.glok == y.glok && x.cand == y.cand

/-- Queues a search behind those of its class; a second search of a signal joins the queued one at the higher of the two priorities, and what it
was to refresh (07 R163, R172). -/
def enqueue (x : Search) (q : List Search) : List Search :=
  match q.find? (fun y => y.same x) with
  | none => sortBy (fun y => y.cls) (q ++ [x])
  | some y =>
    let z := { y with cls := min x.cls y.cls, refreshes := x.refreshes.or y.refreshes, host := x.host || y.host }
    if y.cls ≤ x.cls then q.map (fun w => if w.same x then z else w) else sortBy (fun w => w.cls) (q.filter (fun w => !w.same x) ++ [z])

/-- Queues a search. -/
def State.search (x : Search) (s : State) : State := s.mapAcq (fun a => { a with queue := enqueue x a.queue })

/-- A signal's search is queued or at work. -/
def State.searching (s : State) (x : Search) : Bool := s.trk.acq.queue.any (fun y => y.same x) || s.trk.acq.jobs.any (fun j => j.x.same x)

/-- Queues a search that the Overman asks for on its own, unless it is queued or at work. -/
def State.searchOnce (s : State) (x : Search) : State := if s.searching x then s else s.search x

/-- Searches queued in a class. -/
def State.depth (s : State) (cls : Nat) : Nat := (s.trk.acq.queue.filter (fun x => x.cls == cls)).length

/-! ### Assistance -/

/-- u of the backup count in ns (19 R473): the anchor's uncertainty, what the trim accumulates since it, and 61 µs. -/
def State.countUnc (s : State) : Nat := s.bak.aUnc + ceilDiv (s.bak.trimUnc * 10 * (s.bak.count - s.bak.aTick)) 32768 + 61000

/-- A tick in ns of device time. -/
def tickNs (t : Nat) : Int := (t : Int) * 10 ^ 9 / 81840000

/-- Device time for acquisition from the first source of R162 that there is: the solution while a channel tracks, `ACQ_ASSIST`, the backup counter after
a wake; by how much it is ahead of TCNT, and its uncertainty, in ns. -/
def State.timeSource (s : State) : Option (Int × Nat) :=
  if s.trk.ch.toList.any (fun c => c.st == .track) ∧ s.sol.rec_.valid then some (0, ceilDiv s.sol.rec_.terrSig 1000)
  else
    match s.trk.acq.assistTime with
    | some a => some ((a.1 : Int) - tickNs a.2.2, a.2.1)
    | none => if s.bak.tvalid && s.clk.loaded then some (0, s.countUnc) else none

/-- Its uncertainty in ns. -/
def State.timeUnc (s : State) : Option Nat := s.timeSource.map (fun x => x.2)

/-- By how much device time for acquisition is ahead of TCNT in ns. -/
def State.timeLead (s : State) : Int := match s.timeSource with | some x => x.1 | none => 0

/-- The device time in ms that predictions are for. -/
def State.acqMs (s : State) : Nat := (((s.ms : Int) * 10 ^ 6 + s.timeLead) / 10 ^ 6).toNat

/-- The tick that predictions name for a tick of TCNT. -/
def State.acqTick (s : State) (t : Nat) : Nat := ((t : Int) + s.timeLead * 81840000 / 10 ^ 9).toNat

/-- The uncertainty of the site positions in m: none needed once they are surveyed, else that of `ACQ_ASSIST` (07 R162). -/
def State.posUnc (s : State) : Option Nat :=
  if s.sol.smode = 2 ∨ s.sol.smode = 3 then some 0 else s.trk.acq.assistPos.map (·.2.2.2)

/-- Time and position allow warm mode: within 2 s and 1 km. -/
def State.warmAble (s : State) : Bool :=
  (match s.timeUnc with | some u => decide (u ≤ 2000000000) | none => false) && (match s.posUnc with | some u => decide (u ≤ 1000) | none => false)

/-- Time and position allow hot mode: within `HOT_TUNC` and 100 m. -/
def State.hotAble (s : State) : Bool :=
  (match s.timeUnc with | some u => decide (u ≤ 1000 * s.trk.acq.params.hotTunc) | none => false) &&
  (match s.posUnc with | some u => decide (u ≤ 100) | none => false)

/-- The satellite's key in the almanac and ephemeris lists. -/
def satKey (sigid : Nat) : Nat := 256 * sigSys sigid + sigSat sigid

/-- An entry is of a signal's satellite; of a GLONASS channel whose slot is not known, any of the system. -/
def assists (sigid : Nat) (key : Nat) : Bool := key == satKey sigid || (isFdma sigid && sigSat sigid == 0 && key / 256 == sigSys sigid)

/-- An ephemeris no older than 4 h is held; an almanac or ephemeris is. -/
def State.freshEph (s : State) (sigid : Nat) : Bool := s.trk.acq.eph.any (fun e => assists sigid e.1 && decide (s.acqMs ≤ e.2 + 14400000))
def State.anyEph (s : State) (sigid : Nat) : Bool := (s.trk.acq.eph ++ s.trk.acq.alm).any (fun e => assists sigid e.1)

/-- The best mode for a signal (07 R162): 2 hot, 1 warm, 0 cold. -/
def State.bestMode (s : State) (sigid : Nat) : Nat :=
  if s.hotAble && s.freshEph sigid then 2 else if s.warmAble && s.anyEph sigid then 1 else 0

/-- Charter sites with an element of a band in service, which a beam can be formed at. -/
def State.beamSites (s : State) (b : Band) : List Nat := (List.range 12).filter (fun i => (s.site i).isSome && !(s.serving i b).isEmpty)

/-- Beams steered at a signal's predicted direction, at the sites whose mask it is above at a ms of device time (07, search modes). -/
def State.steered (s : State) (sigid : Nat) (k : Int) (ms : Nat) : List SearchBeam :=
  match Config.direction sigid k ms with
  | none => []
  | some (az, el) => ((s.beamSites (sigBand sigid)).filter (fun i => decide (s.maskOf i ≤ el))).map (fun i => { site := i, az := az, el := el })

/-- A signal is predicted above a site's mask at a ms (07, search modes). -/
def State.predictedAt (s : State) (sigid : Nat) (k : Int) (ms : Nat) : Bool :=
  match Config.direction sigid k ms with
  | none => false
  | some (_, el) => (List.range 12).any (fun i => (s.site i).isSome && decide (s.maskOf i ≤ el))

/-- It is at this time. -/
def State.predicted (s : State) (sigid : Nat) (k : Int) : Bool := s.predictedAt sigid k s.acqMs

/-- The cold set's types (07 R160). -/
def coldTypes : List Nat := [0x01, 0x11, 0x20, 0x30, 0x40, 0x50, 0x60]

/-- Satellites that the cold set searches of a type, with k (07 R160); for FDMA each k (R161). -/
def coldSats (t : Nat) : List (Nat × Int) :=
  let range (a b : Nat) : List (Nat × Int) := (List.range (b - a + 1)).map (fun i => (a + i, 0))
  match t with
  | 0x01 => range 1 32
  | 0x11 => range 1 36
  | 0x20 => range 1 63
  | 0x30 => (List.range 14).map (fun (i : Nat) => (0, (i : Int) - 7))
  | 0x40 => range 193 202
  | 0x50 => range 1 14
  | 0x60 => range 120 158
  | _ => []

/-- Every sector of every site (07 R160). -/
def State.sectorBeams (s : State) (b : Band) : List SearchBeam :=
  ((s.beamSites b).map (fun i => (List.range (vgetD s.trk.acq.nsect i 8)).map (fun k => ({ site := i, sect := k } : SearchBeam)))).flatten

/-- A type is enabled (12 R322 `SIG_POLICY`). -/
def State.enabled (s : State) (sigid : Nat) : Bool := bit s.trk.policy (sigT sigid)

/-! ### Searches -/

/-- A cold search of a type for some satellites, in every sector. -/
def State.coldSearch (s : State) (cls t : Nat) (sats : List (Nat × Int)) : Search :=
  { cls := cls, sigid := 256 * t, mode := 0, sats := sats, beams := s.sectorBeams (sigBand (256 * t))
    doppHalf := s.trk.acq.params.cdopp, nnc := s.trk.acq.params.nncCold }

/-- Half-width of a hot search's code window in 1/256 chip (07, search modes): the time uncertainty times the chip rate, and 2 chips. -/
def hotWindow (t : SigType) (unc : Nat) : Nat := ceilDiv (unc * t.dumpLen * 256) 1000000 + 512

/-- The beam of a hot search: steered at the first site that sees the signal, or, while nothing predicts it, at a site's zenith (log 54). -/
def State.hotBeam (s : State) (sigid : Nat) (k : Int) : SearchBeam :=
  ((s.steered sigid k s.acqMs).head?).getD { site := (s.beamSites (sigBand sigid)).headD 0 }

/-- A hot search about a code phase at a tick and a Doppler (07 R158, R159, R162). -/
def State.hotSearch (s : State) (cls sigid : Nat) (k : Int) (code at_ : Nat) (dopp : Int) (window : Option Nat) : Search :=
  { cls := cls, sigid := sigid, glok := k, mode := 2, beams := [s.hotBeam sigid k], window := window, codeC := code, codeAt := some at_
    doppC := dopp, doppHalf := s.trk.acq.params.hdopp, nnc := s.trk.acq.params.nncHot }

/-- A search of a named signal by assistance in warm (1) or hot (2) mode (07, search modes). -/
def State.assistedSearch (s : State) (cls mode sigid : Nat) (k : Int) : Search :=
  let c := Config.predictCode sigid k (s.acqTick s.clk.tick)
  if mode = 2 then
    s.hotSearch cls sigid k c.1 s.clk.tick c.2 ((typeOf sigid).map (fun t => hotWindow t (s.timeUnc.getD 0)))
  else
    { cls := cls, sigid := sigid, glok := k, mode := 1, beams := s.steered sigid k s.acqMs, doppC := c.2
      doppHalf := s.trk.acq.params.wdopp, nnc := s.trk.acq.params.nncWarm }

/-- The signals of a cold-set type that are predicted above a mask, as signal index and k. -/
def State.predictedOf (s : State) (t : Nat) : List (Nat × Int) :=
  ((coldSats t).map (fun p => (256 * t + p.1, p.2))).filter (fun g => s.predicted g.1 g.2)

/-- The signals of any type that are predicted above a mask. -/
def State.namedSignals (s : State) (t : Nat) : List Nat :=
  let r := satRange (sigSys (256 * t))
  ((List.range (r.2 - r.1 + 1)).map (fun i => 256 * t + r.1 + i)).filter (fun g => s.predicted g 0)

/-- Searches of one cold-set type in a mode, without one in the best mode that each signal allows (07 R162, 12 R322 `ACQ_START`): signals without
assistance stay in a cold search. -/
def State.systemSearches (s : State) (cls : Nat) (mode : Option Nat) (t : Nat) : List Search :=
  if !s.enabled (256 * t) then []
  else
    match mode with
    | some 0 => [s.coldSearch cls t (coldSats t)]
    | some m => ((s.predictedOf t).filter (fun g => s.anyEph g.1 && (m != 2 || s.freshEph g.1))).map (fun g => s.assistedSearch cls m g.1 g.2)
    | none =>
      let modeOf (p : Nat × Int) : Nat := s.bestMode (256 * t + p.1)
      let cold := (coldSats t).filter (fun p => modeOf p == 0)
      let warm := ((coldSats t).filter (fun p => modeOf p != 0 && s.predicted (256 * t + p.1) p.2)).map (fun p =>
        s.assistedSearch cls (modeOf p) (256 * t + p.1) p.2)
      (if cold.isEmpty then [] else [s.coldSearch cls t cold]) ++ warm

/-- A pinned signal that is not tracked, and one that has risen above a site's mask, is searched warm or hot (07 R163 class 4). -/
def State.assisted (cls : Nat) (s : State) (g : Nat × Int) : State :=
  if s.bestMode g.1 = 0 ∨ s.enabled g.1 = false then s else s.searchOnce (s.assistedSearch cls (s.bestMode g.1) g.1 g.2)

/-! ### Detections -/

/-- The Dopplers differ by a whole multiple of 1 kHz to within 50 Hz (07 R167), in mHz. -/
def khzApart (a b : Int) : Bool := let r := (a - b) % 1000000; decide (r ≤ 50000 ∨ 950000 ≤ r)

/-- The C/N0 of the strongest detection against which another is a cross-correlation suspect (07 R167); none when it is not. -/
def State.stronger (s : State) (all : List Detection) (d : Detection) : Option Nat :=
  let live := (s.trk.acq.results.filter (fun r => !r.expired)).map (fun r => (r.sigid, r.cn0, r.dopp))
  let l := (all.map (fun x => (x.sigid, x.cn0, x.dopp)) ++ live).filter (fun x =>
    sigSys x.1 == sigSys d.sigid && decide (d.cn0 + 64 * s.trk.acq.params.xcGuard ≤ x.2.1) && khzApart x.2.2 d.dopp)
  (l.map (·.2.1)).max?

/-- The channels that track a detected signal: any of its components (06 R126), of FDMA any in its k (07 R161). -/
def State.trackers (s : State) (sigid : Nat) (k : Int) : List Nat :=
  (List.range 384).filter (fun n =>
    let c := s.chan n
    (c.st == .pullin || c.st == .track || c.st == .coast || c.st == .boot) && c.glok == k && c.prim.isNone &&
    (pilotOf c.sigid == pilotOf sigid || (isFdma sigid && sigT c.sigid == sigT sigid)))

/-- The first of them. -/
def State.tracking (s : State) (sigid : Nat) (k : Int) : Option Nat := (s.trackers sigid k).head?

/-- How far a detection lies from a channel's state carried to its first tick (07 R169): code in 2^-48 chip, Doppler in mHz. -/
def State.distance (s : State) (n : Nat) (d : Detection) : Nat × Nat :=
  let c := s.chan n
  match typeOf c.sigid, typeOf d.sigid with
  | some t, some u =>
    let len : Nat := (if isFdma d.sigid then t.chips else min t.chips u.chips) * 2 ^ 48
    let back : Nat := (s.clk.bnd + 2 ^ 48 - d.tref) % 2 ^ 48
    let at_ : Int := (c.nco.code t : Int) - back * c.nco.krate
    let diff := ((at_ - d.code * 2 ^ 40) % (len : Int)).toNat
    (min diff (len - diff), (c.dopp - d.dopp).natAbs)
  | _, _ => (0, 0)

/-- A detection agrees with a channel: within 1 chip and 100 Hz (07 R169). -/
def agree (x : Nat × Nat) : Bool := decide (x.1 ≤ 2 ^ 48) && decide (x.2 ≤ 100000)

/-- Two signals of one k are of two satellites: beyond 2 chips or 1 000 Hz (07 R161). -/
def apart (x : Nat × Nat) : Bool := decide (2 * 2 ^ 48 < x.1) || decide (1000000 < x.2)

/-- The channel whose signal a detection duplicates (07 R169, R161): none while nothing tracks it, or, of FDMA, a satellite apart from all that are
tracked in the k. -/
def State.duplicates (s : State) (d : Detection) : Option Nat :=
  (s.trackers d.sigid d.glok).find? (fun n => !(isFdma d.sigid && apart (s.distance n d)))

/-- A detection agrees with a channel that tracks its signal. -/
def State.agrees (s : State) (d : Detection) : Bool := (s.trackers d.sigid d.glok).any (fun n => agree (s.distance n d))

/-- A new result entry (07 R170): the latest 256 are kept. -/
def State.result (d : Detection) (mode : Nat) (confirmed suspect dup : Bool) (s : State) : State :=
  s.mapAcq (fun a =>
    let r : AcqResult :=
      { sigid := d.sigid, glok := d.glok, amode := mode, site := d.beam.site, sect := d.beam.sect, confirmed := confirmed, suspect := suspect
        duplicate := dup, handed := false, expired := false, tref := d.tref, code := d.code, dopp := d.dopp, cn0 := d.cn0, margin := d.margin
        acqid := a.nextId, atMs := s.ms }
    let l := a.results ++ [r]
    { a with results := l.drop (l.length - 256), nextId := (a.nextId + 1) % 2 ^ 32 })

/-- A duplicate (07 R169, 10 R255): its result and report; suspicion only within 10 dB of the tracked signal. -/
def State.duplicate (n : Nat) (d : Detection) (mode : Nat) (suspect : Bool) (s : State) : State :=
  let t := s.result d mode false suspect true
  let x : Suspicion :=
    { cause := 5, sys := sigSys d.sigid, sat := some (sigSat (s.chan n).sigid), band := some (sigBand d.sigid), last := s.ms, first := s.ms }
  let dc : Int := ((d.cn0 : Int) - (s.chan n).cn0) * 100 / 64
  if d.cn0 ≤ (s.chan n).cn0 + 640 ∧ (s.chan n).cn0 ≤ d.cn0 + 640 then t.addSuspicion x { dcn0 := dc } else t.spoof x { dcn0 := dc }

/-- A component's hot search from the satellite's confirmed one (07 R160): the Doppler scales with the carrier; the code phase is the confirmed one's
within its ms, and where the component's period is longer than the confirmed one's, any of its ms (log 54). -/
def State.componentSearch (s : State) (d : Detection) (t u : SigType) (sigid : Nat) : Search :=
  let dopp := quotI (d.dopp * carrier sigid d.glok) (carrier d.sigid d.glok)
  let inMs := d.code * u.dumpLen / t.dumpLen
  let whole := u.chips * t.dumpLen ≤ t.chips * u.dumpLen
  s.hotSearch 4 sigid d.glok (if whole then inMs % (256 * u.chips) else inMs % (256 * u.dumpLen)) d.tref dopp (if whole then some 512 else none)

/-- The other components of a confirmed satellite are reached by hot search (07 R160): of FDMA those of its k, whose satellite is not yet known. -/
def State.components (d : Detection) (s : State) : State :=
  let sys := sigSys d.sigid
  let l := (sigTypes.filter (fun u => sigSys (256 * u.code) == sys && u.code != sigT d.sigid && (sigSat d.sigid != 0 || isFdma (256 * u.code)))).map (fun u =>
    256 * u.code + sigSat d.sigid)
  (l.filter (fun g => s.enabled g && (s.tracking g d.glok).isNone)).foldl (fun t g =>
    match typeOf d.sigid, typeOf g with
    | some a, some b => t.searchOnce (t.componentSearch d a b g)
    | _, _ => t) s

/-- A result that was to be refreshed and was not found again (07 R171). -/
def State.expire (id : Option Nat) (s : State) : State :=
  match id with
  | none => s
  | some n => s.mapAcq (fun a => { a with results := a.results.map (fun r => if r.acqid == n then { r with expired := true } else r) })

/-- A detection awaits confirmation (07 R167, R168). -/
def State.candidate (x : Search) (d : Detection) (st : Option Nat) (s : State) : State :=
  s.mapAcq (fun a =>
    let c : Candidate :=
      { sigid := d.sigid, glok := d.glok, mode := x.mode, beam := d.beam, tref := d.tref, code := d.code, dopp := d.dopp, cn0 := d.cn0
        margin := d.margin, suspect := st.isSome, strong := st.getD 0, atMs := s.ms, id := a.candId, refreshes := x.refreshes }
    { a with cands := a.cands ++ [c], candId := a.candId + 1 })

/-- A detection of a search (07 R165–R169): one that agrees with the channel that tracks it is discarded; a cross-correlation suspect and a cold, warm or
bootstrap detection await confirmation; a duplicate and a hot detection are results. -/
def State.detected (x : Search) (all : List Detection) (s : State) (d : Detection) : State :=
  let st := s.stronger all d
  if s.agrees d then s
  else if st.isSome then s.candidate x d st
  else
    match s.duplicates d with
    | some n => s.duplicate n d x.mode false
    | none => if x.mode = 2 then (s.result d 2 false false false).components d else s.candidate x d none

/-- A search that has run: a refresh that finds nothing marks its result `EXPIRED` (07 R171). -/
def State.searched (x : Search) (found : List Detection) (s : State) : State :=
  if found.isEmpty then s.expire x.refreshes else found.foldl (State.detected x found) s

/-- The confirmation of a candidate (07 R167, R168): by a detection within the window of its hot search, of a suspect only with enough C/N0; otherwise
it is discarded. -/
def State.confirmed (c : Candidate) (found : List Detection) (s0 : State) : State :=
  let s := s0.mapAcq (fun a => { a with cands := a.cands.filter (fun x => x.id != c.id) })
  match (found.filter (fun d => !c.suspect || decide (c.strong ≤ d.cn0 + 64 * s.trk.acq.params.xcGuard))).head? with
  | none => s.expire c.refreshes
  | some d =>
    if s.agrees d then s
    else
      match s.duplicates d with
      | some n => s.duplicate n d c.mode c.suspect
      | none => (s.result d c.mode true c.suspect false).components d

/-! ### Jobs -/

/-- A job has searched all its cells. -/
def SearchJob.complete (j : SearchJob) : Bool := decide (j.total ≤ j.done) && (!j.live || decide (j.x.nnc ≤ j.input.length))

/-- Words of a snapshot that a job has read (03 R74). -/
def State.jobWords (s : State) (j : SearchJob) : List Nat :=
  if j.live then []
  else
    let r := s.region j.src
    let n := 16 * j.x.nnc * streamCount r.elems r.bands * blockBytes r.cwidth
    nub ((List.range (n / 8 + 1)).map (fun i => r.captureAddr (8 * i) / 8 * 8))

/-- Ends a job: its words have been read, an uncorrectable one raising `FLT_ECC` (03 R74), and its detections are at hand. -/
def State.endJob (j : SearchJob) (s : State) : State × List Detection :=
  let found := s.detections j
  let r := (s.mapAcq (fun a => { a with jobs := a.jobs.filter (fun k => k.slot != j.slot) })).readWords (s.jobWords j)
  (if r.1 then r.2.report 0x1501 2 0xFF j.src (Config.encodeFields 0x1501 [0, j.src, j.first]) else r.2, found)

/-- `SEARCH_COMPLETE` (07 R165): the first search at work that has searched all its cells; before that nothing is due. -/
def execEvSearchComplete (_ : NoInput) (s : State) : Host.Outcome State Fault Refusal :=
  .next (match s.trk.acq.jobs.find? (fun j => j.complete && j.x.cand.isNone) with
    | none => s
    | some j => let r := s.endJob j; r.1.searched j.x r.2)

/-- `CONFIRMATION` (07 R168): the first confirming search that has searched all its cells. -/
def execEvConfirmation (_ _ : NoInput) (s : State) : Host.Outcome State Fault Refusal :=
  .next (match s.trk.acq.jobs.find? (fun j => j.complete && j.x.cand.isSome) with
    | none => s
    | some j =>
      let r := s.endJob j
      match s.trk.acq.cands.find? (fun c => j.x.cand == some c.id) with
      | none => r.1
      | some c => r.1.confirmed c r.2)

/-- The search that confirms a candidate (07 R168): ±2 chips and ±`HDOPP` about its code phase and Doppler carried on, on the beam that found it; in
bootstrap over element sums. Its class is that of hot searches of lost signals (log 54). -/
def State.confirmSearch (s : State) (c : Candidate) : Search :=
  { cls := 2, sigid := c.sigid, glok := c.glok, mode := if c.mode = 3 then 3 else 2, beams := [c.beam], window := some 512, codeC := c.code
    codeAt := some c.tref, doppC := c.dopp, doppHalf := s.trk.acq.params.hdopp, nnc := s.trk.acq.params.nncHot, cand := some c.id }

/-- Candidates whose `CONF_GAP` has passed ask for their confirmation (07 R168). -/
def State.askConfirmations (s : State) : State :=
  let due (c : Candidate) : Bool := !c.asked && decide (c.atMs + s.trk.acq.params.confGap ≤ s.ms)
  let t := (s.trk.acq.cands.filter due).foldl (fun t c => t.search (t.confirmSearch c)) s
  t.mapAcq (fun a => { a with cands := a.cands.map (fun c => if due c then { c with asked := true } else c) })

/-- Cells of one ms of a search (07 R156–R159). -/
def State.cellsPerMs (s : State) (x : Search) : Nat :=
  let one (p : Nat × Int) : Nat :=
    match typeOf p.1 with | some t => x.codeBins t * (2 * x.doppHalfBins s.refUnc (carrier p.1 p.2) + 1) | none => 0
  let inputs (b : SearchBeam) : Nat := if x.mode = 3 then (s.liveAt b.site).length else 1
  ((x.targets.map one).foldl (· + ·) 0) * ((x.beams.map inputs).foldl (· + ·) 0)

/-- Read windows of 128 000 bytes that a search's part of a region fills (03 R73): the streams of its sites and band. -/
def State.windowsFor (s : State) (r : Region) (x : Search) : Nat :=
  let els := (List.range 96).filter (fun n => bit r.elems n && x.beams.any (fun b => b.site == s.siteOf n))
  ceilDiv (16 * x.nnc * els.length * blockBytes r.cwidth) 128000

/-- A held region serves a snapshot search: of its band, with an element of its sites and enough blocks (07 R155). -/
def State.serves (s : State) (r : Region) (x : Search) : Bool :=
  r.cstate == .held && r.owner == 0x10 && bit r.bands (sigBand x.sigid).code && decide (16 * x.nnc ≤ min r.nblk r.written) &&
  (List.range 96).any (fun n => bit r.elems n && x.beams.any (fun b => b.site == s.siteOf n))

/-- The job of a search in a search slot, where the slot can serve it (07 R155, 08 R183, R191): hot searches take live input, the others snapshots. -/
def State.jobIn (s : State) (p : Plan) (x : Search) (y : SearchSlot) : Option SearchJob :=
  let live := y.sinput == 0
  let per := s.cellsPerMs x
  if ((p.stopes[y.lst]?).map (·.bandin)) ≠ some (sigBand x.sigid).code ∨ live ≠ (x.mode == 2) ∨ (s.trk.acq.jobs.any (fun j => j.slot == y.sslot)) = true ∨ per = 0 then none
  else if live then
    some { x := x, slot := y.sslot, ls := y.lst, live := true, src := y.ssrc, first := 0, since := s.ms + 1, perMs := per, total := per * x.nnc }
  else if s.serves (s.region y.ssrc) x then
    some { x := x, slot := y.sslot, ls := y.lst, live := false, src := y.ssrc, first := (s.region y.ssrc).oldest.1, since := s.ms, perMs := per
           total := per * x.nnc, need := s.windowsFor (s.region y.ssrc) x }
  else none

/-- Places a queued search in the first search slot that can serve it (07 R155, R163). -/
def State.placeSearch (p : Plan) (s : State) (x : Search) : State :=
  match firstSome ((sortBy (·.sslot) p.searches).map (s.jobIn p x)) with
  | none => s
  | some j => s.mapAcq (fun a => { a with queue := a.queue.filter (fun y => !y.same x), jobs := a.jobs ++ [j] })

/-- A job goes on (07 R172): its slot is the plan's, and its snapshot is held as it was taken. -/
def State.jobHolds (s : State) (p : Plan) (j : SearchJob) : Bool :=
  p.searches.any (fun y => y.sslot == j.slot && y.lst == j.ls && (y.sinput == 0) == j.live && y.ssrc == j.src) &&
  (j.live || (((s.region j.src).cstate == .held || (s.region j.src).cstate == .reading) && (s.region j.src).oldest.1 == j.first))

/-- Jobs that do not go on wait for another slot or snapshot, ahead of their class (07 R172, log 54). -/
def State.restartJobs (s : State) : State :=
  let ok (j : SearchJob) : Bool := match s.fab.active with | some p => s.jobHolds p j | none => false
  s.mapAcq (fun a => { a with
    jobs := a.jobs.filter ok
    queue := (a.jobs.filter (fun j => !ok j)).foldr (fun j q => sortBy (fun y => y.cls) (j.x :: q.filter (fun y => !y.same j.x))) a.queue })

/-- The searches at a boundary (07 R163, R168, R172): confirmations are asked for, jobs that cannot go on start again, and queued searches take free
slots in the order of their service. -/
def State.placeSearches (s : State) : State :=
  let t := s.askConfirmations.restartJobs
  match t.fab.active with
  | none => t
  | some p => t.trk.acq.queue.foldl (State.placeSearch p) t

/-- `BACKGROUND_COLD_SEARCH` (07 R163): every `BG_PERIOD`. -/
def execEvBackgroundColdSearch (s : State) : Host.Outcome State Fault Refusal :=
  .next (
    if s.boo.dstate = .run ∧ s.trk.acq.lastBg + 1000 * s.trk.acq.params.bgPeriod ≤ s.ms then
      let t := (coldTypes.map (s.systemSearches 5 (some 0))).flatten.foldl (fun t x => t.search x) s
      t.mapAcq (fun a => { a with lastBg := s.ms })
    else s)

/-- `EPHEMERIS_SAVE` (07 R162): every 600 s. -/
def execEvEphemerisSave (s : State) : Host.Outcome State Fault Refusal :=
  .next (if s.boo.dstate = .run ∧ s.trk.acq.lastSave + 600000 ≤ s.upMs then
    s.mapAcq (fun a => { a with ephFlash := a.eph, almFlash := a.alm, lastSave := s.upMs }) else s)

/-! ### Handover -/

/-- The initial NCO state of a result at a tick (07 R151): code and carrier propagated; the carrier phase is free. -/
def AcqResult.nco (r : AcqResult) (sigid : Nat) (t : SigType) (at_ phase : Nat) : Nco :=
  let dt : Nat := (at_ + 2 ^ 48 - r.tref % 2 ^ 48) % 2 ^ 48
  let krate := codeRate sigid r.glok t r.dopp
  let pos := r.code * 2 ^ 40 + dt * krate
  let chips := pos / 2 ^ 48
  { carph := phase % 2 ^ 48, crate := carrierRate sigid r.glok r.dopp
    kph := pos % 2 ^ 48, kchip := chips % t.chips, kper := chips / t.chips % 65536, krate := krate }

/-- A track beam for a signal in a stope: the one that serves it, else a free slot of the plan (06 R150, 04 R82). -/
def State.trackBeam (s : State) (p : Plan) (ls sigid : Nat) (k : Int) : Option Nat :=
  let l := (p.beamsOf ls).filter (fun x => bit x.bkinds 0 && x.bown != 0)
  match l.find? (fun x => (s.beam x.bnum).kind == 0 && (s.beam x.bnum).signal == some sigid && (s.beam x.bnum).glok == k) with
  | some x => some x.bnum
  | none => (l.find? (fun x => (s.beam x.bnum).kind == 0xFF)).map (·.bnum)

/-- A free channel slot for a signal of a band, with a beam in its stope: the lowest-numbered (06 R150). -/
def State.freeSlot (s : State) (p : Plan) (sigid : Nat) (k : Int) : Option (ChanSlot × Nat) :=
  let ok (c : ChanSlot) : Option (ChanSlot × Nat) :=
    if (s.chan c.cnum).st == .idle && (s.chan c.cnum).bound && ((p.stopes[c.lst]?).map (·.bandin)) == some (sigBand sigid).code then
      (s.trackBeam p c.lst sigid k).map (fun b => (c, b))
    else none
  firstSome ((sortBy (·.cnum) p.chans).map ok)

/-- The detection that a result was made from. -/
def AcqResult.found (r : AcqResult) : Detection :=
  { sigid := r.sigid, glok := r.glok, beam := { site := r.site, sect := r.sect }, tref := r.tref, code := r.code, dopp := r.dopp, cn0 := r.cn0
    margin := r.margin }

/-- A result may be handed over (07 R169–R171): the latest of its signal, confirmed or hot, neither duplicate nor expired, not of a signal that the
integrity machinery has excluded, not tracked. -/
def State.handable (s : State) (r : AcqResult) : Bool :=
  !r.handed && !r.expired && !r.duplicate && (r.confirmed || r.amode == 2) && s.enabled r.sigid && !(s.suspectSig r.sigid) &&
  !(s.agrees r.found) && (s.duplicates r.found).isNone &&
  !(s.trk.acq.results.any (fun x => x.sigid == r.sigid && x.glok == r.glok && decide (r.acqid < x.acqid) && !isFdma r.sigid))

/-- Marks a result handed over. -/
def State.markHanded (id : Nat) (s : State) : State :=
  s.mapAcq (fun a => { a with results := a.results.map (fun r => if r.acqid == id then { r with handed := true } else r) })

/-- Hands one result over where a slot is free, staging the NCO state of the next boundary; one older than `RES_LIFE` is refreshed first (07 R171). -/
def State.place (p : Plan) (s : State) (r : AcqResult) : State :=
  let sigid := pilotOf r.sigid
  if !s.handable r then s
  else
    match s.freeSlot p sigid r.glok, typeOf sigid with
    | some (c, b), some t =>
      if r.atMs + s.trk.acq.params.resLife < s.ms then
        s.searchOnce { (s.hotSearch 2 r.sigid r.glok r.code r.tref r.dopp (some 512)) with refreshes := some r.acqid }
      else
        let f := s.takeNat
        let x := r.nco sigid t s.nextBoundaryTick f.1
        ((f.2.mapChan c.cnum (fun ch => { (ch.idle.enter .handover) with sigid := sigid, glok := r.glok, ncoInit := some x, beam := b })).mapBeam b
          (fun y => { y with kind := 0, signal := some sigid, glok := r.glok })).markHanded r.acqid
    | _, _ => s

/-- The Overman assigns signals to free slots (06 R150): pinned ones first, then by falling C/N0. -/
def State.assign (s : State) : State :=
  match s.fab.active with
  | none => s
  | some p =>
    let pinned (r : AcqResult) : Bool := s.trk.pins.any (fun x => x.2 == r.glok && (x.1 == r.sigid || x.1 == pilotOf r.sigid))
    let l := sortBy (fun r => (if pinned r then 0 else 65536) + (65535 - r.cn0)) s.trk.acq.results
    l.foldl (State.place p) s

/-- Signals that the Overman searches by assistance at a boundary (07 R163 class 4): pinned ones that are not tracked, and those of the cold set that
have risen above a mask since the last boundary. -/
def State.assistedSearches (s : State) : State :=
  let free (g : Nat × Int) : Bool := (s.tracking g.1 g.2).isNone && !(s.trk.ch.toList.any (fun c => c.st == .handover && c.sigid == g.1 && c.glok == g.2))
  let rising := ((coldTypes.map (fun t => (coldSats t).map (fun p => (256 * t + p.1, p.2)))).flatten).filter (fun g =>
    s.predicted g.1 g.2 && !s.predictedAt g.1 g.2 (s.acqMs - 1))
  ((s.trk.pins ++ rising).filter free).foldl (State.assisted 4) s

/-- A `LOST` channel's signal returns to acquisition with its last state (06 channel states, 07 R162, R163 class 2): its code phase and Doppler at the
boundary. -/
def State.lostSearch (s : State) (c : ChanState) : State :=
  match typeOf c.sigid with
  | none => s
  | some t =>
    s.search (s.hotSearch 2 c.sigid c.glok (c.nco.code t / 2 ^ 40 % (256 * t.chips)) s.clk.bnd c.dopp (some (hotWindow t (s.timeUnc.getD 0))))

/-- A band in bootstrap is searched from snapshots of its quarantined elements (05 R115, 07 R156, R163 class 1): the cold set over the elements of the
bootstrap site. -/
def State.bootSearches (b : Band) (s : State) : State :=
  (coldTypes.filter (fun t => sigBand (256 * t) == b && s.enabled (256 * t))).foldl (fun t x =>
    t.searchOnce { (t.coldSearch 1 x (coldSats x)) with mode := 3, beams := [{ site := t.bootSite }] }) s

/-- What a boundary commits of the acquisition commands (07 R173). -/
def State.acqCommands (s : State) : State :=
  s.mapAcq (fun a => { a with
    nsect := a.nsectStaged.foldl (fun v x => vupdN v x.1 (fun _ => x.2)) a.nsect, nsectStaged := []
    params := a.paramsStaged.getD a.params, paramsStaged := none })

/-! ### Commands -/

/-- `SGAIN_MIN` of every sector of every site, the smaller of the bands of the cold set that it is searched in (07 R154; log 54). -/
def State.sgainMin (s : State) : List Int :=
  ((List.range 12).map (fun i =>
    let bs := [Band.u, Band.l].filter (fun b => (s.beamSites b).contains i)
    if bs.isEmpty then []
    else ((List.range (vgetD s.trk.acq.nsect i 8)).map (fun k =>
      let g := bs.map (fun b => (s.sectorSet i b k).2)
      [(i : Int), (k : Int), g.foldl min (g.headD 0)])).flatten)).flatten

/-- `ACQ_STATUS` (07 R173): rate, queue depths, the best mode in force of each system, `SGAIN_MIN` per sector, last background cold search. -/
def specAcqStatus : CmdSpec :=
  statusSpec 0x0700 (fun _ s => Config.encodeFields 0x0700 (
    [((s.trk.acq.acqRate : Nat) : Int)] ++ (List.range 5).map (fun c => ((s.depth (c + 1) : Nat) : Int)) ++
    coldTypes.map (fun t => ((((s.predictedOf t).map (fun g => s.bestMode g.1)).foldl max 0 : Nat) : Int)) ++
    s.sgainMin ++ [((s.trk.acq.lastBg : Nat) : Int)]))

/-- `ACQ_STATUS`, served by its spec (12 R315). -/
def execCmdAcqStatus (p : Packet) (s : State) : Host.Outcome State Fault Refusal := s.command specAcqStatus p

/-- A result entry's 32 bytes (07 R170). -/
def AcqResult.bytes (r : AcqResult) : List Byte :=
  b16 r.sigid ++ b8 (bitsOf 8 r.glok) ++ b8 r.amode ++ b8 r.site ++ b8 r.sect ++
  b16 (bbool r.confirmed + 2 * bbool r.suspect + 4 * bbool r.duplicate + 8 * bbool r.handed + 16 * bbool r.expired) ++
  b64 r.tref ++ b32 r.code ++ bi32 r.dopp ++ b16 r.cn0 ++ b16 r.margin ++ b32 r.acqid

/-- `ACQ_RESULTS` (07 R170, 12 R320, the wide range form). -/
def specAcqResults : CmdSpec :=
  { opcode := 0x0701, role := roleAny, len := lenIs 8, idle := true
    param := fun r _ => if zeroAt r.pay 6 2 then none else some 6
    run := fun r s =>
      let l := s.trk.acq.results.filter (fun x => decide (u32At r.pay 0 ≤ x.acqid))
      let want := if u16At r.pay 4 = 0 then l else l.take (u16At r.pay 4)
      let es := want.take ((1408 - 12) / 32)
      (.ok (b16 es.length ++ bz 2 ++ b32 (((want.drop es.length).head?.map (·.acqid)).getD 0xFFFFFFFF) ++ (es.map AcqResult.bytes).flatten), s) }

/-- `ACQ_RESULTS`, served by its spec (12 R315). -/
def execCmdAcqResults (p : Packet) (s : State) : Host.Outcome State Fault Refusal := s.command specAcqResults p

/-- The reply of a command that queues searches in class 3. -/
def State.queued (s : State) : List Byte := b16 (s.depth 3) ++ bz 2

/-- `ACQ_START` (12 R322, 07 R162). -/
def specAcqStart : CmdSpec :=
  { opcode := 0x0702, role := roleInstaller, len := lenIs 4, changes := fun _ => true
    param := fun r s =>
      let m := u8At r.pay 1
      firstBad [(bit (u8At r.pay 0) 7, 0), (decide (3 < m) || (m == 2 && !s.warmAble) || (m == 3 && !s.hotAble), 1), (!zeroAt r.pay 2 2, 2)]
    run := fun r s =>
      let m := u8At r.pay 1
      let types := coldTypes.filter (fun t => bit (u8At r.pay 0) (sigSys (256 * t)))
      let l := (types.map (s.systemSearches 3 (if m = 0 then none else some (m - 1)))).flatten
      let t := l.foldl (fun t x => t.search { x with host := true }) s
      (.ok t.queued, t) }

/-- `ACQ_START`, served by its spec (12 R315). -/
def execCmdAcqStart (p : Packet) (s : State) : Host.Outcome State Fault Refusal := s.command specAcqStart p

/-- `ACQ_ASSIST` (12 R322, 07 R173). -/
def specAcqAssist : CmdSpec :=
  { opcode := 0x0703, role := roleInstaller, len := lenIs 48, changes := fun _ => true
    param := fun r _ => firstBad [(decide (10 ^ 9 ≤ u32At r.pay 8), 8), (decide (u32At r.pay 12 < 1 ∨ 4000000000 < u32At r.pay 12), 12),
      (decide (1 < u8At r.pay 16), 16), (!zeroAt r.pay 17 3, 17)]
    run := fun r s =>
      (.ok [], s.mapAcq (fun a => { a with
        assistTime := some (u64At r.pay 0 * 10 ^ 9 + u32At r.pay 8, u32At r.pay 12, s.clk.tick)
        assistPos := if u8At r.pay 16 = 1 then some (i64At r.pay 24, i64At r.pay 32, i64At r.pay 40, u32At r.pay 20) else a.assistPos })) }

/-- `ACQ_ASSIST`, served by its spec (12 R315). -/
def execCmdAcqAssist (p : Packet) (s : State) : Host.Outcome State Fault Refusal := s.command specAcqAssist p

/-- `ACQ_SECTORS` (07 R154, R173): `INDEX` the site, `ARG` its `NSECT`. -/
def specAcqSectors : CmdSpec :=
  { opcode := 0x8700, role := roleInstaller, len := lenIs 4, changes := fun _ => true
    param := fun r s => firstBad [((s.site r.index).isNone || decide (12 ≤ r.index), 0), (!([1, 4, 8, 16].contains r.arg), 2)]
    run := fun r s => (s.mapAcq (fun a => { a with nsectStaged := a.nsectStaged ++ [(r.index, r.arg)] })).accept r r.index }

/-- `ACQ_SECTORS`, served by its spec (12 R315). -/
def execCmdAcqSectors (p : Packet) (s : State) : Host.Outcome State Fault Refusal := s.command specAcqSectors p

/-- The acquisition parameters (07 R173). -/
def acqRows : List (ParRow AcqParams) :=
  [natRow 6 12 AcqParams.pfa (fun x v => { x with pfa := v }), natRow 3000 10000 AcqParams.cdopp (fun x v => { x with cdopp := v }),
   natRow 100 2000 AcqParams.wdopp (fun x v => { x with wdopp := v }), natRow 25 500 AcqParams.hdopp (fun x v => { x with hdopp := v }),
   natRow 1 500 AcqParams.hotTunc (fun x v => { x with hotTunc := v }), natRow 1 64 AcqParams.nncCold (fun x v => { x with nncCold := v }),
   natRow 1 64 AcqParams.nncWarm (fun x v => { x with nncWarm := v }), natRow 1 64 AcqParams.nncHot (fun x v => { x with nncHot := v }),
   natRow 200 5000 AcqParams.confGap (fun x v => { x with confGap := v }), natRow 10 30 AcqParams.xcGuard (fun x v => { x with xcGuard := v }),
   natRow 500 10000 AcqParams.resLife (fun x v => { x with resLife := v }), natRow 60 3600 AcqParams.bgPeriod (fun x v => { x with bgPeriod := v })]

/-- `ACQ_PARAMS` (07 R173). -/
def specAcqParams : CmdSpec :=
  parSpec 0x8701 acqRows (fun s => s.trk.acq.params) (fun s => s.trk.acq.paramsStaged)
    (fun v s => s.mapAcq (fun a => { a with paramsStaged := some v }))

/-- `ACQ_PARAMS`, served by its spec (12 R315). -/
def execCmdAcqParams (p : Packet) (s : State) : Host.Outcome State Fault Refusal := s.command specAcqParams p

/-- `ACQ_SEARCH` (12 R322, 07 R173). -/
def specAcqSearch : CmdSpec :=
  { opcode := 0x8702, role := roleInstaller, len := lenIs 28, changes := fun _ => true
    param := fun r s =>
      let sect := u8At r.pay 4
      firstBad [(!sigOkIndex (u16At r.pay 0) (i8At r.pay 2), 0), ((s.site (u8At r.pay 3)).isNone || decide (12 ≤ u8At r.pay 3), 3),
        (sect != 0xFF && decide (vgetD s.trk.acq.nsect (u8At r.pay 3) 0 ≤ sect), 4), (decide (u8At r.pay 5 < 1 ∨ 64 < u8At r.pay 5), 5),
        (!zeroAt r.pay 6 2, 6), (decide (35999 < u16At r.pay 8), 8), (decide (i16At r.pay 10 < -9000 ∨ 9000 < i16At r.pay 10), 10),
        (decide (10000 < u32At r.pay 24), 24)]
    run := fun r s =>
      if 64 ≤ (s.trk.acq.queue.filter (fun x => x.host && x.cls == 3)).length then (.fail stNoCapacity, s)
      else
        let full : Bool := u32At r.pay 16 == 0xFFFFFFFF
        let x : Search :=
          { cls := 3, sigid := u16At r.pay 0, glok := i8At r.pay 2, mode := if !full then 2 else if u8At r.pay 4 = 0xFF then 1 else 0
            beams := [{ site := u8At r.pay 3, sect := u8At r.pay 4, az := u16At r.pay 8, el := i16At r.pay 10 }]
            window := if full then none else some (u32At r.pay 16), codeC := u32At r.pay 12, doppC := i32At r.pay 20, doppHalf := u32At r.pay 24
            nnc := u8At r.pay 5, host := true }
        let t := s.search x
        (.ok t.queued, t) }

/-- `ACQ_SEARCH`, served by its spec (12 R315). -/
def execCmdAcqSearch (p : Packet) (s : State) : Host.Outcome State Fault Refusal := s.command specAcqSearch p

end Sys2Proof.Machine
end

