-- ==== Sys2Proof/Machine/StreamQ.lean ====
section
/-! DEFINITION. The queues of the data streams: how a record is cut into packets (21 R507, R508), its class deadline (21 R513), and how an
epoch's items come into the queues (21 R506, R516). -/

namespace Sys2Proof.Machine

/-- The packets of one record from their data; the first and the last are marked in `SPF` (21 R507). -/
def packetsOf (stm due : Nat) (ds : List (List Byte)) : List StPacket :=
  (List.range ds.length).map (fun i =>
    { spf := bbool (i == 0) + 2 * bbool (i + 1 == ds.length), stm := stm, data := ds.getD i [], due := due })

/-- Whole items by count: `first` of them behind a head in the first packet, `rest` in each later one (21 R508). -/
def itemPackets (first rest : Nat) (head : List Byte) (items : List (List Byte)) : List (List Byte) :=
  (head ++ (items.take first).flatten) ::
    (chunks rest ((items.length - first + rest - 1) / rest) (items.drop first)).map List.flatten

/-- Bytes cut at 1 400 (21 R508). -/
def cutBytes (l : List Byte) : List (List Byte) := chunks 1400 ((l.length + 1399) / 1400) l

/-- Microseconds from B to the deadline of a latency class (21 R513). -/
def classUs (c : Nat) : Nat := [1000, 1250, 1500, 2000].getD c 2000

/-- The up-tick at which a record of the epoch that closed at the last boundary is due in a class (21 R513). -/
def State.dueUp (s : State) (c : Nat) : Nat := s.clk.up + classUs c * 8184 / 100 - s.clk.tick % epochTicks

/-- Changes the streams of an identifier. -/
def State.mapStream (stid : Nat) (f : StreamState → StreamState) (s : State) : State :=
  { s with por := { s.por with streams := s.por.streams.map (fun x => if x.stid == stid then f x else x) } }

/-- Bytes queued for a tenant; 0xFF for the installer. -/
def State.queuedBytes (s : State) (ten : Nat) : Nat :=
  (((s.por.streams.filter (fun x => x.ten == ten)).map (fun x => (x.q.map (fun p => p.data.length)).foldl (· + ·) 0))).foldl (· + ·) 0

/-- A tenant's share of the packet buffer in bytes (13 R332). -/
def State.bufferOf (s : State) (ten : Nat) : Nat := if ten = 0xFF then 524288 else 1024 * (s.quotaOf ten).qBuf

/-- A packet is dropped before it was sent (21 R516). -/
def StreamState.drop (x : StreamState) : StreamState :=
  { x with pseq := (x.pseq + 1) % 2 ^ 32, sgap := satAdd 0xFFFF x.sgap 1, ndrop := satAdd 0xFFFFFFFF x.ndrop 1 }

/-- Queues the items of an epoch in the streams of a timed kind: `f` gives a stream's packets' data, none where the stream gets nothing. -/
def State.feed (kind : Nat) (f : StreamState → List (List Byte)) (s : State) : State :=
  { s with por := { s.por with streams := s.por.streams.map (fun x =>
    if x.kind == kind && !x.draining then { x with q := x.q ++ packetsOf s.ms (s.dueUp x.cls) (f x) } else x) } }

/-- Queues bulk data in the `ASSAY` streams that take it; packets beyond the tenant's share are dropped (21 R516). -/
def State.feedAssay (raw : Bool) (data : List Byte) (s : State) : State :=
  s.por.streams.foldl (fun t x =>
    if x.kind = 3 ∧ x.draining = false ∧ (raw = false ∨ bit x.sflags 0) then
      (packetsOf t.ms 0 (cutBytes data)).foldl (fun u p =>
        u.mapStream x.stid (fun y => if u.queuedBytes y.ten + p.data.length ≤ u.bufferOf y.ten then { y with q := y.q ++ [p] } else y.drop)) t
    else t) s

/-- An event stamp's 16 bytes (20 R498). -/
def EvStamp.bytes (e : EvStamp) : List Byte := b64 (e.etk % 2 ^ 48) ++ b8 e.efr ++ b8 e.ein ++ b8 e.eedge ++ bz 1 ++ b16 e.emrg ++ bz 2

/-- An event stream carries the stamps of an input: one named in `SARG` whose owner is the stream's tenant or shared (21 R506). -/
def StreamState.carries (s : State) (x : StreamState) (n : Nat) : Bool :=
  let o := (vgetD s.por.ev n {}).par.owner
  x.kind == 4 && !x.draining && bit x.sarg n && (o == x.ten || o == 0xFF)

/-- Takes stamps from the front of the inputs' FIFOs into the event streams: a stamp goes to every stream that carries its input, and waits
while one of them has its 87 of the epoch (21 R506). The accumulator counts each stream's stamps. -/
def takeStamps (acc : State × List (Nat × List (List Byte))) (n : Nat) : State × List (Nat × List (List Byte)) :=
  let s := acc.1
  let xs := (s.por.streams.filter (fun x => x.carries s n)).map (·.stid)
  let room := (xs.map (fun i => 87 - ((acc.2.filter (fun a => a.1 == i)).map (fun a => a.2.length)).foldl (· + ·) 0)).foldl min 256
  let k := if xs.isEmpty then 0 else room
  let q := (vgetD s.por.ev n {}).fifo
  let t := { s with por := { s.por with ev := vupdN s.por.ev n (fun e => { e with fifo := q.drop k }) } }
  (t, acc.2 ++ xs.map (fun i => (i, (q.take k).map EvStamp.bytes)))

/-- The event stamps of an epoch come into the event streams (20 R500, 21 R506). -/
def State.feedEvents (s : State) : State :=
  let r := (List.range 8).foldl takeStamps (s, [])
  r.1.feed 4 (fun x =>
    let l := ((r.2.filter (fun a => a.1 == x.stid)).map (·.2)).flatten
    if l.isEmpty then [] else [l.flatten])

/-- The PTP items of the epoch that closed become one packet of their stream (21 R506). -/
def State.feedPtp (s : State) : State :=
  let t := s.feed 6 (fun x => if x.ptp.isEmpty then [] else [x.ptp.flatten])
  { t with por := { t.por with streams := t.por.streams.map (fun x => { x with ptp := [] }) } }

/-- The token buckets at now (21 R511): each has filled at its tenant's committed rate, up to `Q_BURST`. -/
def State.fillBuckets (s : State) : State :=
  let dt := s.clk.up - s.por.bucketUp
  let fill (t k : Nat) (v : Int) : Int := let q := s.quotaOf t; min (65472 * 1024 * q.qBurst : Nat) (v + (100 * q.rate k * dt : Nat))
  { s with por := { s.por with
      bucketUp := s.clk.up
      bucket := Vector.ofFn (fun t => Vector.ofFn (fun k => fill t.val k.val s.por.bucket[t][k])) } }

/-- A timed stream on a link that is down (21 R516): the rest of a record already started is lost, and so are the records whose deadline has
passed. -/
def StreamState.dropLate (up : Nat) (x : StreamState) : StreamState :=
  let cut (x : StreamState) : StreamState :=
    let n := x.q.findIdx (fun p => bit p.spf 0)
    (List.range n).foldl (fun y _ => y.drop) { x with q := x.q.drop n }
  let late (x : StreamState) : StreamState :=
    match x.q with
    | p :: r => if p.due < up then cut ({ x with q := r } : StreamState).drop else x
    | [] => x
  if timedKind x.kind then (List.range x.q.length).foldl (fun y _ => late y) (cut x) else x

/-- What a link that is down costs the streams of a port (21 R516). -/
def State.dropLate (port : Nat) (s : State) : State :=
  if (vgetD s.por.eth port {}).link then s
  else { s with por := { s.por with streams := s.por.streams.map (fun x => if x.port == port then x.dropLate s.clk.up else x) } }

/-- Streams end (21 R509): those that `f` names leave, and a region that one of them read returns to `HELD` (21 R517). -/
def State.endStreams (f : StreamState → Bool) (s : State) : State :=
  let regs := (s.por.streams.filter f).filterMap (fun x => x.snap.map (·.1))
  let held (r : Region) : Region := if r.cstate = .reading then { r with cstate := .held } else r
  let v := regs.foldl (fun v c => vupdN v c held) s.smp.lode.regions
  { s with por := { s.por with streams := s.por.streams.filter (fun x => !f x) }
           smp := { s.smp with lode := { s.smp.lode with regions := v } } }

end Sys2Proof.Machine
end

