-- ==== Sys2Proof/Machine/Measure.lean ====
section
/-! DEFINITION. Observables at the measurement instant (10 R231–R237) and the measurement record (10 R243, R244). -/

namespace Sys2Proof.Machine

/-! ### Pseudorange -/

/-- The channels that give frame sync to a signal (10 R233): in `TRACK`, of its satellite; the signal's own channel before the others. -/
def State.framers (s : State) (c : ChanState) : List ChanState :=
  (c :: s.trk.ch.toList).filter (fun x =>
    x.st == .track && x.framesync && x.frame.isSome && sigSys x.sigid == sigSys c.sigid && sigSat x.sigid == sigSat c.sigid)

/-- Some component of a satellite has frame sync (10 R233). -/
def State.frameSync (s : State) (c : ChanState) : Bool := !(s.framers c).isEmpty

/-- The transmit time at B of a channel with frame sync, in 1/(`dumpLen` · 2^48) ms of its system's week (10 R233): the time of week of the last frame
boundary, and the code since it. -/
def ChanState.frameTime (t : SigType) (c : ChanState) : Nat :=
  let f := c.frame.getD (0, 0)
  let len := 65536 * t.chips * 2 ^ 48
  f.1 * t.dumpLen * 2 ^ 48 + (c.nco.code t + len - f.2 * t.dumpLen * 2 ^ 48 % len) % len

/-- The transmit time at B of a channel's signal as its beam shows it, in 1/(`dumpLen` · 2^48) ms (10 R233): its own code phase within a code period,
and the period that lies nearest the transmit time of the satellite's component with frame sync. -/
def State.transmitTime (s : State) (t : SigType) (c : ChanState) : Int :=
  let len : Int := (t.chips * 2 ^ 48 : Nat)
  let own : Int := (c.nco.code t % (t.chips * 2 ^ 48) : Nat)
  match s.framers c with
  | [] => own
  | m :: _ =>
    let u := (typeOf m.sigid).getD t
    own + len * roundDiv ((m.frameTime u : Int) * t.dumpLen - own * u.dumpLen) (t.chips * 2 ^ 48 * u.dumpLen)

/-- By how much the code of a channel's beam is late against the time reference point, in 1/65 536 tick (10 R232): its beam's delays lead to the site
at which the wave arrives last, less the code bias; the reference site lies ahead of that site. -/
def State.beamLag (s : State) (c : ChanState) : Int :=
  let w := (s.beam c.before.beam).wsBefore
  w.leads.getD (s.refSite (sigBand c.sigid)) 0 - w.bias

/-- Corrections that the charter gives for the reference site in force for a band (10 R232): `ANT_DLY` in ps, and the phase-centre offset. -/
def State.antenna (s : State) (b : Band) : Int × Int := ((s.site (s.refSite b)).map (fun x => (x.antDly.get b, x.pco.get b))).getD (0, 0)

/-- ρ at B in 0.1 mm (10 R232, R233): c · (B − tt), both in the week, of the code NCO state loaded for the first tick after B (R231). The quotient's
rounding is open (log 6); a range below 0 reads 0. -/
def State.range (s : State) (c : ChanState) : Nat :=
  match typeOf c.sigid with
  | none => 0
  | some t =>
    let d : Int := (t.dumpLen * 2 ^ 48 : Nat)
    let k : Int := 81840 * 65536
    let a := s.antenna (sigBand c.sigid)
    let ms : Int := ((s.ms : Int) * d - s.transmitTime t c) % (604800000 * d)
    let num := ms * k * 10 ^ 9 - s.beamLag c * d * 10 ^ 9 - a.1 * d * k
    (quotI (2997924580 * num) (d * k * 10 ^ 9) + a.2).toNat

/-! ### Carrier phase -/

/-- L0 of a lock that begins now: the integer nearest to ρ / λ (10 R234); while the signal has no pseudorange it is free (log 4). -/
def State.lockStart (s : State) (c : ChanState) : Int :=
  if s.frameSync c then roundDiv ((s.range c : Int) * carrier c.sigid c.glok) 2997924580000 else Config.lockInteger c.sigid s.ms

/-- The carrier phase L at B in 2^-32 cycle, before the half cycle (10 R234). -/
def ChanState.phase (c : ChanState) : Int :=
  quotI (sigOffset c.sigid c.glok * c.lockMs * 2 ^ 32) 1000 - quotI c.lockPhase (2 ^ 16) + c.lockL0 * 2 ^ 32

/-- A Costas-tracked component whose polarity is not yet known (10 R234). -/
def ChanState.halfOpen (c : ChanState) : Bool := ((typeOf c.sigid).any c.before.costas) && !c.polar

/-- The Doppler in mHz: the carrier rate in force during the epoch (10 R235). -/
def ChanState.dopplerIn (c : ChanState) : Int :=
  quotI (sx 48 c.before.nco.crate * 81840000000) (2 ^ 48) - 1000 * sigOffset c.sigid c.glok

/-! ### Entries -/

/-- The signature of a satellite-band was not tested in the epoch (10 R251): by what D2 of the epoch has decided, before it by the epoch before. -/
def State.unchecked (s : State) (sigid : Nat) : Bool :=
  if s.fab.d2At = some s.ms then
    !(s.sol.sigNow.any (fun f => f.sys == sigSys sigid && f.sat == sigSat sigid && f.band == sigBand sigid && f.tested != 0))
  else
    match s.sol.sig.find? (fun h => h.sys == sigSys sigid && h.sat == sigSat sigid && h.band == sigBand sigid) with
    | none => true
    | some h => h.lastResult == 2

/-- The mode a signal is served in and its groups (04 R88; 10 R236). -/
def State.modeOf (s : State) (sigid : Nat) (k : Int) : Nat × Nat :=
  match ((s.cohOf (sigBand sigid)).modes.find? (fun m => m.1 == sigid && m.2.1 == k)) with
  | some m => m.2.2
  | none => (0, 1)

/-- How a channel's signal is served in the epoch in progress (10 R236, R237). -/
def State.served (s : State) (c : ChanState) : Served :=
  let m := s.modeOf c.sigid c.glok
  let b := s.beam c.beam
  { prim := c.prim, group := c.group, mode := m.1, ngrp := m.2, sites := b.sites, nelem := b.ws.members.length }

/-- The observation entry of a channel, or of a channel linked to it, under the number `ch` of the signal's primary channel (10 R236, R244): an
invalid observable reads 0. -/
def State.observation (s : State) (ch n : Nat) : Obs :=
  let c := s.chan n
  let ok := c.st == .track && !c.voided
  let pr := ok && s.frameSync c
  let o : Obs :=
    { sigid := c.sigid, ch := ch, glok := if isFdma c.sigid then c.glok else 0, mode := c.was.mode, prValid := pr, cpValid := ok, void := c.voided
      nodump := (vgetD c.entry (s.ms % 2) {}).nodump, halfAdd := c.halfcyc, halfUnres := c.halfOpen, slip := c.slip
      suspect := s.suspectSig c.sigid, excluded := s.sol.excl.contains (ch, c.was.group), unchecked := s.unchecked c.sigid, used := false
      osnma := sigSys c.sigid == 1 && s.sol.osnmaAuth.contains (sigSat c.sigid)
      pr := if pr then s.range (s.chan ch) else 0, cp := if ok then c.phase + (if c.halfcyc then 2 ^ 31 else 0) else 0
      dopp := if ok then c.dopplerIn else 0, cn0 := if ok then c.cn0 else 0
      sigpr := if pr then min 0xFFFF (Config.rangeSigma c.sigid c.cn0 s.ms) else 0, lockt := min c.lockMs 0xFFFFFFFF
      group := c.was.group, ngrp := c.was.ngrp, nsite := sitesIn c.was.sites, nelem := c.was.nelem, owner := (s.chan ch).owner }
  { o with used := s.usable o }

/-- A channel yields an entry: it held a signal in the epoch and still does, and has begun to track it (10 R236). -/
def ChanState.observed (c : ChanState) : Bool :=
  c.before.on && (c.st == .pullin || c.st == .track || c.st == .coast || c.st == .boot || c.st == .lost)

/-- The entries of the epoch that closed at the last boundary, ascending `CH`, within one channel ascending `GROUP` (10 R243). -/
def State.observe (s : State) : List Obs :=
  ((List.range 384).map (fun ch =>
    if (s.chan ch).observed && (s.chan ch).was.prim.isNone then
      let l := ch :: (List.range 384).filter (fun n => (s.chan n).was.prim == some ch && (s.chan n).observed)
      (sortBy (fun n => (s.chan n).was.group) l).map (s.observation ch)
    else [])).flatten

/-- Forms the observations of the epoch. -/
def State.takeObs (s : State) : State := { s with sol := { s.sol with obs := s.observe } }

/-! ### The record -/

/-- `OFLAGS` (10 R244). -/
def Obs.flags (o : Obs) : Nat :=
  bbool o.prValid + 2 * bbool o.cpValid + 4 * bbool o.void + 8 * bbool o.nodump + 16 * bbool o.halfAdd + 32 * bbool o.halfUnres +
  64 * bbool o.slip + 128 * bbool o.suspect + 256 * bbool o.excluded + 512 * bbool o.unchecked + 1024 * bbool o.used + 2048 * bbool o.osnma

/-- An observation entry, 40 bytes (10 R244). -/
def Obs.bytes (o : Obs) : List Byte :=
  b16 o.sigid ++ b16 o.ch ++ b8 (bitsOf 8 o.glok) ++ b8 o.mode ++ b16 o.flags ++ b64 o.pr ++ bi64 o.cp ++ bi32 o.dopp ++ b16 o.cn0 ++
  b16 o.sigpr ++ b32 o.lockt ++ b8 o.group ++ b8 o.ngrp ++ b8 o.nsite ++ bz 1

/-- The measurement record header, 32 bytes (10 R243). -/
def State.measHeader (s : State) (ten rver nobs : Nat) : List Byte :=
  b8 1 ++ b8 rver ++ b16 nobs ++ b8 ten ++ b8 s.sol.grade.code ++
  b16 (bbool s.sol.holdover + 2 * bbool (s.sol.smode == 1) + 4 * bbool (s.sol.rec_.leapAnn != 0) + 8 * bbool s.sol.rec_.utcValid) ++
  b64 s.ms ++ b32 s.sol.genClosed ++ b32 s.sol.planClosed ++ b32 (s.sol.rec_.tm % 2 ^ 32) ++ bz 4

/-- The entries that a tenant receives, or the installer: of channels shared or its own (10 R243). -/
def State.obsOf (s : State) (ten : Nat) : List Obs := s.sol.obs.filter (fun o => ten == 0xFF || o.owner == 0xFF || o.owner == ten)

/-- The packets of the measurement record for a stream (10 R243, 21 R508). -/
def State.measRecord (s : State) (x : StreamState) : List (List Byte) :=
  let l := s.obsOf x.ten
  itemPackets 34 35 (s.measHeader x.ten (if x.recVer = 1 then 1 else 3) l.length) (l.map Obs.bytes)

/-- An assay entry, 896 bytes (05 R103). -/
def AssayEntry.bytes (e : AssayEntry) : List Byte :=
  b16 e.sigid ++ b16 e.ch ++ b8 e.band ++ b8 (bbool e.valid + 2 * bbool e.sat + 4 * e.dither) ++ bz 2 ++ b32 e.epoch ++ bz 20 ++
  ((List.range 96).map (fun n => let v := e.sum.getD n (0, 0); bi32 v.1 ++ bi32 v.2)).flatten ++ (List.range 96).map (fun n => BitVec.ofNat 8 (e.nval.getD n 0))

/-- The assay area of the epoch's bank (05 R103). -/
def State.assayArea (s : State) : List Byte :=
  ((vgetD s.arr.assay.entries (s.ms % 2) (Vector.replicate 160 {})).toList.map AssayEntry.bytes).flatten ++ bz 4096

/-- `MEASUREMENT_RECORD` (10 R243; 21 R506, R513): once per epoch, in RUN, not before D2, when the void entries and the signatures are known; event
stamps and raw assay sums of the epoch come with it. -/
def execEvMeasurementRecord (s0 : State) : Host.Outcome State Fault Refusal :=
  .next (if s0.boo.dstate = .run ∧ s0.pow.pst = .run ∧ s0.sol.measAt ≠ some s0.ms then
      let s := s0.waitTo d2Ticks
      let t := { s.takeObs with sol := { s.takeObs.sol with measAt := some s.ms } }
      ((t.feed 0 t.measRecord).feedAssay true t.assayArea).feedEvents
    else s0)

end Sys2Proof.Machine
end

