-- ==== Sys2Proof/Machine/Solution.lean ====
section
/-! DEFINITION. The time solution and its checks (10 R238–R245, R252, R254), RTCM and NMEA (10 R246–R248), and the commands of 10. -/

namespace Sys2Proof.Machine

/-! ### The solution -/

/-- The solution record, 64 bytes (10 R245). -/
def SolRec.bytes (r : SolRec) : List Byte :=
  b8 2 ++ b8 3 ++ b8 r.smode ++ b8 r.grade ++
  b16 (bbool r.holdover + 2 * bbool r.utcValid + 4 * bbool (r.leapAnn != 0) + 8 * bbool r.iono + 16 * bbool r.osnmaMet) ++ b16 r.nsig ++ b64 r.tm ++
  bi64 r.terr ++ b32 r.terrSig ++ bi32 r.ferr ++ bi32 r.utcGps ++ b8 (bitsOf 8 r.leap) ++ b8 r.nsat ++ b8 r.nsite ++ b8 r.nsys ++
  bi32 r.isbE ++ bi32 r.isbC ++ bi32 r.isbG ++ bi32 r.isbI ++ b16 r.tdop ++ b16 r.resrms ++ b32 r.holdt

/-- The source of UTC (10 R240, R253): the one that `UTC_SRC` names once its parameters are decoded, else GPS; under `OSNMA_REQ` the parameters of
Galileo only when they are authenticated. -/
def State.utcSource (s : State) : Option Nat :=
  let ok (k : Nat) : Bool := s.sol.utcKnown.contains k && !(k == 1 && s.sol.integP.osnmaReq == 1 && !s.sol.utcAuth)
  if ok s.sol.solP.utcSrc then some s.sol.solP.utcSrc else if ok 0 then some 0 else none

/-- Seconds since holdover began; 0 outside it. -/
def State.holdSecs (s : State) : Nat := if s.sol.holdover then (s.ms - s.sol.holdSince) / 1000 else 0

/-- What a fit of the unknowns of R238 gives: `TERR` and its 1-sigma in ps, `FERR`, the offsets of Galileo, BeiDou, GLONASS and NavIC in ps, `TDOP`; of
each entry, in order, its post-fit residual in mm and its normalised residual in 0.1 sigma; in a self-survey the position in 0.1 mm; and the solver's
state after it. -/
structure Fit where
  terr : Int
  terrSig : Nat
  ferr : Int
  isb : List Int
  tdop : Nat
  resid : List Int
  norm : List Nat
  pos : Int × Int × Int
  posSig : Nat
  solver : List Int
deriving DecidableEq, Repr, Inhabited

/-- The fit (10 R238), none where the entries do not determine one: the solver's state, the entries used, the position of the reference site or none
in a self-survey, and B. The models are those of the documents that R238 names, the weights the Overman's own (log 56). -/
opaque Config.fit : List Int → List Obs → Option (Int × Int × Int) → Nat → Option Fit

/-- The fit of some entries at the present boundary (10 R238, R242). -/
def State.fit (s : State) (l : List Obs) : Option Fit :=
  if l.isEmpty then none else Config.fit s.sol.solver l (if s.sol.smode = 1 then none else some s.arr.assay.table.refPos) s.ms

/-- The first entry of the largest normalised residual. -/
def worstOf : List (Obs × Nat) → Option (Obs × Nat)
  | [] => none
  | x :: r => match worstOf r with | none => some x | some y => if x.2 < y.2 then some y else some x

/-- The residual test (10 R254): the entry whose normalised residual is largest goes out where it exceeds `RES_THR`, and the rest is solved again, as
often as `FDE_MAX` allows. Answers the fit, the entries that it used and those excluded. -/
def State.residualLoop (s : State) : Nat → List Obs → List (Nat × Nat) → Option Fit × List Obs × List (Nat × Nat)
  | 0, l, out => (s.fit l, l, out)
  | n + 1, l, out =>
    match s.fit l with
    | none => (none, l, out)
    | some f =>
      match worstOf (l.zip f.norm) with
      | some x => if s.sol.integP.resThr < x.2 then s.residualLoop n (l.filter (fun o => decide (o ≠ x.1))) (out ++ [(x.1.ch, x.1.group)]) else (some f, l, out)
      | none => (some f, l, out)

/-- `RESRMS` in cm of residuals in mm; its rounding is open (log 6). -/
def rmsCm (l : List Int) : Nat :=
  let sum := (l.map (fun x => x.natAbs * x.natAbs)).foldl (· + ·) 0
  let n := 100 * max 1 l.length
  let v := isqrt (sum / n)
  min 0xFFFF (openRound sum v (decide (v * v * n = sum))).toNat

/-- The record of a solution (10 R245): what was found, and the counts of the entries used. -/
def State.solRecord (s : State) (fit : Option Fit) (used : List Obs) : SolRec :=
  let f : Fit := fit.getD { terr := 0, terrSig := 0xFFFFFFFF, ferr := 0, isb := [], tdop := 0, resid := [], norm := [], pos := (0, 0, 0), posSig := 0, solver := [] }
  let u := (s.utcSource.map (fun k => Config.utcOf k s.ms)).getD (0, 0, 0)
  let sats := nub (used.map (fun o => (sigSys o.sigid, sigSat o.sigid)))
  let isb (k i : Nat) : Int := if sats.any (fun x => x.1 == k) then f.isb.getD i 0 else 0
  { smode := s.sol.smode, grade := s.sol.grade.code, holdover := s.sol.holdover, utcValid := s.utcSource.isSome, leapAnn := u.2.2
    iono := !(ionoSats used).isEmpty, osnmaMet := s.sol.osnma == 3, nsig := used.length, tm := s.ms, terr := f.terr
    terrSig := min f.terrSig 0xFFFFFFFF, ferr := f.ferr, utcGps := u.1, leap := u.2.1, nsat := sats.length, nsite := s.groupZero .u
    nsys := ((nub (sats.map (·.1))).map (2 ^ ·)).foldl (· + ·) 0, isbE := isb 1 0, isbC := isb 2 1, isbG := isb 3 2, isbI := isb 5 3
    tdop := f.tdop, resrms := rmsCm f.resid, holdt := s.holdSecs, nIono := (ionoSats used).length, valid := fit.isSome }

/-- Consecutive counts: those of `now` go up, the others end. -/
def runsOf {α : Type} [DecidableEq α] (old : List (α × Nat)) (now : List α) : List (α × Nat) :=
  now.map (fun x => (x, 1 + ((old.find? (fun r => decide (r.1 = x))).map (·.2)).getD 0))

/-- The epoch in which the first of the three last solutions was formed began (10 R258). -/
def State.threeSolutions (s : State) : Nat := s.ms - 2 * s.sol.solP.solInt - 1

/-- The residual test's consequences (10 R254). -/
def State.residualTest (out : List (Nat × Nat)) (s : State) : State :=
  let sats := nub ((s.sol.obs.filter (fun o => out.contains (o.ch, o.group))).map (fun o => (sigSys o.sigid, sigSat o.sigid)))
  let runs := runsOf (s.sol.fde.map (fun x => ((x.1, x.2.1), x.2.2))) sats
  let t := { s with sol := { s.sol with fde := runs.map (fun r => (r.1.1, r.1.2, r.2)) } }
  runs.foldl (fun t r =>
    if 3 ≤ r.2 then t.addSuspicion { cause := 6, sys := r.1.1, sat := some r.1.2, band := none, last := t.ms, first := t.threeSolutions } {} else t) t

/-- The system whose offset a system shares (10 R238): QZSS and SBAS that of GPS. -/
def offsetSystem (k : Nat) : Nat := if k = 4 ∨ k = 6 then 0 else k

/-- A record's offset of a system; that of GPS, their origin, is 0. -/
def SolRec.isb (r : SolRec) (k : Nat) : Int := match k with | 1 => r.isbE | 2 => r.isbC | 3 => r.isbG | 5 => r.isbI | _ => 0

/-- The systems that a record used, as far as their offsets tell them apart. -/
def SolRec.systems (r : SolRec) : List Nat := nub (((List.range 7).filter (bit r.nsys)).map offsetSystem)

/-- The systems whose offset has moved from its prediction by more than `XSYS_THR`, with the step in ps (10 R254): those that this solution and the one
before used. -/
def State.movedSystems (s : State) (old : SolRec) (solver : List Int) (r : SolRec) : List (Nat × Int) :=
  if !old.valid || !r.valid then []
  else
    (r.systems.filter (fun k => k != 0 && old.systems.contains k)).filterMap (fun k =>
      let step := r.isb k - Config.offsetPrediction solver k s.ms
      if 1000 * s.sol.integP.xsysThr < step.natAbs then some (k, step) else none)

/-- The system test (10 R254): GPS holds the offsets' origin; with two systems used, both are suspected. -/
def State.systemTest (moved : List (Nat × Int)) (r : SolRec) (s : State) : State :=
  let runs := runsOf s.sol.xsys (moved.map (·.1))
  let t := { s with sol := { s.sol with xsys := runs } }
  let used := r.systems
  let still := used.filter (fun k => !(moved.any (fun m => m.1 == k)))
  let bad := (runs.filter (fun r => decide (3 ≤ r.2))).map (·.1)
  let whom : List Nat := if bad.isEmpty then [] else if used.length = 2 then used else if 2 ≤ still.length then bad else []
  whom.foldl (fun t k => t.addSuspicion
    { cause := 3, sys := k, sat := none, band := none, last := t.ms, first := t.threeSolutions }
    { step := ((moved.find? (fun m => m.1 == k)).map (·.2)).getD 0 }) t

/-- The REFIN offset, −y, lies beyond `REF_UNC` for 10 solutions (11 R267). -/
def State.refRangeTest (s : State) : State :=
  let out := decide (s.refUnc * 2 ^ 48 < s.syn.y.natAbs * 10 ^ 9)
  let n := if out then s.syn.refRange + 1 else 0
  let t := { s with syn := { s.syn with refRange := n } }
  if 10 ≤ n then t.report 0x1203 1 0xFF 0 (bi64 (Int.neg s.syn.y)) else t

/-- The limit of y, 16e-6 in 2^-48 (11 R264). -/
def yLimit : Int := 16 * 2 ^ 48 / 1000000

/-- The targets of y and φ_T that a solution sets, for the boundary after next (10 R239; 11 R264, R265); none in holdover (10 R258). -/
def State.setTargets (r : SolRec) (s : State) : State :=
  if s.sol.holdover || !r.valid then s
  else
    let y := clampI (Int.neg yLimit) yLimit (Int.neg (quotI (r.ferr * 2 ^ 48) (10 ^ 13)))
    let phi : Int := Int.neg (1000 * r.terr + quotI (2 * r.ferr) 10)
    { s with syn := { s.syn with targets := s.syn.targets ++ [(s.ms + 2, y, phi)] } }

/-- No change of R18 is due at a boundary (17 R432). -/
def State.quietBoundary (s : State) (b : Nat) : Bool :=
  !(s.ses.accepted.any (fun a => a.commit == b)) && !(s.arr.assay.pendingGen.any (fun g => g.commit == b)) &&
  !(s.fab.swap.any (fun w => decide (w.acceptedMs < b ∧ b ≤ w.bs + 1))) && s.fab.stSub.isNone && s.fab.dpSub.isNone

/-- The first solution after a POWER-ON RESET or SYSTEM RESET takes the epoch step when device time is off by half a ms or more (17 R432): it is
staged for the next boundary when no change is due there, else as soon as that holds. -/
def State.firstSolution (r : SolRec) (s : State) : State :=
  if s.clk.stepDone || !r.valid then s
  else
    let t := { s with clk := { s.clk with stepDone := true } }
    if r.terr.natAbs < 500000000 then t
    else
      { t with clk := { t.clk with step := some { k := Int.neg (roundDiv r.terr 1000000000), at_ := if t.quietBoundary (t.ms + 1) then t.ms + 1 else 0 } } }

/-- The mean of the positions that a self-survey has added up; its rounding is open (log 6). -/
def meanPos (x : (Int × Int × Int) × Nat) : Int × Int × Int := (quotI x.1.1 x.2, quotI x.1.2.1 x.2, quotI x.1.2.2 x.2)

/-- A self-survey takes a solution's position, but not at grade `SUSPECT`; when its time and its 1-sigma suffice, the mean is the position (10 R242). -/
def State.surveyFix (f : Fit) (s : State) : State :=
  match s.sol.survey with
  | none => s
  | some (t, _) =>
    if s.sol.smode != 1 || s.sol.grade == .suspect then s
    else
      let a := s.sol.surveySum
      let sum := ((a.1.1 + f.pos.1, a.1.2.1 + f.pos.2.1, a.1.2.2 + f.pos.2.2), a.2 + 1)
      let u := { s with sol := { s.sol with survey := some (t, f.posSig), surveySum := sum } }
      if 1000 * s.sol.solP.surveyT ≤ t ∧ f.posSig ≤ s.sol.solP.surveySig then
        let v := u.mapAssay (fun a => { a with table := { a.table with refPos := meanPos sum } })
        ({ v with sol := { v.sol with smode := 3, survey := none, surveySum := ((0, 0, 0), 0), surveyHash := some (siteHash s.boo.charter) } }).saveTable
      else u

/-- The work of a solution (10 R238, R239, R254): the entries that may be used, the fit with its exclusions, and what follows from them. -/
def State.solve (s0 : State) : State :=
  let s := ({ s0 with sol := { s0.sol with excl := [] } }).takeObs
  let x : Option Fit × List Obs × List (Nat × Nat) := s.residualLoop s.sol.integP.fdeMax (s.sol.obs.filter (·.used)) []
  let r := s.solRecord x.1 x.2.1
  let moved := s.movedSystems s.sol.rec_ s.sol.solver r
  let t0 := { s with
    sol := { s.sol with
      rec_ := r, sigma := if r.valid then some r.terrSig else s.sol.sigma, usedCh := x.2.1.map (fun (o : Obs) => o.ch), solAt := some s.ms, excl := x.2.2, solver := (x.1.map (fun (f : Fit) => f.solver)).getD s.sol.solver
      galFree := (s.fit (x.2.1.filter (fun (o : Obs) => sigSys o.sigid != 1))).map (fun (f : Fit) => f.terrSig) }
    syn := { s.syn with utc := if r.utcValid && r.valid then some (r.utcGps, r.leap) else s.syn.utc } }
  let t := (((t0.takeObs.residualTest x.2.2).systemTest moved r).refRangeTest.setTargets r).firstSolution r
  let u := match x.1 with | some f => t.surveyFix f | none => t
  u.feed 1 (fun _ => [r.bytes])

/-- `SOLUTION` (10 R239; 21 R513): at a boundary whose ms count is a multiple of `SOL_INT`, once, from the entries that D2 leaves. -/
def execEvSolution (_ : NoInput) (s : State) : Host.Outcome State Fault Refusal :=
  .next (if s.boo.dstate = .run ∧ s.pow.pst = .run ∧ s.ms % s.sol.solP.solInt = 0 ∧ s.sol.solAt ≠ some s.ms then (s.waitTo d2Ticks).solve else s)

/-! ### OSNMA -/

/-- Device time is within the synchronisation bound (10 R252): by a solution that uses no Galileo signal, or by the backup counter. -/
def State.osnmaTime (s : State) : Bool :=
  (match s.sol.galFree with | some v => decide (v ≤ 1000 * Config.osnmaBound) | none => false) ||
  (s.bak.tvalid && decide (s.countUnc ≤ Config.osnmaBound))

/-- The OSNMA status at a boundary (10 R252): off without a root, unsynchronised without the time bound, else what the verification has reached. -/
def State.osnmaClock (s : State) : State :=
  let v := if !(charterInteg s.boo.charter).root then 0 else if !s.osnmaTime then 1 else max 2 s.sol.osnma
  { s with sol := { s.sol with osnma := v, osnmaAuth := if v < 2 then [] else s.sol.osnmaAuth, utcAuth := decide (2 ≤ v) && s.sol.utcAuth } }

/-! ### RTCM and NMEA -/

/-- CRC-24Q (10 R246): polynomial 0x1864CFB. -/
def crc24q (l : List Byte) : Nat :=
  l.foldl (fun c b => (List.range 8).foldl (fun (c : Nat) _ => let d := 2 * c; if d / 2 ^ 24 % 2 = 1 then Nat.xor d 0x1864CFB % 2 ^ 24 else d % 2 ^ 24)
    (Nat.xor c (b.toNat * 2 ^ 16))) 0

/-- The body of an RTCM 3.3 message, whose layout the standard gives: message number, fields (log 7). -/
opaque Config.rtcmBody : Nat → List Int → List Byte

/-- The RTCM transport frame (10 R246). -/
def rtcmFrame (body : List Byte) : List Byte :=
  let h := [0xD3#8] ++ beBytes 2 (body.length % 1024) ++ body
  h ++ beBytes 3 (crc24q h)

/-- The MSM7 messages in order: RTCM system bit, message number, system code (10 R246, R262). -/
def msmTable : List (Nat × Nat × Nat) := [(0, 1077, 0), (1, 1087, 3), (2, 1097, 1), (3, 1117, 4), (4, 1127, 2)]

/-- The entries that form a system's cells: with a valid pseudorange and of a type with an MSM signal ID; of a SPLIT signal the group 0 entry, else the
one with the most elements (10 R246, R247). -/
def cellsOf (l : List Obs) (sys : Nat) : List Obs :=
  let c := l.filter (fun o => o.prValid && sigSys o.sigid == sys && (Config.msmSignal (sigT o.sigid)).isSome)
  c.filter (fun o =>
    let peers := c.filter (fun q => q.sigid == o.sigid && q.ch == o.ch)
    if peers.any (fun q => q.group == 0) then o.group == 0
    else some o.group == ((peers.map (fun q => (q.group, q.nelem))).foldl
      (fun (a : Option (Nat × Nat)) q => match a with | none => some q | some b => if b.2 < q.2 then some q else some b) none).map (·.1))

/-- The fields of a cell (10 R247). -/
def Obs.cell (o : Obs) : List Int :=
  [(Config.msmSignal (sigT o.sigid)).getD 0, sigSat o.sigid, o.glok, o.pr, bbool o.cpValid, o.cp, o.dopp, o.cn0, o.lockt, bbool o.halfUnres]

/-- A text as the fields of a message: its length and its bytes. -/
def textFields (l : List Byte) : List Int := (l.length : Int) :: l.map (fun b => (b.toNat : Int))

/-- The fields of 1033 (10 R246): the station, the antenna descriptor, setup ID and antenna serial of the reference site, the receiver type, the firmware
version and the receiver's serial number. -/
def State.station1033 (s : State) : List Int :=
  let x := (s.site s.arr.assay.table.refSite).getD {}
  let v := s.boo.fwVer
  [(s.sol.rtcmP.sta : Int)] ++ textFields x.antenna ++ [(x.setup : Int)] ++ textFields x.antSerial ++ textFields (ascii "RELWA GV9600") ++
  [(v.1 : Int), v.2.1, v.2.2] ++ textFields Config.serial

/-- The frames of an RTCM epoch for a tenant (10 R246, R247): 1005, 1033, then the MSM of the systems asked for that have cells in its measurement
record. -/
def State.rtcmFrames (s : State) (ten : Nat) : List (List Byte) :=
  let p := s.sol.rtcmP
  let pos := s.arr.assay.table.refPos
  let l := s.obsOf ten
  let msm := (msmTable.filter (fun m => bit p.sys m.1)).filter (fun m => !(cellsOf l m.2.2).isEmpty)
  let head (last : Bool) : List Int :=
    [p.sta, s.ms, bbool (!last), bbool (!s.sol.holdover), if s.syn.synA = .locked then 1 else 2, 0, 0]
  [rtcmFrame (Config.rtcmBody 1005 [p.sta, pos.1, pos.2.1, pos.2.2, 1, 1, 1, 1, 0]), rtcmFrame (Config.rtcmBody 1033 s.station1033)] ++
  (List.range msm.length).map (fun i =>
    let m := msm.getD i (0, 0, 0)
    rtcmFrame (Config.rtcmBody m.2.1 (head (i + 1 == msm.length) ++ ((cellsOf l m.2.2).map Obs.cell).flatten)))

/-- Whole frames gathered into packets of at most 1 400 bytes (21 R508). -/
def gatherFrames (cur : List Byte) : List (List Byte) → List (List Byte)
  | [] => if cur.isEmpty then [] else [cur]
  | f :: r => if cur.isEmpty then gatherFrames f r else if cur.length + f.length ≤ 1400 then gatherFrames (cur ++ f) r else cur :: gatherFrames f r

/-- Eight packets of an RTCM record leave in an epoch; the rest are due in later epochs (21 R506). -/
def laterEpochs (l : List StPacket) : List StPacket :=
  (List.range l.length).map (fun i => let p := l.getD i ⟨0, 0, [], 0⟩; { p with due := p.due + i / 8 * epochTicks })

/-- `RTCM_EPOCH` (10 R247; 21 R513): at boundaries whose ms count is a multiple of `RTCM_INT`, once, from the entries that D2 leaves. -/
def execEvRtcmEpoch (s0 : State) : Host.Outcome State Fault Refusal :=
  .next (if s0.boo.dstate = .run ∧ s0.pow.pst = .run ∧ s0.ms % s0.sol.rtcmP.int = 0 ∧ s0.sol.lastRtcm ≠ s0.ms then
      let s := (s0.waitTo d2Ticks).takeObs
      let t := { s with sol := { s.sol with lastRtcm := s.ms } }
      { t with por := { t.por with streams := t.por.streams.map (fun x =>
        if x.kind == 2 && !x.draining then { x with q := x.q ++ laterEpochs (packetsOf t.ms (t.dueUp x.cls) (gatherFrames [] (t.rtcmFrames x.ten))) } else x) } }
    else s0)

/-- The text of an NMEA 0183 v4.11 sentence between `$` and `*`, whose formats the standard gives: sentence (1 RMC, 2 GGA, 3 GSA), talker
(a system, 7 GN), fields (log 7). -/
opaque Config.nmeaText : Nat → Nat → List Int → List Byte

/-- A hexadecimal digit. -/
def hexDigit (n : Nat) : Byte := BitVec.ofNat 8 (if n < 10 then 48 + n else 55 + n)

/-- A sentence with its checksum. -/
def nmeaSentence (text : List Byte) : List Byte :=
  let c : Nat := (text.foldl (· ^^^ ·) 0#8).toNat
  [0x24#8] ++ text ++ [0x2A#8, hexDigit (c / 16), hexDigit (c % 16), 0x0D#8, 0x0A#8]

/-- Decimal digits, a fixed number of them. -/
def decDigits : Nat → Nat → List Byte
  | 0, _ => []
  | n + 1, v => decDigits n (v / 10) ++ [BitVec.ofNat 8 (48 + v % 10)]

/-- Year, month and day of a day counted from 1980-01-06 (Gregorian calendar). -/
def civilOf (day : Nat) : Nat × Nat × Nat :=
  let z := day + 3657 + 719468
  let era := z / 146097
  let doe := z % 146097
  let yoe := (doe - doe / 1460 + doe / 36524 - doe / 146096) / 365
  let doy := doe - (365 * yoe + yoe / 4 - yoe / 100)
  let mp := (5 * doy + 2) / 153
  let m := if mp < 10 then mp + 3 else mp - 9
  (yoe + era * 400 + (if m ≤ 2 then 1 else 0), m, doy - (153 * mp + 2) / 5 + 1)

/-- Day number, hour, minute and second of UTC at a GPS second (10 R240, R248): in an announced positive leap second, at the end of June or
December, the second 60. -/
def utcFields (gps : Nat) (leap ann : Int) : Nat × Nat × Nat × Nat :=
  let u := ((gps : Int) - leap).toNat
  let d := civilOf (u / 86400)
  if ann = 1 ∧ u % 86400 = 0 ∧ d.2.2 = 1 ∧ (d.2.1 = 7 ∨ d.2.1 = 1) then (u / 86400 - 1, 23, 59, 60)
  else (u / 86400, u % 86400 / 3600, u % 3600 / 60, u % 60)

/-- The two letters of a talker: GN, or a system's own (10 R248). -/
def talkerBytes (k : Nat) : List Byte := ascii (["GP", "GA", "GB", "GL", "GQ", "GI"].getD k "GN")

/-- The ZDA sentence's text, of fixed width (11 R290). -/
def zdaText (talker : Nat) (gps : Nat) (leap ann : Int) : List Byte :=
  let u := utcFields gps leap ann
  let d := civilOf u.1
  let c : List Byte := [0x2C#8]
  talkerBytes talker ++ ascii "ZDA," ++ decDigits 2 u.2.1 ++ decDigits 2 u.2.2.1 ++ decDigits 2 u.2.2.2 ++ ascii ".00," ++ decDigits 2 d.2.2 ++ c ++
  decDigits 2 d.2.1 ++ c ++ decDigits 4 d.1 ++ ascii ",00,00"

/-- GGA quality, RMC status (1 A, 0 V) and navigational status (0 S, 1 C, 2 U, 3 V) (10 R248). -/
def State.nmeaStatus (s : State) : Nat × Nat × Nat :=
  if s.sol.holdover then (6, 1, 2)
  else match s.sol.grade with
    | .prime => (1, 1, 0)
    | .nominal => (1, 1, 0)
    | .degraded => (1, 1, 1)
    | .suspect => (1, 0, 2)
    | .none => (0, 0, 3)

/-- Systems used, ascending. -/
def State.systemsUsed (s : State) : List Nat := (List.range 7).filter (fun k => bit s.sol.rec_.nsys k)

/-- The talker (10 R248): the one system used, otherwise GN. -/
def State.talker (s : State) : Nat := match s.systemsUsed with | [k] => k | _ => 7

/-- The group of the present second (10 R248): ZDA, RMC, GGA, and GSA once per system used. -/
def State.nmeaGroup (s : State) : List Byte :=
  let sys := s.systemsUsed
  let talker := s.talker
  let pos := s.arr.assay.table.refPos
  let st := s.nmeaStatus
  let f : List Int := [(s.ms / 1000 : Nat), s.sol.rec_.leap, s.sol.rec_.leapAnn, bbool s.sol.rec_.utcValid, pos.1, pos.2.1, pos.2.2, st.1, st.2.1,
    st.2.2, s.sol.rec_.nsat]
  nmeaSentence (zdaText talker (s.ms / 1000) s.sol.rec_.leap s.sol.rec_.leapAnn) ++
  ([1, 2].map (fun k => nmeaSentence (Config.nmeaText k talker f))).flatten ++
  (sys.map (fun (k : Nat) => nmeaSentence (Config.nmeaText 3 talker (f ++ [(k : Int)] ++
    ((s.sol.obs.filter (fun o => o.used && sigSys o.sigid == k)).map (fun o => ((sigSat o.sigid : Nat) : Int))))))).flatten

/-- Bytes queued for transmission by the UARTs of a function (20 R484). -/
def State.uartsSend (func : Nat) (b : List Byte) (s : State) : State :=
  { s with por := { s.por with uart := s.por.uart.map (fun u => if u.par.umode != 0 && u.par.ufunc == func then { u with txq := u.txq ++ b } else u) } }

/-- `NMEA_GROUP` (10 R248): once per second, between 20 ms and 30 ms after it. -/
def execEvNmeaGroup (s : State) : Host.Outcome State Fault Refusal :=
  .next (if s.boo.dstate = .run ∧ s.ms / 1000 ≠ s.sol.lastNmea ∧ 20 ≤ s.ms % 1000 ∧ s.ms % 1000 < 30 then
      ({ s with sol := { s.sol with lastNmea := s.ms / 1000 } }).uartsSend 1 s.nmeaGroup
    else s)

/-! ### Commands -/

/-- `MEAS_STATUS` (10 R261): per system the entries in TRACK, used, excluded, suspect, unchecked. -/
def specMeasStatus : CmdSpec :=
  { statusSpec 0x0900 (fun _ s =>
    let l := s.sol.obs
    let n (k : Nat) (f : Obs → Bool) : Int := (((l.filter (fun o => sigSys o.sigid == k && f o)).length : Nat) : Int)
    Config.encodeFields 0x0900 (((List.range 7).map (fun k =>
      [n k (fun o => (s.chan o.ch).st == .track), n k (·.used), n k (·.excluded), n k (·.suspect), n k (·.unchecked)])).flatten)) with gcp1 := true }

/-- `MEAS_STATUS`, served by its spec (12 R315). -/
def execCmdMeasStatus (p : Packet) (s : State) : Host.Outcome State Fault Refusal := s.command specMeasStatus p

/-- `SOL_STATUS` (10 R261): the solution record, the holdover state and the survey's progress. -/
def specSolStatus : CmdSpec :=
  { statusSpec 0x0901 (fun _ s =>
    let v := s.sol.survey.getD (0, 0)
    s.sol.rec_.bytes ++ Config.encodeFields 0x0901 [bbool s.sol.holdover, s.holdSecs, bbool s.sol.holdForce, s.sol.smode, v.1, v.2]) with gcp1 := true }

/-- `SOL_STATUS`, served by its spec (12 R315). -/
def execCmdSolStatus (p : Packet) (s : State) : Host.Outcome State Fault Refusal := s.command specSolStatus p

/-- `INTEG_STATUS` (10 R261): per satellite-band the last signature result and the suspicion's cause, OSNMA, system offsets, alarms. -/
def specIntegStatus : CmdSpec :=
  statusSpec 0x0902 (fun _ s =>
    let r := s.sol.rec_
    Config.encodeFields 0x0902 (
      (s.sol.sig.map (fun h => [(h.sys : Int), h.sat, h.band.code, h.lastResult,
        ((s.sol.susp.find? (fun x => x.covers h.sys h.sat h.band)).map (·.cause)).getD 0])).flatten ++
      [(s.sol.osnma : Int)] ++ s.sol.osnmaAuth.map (fun (n : Nat) => (n : Int)) ++ [r.isbE, r.isbC, r.isbG, r.isbI] ++
      (s.sol.susp.map (fun x => [(x.cause : Int), x.sys, (x.sat.getD 0xFF), ((x.band.map Band.code).getD 0xFF)])).flatten))

/-- `INTEG_STATUS`, served by its spec (12 R315). -/
def execCmdIntegStatus (p : Packet) (s : State) : Host.Outcome State Fault Refusal := s.command specIntegStatus p

/-- An installer's command of this chapter, deferred to the next boundary. -/
def solSpec (opcode : Nat) (len : Req → Bool) (param : Req → State → Option Nat) (put : Req → State → State) : CmdSpec :=
  { opcode := opcode, role := roleInstaller, len := len, param := param, changes := fun _ => true, run := fun r s => (put r s).accept r 0 }

/-- `SURVEY_START` (10 R242, R261). -/
def specSurveyStart : CmdSpec :=
  solSpec 0x0903 (lenIs 0)
    (fun _ s => if ((s.site s.arr.assay.table.refSite).map (·.mode)) == some 1 then some 0xFFFF else none)
    (fun _ s => { s with sol := { s.sol with surveyStaged := true } })

/-- `SURVEY_START`, served by its spec (12 R315). -/
def execCmdSurveyStart (p : Packet) (s : State) : Host.Outcome State Fault Refusal := s.command specSurveyStart p

/-- `HOLD_FORCE` (10 R258, R261): a byte 0 or 1 and three reserved bytes, a layout the spec does not give (log 7). -/
def specHoldForce : CmdSpec :=
  solSpec 0x0904 (lenIs 4)
    (fun r _ => firstBad [(decide (1 < u8At r.pay 0), 0), (!zeroAt r.pay 1 3, 1)])
    (fun r s => { s with sol := { s.sol with holdStaged := some (u8At r.pay 0 == 1) } })

/-- `HOLD_FORCE`, served by its spec (12 R315). -/
def execCmdHoldForce (p : Packet) (s : State) : Host.Outcome State Fault Refusal := s.command specHoldForce p

/-- `SAT_EXCLUDE` (10 R261): the list replaces the satellites excluded; `INDEX` is a signal of the satellite. -/
def specSatExclude : CmdSpec :=
  solSpec 0x0905 lenList
    (fun r _ =>
      if 32 < u8At r.pay 0 then some 0
      else match listReserved r with
        | some f => some f
        | none => r.entryBad (fun e => !sigOkIndex e.1 0) (fun e => !sigOkIndex e.1 (sx 8 e.2)))
    (fun r s => { s with sol := { s.sol with excludeStaged := some (nub (r.entries.map (fun e => (sigSys e.1, sigSat e.1)))) } })

/-- `SAT_EXCLUDE`, served by its spec (12 R315). -/
def execCmdSatExclude (p : Packet) (s : State) : Host.Outcome State Fault Refusal := s.command specSatExclude p

def solRows : List (ParRow SolParams) :=
  [natRow 10 1000 (·.solInt) (fun a v => { a with solInt := v }), natRow 0 3 (·.utcSrc) (fun a v => { a with utcSrc := v }),
   natRow 600 604800 (·.surveyT) (fun a v => { a with surveyT := v }), natRow 5 500 (·.surveySig) (fun a v => { a with surveySig := v }),
   natRow 1 0x7F (·.solSys) (fun a v => { a with solSys := v })]

/-- `SOL_PARAMS` (10 R262). -/
def specSolParams : CmdSpec :=
  parSpec 0x8900 solRows (·.sol.solP) (·.sol.solPS) (fun a s => { s with sol := { s.sol with solPS := some a } })

/-- `SOL_PARAMS`, served by its spec (12 R315). -/
def execCmdSolParams (p : Packet) (s : State) : Host.Outcome State Fault Refusal := s.command specSolParams p

def integRows : List (ParRow IntegParams) :=
  [natRow 10 300 (·.sigAng) (fun a v => { a with sigAng := v }), natRow 1 12 (·.sigNfail) (fun a v => { a with sigNfail := v }),
   natRow 0 1 (·.sigreq) (fun a v => { a with sigreq := v }), natRow 0 1 (·.osnmaReq) (fun a v => { a with osnmaReq := v }),
   natRow 30 100 (·.resThr) (fun a v => { a with resThr := v }), natRow 0 8 (·.fdeMax) (fun a v => { a with fdeMax := v }),
   natRow 5 100 (·.xsysThr) (fun a v => { a with xsysThr := v }), natRow 45 70 (·.pwrHi) (fun a v => { a with pwrHi := v }),
   natRow 4 20 (·.pwrRel) (fun a v => { a with pwrRel := v }), natRow 0 16 (·.suspMax) (fun a v => { a with suspMax := v }),
   natRow 2 100 (·.sigNom) (fun a v => { a with sigNom := v })]

/-- `INTEG_PARAMS` (10 R262). -/
def specIntegParams : CmdSpec :=
  parSpec 0x8901 integRows (·.sol.integP) (·.sol.integPS) (fun a s => { s with sol := { s.sol with integPS := some a } })

/-- `INTEG_PARAMS`, served by its spec (12 R315). -/
def execCmdIntegParams (p : Packet) (s : State) : Host.Outcome State Fault Refusal := s.command specIntegParams p

def holdRows : List (ParRow HoldParams) :=
  [natRow 2 4 (·.holdGrade) (fun a v => { a with holdGrade := v }), natRow 1 3600 (·.holdDwell) (fun a v => { a with holdDwell := v }),
   natRow 10 3600 (·.recoverT) (fun a v => { a with recoverT := v }), natRow 0 300 (·.holdBack) (fun a v => { a with holdBack := v })]

/-- `HOLD_PARAMS` (10 R262). -/
def specHoldParams : CmdSpec :=
  parSpec 0x8902 holdRows (·.sol.holdP) (·.sol.holdPS) (fun a s => { s with sol := { s.sol with holdPS := some a } })

/-- `HOLD_PARAMS`, served by its spec (12 R315). -/
def execCmdHoldParams (p : Packet) (s : State) : Host.Outcome State Fault Refusal := s.command specHoldParams p

/-- `RTCM_INT` is 100, 200, 500 or whole seconds (10 R262). -/
def rtcmRows : List (ParRow RtcmParams) :=
  [natRow 0 4095 (·.sta) (fun a v => { a with sta := v }),
   { natRow 100 60000 (·.int) (fun a v => { a with int := v }) with also := fun v => v == 100 || v == 200 || v == 500 || v % 1000 == 0 },
   natRow 0 0x1F (·.sys) (fun a v => { a with sys := v })]

/-- `RTCM_PARAMS` (10 R262). -/
def specRtcmParams : CmdSpec :=
  parSpec 0x8903 rtcmRows (·.sol.rtcmP) (·.sol.rtcmPS) (fun a s => { s with sol := { s.sol with rtcmPS := some a } })

/-- `RTCM_PARAMS`, served by its spec (12 R315). -/
def execCmdRtcmParams (p : Packet) (s : State) : Host.Outcome State Fault Refusal := s.command specRtcmParams p

end Sys2Proof.Machine
end

