-- ==== Sys2Proof/Machine/Ports.lean ====
section
/-! DEFINITION. Synthesizers and timing ports (11): configuration and D (R271–R275), the two-way calibration (R276–R281), loss of reference or
lock (R284–R288), time of day (R289, R290), and the commands. -/

namespace Sys2Proof.Machine

/-! ### Port time, D and states -/

/-- A port, and a change of one. -/
def State.port (s : State) (n : Nat) : PortState := vgetD s.syn.ports n {}
def State.mapPort (n : Nat) (f : PortState → PortState) (s : State) : State := { s with syn := { s.syn with ports := vupdN s.syn.ports n f } }

/-- Device time of a tick in 0.001 ps (17 R430). -/
def tickFs (n : Nat) : Int := (n : Int) * 10 ^ 11 / 8184

/-- Port time in ps: device time plus φ_T (11 R264). -/
def State.portPs (s : State) : Int := (tickFs s.clk.tick + s.syn.phiT) / 1000

/-- A port is enabled by its configuration (11 `PFLAGS`). -/
def PortCfg.enable (c : PortCfg) : Bool := bit c.pflags 0
def PortCfg.utcScale (c : PortCfg) : Bool := bit c.pflags 2
def PortCfg.step_ (c : PortCfg) : Bool := bit c.pflags 3

/-- The bank that feeds a port coasts (11 R284). -/
def State.bankCoasts (s : State) (n : Nat) : Bool := vgetD s.syn.bank (n / 8) .coasting == .coasting

/-- D of a configuration and a forward delay, in 0.001 ps (11 R271). -/
def PortCfg.dOf (c : PortCfg) (dfwd : Int) : Int := 1000 * (c.uoff - dfwd - c.feDly)

/-- C and F that realise a D in 0.001 ps (11 R271). -/
def realise (d : Int) : Int × Nat :=
  let c := d / 4000000
  let f := roundDiv (d - 4000000 * c) 2000
  if f = 2000 then (c + 1, 0) else (c, f.toNat)

/-- D lies in the range of C (11 R271). -/
def dInRange (d : Int) : Bool := let c := (realise d).1; decide (-125000000 ≤ c ∧ c ≤ 124999999)

/-- The forward delay without a measurement: `NOMDLY` (11 R277). -/
def PortState.nominal (x : PortState) : Int := x.cfg.nomdly

/-- d_fwd from a round trip (11 R277). -/
def PortCfg.forward (c : PortCfg) (rtt : Nat) : Int := quotI ((rtt : Int) - c.feTurn + c.asym) 2

/-- The clock period in ps (11 R278). -/
def PortCfg.period (c : PortCfg) : Int := quotI (10 ^ 12) c.fout

/-- The round trip expected of a clock port's link: that of its pair, otherwise from the nominal delay; none where no source is set (11 R278). -/
def State.tripSource (s : State) (c : PortCfg) : Option Int :=
  if c.pair ≠ 0xFF then (s.port c.pair).rtt.map (fun r => (r : Int))
  else if c.nomdly = 0 then none else some (2 * c.nomdly + c.feTurn)

/-- A measured round trip with its periods counted (11 R278): in CLOCK mode, the value nearest to the source. -/
def State.unwrap (s : State) (c : PortCfg) (rt : Nat) : Option Int :=
  if c.pmode ≠ 2 then some rt
  else
    let p := c.period
    (s.tripSource c).map (fun src => let f := (rt : Int) % p; f + p * roundDiv (src - f) p.toNat)

/-- The round trip's fraction lies within P/8 of a period boundary (11 R278). -/
def PortCfg.nearEdge (c : PortCfg) (rtt : Nat) : Bool := let p := c.period; let f := (rtt : Int) % p; decide (8 * f ≤ p ∨ 7 * p ≤ 8 * f)

/-- The fraction of UTC in the scheduling of a port's seconds, in ps (11 R272). -/
def State.scaleOff (s : State) (c : PortCfg) : Int := if c.utcScale then Int.neg ((s.syn.utc.map (·.1)).getD 0) else 0

/-- The first whole second of a port's scale at least 10 ms of port time after now (11 R274); none for a UTC port until UTC is known. -/
def State.startSecond (s : State) (c : PortCfg) : Option Nat :=
  if c.utcScale ∧ (s.sol.rec_.utcValid = false ∨ s.syn.utc = none) then none
  else some ((Int.neg ((Int.neg (s.portPs + 10 ^ 10 - s.scaleOff c)) / 10 ^ 12))).toNat

/-- The state of rest of a port that has gated off (11 R274, R285, R288): off when disabled, gated while its bank coasts, otherwise starting. -/
def State.restState (s : State) (n : Nat) (c : PortCfg) : PState :=
  if !c.enable || c.pmode == 0 then .off else if s.bankCoasts n then .gated else .starting

/-- Puts a port at rest in a state. -/
def PortState.settle (st : PState) (start : Option Nat) (x : PortState) : PortState :=
  { x with pstate := st, level := false, stopTo := none, startAt := if st = .starting then start else none
           necho := if st = .starting then 0 else x.necho, slewing := false, dStep := none, d := x.dTarget }

/-- Gates a running port off at its clean edge (11 R274, R287): at once when its level is inactive, as between messages. -/
def State.gateOff (n : Nat) (st : PState) (s : State) : State :=
  s.mapPort n (fun x =>
    if x.level && (x.pstate == .running || x.pstate == .coasting) then { x with stopTo := some st, startAt := s.startSecond x.cfg }
    else x.settle st (s.startSecond x.cfg))

/-- Gives a port a new D (11 R275): as a step at an edge 1 ms later, by slewing, or at once while it does not run. -/
def State.moveD (n : Nat) (d : Int) (s : State) : State :=
  s.mapPort n (fun x =>
    if x.pstate != .running && x.pstate != .coasting then { x with d := d, dTarget := d }
    else if x.dTarget = d then x
    else if x.cfg.step_ && x.cfg.pmode != 2 then { x with dTarget := d, dStep := some (d, s.ms + 1) }
    else { x with dTarget := d, slewing := decide (x.d ≠ d), dStep := none })

/-- Takes a forward delay into use (11 R277). -/
def State.useForward (n : Nat) (dfwd : Int) (s : State) : State :=
  let t := s.mapPort n (fun x => { x with dfwd := dfwd, calMs := s.ms })
  t.moveD n ((t.port n).cfg.dOf dfwd)

/-! ### Echoes -/

/-- The mean of some round trips (11 R277). -/
def meanNat (l : List Nat) : Nat := (quotI (l.foldl (· + ·) 0 : Nat) l.length).toNat

/-- The median of some round trips; of an even count, the lower of the two in the middle. -/
def medianNat (l : List Nat) : Nat := (sortBy id l).getD ((l.length - 1) / 2) 0

/-- RMS scatter about the mean. -/
def scatter (l : List Nat) : Nat :=
  let m := meanNat l
  let sq : Nat := (l.map (fun (v : Nat) => (((v : Int) - m) * ((v : Int) - m)).toNat)).foldl (· + ·) 0
  isqrt (quotI sq (max 1 l.length)).toNat

/-- Echoes within a window of a value. -/
def within (win m : Nat) (l : List Nat) : List Nat := l.filter (fun v => decide (((v : Int) - m).natAbs ≤ win))

/-- The payload of a port's report (log 7). -/
def portReport (n : Nat) (l : List Int) : List Byte := Config.encodeFields 0x1301 ((n : Int) :: l)

/-- The tenant a port's reports concern. -/
def State.portTen (s : State) (n : Nat) : Nat := (s.port n).owner

/-- An echo fault begins (11 R280): once, holding d_fwd. -/
def State.echoFault (n : Nat) (s : State) : State :=
  if (s.port n).echoFault then s
  else (s.mapPort n (fun x => { x with echoFault := true, uncal := true, echoes := [] })).report 0x1301 2 (s.portTen n) n (portReport n [])

/-- An expected echo is missing or lies outside the window (11 R280). -/
def State.echoMissed (n : Nat) (s : State) : State :=
  let t := s.mapPort n (fun x => { x with echoMiss := satAdd 0xFFFF x.echoMiss 1, missRun := x.missRun + 1 })
  if t.syn.params.echoLoss ≤ (t.port n).missRun then t.echoFault n else t

/-- The fault clears with a new round trip (11 R280, R281): the new d_fwd is applied, or held for acceptance when it jumps. -/
def State.faultOver (n rtt : Nat) (s : State) : State :=
  let x := s.port n
  let d := x.cfg.forward rtt
  let t := (s.mapPort n (fun x => { x with echoFault := false, rtt := some rtt, missRun := 0 })).faultClear 0x1301 n
  if (d - x.dfwd).natAbs ≤ t.syn.params.jumpLim then (t.mapPort n (fun x => { x with uncal := false })).useForward n d
  else
    (t.mapPort n (fun x => { x with calJump := true, jumped := some d })).report 0x1302 2 (s.portTen n) n (bi32 x.dfwd ++ bi32 d)

/-- A returned edge with its round trip in ps, after the internal paths are removed (11 R277–R281). -/
def State.echoPort (n rt : Nat) (s : State) : State :=
  let x := s.port n
  match x.burst with
  | some l => if s.bankCoasts n then s else s.mapPort n (fun x => { x with burst := if l.length < 256 then some (rt :: l) else some l })
  | none =>
    if x.cfg.rmode ≠ 1 ∨ (x.pstate ≠ .running ∧ x.pstate ≠ .coasting) ∨ s.bankCoasts n = true ∨ x.lastEcho = some s.ms then s
    else
      match s.unwrap x.cfg rt with
      | none => s.mapPort n (fun x => { x with lastEcho := some s.ms })
      | some v =>
        let r := v.toNat
        let win := s.syn.params.echoWin
        let t := s.mapPort n (fun x => { x with lastEcho := some s.ms })
        let inside := match x.rtt with | none => true | some m => decide (((r : Int) - m).natAbs ≤ win)
        if x.echoFault then
          let l := (r :: x.echoes).take x.cfg.echoN
          let u := t.mapPort n (fun x => { x with echoes := l })
          if x.cfg.echoN ≤ l.length ∧ (within win (medianNat l) l).length = l.length then u.faultOver n (meanNat l) else u
        else if !inside then t.echoMissed n
        else t.mapPort n (fun x =>
          let l := (r :: x.echoes).take x.cfg.echoN
          { x with echoes := l, necho := (x.necho + 1) % 2 ^ 32, missRun := 0, fresh := true, echoSig := min 0xFFFF (scatter l) })

/-- `ECHO` (11 R277). -/
def execEvEcho (tp : Fin 32) (rt : Nat) (s : State) : Host.Outcome State Fault Refusal := .next (s.echoPort tp rt)

/-- `ECHO_MISSING` (11 R280): an expected echo of a running port with a return did not come. -/
def execEvEchoMissing (tp : Fin 32) (s : State) : Host.Outcome State Fault Refusal :=
  let x := s.port tp
  .next (if x.cfg.rmode = 1 ∧ (x.pstate = .running ∨ x.pstate = .coasting) ∧ s.bankCoasts tp = false then s.echoMissed tp else s)

/-- `RETURN_STUCK` (11 R280): the return pair of a running clock port has held one level for 1 ms. -/
def execEvReturnStuck (tp : Fin 32) (_active : Bool) (s : State) : Host.Outcome State Fault Refusal :=
  let x := s.port tp
  .next (if x.cfg.rmode = 1 ∧ x.cfg.pmode = 2 ∧ (x.pstate = .running ∨ x.pstate = .coasting) then s.echoFault tp else s)

/-- The round trip of a port at a boundary (11 R277, R278): the mean of its latest echoes, or the nominal delay; d_fwd is held through a fault and until a
jump is accepted (R280, R281). -/
def State.updateTrip (n : Nat) (s : State) : State :=
  let x := s.port n
  if x.cfg.rmode = 0 then
    let t := s.mapPort n (fun x => { x with uncal := true })
    if x.dfwd = x.nominal then t else t.useForward n x.nominal
  else if x.echoFault then s
  else if x.calJump then
    if x.fresh && decide (x.cfg.echoN ≤ x.echoes.length) then s.mapPort n (fun x => { x with rtt := some (meanNat x.echoes), fresh := false }) else s
  else if x.fresh && decide (x.cfg.echoN ≤ x.echoes.length) && !s.bankCoasts n then
    let r := meanNat x.echoes
    let run := if x.cfg.pmode = 2 ∧ x.cfg.nearEdge r then x.edgeRun + 1 else 0
    let t := s.mapPort n (fun x => { x with rtt := some r, fresh := false, edgeRun := run })
    if 16 ≤ run then (t.mapPort n (fun x => { x with uncal := true })).useForward n x.nominal
    else (t.mapPort n (fun x => { x with uncal := false })).useForward n (x.cfg.forward r)
  else if x.rtt = none ∨ (x.cfg.pmode = 2 ∧ s.tripSource x.cfg = none) then
    let t := s.mapPort n (fun x => { x with uncal := true })
    if x.dfwd = x.nominal then t else t.useForward n x.nominal
  else s

/-- The final reply of a calibration burst: `CALRES`, `NCAL`, the round trip in force (11 R279). -/
def State.calReply (n res ncal : Nat) (s : State) : State :=
  match (s.port n).burstReq with
  | none => s
  | some q => s.finalReply 0x0A05 q.1 q.2 (.ok (b8 res ++ bz 1 ++ b16 ncal ++ b32 (((s.port n).rtt).getD 0)))

/-- Ends a burst with its result; the port returns to `OFF`. -/
def State.endBurst (n res ncal : Nat) (s : State) : State :=
  (s.calReply n res ncal).mapPort n (fun x => { x with burst := none, burstReq := none, pstate := .off })

/-- Ticks of a burst: 256 pulses at 10 kHz (11 R279). -/
def burstTicks : Nat := 256 * 8184

/-- `PORT_CAL_RESULT` (11 R279): once the burst has ended. -/
def execEvPortCalResult (tp : Fin 32) (s0 : State) : Host.Outcome State Fault Refusal :=
  .next (match (s0.port tp).burst with
    | none => s0
    | some l =>
      let s := s0.wait ((s0.port tp).burstFrom + burstTicks - s0.clk.tick)
      let ok := within s.syn.params.echoWin (medianNat l) l
      if 16 ≤ ok.length then
        let r := meanNat ok
        let t := s.mapPort tp (fun x => { x with rtt := some r, uncal := decide (x.cfg.rmode ≠ 1), echoSig := min 0xFFFF (scatter ok) })
        (t.endBurst tp 1 ok.length).useForward tp (if (s.port tp).cfg.rmode = 1 then (s.port tp).cfg.forward r else (s.port tp).nominal)
      else s.endBurst tp 2 ok.length)

/-- Takes measurements of the internal paths over (11 R276). -/
def State.measurePaths (paths skews : List Int) (s : State) : State :=
  { s with syn := { s.syn with
    ports := Vector.ofFn (fun (i : Fin 32) => { s.syn.ports[i] with path := paths.getD i (s.syn.ports[i]).path })
    skew := Vector.ofFn (fun (i : Fin 4) => skews.getD i s.syn.skew[i]), pathAt := some s.upMs } }

/-- The ports' path monitors take the measurement (22 R519): a port's change from its first one. -/
def State.pathMonitors (paths : List Int) (s : State) : State :=
  (List.range 32).foldl (fun t n =>
    match paths[n]? with
    | none => t
    | some v =>
      let w := 155 + n
      let u := t.mapWear w (fun e => { e with first := some (e.first.getD v) })
      u.measure w (v - ((u.wearOf w).first.getD v))) s

/-- `PATH_CALIBRATION` (11 R276, 22 R519): at boot and every 600 s, internal paths per port and skews per bank, in ps. -/
def execEvPathCalibration (paths skews : List Int) (s : State) : Host.Outcome State Fault Refusal :=
  .next (
    if s.syn.pathAt.any (fun t => decide (s.upMs < t + 600000)) then s else (s.measurePaths paths skews).pathMonitors paths)
/-! ### Edges and messages -/

/-- The time bound of port time in 0.1 ns: `TEEST`, and `HO_TE` in holdover (11 R266, R289). -/
def State.hoTe (s : State) : Option Nat :=
  s.syn.hoBase.map (fun b =>
    let ms := s.ms - s.sol.holdSince
    (quotI ((2 * b.1 * 2 * 10 ^ 12 + 4 * b.2.1 * ms * 10 ^ 6 + b.2.2 * ms * ms : Nat) : Int) (2 * 10 ^ 14)).toNat)
def State.teEst (s : State) : Nat :=
  if s.sol.holdover then min 0xFFFF (s.hoTe.getD 0xFFFF)
  else match s.sol.sigma with | some v => min 0xFFFF (quotI (2 * v + 300 : Nat) 100).toNat | none => 0xFFFF

/-- The realised instant of an edge at port time T, in 2 ps (11 R271). -/
def PortState.instant (x : PortState) (t : Int) : Int := let r := realise x.d; t / 2 + 2000 * r.1 + r.2

/-- The port time T of what a port puts out now: now less D (11 R271). -/
def State.edgePs (s : State) (x : PortState) : Int := s.portPs - x.d / 1000

/-- A tick of 81.84 MHz in ps: what leaves within the present tick is due in it. -/
def tickPs : Int := 12219

/-- The last active edge scheduled up to the present tick, in ps of port time (11 R271): the pulses from the second on, or the periods that the divider
counts from it. -/
def State.activeEdge (s : State) (x : PortState) : Int :=
  let o := s.scaleOff x.cfg
  let t := s.edgePs x + tickPs - o
  let sec := t / 10 ^ 12
  let step : Int := t % 10 ^ 12
  if x.cfg.pmode = 1 then o + sec * 10 ^ 12 + 1000000 * x.cfg.pper * (step / (1000000 * x.cfg.pper))
  else o + sec * 10 ^ 12 + quotI (10 ^ 12 * (step * x.cfg.fout / 10 ^ 12)) x.cfg.fout

/-- How long a port's active level lasts, in ps (11 R271): the pulse's width, or half a clock period. -/
def PortCfg.width (c : PortCfg) : Int := if c.pmode = 2 then c.period / 2 else 4000 * c.pwid

/-- A pending step of D takes effect at an active edge (11 R275). -/
def PortState.atEdge (ms : Nat) (t : Int) (x : PortState) : PortState :=
  let y := match x.dStep with
    | some (d, m) => if m ≤ ms then { x with d := d, dStep := none } else x
    | none => x
  { y with level := true, lastEdge := some (t.toNat, y.instant t), offAt := t + y.cfg.width }

/-- `PORT_EDGE` (11 R271, R274): the next edge of a PULSE or CLOCK port; one that is to stop does so at its edge toward the inactive level. -/
def execEvPortEdge (tp : Fin 32) (s : State) : Host.Outcome State Fault Refusal :=
  let x := s.port tp
  .next (if (x.pstate ≠ .running ∧ x.pstate ≠ .coasting) ∨ (x.cfg.pmode ≠ 1 ∧ x.cfg.pmode ≠ 2 ∧ x.stopTo = none) then s
    else if x.level then
      if s.edgePs x + tickPs < x.offAt then s
      else match x.stopTo with
      | some st => s.mapPort tp (fun x => x.settle st x.startAt)
      | none => s.mapPort tp (fun x => { x with level := false })
    else
      let t := s.activeEdge x
      if (match x.lastEdge with | some l => decide (t ≤ l.1) | none => false) then s else s.mapPort tp (PortState.atEdge s.ms t))

/-- `PORT_START` (11 R274): a starting port's second has come; its first edge leaves on it. -/
def execEvPortStart (tp : Fin 32) (s : State) : Host.Outcome State Fault Refusal :=
  let x := s.port tp
  .next (match x.startAt with
    | none => s
    | some sec =>
      let t : Int := sec * 10 ^ 12 + s.scaleOff x.cfg
      if x.pstate = .starting ∧ t ≤ s.edgePs x + tickPs then
        s.mapPort tp (fun x =>
          let y := { x with pstate := .running, startAt := none, necho := 0, missRun := 0, echoes := [], lastEdge := none }
          if y.cfg.pmode = 3 then y else y.atEdge s.ms t)
      else s)

/-- The binary time-of-day frame, 20 bytes (11 R289). -/
def State.todFrame (n sec : Nat) (s : State) : List Byte :=
  let x := s.port n
  let ann := s.sol.rec_.leapAnn
  let b := b16 0x5447 ++ b8 1 ++
    b8 (bbool s.sol.holdover + 2 * bbool s.sol.rec_.utcValid + 4 * bbool (ann != 0) + 8 * bbool (decide (ann < 0)) +
      16 * bbool (x.pstate == .coasting) + 32 * bbool x.uncal) ++
    leBytes 6 sec ++ b8 (bitsOf 8 ((s.syn.utc.map (·.2)).getD 0)) ++ b8 s.sol.grade.code ++ b16 s.teEst ++ b8 n ++ bz 1 ++ b16 x.tseq
  b ++ b16 (crc16 b)

/-- The message of a second in a format (11 R289, R290). -/
def State.todMessage (n sec todf : Nat) (s : State) : List Byte :=
  if todf = 0 then s.todFrame n sec else nmeaSentence (zdaText s.talker sec ((s.syn.utc.map (·.2)).getD 0) s.sol.rec_.leapAnn)

/-- The second that a message of a port describes: the GPS second in force (11 R289). -/
def State.todSecond (s : State) (x : PortState) : Nat := ((s.edgePs x - s.scaleOff x.cfg) / 10 ^ 12).toNat

/-- `TOD_MESSAGE` (11 R289): at the second plus `TODOFF`, once a second; a step of D due takes effect with it. -/
def execEvTodMessage (tp : Fin 32) (s : State) : Host.Outcome State Fault Refusal :=
  let x := s.port tp
  let sec := s.todSecond x
  let t : Int := sec * 10 ^ 12 + s.scaleOff x.cfg + 10 ^ 9 * x.cfg.todoff
  .next (if x.cfg.pmode = 3 ∧ (x.pstate = .running ∨ x.pstate = .coasting) ∧ t ≤ s.edgePs x ∧
            (match x.lastEdge with | some l => decide ((l.1 : Int) < t) | none => true) = true then
      let u := s.mapPort tp (fun x => let y := x.atEdge s.ms t; { y with level := false, tseq := (x.tseq + 1) % 65536 })
      { u with syn := { u.syn with todOut := u.syn.todOut ++ [(tp.val, s.todMessage tp sec x.cfg.todf)] } }
    else s)

/-! ### Loss of reference or lock -/

/-- A bank coasts: its ports gate off, TP0–TP3 coast, bursts end (11 R285, R288). -/
def State.bankLost (k : Nat) (s : State) : State :=
  let t := { s with syn := { s.syn with bank := vupdN s.syn.bank k (fun _ => .coasting)
                                        refLostAt := if k = 0 ∧ s.syn.refLostAt = none then some s.upMs else s.syn.refLostAt } }
  (List.range 8).foldl (fun t i =>
    let n := 8 * k + i
    let x := t.port n
    match x.pstate with
    | .running => if n < 4 then t.mapPort n (fun x => { x with pstate := .coasting }) else t.gateOff n .gated
    | .coasting => if n < 4 then t else t.gateOff n .gated
    | .starting => t.mapPort n (fun x => x.settle .gated none)
    | .cal => t.endBurst n 3 (let l := x.burst.getD []; (within t.syn.params.echoWin (medianNat l) l).length)
    | _ => t) t

/-- `REF_LOSS` (11 R284): SYN-A and the banks coast. -/
def execEvRefLoss (s : State) : Host.Outcome State Fault Refusal :=
  .next (if s.syn.refValid then
      let t := ({ s with syn := { s.syn with refValid := false, synA := .coasting } }).report 0x1201 3 0xFF 0 []
      (List.range 4).foldl (fun t k => t.bankLost k) t
    else s)

/-- `SYN_UNLOCK` (11 R284): SYN-A (0) or bank k (k + 1) loses lock while REFIN is valid. -/
def execEvSynUnlock (syn : Fin 5) (s : State) : Host.Outcome State Fault Refusal :=
  .next (if !s.syn.refValid then s
    else if syn.val = 0 then
      if s.syn.synA = .locked then ({ s with syn := { s.syn with synA := .coasting } }).report 0x1202 3 0xFF 0 (b8 0 ++ bz 3) else s
    else if vgetD s.syn.bank (syn.val - 1) .coasting = .locked then (s.report 0x1202 3 0xFF syn (b8 syn ++ bz 3)).bankLost (syn.val - 1)
    else s)

/-- `REF_COAST_EXPIRY` (11 R285): TP0–TP3 gate off after `REF_COAST`. -/
def execEvRefCoastExpiry (s : State) : Host.Outcome State Fault Refusal :=
  .next (match s.syn.refLostAt with
    | none => s
    | some t =>
      if t + s.syn.params.refCoast ≤ s.upMs then
        (List.range 4).foldl (fun u n => if (u.port n).pstate = .coasting then u.gateOff n .gated else u) s
      else s)

/-- Coasting ports of a bank that has relocked run again; gated ones restart at a boundary (11 R286). -/
def State.bankBack (k : Nat) (s : State) : State :=
  let t := { s with syn := { s.syn with bank := vupdN s.syn.bank k (fun _ => .locked), refLostAt := if k = 0 then none else s.syn.refLostAt } }
  (List.range 8).foldl (fun t i => t.mapPort (8 * k + i) (fun x => if x.pstate = .coasting then { x with pstate := .running } else x)) t

/-- TCNT is loaded once from the backup counter while no lane has left `DARK`; without a time source, and before SYN-A
locks, it stays (17 R431, 07 R162, 23 R546). -/
def State.bootTime (s : State) : State :=
  if s.clk.runs && s.bak.tvalid && !s.clk.loaded && !s.clk.lanesLeft then
    let n := s.bak.count * 81840000 / 32768
    let t := { s with clk := { s.clk with tick := n, bnd := n / epochTicks * epochTicks, loaded := true } }
    { t with sol := { t.sol with holdSince := t.ms } }
  else s

/-- The fitted lanes that are not disabled are brought up (02 R44). -/
def State.startLanes (s : State) : State := (s.fitted.filter (fun n => !(s.lane n).disabled)).foldl (fun u n => u.bringUp n) s

/-- A boot that ends without a valid REFIN raises `FLT_REF_LOSS` (23 R546). -/
def State.refMissing (s : State) : State := if s.syn.refValid then s else s.report 0x1201 3 0xFF 0 []

/-- SYN-A locks for the first time since the reset (23 R546): TCNT is loaded and counts, and after a boot that waited for it the lanes start. -/
def State.firstLock (s : State) : State :=
  if s.clk.runs then s
  else
    let t := { s with clk := { s.clk with runs := true } }
    if t.boo.dstate = .run then t.bootTime.startLanes else t

/-- `REF_RESTORE` (11 R286, 23 R546): after 100 ms of clean REFIN every synthesizer relocks. -/
def execEvRefRestore (s : State) : Host.Outcome State Fault Refusal :=
  .next (if s.syn.refValid then s
    else
      let t := { s with syn := { s.syn with refValid := true, synA := .locked } }
      let u := ((List.range 4).foldl (fun t k => t.bankBack k) t).firstLock
      if s.ses.told.any (fun x => x.1 == 0x1201) then u.faultClear 0x1201 0 else u)

/-- `SYN_RELOCK` (11 R286): a synthesizer that lost lock while REFIN stayed valid regains it. -/
def execEvSynRelock (syn : Fin 5) (s : State) : Host.Outcome State Fault Refusal :=
  .next (if !s.syn.refValid then s
    else if syn.val = 0 then
      if s.syn.synA = .coasting then ({ s with syn := { s.syn with synA := .locked } }).faultClear 0x1202 0 else s
    else if vgetD s.syn.bank (syn.val - 1) .locked = .coasting then (s.bankBack (syn.val - 1)).faultClear 0x1202 syn
    else s)

/-! ### Boundaries (step 7 of 01 R18) -/

/-- Moves a value toward a target by at most a step. -/
def toward (lim cur target : Int) : Int := cur + clampI (Int.neg lim) lim (target - cur)

/-- y and φ_T at a boundary (11 R264, R265): targets due commit, y_pull moves device time and takes the same from φ_T, port time slews. -/
def State.servo (s : State) : State :=
  let due := (s.syn.targets.filter (fun t => decide (t.1 ≤ s.ms))).getLast?
  let y0 := s.syn
  let y1 := match due with
    | none => y0
    | some (_, y, phi) => { y0 with y := y, phiTarget := phi, pullLeft := phi, yHist := (s.ms, y) :: y0.yHist }
  let p := clampI (Int.neg (1000 * y1.params.dtPull)) (1000 * y1.params.dtPull) y1.pullLeft
  let old := y1.yHist.filter (fun h => decide (s.ms < h.1 + 301000))
  { s with syn := { y1 with
    targets := y1.targets.filter (fun t => decide (s.ms < t.1)), yPull := p, pullLeft := y1.pullLeft - p
    phiTarget := y1.phiTarget - p, phiT := toward (1000 * y1.params.tslew) (y1.phiT - p) (y1.phiTarget - p)
    yHist := old ++ (y1.yHist.drop old.length).take 1 } }

/-- y in force at a ms (10 R258). -/
def SynState.yAt (x : SynState) (ms : Nat) : Int := ((x.yHist.find? (fun h => decide (h.1 ≤ ms))).map (·.2)).getD 0

/-- The servo's estimate of the port time error is at most `GATE_TE` (11 R286). -/
def State.servoGood (s : State) : Bool := decide ((s.syn.phiTarget - s.syn.phiT).natAbs ≤ 1000000 * s.syn.params.gateTe)

/-- The holdover bound gates a port (11 R266). -/
def State.hoGated (s : State) (n : Nat) : Bool :=
  s.sol.holdover && s.syn.params.hoGate == 1 && decide (4 ≤ n) && (match s.hoTe with | some v => decide (10 * s.syn.params.hoLimit < v) | none => false)

/-- A new configuration changes the mode or the rate (11 R274). -/
def PortCfg.rateDiffers (a b : PortCfg) : Bool :=
  a.pmode != b.pmode || a.pper != b.pper || a.pwid != b.pwid || a.fout != b.fout || a.todf != b.todf || a.todbaud != b.todbaud

/-- The staged configuration of a port commits (11 R273–R275). -/
def State.commitPort (s : State) (n : Nat) : State :=
  if s.stepping then s
  else
  let x := s.port n
  let c0 := x.staged.getD x.cfg
  let s := if x.staged.isSome || x.enStaged.isSome then
      { s with boo := { s.boo with pendingEnable := s.boo.pendingEnable.filter (· != n) } } else s
  let c1 : PortCfg := match x.enStaged with
    | some e => { c0 with pflags := (if e then 1 else 0) + c0.pflags / 2 * 2 }
    | none => c0
  if c1 = x.cfg then s.mapPort n (fun x => { x with staged := none, enStaged := none })
  else
    let t := s.mapPort n (fun x => { x with cfg := c1, staged := none, enStaged := none
                                            rtt := if c1.rmode = x.cfg.rmode then x.rtt else none })
    let u := t.moveD n (c1.dOf (t.port n).dfwd)
    if c1.enable != x.cfg.enable || c1.rateDiffers x.cfg then
      if x.pstate = .cal then u else u.gateOff n (u.restState n c1)
    else u

/-- One port at a boundary: its configuration, its start in UTC, its round trip, its slew, its restart (11 R272–R278, R286). -/
def State.portBoundary (s : State) (n : Nat) : State :=
  let s1 := (s.commitPort n).updateTrip n
  let s2 := s1.mapPort n (fun x => if x.pstate = .starting ∧ x.startAt = none then { x with startAt := s1.startSecond x.cfg } else x)
  let lim : Int := s2.syn.params.pslew
  let s3 := s2.mapPort n (fun x => if x.slewing then let d := toward lim x.d x.dTarget; { x with d := d, slewing := decide (d ≠ x.dTarget) } else x)
  let x := s3.port n
  if s3.boo.pendingEnable.contains n then s3
  else if s3.hoGated n then (if x.pstate = .running ∨ x.pstate = .starting ∨ x.pstate = .coasting then s3.gateOff n .gated else s3)
  else if (x.pstate = .gated ∧ s3.bankCoasts n = false ∧ s3.servoGood) ∨ (x.pstate = .off ∧ s3.restState n x.cfg ≠ .off) then s3.mapPort n (fun x => x.settle (s3.restState n x.cfg) (s3.startSecond x.cfg))
  else s3

/-- Dither changes commit (11 R269). -/
def applyDither (y : SynState) (d : Nat × Dither) : SynState :=
  if d.1 = 0 then { y with ditherA := d.2 }
  else if d.1 < 16 then { y with ditherB := vupdN y.ditherB (d.1 - 1) (fun _ => d.2) }
  else { y with ditherD := vupdN y.ditherD (d.1 - 16) (fun _ => d.2) }

/-- Step 7 of the commit order: servo, dither, servo parameters, ports; no D changes while the Overman restarts (11 R288). -/
def State.timeOutputs (s : State) : State :=
  let t := s.servo
  let u := if s.stepping then t else { t with syn := { t.syn.ditherStaged.foldl applyDither t.syn with
    ditherStaged := [], params := t.syn.paramsStaged.getD t.syn.params, paramsStaged := none } }
  if u.boo.dstate = .run then (List.range 32).foldl State.portBoundary u else u

/-! ### Commands -/

/-- The configuration block's bytes, 48 (11). -/
def PortState.block (x : PortState) : List Byte :=
  let c := x.cfg
  b8 c.pmode ++ b8 c.pflags ++ b8 c.todf ++ b8 c.todbaud ++ b32 c.pper ++ b32 c.pwid ++ b32 c.fout ++ bi64 c.uoff ++ b16 c.todoff ++ b16 c.echoN ++
  b8 c.rmode ++ b8 c.pair ++ b8 x.owner ++ bz 1 ++ b32 c.feTurn ++ bi32 c.feDly ++ bi32 c.asym ++ b32 c.nomdly

/-- 2·10^9 / `FOUT` is an integer (11 R270). -/
def PortCfg.integerMode (c : PortCfg) : Bool := c.fout != 0 && 2000000000 % c.fout == 0

/-- The status block, 32 bytes (11). -/
def State.portStatus (s : State) (n : Nat) : List Byte :=
  let x := s.port n
  let r := realise x.d
  b8 x.pstate.code ++ b8 (bbool x.uncal + 2 * bbool x.echoFault + 4 * bbool x.calJump + 8 * bbool (x.slewing || x.dStep.isSome) + 16 * bbool x.cfg.integerMode) ++
  bi32 r.1 ++ b16 r.2 ++ b32 (x.rtt.getD 0) ++ bi32 x.dfwd ++ b16 x.echoSig ++ b16 x.echoMiss ++ b32 x.necho ++
  b32 (min ((s.ms - x.calMs) / 1000) 0xFFFFFFFF) ++ b16 s.teEst ++ bz 2

/-- An operator's own port (11 R291). -/
def Req.ownsPort (r : Req) (s : State) (n : Nat) : Bool := r.role != 1 || (s.port n).owner == r.x.tenant

/-- `SYN_STATUS` (11 R291). -/
def specSynStatus : CmdSpec :=
  { statusSpec 0x0A00 (fun _ s =>
    let lk (l : SynLock) : Int := bbool (l == .locked)
    Config.encodeFields 0x0A00 ([(bbool s.syn.refValid : Int), s.syn.y, s.syn.yPull, s.syn.phiT, lk s.syn.synA] ++ s.syn.bank.toList.map lk ++
      [(bbool s.sol.holdover : Int), ((s.hoTe.getD 0xFFFFFFFF : Nat) : Int)])) with gcp1 := true }

/-- `SYN_STATUS`, served by its spec (12 R315). -/
def execCmdSynStatus (p : Packet) (s : State) : Host.Outcome State Fault Refusal := s.command specSynStatus p

/-- `PORT_STATUS` (11 R291). -/
def specPortStatus : CmdSpec :=
  rangeSpec 0x0A01 (fun _ => 32) (fun r s => (List.range 32).filter (r.ownsPort s)) (fun s n => (s.port n).block ++ s.portStatus n) true

/-- `PORT_STATUS`, served by its spec (12 R315). -/
def execCmdPortStatus (p : Packet) (s : State) : Host.Outcome State Fault Refusal := s.command specPortStatus p

/-- The fields that `PORT_SET` writes over a configuration; `ENABLE` stays. -/
def PortCfg.withMode (b : List Byte) (c : PortCfg) : PortCfg :=
  { c with pmode := u8At b 0, pflags := u8At b 1 / 2 * 2 % 16 + c.pflags % 2, todf := u8At b 2, todbaud := u8At b 3, pper := u32At b 4
           pwid := u32At b 8, fout := u32At b 12, uoff := i64At b 16, todoff := u16At b 24 }

/-- The fields that `PORT_CABLE` writes. -/
def PortCfg.withCable (b : List Byte) (c : PortCfg) : PortCfg :=
  { c with echoN := u16At b 26, rmode := u8At b 28, pair := u8At b 29, feTurn := u32At b 32, feDly := i32At b 36, asym := i32At b 40
           nomdly := u32At b 44 }

/-- Bits per second of `TODBAUD`. -/
def todBaud (k : Nat) : Nat := [9600, 19200, 38400, 115200, 460800, 921600].getD k 9600

/-- A `TOD` message ends later than 900 ms after the second (11 R273). -/
def PortCfg.todLate (c : PortCfg) : Bool :=
  c.pmode == 3 && decide (900 * todBaud c.todbaud < c.todoff * todBaud c.todbaud + 1000 * (10 * (if c.todf = 0 then 20 else 38)))

/-- The first field of a block at fault in a configuration it leads to (11 R271–R273); offsets count in the block. -/
def State.portBad (s : State) (n : Nat) (b : List Byte) (c : PortCfg) : Option Nat :=
  let dfwd : Int := if c.rmode = 1 then (match (s.port n).rtt with | some r => c.forward r | none => c.nomdly) else c.nomdly
  firstBad [(decide (3 < c.pmode), 0), (decide (16 ≤ u8At b 1), 1), (decide (1 < c.todf), 2), (decide (5 < c.todbaud), 3),
    (c.pper == 0 || decide (1000000 < c.pper) || 1000000 % c.pper != 0, 4), (c.pwid == 0 || decide (1000 * c.pper < 8 * c.pwid), 8),
    (decide (c.fout < 1000 ∨ 250000000 < c.fout), 12), (decide (400000000000 < c.uoff.natAbs), 16),
    (c.todoff == 0 || decide (899 < c.todoff) || c.todLate, 24), (c.echoN == 0 || decide (1024 < c.echoN), 26), (decide (1 < c.rmode), 28),
    (c.pair != 0xFF && (decide (32 ≤ c.pair) || (let q := (s.port c.pair).cfg; q.pmode != 1 || q.rmode != 1)), 29), (!zeroAt b 31 1, 31),
    (decide (1000000 < c.asym.natAbs), 40), (!dInRange (c.dOf dfwd), 16)]

/-- A block command of a port (11 R291, R273). -/
def portSpec (opcode : Nat) (role : Req → State → Bool) (f : List Byte → PortCfg → PortCfg) : CmdSpec :=
  let want (r : Req) (s : State) : PortCfg := f (r.pay.drop 4) ((s.port r.index).staged.getD (s.port r.index).cfg)
  { opcode := opcode
    role := role
    tenant := fun r s => r.ownsPort s r.index
    len := lenIs 52
    param := fun r s =>
      if 32 ≤ r.index then some 0 else if !zeroAt r.pay 2 2 then some 2
      else (s.portBad r.index (r.pay.drop 4) (want r s)).map (· + 4)
    changes := fun _ => true
    run := fun r s => (s.mapPort r.index (fun x => { x with staged := some (want r s) })).accept r r.index }

/-- `PORT_SET` (11 R273, R291). -/
def specPortSet : CmdSpec :=
  { portSpec 0x0A02 roleInstOp PortCfg.withMode with gcp1 := true }

/-- `PORT_SET`, served by its spec (12 R315). -/
def execCmdPortSet (p : Packet) (s : State) : Host.Outcome State Fault Refusal := s.command specPortSet p

/-- `PORT_CABLE` (11 R273, R291). -/
def specPortCable : CmdSpec :=
  portSpec 0x0A04 roleInstaller PortCfg.withCable

/-- `PORT_CABLE`, served by its spec (12 R315). -/
def execCmdPortCable (p : Packet) (s : State) : Host.Outcome State Fault Refusal := s.command specPortCable p

/-- `PORT_ENABLE` (11 R274, R291). -/
def specPortEnable : CmdSpec :=
  { opcode := 0x0A03
    role := roleInstOp
    tenant := fun r s => r.entries.all (fun e => r.ownsPort s e.1)
    foreign := fun r s => r.entryAt (fun e => !r.ownsPort s e.1)
    len := lenList
    gcp1 := true
    param := fun r _ =>
      if 32 < u8At r.pay 0 then some 0
      else match listReserved r with
        | some f => some f
        | none => r.entryBad (fun e => decide (32 ≤ e.1)) (fun e => decide (1 < e.2))
    changes := fun _ => true
    run := fun r s => (r.entries.foldl (fun t e => t.mapPort e.1 (fun x => { x with enStaged := some (e.2 == 1) })) s).accept r
      ((r.entries.map (·.1)).headD 0) }

/-- `PORT_ENABLE`, served by its spec (12 R315). -/
def execCmdPortEnable (p : Packet) (s : State) : Host.Outcome State Fault Refusal := s.command specPortEnable p

/-- `PORT_CAL` (11 R279, R281, R291). -/
def specPortCal : CmdSpec :=
  { opcode := 0x0A05
    role := fun r _ => r.role == 2 || (r.role == 1 && r.arg == 0)
    tenant := fun r s => r.ownsPort s r.index
    len := lenIs 4
    param := fun r s => firstBad [(decide (32 ≤ r.index), 0), (decide (2 < r.arg) || (r.arg == 1 && (s.port r.index).jumped.isNone), 2)]
    changes := fun _ => true
    run := fun r s =>
      let n := r.index
      if r.arg = 0 then
        if (s.port n).cfg.enable || (s.port n).pstate != .off || !s.clk.runs then (.fail stBusy, s)
        else ({ status := stOk, interim := true },
          s.mapPort n (fun x => { x with pstate := .cal, burst := some [], burstFrom := s.clk.tick, burstReq := some (r.x.sid, r.p.seq) }))
      else if r.arg = 1 then
        match (s.port n).jumped with
        | none => (.badParam 2, s)
        | some d => (.ok [], (s.mapPort n (fun x => { x with jumped := none, calJump := false, uncal := false })).useForward n d)
      else (.ok [], s.mapPort n (fun x => { x with echoMiss := 0 })) }

/-- `PORT_CAL`, served by its spec (12 R315). -/
def execCmdPortCal (p : Packet) (s : State) : Host.Outcome State Fault Refusal := s.command specPortCal p

/-- Entry `i` of a `SYN_DITHER` request: the modulator and its dither. -/
def ditherEntry (r : Req) (i : Nat) : Nat × Dither := (u16At r.pay (4 + 8 * i), ⟨u8At r.pay (6 + 8 * i) == 1, u32At r.pay (8 + 8 * i)⟩)

/-- `SYN_DITHER` (11 R269): `NLIST` u8, three reserved bytes, then entries of a modulator u16 (0 SYN-A, 1 + k bank k, 16 + n divider of TPn), an
enable u8, a reserved byte and the seed u32, a layout the spec does not give (log 7). -/
def specSynDither : CmdSpec :=
  { opcode := 0x8A00
    role := roleInstaller
    len := fun r => decide (4 ≤ r.pay.length) && r.pay.length == 4 + 8 * u8At r.pay 0
    param := fun r _ => firstSome [
      if zeroAt r.pay 1 3 then none else some 1,
      ((List.range (u8At r.pay 0)).find? (fun i =>
        let m := (ditherEntry r i).1
        decide (5 ≤ m ∧ m < 16) || decide (48 ≤ m) || decide (1 < u8At r.pay (6 + 8 * i)) || !zeroAt r.pay (7 + 8 * i) 1)).map (fun i => 4 + 8 * i)]
    changes := fun _ => true
    run := fun r s => ({ s with syn := { s.syn with
      ditherStaged := s.syn.ditherStaged ++ (List.range (u8At r.pay 0)).map (ditherEntry r) } }).accept r 0 }

/-- `SYN_DITHER`, served by its spec (12 R315). -/
def execCmdSynDither (p : Packet) (s : State) : Host.Outcome State Fault Refusal := s.command specSynDither p

def servoRows : List (ParRow ServoParams) :=
  [natRow 1 1000 (·.tslew) (fun a v => { a with tslew := v }), natRow 0 100 (·.dtPull) (fun a v => { a with dtPull := v }),
   natRow 10 100000 (·.pslew) (fun a v => { a with pslew := v }), natRow 100 100000 (·.echoWin) (fun a v => { a with echoWin := v }),
   natRow 2 255 (·.echoLoss) (fun a v => { a with echoLoss := v }), natRow 50 100000 (·.jumpLim) (fun a v => { a with jumpLim := v }),
   natRow 100 600000 (·.refCoast) (fun a v => { a with refCoast := v }), natRow 5 10000 (·.gateTe) (fun a v => { a with gateTe := v }),
   natRow 10 1000000 (·.hoLimit) (fun a v => { a with hoLimit := v }), natRow 0 1 (·.hoGate) (fun a v => { a with hoGate := v })]

/-- `SERVO_PARAMS` (11 R292). -/
def specServoParams : CmdSpec :=
  parSpec 0x8A01 servoRows (·.syn.params) (·.syn.paramsStaged) (fun a s => { s with syn := { s.syn with paramsStaged := some a } })

/-- `SERVO_PARAMS`, served by its spec (12 R315). -/
def execCmdServoParams (p : Packet) (s : State) : Host.Outcome State Fault Refusal := s.command specServoParams p

end Sys2Proof.Machine
end

