-- ==== Sys2Proof/Machine/Tenancy.lean ====
section
/-! DEFINITION. Tenants, quotas, kernel limits and role secrets (13 R328–R338, R350); what a tenant's removal does (09 R225). -/

namespace Sys2Proof.Machine

/-- A tenant of the table in force. -/
def State.tenant (s : State) (t : Nat) : Tenant := vgetD s.ten.t t {}

/-- Changes a tenant. -/
def State.mapTenant (t : Nat) (f : Tenant → Tenant) (s : State) : State := { s with ten := { s.ten with t := vupdN s.ten.t t f } }

/-- A tenant after a staged change. -/
def TenantChange.after (c : TenantChange) (n : Nat) (x : Tenant) : Tenant :=
  match c with
  | .add t q => if t = n then { present := true, quota := q } else x
  | .remove t => if t = n then {} else x
  | .quota t q => if t = n then { x with quota := q } else x
  | .limits t k => if t = n then { x with klim := k } else x

/-- A tenant as the changes accepted so far will leave it. -/
def State.tenantNext (s : State) (n : Nat) : Tenant := s.ten.staged.foldl (fun x c => c.after n x) (s.tenant n)

/-- The sum of a figure over the tenants of a table. -/
def tenSum (f : Nat → Tenant) (g : Tenant → Nat) : Nat := (List.range 8).foldl (fun a t => a + (if (f t).present then g (f t) else 0)) 0

/-- The device-wide sums of R332 hold for a table of tenants. -/
def State.sumsHold (s : State) (f : Nat → Tenant) : Bool :=
  decide (tenSum f (·.quota.qBuf) ≤ 3584) && decide (tenSum f (·.quota.qLode) ≤ 49152) &&
  (List.range 2).all (fun k => decide (10 * tenSum f (fun t => t.quota.rate k) ≤ 72 * (vgetD s.por.eth k {}).rate))

/-- The rows of `TENANT_QUOTA` (13 R332). -/
def quotaRows : List (ParRow Quota) :=
  [natRow 64 1024 Quota.qBuf (fun q v => { q with qBuf := v }), natRow 1 9000 Quota.qRate0 (fun q v => { q with qRate0 := v }),
   natRow 1 9000 Quota.qRate1 (fun q v => { q with qRate1 := v }), natRow 8 512 Quota.qBurst (fun q v => { q with qBurst := v }),
   natRow 0 3 Quota.qLclass (fun q v => { q with qLclass := v }), natRow 1 16 Quota.qStreams (fun q v => { q with qStreams := v }),
   natRow 0 6 Quota.qCapreg (fun q v => { q with qCapreg := v }), natRow 0 49152 Quota.qLode (fun q v => { q with qLode := v })]

/-- Accepts a tenant change when the sums of R332 and the load conditions of 21 R514 hold with it. -/
def State.stageTenant (r : Req) (c : TenantChange) (t : Nat) (s : State) : Reply × State :=
  let f (n : Nat) : Tenant := c.after n (s.tenantNext n)
  if !s.sumsHold f then (.fail stNoCapacity, s)
  else
    match s.overload s.fab.active (fun n => (f n).quota) s.loads with
    | some port => ({ status := stNoCapacity, item := port }, s)
    | none => ({ s with ten := { s.ten with staged := s.ten.staged ++ [c] } }).accept r t

/-- `TENANT_LIST`: the tenants present, each with its quota and kernel limits; an operator sees its own (12 R319). -/
def specTenantList : CmdSpec :=
  statusSpec 0x0F00 (fun r s =>
    let l := (List.range 8).filter (fun t => (s.tenant t).present && (r.role != 1 || t == r.x.tenant))
    Config.encodeFields 0x0F00 ((l.length : Int) :: (l.map (fun t =>
      let x := s.tenant t
      (t : Int) :: (quotaRows.map (fun w => w.get x.quota)) ++
        [x.klim.kNum, x.klim.kCode, x.klim.kConst, x.klim.kShare].map (fun (n : Nat) => (n : Int)))).flatten))

/-- `TENANT_LIST`, served by its spec (12 R315). -/
def execCmdTenantList (p : Packet) (s : State) : Host.Outcome State Fault Refusal := s.command specTenantList p

/-- `TENANT_ADD` (13 R329, R330, R332). -/
def specTenantAdd : CmdSpec :=
  { opcode := 0x0F01, role := roleInstaller
    len := fun r => decide (8 ≤ r.pay.length) && r.pay.length == 8 + 8 * u8At r.pay 4
    param := fun r s => firstSome
      [must (decide (s.boo.fuses.tlimit.val ≤ r.index) || !(s.tenantNext r.index).present) 0, must (zeroAt r.pay 2 2) 2,
       must (u16At r.pay 6 == r.index) 6, parBad quotaRows 4 r.pay]
    changes := fun _ => true
    run := fun r s =>
      if s.boo.fuses.tlimit.val ≤ r.index then (.fail stNoCapacity, s)
      else s.stageTenant r (.add r.index (parApply quotaRows (parEntries (r.pay.drop 4)) {})) r.index }

/-- `TENANT_ADD`, served by its spec (12 R315). -/
def execCmdTenantAdd (p : Packet) (s : State) : Host.Outcome State Fault Refusal := s.command specTenantAdd p

/-- `TENANT_REMOVE` (13 R329, R330). -/
def specTenantRemove : CmdSpec :=
  { opcode := 0x0F02, role := roleInstaller, len := lenIs 4
    param := fun r s => firstBad [(!(s.tenantNext r.index).present, 0), (r.arg != 0, 2)]
    changes := fun _ => true
    run := fun r s =>
      ({ s with ten := { s.ten with staged := s.ten.staged ++ [TenantChange.remove r.index] } }).accept r r.index }

/-- `TENANT_REMOVE`, served by its spec (12 R315). -/
def execCmdTenantRemove (p : Packet) (s : State) : Host.Outcome State Fault Refusal := s.command specTenantRemove p

/-- `TENANT_QUOTA` (13 R329, R332). -/
def specTenantQuota : CmdSpec :=
  parCmd 0x0F03 roleInstaller quotaRows (fun t s => !(s.tenantNext t).present) (fun t s => (s.tenant t).quota)
    (fun t s => (s.tenantNext t).quota) (fun r q s => s.stageTenant r (.quota r.scope q) r.scope)

/-- `TENANT_QUOTA`, served by its spec (12 R315). -/
def execCmdTenantQuota (p : Packet) (s : State) : Host.Outcome State Fault Refusal := s.command specTenantQuota p

/-! ### Kernel limits and kernel records -/

/-- The rows of `KERNEL_BUDGET` (13 R337). -/
def klimRows : List (ParRow KLimits) :=
  [natRow 0 4 KLimits.kNum (fun k v => { k with kNum := v }), natRow 0 16384 KLimits.kCode (fun k v => { k with kCode := v }),
   natRow 0 4096 KLimits.kConst (fun k v => { k with kConst := v }), natRow 0 100 KLimits.kShare (fun k v => { k with kShare := v })]

/-- The first logical deputy on which a tenant's present charge exceeds a share (13 R338). -/
def State.chargeAbove (s : State) (ten share : Nat) : Option Nat :=
  match s.fab.active with
  | none => none
  | some p => (List.range 16).find? (fun ld => decide (share * p.dbudget ld / 100 < s.chargeOf ld ten))

/-- `KERNEL_BUDGET` (13 R337, R338). -/
def specKernelBudget : CmdSpec :=
  parCmd 0x9100 roleInstaller klimRows (fun t s => !(s.tenantNext t).present) (fun t s => (s.tenant t).klim)
    (fun t s => (s.tenantNext t).klim) (fun r k s =>
      let f (n : Nat) : Tenant := (TenantChange.limits r.scope k).after n (s.tenantNext n)
      if 16384 < tenSum f (·.klim.kCode) ∨ 4096 < tenSum f (·.klim.kConst) ∨ 100 < tenSum f (·.klim.kShare) then (.fail stNoCapacity, s)
      else
        match (if k.kShare < (s.tenantNext r.scope).klim.kShare then s.chargeAbove r.scope k.kShare else none) with
        | some ld => ({ status := stNoCapacity, item := ld }, s)
        | none => ({ s with ten := { s.ten with staged := s.ten.staged ++ [TenantChange.limits r.scope k] } }).accept r r.scope)

/-- `KERNEL_BUDGET`, served by its spec (12 R315). -/
def execCmdKernelBudget (p : Packet) (s : State) : Host.Outcome State Fault Refusal := s.command specKernelBudget p

/-- The channels that run a kernel. -/
def State.boundTo (s : State) (k : Nat × Nat) : List Nat := (List.range 384).filter (fun n => (s.chan n).kernel == some k)

/-- Unbinds a kernel from every channel; its channels take the standard filter. A record names them when there are any (13 R340). -/
def State.unbindKernel (cause : Nat) (k : Nat × Nat) (s : State) : State :=
  let l := s.boundTo k
  let off (c : ChanState) : ChanState := { c with
    kernel := if c.kernel = some k then none else c.kernel
    kernelStaged := if c.kernelStaged = some (some k) then none else c.kernelStaged }
  let t := { s with trk := { s.trk with ch := s.trk.ch.map off } }
  if l.isEmpty then t else t.kernelRecord 0xFE k.1 0 4 cause k.2 (s.kernelHdr k) l

/-- Deletes a slot's kernel for an acting role and session: unbound, removed from the deputies, its slot cleared (13 R339, 09 R225). -/
def State.deleteKernel (role sid cause : Nat) (k : Nat × Nat) (s : State) : State :=
  let t := s.unbindKernel cause k
  let u := t.mapTenant k.1 (fun x => { x with kslots := vupdN x.kslots k.2 (fun _ => {}) })
  if (vgetD (s.tenant k.1).kslots k.2 {}).ver.isSome then u.kernelRecord role k.1 sid 5 cause k.2 (s.kernelHdr k) [] else u

/-! ### Commit (step 6 of 01 R18) -/

/-- Drops what a tenant's sessions placed and has not committed: the changes of its ports, and the entries of later boundaries (12 R317). -/
def State.dropTenant (t : Nat) (s : State) : State :=
  let gone (a : Accepted) : Bool := a.tenant == t && (decide (s.ms < a.commit) || a.opcode / 256 == 0x0A || a.opcode / 256 == 0x8A)
  let l := s.ses.accepted.filter gone
  let off (x : PortState) : PortState := if x.owner = t then { x with staged := none, enStaged := none, owner := 0xFF } else x
  let s1 := { s with ses := { s.ses with accepted := s.ses.accepted.filter (fun a => !gone a) }
                     syn := { s.syn with ports := s.syn.ports.map off } }
  l.foldl (fun u a => u.deferFailed a.sid a.seq a.opcode stDeniedTenant a.commit a.tenant) s1

/-- A tenant's removal (09 R225, 11 R288, 12 R309, 19 R476): kernels, capture regions, channels, streams, ports, sessions, backup RAM area. -/
def State.removeTenant (t : Nat) (s : State) : State :=
  let s1 := (List.range 4).foldl (fun u k => u.deleteKernel 0xFE 0 3 (t, k)) s
  let s2 := s1.endStreams (fun x => x.ten == t)
  let s3 := s2.mapTenant t (fun _ => {})
  let reg (r : Region) : Region := if r.owner = t + 1 then {} else r
  let share (c : ChanState) : ChanState := if c.owner = t then { c with owner := 0xFF } else c
  let s4 := { s3 with
    smp := { s3.smp with lode := { s3.smp.lode with regions := s3.smp.lode.regions.map reg } }
    trk := { s3.trk with ch := s3.trk.ch.map share }
    bak := { s3.bak with bram := swrites 0 s3.bak.bram (0x800 + 256 * t) (bz 256) } }
  let s5 := s4.dropTenant t
  (s5.ses.open_.filter (fun x => x.role == 1 && x.tenant == t)).foldl (fun u x => u.closeSession 5 x.sid) s5

/-- The overlay with one tenant's entry replaced (13 R331); an overlay of another generation is left behind. -/
def State.overlayTenant (t : Nat) (q : Option Quota) (s : State) : State :=
  let same := s.ten.overlayGen == some s.boo.cgen
  let tab := (if same then s.ten.overlayTab else []).filter (fun x => x.1 != t)
  let sec := if same then s.ten.overlaySec else []
  { s with ten := { s.ten with overlayGen := some s.boo.cgen, overlayTab := tab ++ [(t, q)], overlaySec := sec } }

/-- A tenant's timed streams take its latency class (21 R506). -/
def State.classStreams (t : Nat) (q : Quota) (s : State) : State :=
  { s with por := { s.por with streams := s.por.streams.map (fun x => if x.ten = t ∧ timedKind x.kind then { x with cls := q.qLclass } else x) } }

/-- Commits one tenant change. -/
def State.commitTenant (s : State) (c : TenantChange) : State :=
  match c with
  | .add t q => (s.mapTenant t (fun _ => { present := true, quota := q })).overlayTenant t (some q)
  | .remove t => (s.removeTenant t).overlayTenant t none
  | .quota t q => ((s.mapTenant t (fun x => { x with quota := q })).classStreams t q).overlayTenant t (some q)
  | .limits t k => s.mapTenant t (fun x => { x with klim := k })

/-- Step 6 of a boundary: the tenant changes accepted, in order (01 R18, 13 R330). -/
def State.commitTenants (s : State) : State :=
  s.ten.staged.foldl (fun u c => u.commitTenant c) { s with ten := { s.ten with staged := [] } }

/-! ### Role secrets -/

/-- Writes a secret into the overlay (13 R331, R350). -/
def State.overlaySecret (role t : Nat) (sec : List Byte) (s : State) : State :=
  let same := s.ten.overlayGen == some s.boo.cgen
  let tab := if same then s.ten.overlayTab else []
  let old := (if same then s.ten.overlaySec else []).filter (fun x => !(x.1 == role && x.2.1 == t))
  { s with ten := { s.ten with overlayGen := some s.boo.cgen, overlayTab := tab, overlaySec := (role, t, sec) :: old } }

/-- Closes the sessions whose secret in effect changed (12 R309), the GV9600 having sent what it owes them. -/
def State.closeRole (role t : Nat) (s : State) : State :=
  (s.ses.open_.filter (fun x => x.role == role && x.tenant == t)).foldl (fun u x => u.closeSession 4 x.sid) s

/-- `ROLE_SECRET` (13 R350): the secret takes effect at once, and every open session of its role and tenant closes once the command is recorded
and its reply formed. -/
def specRoleSecret : CmdSpec :=
  { opcode := 0x8F00, role := fun r _ => r.role == 2 && r.x.authm == 2, len := lenIs 36
    param := fun r s =>
      let role := u8At r.pay 0
      let t := u8At r.pay 1
      firstBad [(role != 1 && role != 2, 0), (if role = 1 then !(s.tenant t).present else t != 0xFF, 1), (!zeroAt r.pay 2 2, 2)]
    changes := fun _ => true
    run := fun r s =>
      let mask := hmac256 (r.x.key.getD []) (ascii "GVS1" ++ b32 r.p.seq)
      let sec := List.zipWith (fun a b => a ^^^ b) ((r.pay.drop 4).take 32) mask
      (.ok [], s.overlaySecret (u8At r.pay 0) (u8At r.pay 1) sec)
    after := fun r s => s.closeRole (u8At r.pay 0) (u8At r.pay 1) }

/-- `ROLE_SECRET`, served by its spec (12 R315). -/
def execCmdRoleSecret (p : Packet) (s : State) : Host.Outcome State Fault Refusal := s.command specRoleSecret p

end Sys2Proof.Machine
end

