-- ==== Sys2Proof/Machine/Kernels.lean ====
section
/-! DEFINITION. The loop kernels of a tenant: image, load, verification, deletion (13 R335–R339). A verified kernel's copies in the deputies'
kernel areas are one copy per slot (`KernelSlot.copy`), since the spec leaves the place of a kernel within the area open. -/

namespace Sys2Proof.Machine

/-- The bytes of a kernel slot as an image: code and constants as its header gives them, and `SIG` (13 R335). -/
def kernelBytes (m : Mem) : List Byte := sreads 0 m 0 65536

/-- Offset of a kernel's `SIG`: header, code, constants and their padding (13 R335). -/
def kernelSigAt (b : List Byte) : Nat := (64 + 2 * u32At b 8 + 3 * u32At b 12 + 7) / 8 * 8

/-- A kernel's header figures (13 R335). -/
def kernelHdrOf (b : List Byte) : KernelHdr :=
  { kid := u16At b 6, kcode := u32At b 8, kconst := u32At b 12, kentry := u32At b 16, kcyc := u16At b 20, kstate := u16At b 22
    kver := u32At b 24 }

/-- Check 1 of `KERNEL_VERIFY`: magic, format, length, ranges, reserved fields (13 R335, R336, 08 R198). -/
def State.kernelShape (s : State) (ten slot : Nat) (b : List Byte) : Bool :=
  let h := kernelHdrOf b
  let code := 64 + 2 * h.kcode + 3 * h.kconst
  u32At b 0 == 0x4B525647 && u8At b 4 == 1 && decide (u8At b 5 < 8) && h.kid != 0 && decide (1 ≤ h.kcode ∧ h.kcode ≤ 16384) &&
  decide (h.kconst ≤ 4096) && decide (h.kentry < h.kcode) && decide (1 ≤ h.kcyc ∧ h.kcyc ≤ 4096) && decide (h.kstate ≤ 256) &&
  zeroAt b 28 36 && decide (kernelSigAt b + 200 ≤ 65536) && zeroAt b code (kernelSigAt b - code) && sigReserved b (kernelSigAt b) &&
  !((List.range 4).any (fun k => k != slot && (((vgetD (s.tenant ten).kslots k {}).ver.map (·.kid)) == some h.kid)))

/-- Check 4 of `KERNEL_VERIFY`: room within the tenant's limits (13 R336, R337). -/
def State.kernelRoom (s : State) (ten slot : Nat) (h : KernelHdr) : Bool :=
  let others := (List.range 4).filterMap (fun k => if k = slot then none else (vgetD (s.tenant ten).kslots k {}).ver)
  let sum (f : KernelHdr → Nat) : Nat := ((h :: others).map f).foldl (· + ·) 0
  let l := (s.tenant ten).klim
  decide (others.length + 1 ≤ l.kNum) && decide (sum (·.kcode) ≤ l.kCode) && decide (sum (·.kconst) ≤ l.kConst)

/-- A kernel is bound, or will be at the next boundary. -/
def State.kernelBound (s : State) (k : Nat × Nat) : Bool :=
  s.trk.ch.toList.any (fun c => c.kernel == some k || c.kernelNext == some k)

/-- A tenant's kernel slot. -/
def State.kslot (s : State) (ten k : Nat) : KernelSlot := vgetD (s.tenant ten).kslots k {}

/-- Changes a tenant's kernel slot. -/
def State.mapKslot (ten k : Nat) (f : KernelSlot → KernelSlot) (s : State) : State :=
  s.mapTenant ten (fun x => { x with kslots := vupdN x.kslots k f })

/-- `KERNEL_LIST` (13 R336): the slots that hold bytes; an operator sees its own tenant's. -/
def specKernelList : CmdSpec :=
  statusSpec 0x1100 (fun r s =>
    let l := ((List.range 8).map (fun t => (List.range 4).map (fun k => (t, k)))).flatten.filter (fun x =>
      (r.role != 1 || x.1 == r.x.tenant) && !(s.kslot x.1 x.2).image.isEmpty)
    Config.encodeFields 0x1100 ((l.length : Int) :: (l.map (fun x =>
      let k := s.kslot x.1 x.2
      let h := s.kernelHdr x
      [x.1, x.2, bbool k.ver.isSome, bbool k.deleting, h.kid, h.kcode, h.kconst, h.kentry, h.kcyc, h.kstate, h.kver,
        (s.boundTo x).length].map (fun (n : Nat) => (n : Int)))).flatten))

/-- `KERNEL_LIST`, served by its spec (12 R315). -/
def execCmdKernelList (p : Packet) (s : State) : Host.Outcome State Fault Refusal := s.command specKernelList p

/-- `KERNEL_LOAD` (13 R336): a write at offset 0 clears the slot's verified state. -/
def specKernelLoad : CmdSpec :=
  { opcode := 0x1101, role := roleOperator, len := lenWrite
    param := fun r _ => firstSome [must (decide (r.obj < 4)) 0, rangeBad 65536 r]
    changes := fun _ => true
    run := fun r s =>
      let k := (r.x.tenant, r.obj)
      if s.kernelBound k || (s.kslot k.1 k.2).deleting then (.fail stBusy, s)
      else
        let t := s.mapKslot k.1 k.2 (fun x =>
          let y := { x with image := swrites 0 x.image r.roff r.rbytes }
          if r.roff = 0 then { y with ver := none, copy := [] } else y)
        (.ok [], if r.roff = 0 then
          t.kernelRecord 1 k.1 r.x.sid 1 0 k.2 (kernelHdrOf (kernelBytes (t.kslot k.1 k.2).image)) [] else t) }

/-- `KERNEL_LOAD`, served by its spec (12 R315). -/
def execCmdKernelLoad (p : Packet) (s : State) : Host.Outcome State Fault Refusal := s.command specKernelLoad p

/-- `KERNEL_VERIFY` (13 R336): the checks in their order; a kernel that passes is copied to the deputies. -/
def specKernelVerify : CmdSpec :=
  { opcode := 0x1102, role := roleOperator, len := lenIs 4
    param := fun r _ => firstBad [(decide (4 ≤ r.index), 0), (r.arg != 0, 2)]
    changes := fun _ => true
    run := fun r s =>
      let t := r.x.tenant
      let b := kernelBytes (s.kslot t r.index).image
      let h := kernelHdrOf b
      if !s.kernelShape t r.index b then (.fail stBadParam, s)
      else if u8At b 5 ≠ t then (.fail stDeniedTenant, s)
      else if !(s.boo.fuses.instKey.written && sigOk b (kernelSigAt b) s.instKey) then (.fail stSignatureFail, s)
      else if !s.kernelRoom t r.index h then (.fail stNoCapacity, s)
      else
        (.ok [], (s.mapKslot t r.index (fun x => { x with ver := some h, copy := x.image })).kernelRecord 1 t r.x.sid 2 0 r.index h []) }

/-- `KERNEL_VERIFY`, served by its spec (12 R315). -/
def execCmdKernelVerify (p : Packet) (s : State) : Host.Outcome State Fault Refusal := s.command specKernelVerify p

/-- `KERNEL_DELETE` (13 R339): at once, or, when the kernel is bound, at the next boundary. -/
def specKernelDelete : CmdSpec :=
  { opcode := 0x1103, role := roleOperator, len := lenIs 4
    param := fun r _ => firstBad [(decide (4 ≤ r.index), 0), (r.arg != 0, 2)]
    changes := fun _ => true
    run := fun r s =>
      let k := (r.x.tenant, r.index)
      if s.kernelBound k then (s.mapKslot k.1 k.2 (fun x => { x with deleting := true })).accept r r.index
      else (.ok [], s.deleteKernel 1 r.x.sid 0 k) }

/-- `KERNEL_DELETE`, served by its spec (12 R315). -/
def execCmdKernelDelete (p : Packet) (s : State) : Host.Outcome State Fault Refusal := s.command specKernelDelete p

/-- Step 4 of a boundary: the deletes that waited for it (13 R339). -/
def State.commitDeletes (s : State) : State :=
  (((List.range 8).map (fun t => (List.range 4).map (fun k => (t, k)))).flatten).foldl (fun u k =>
    if (u.kslot k.1 k.2).deleting then u.deleteKernel 0xFE 0 0 k else u) s

end Sys2Proof.Machine
end

