-- ==== Sys2Proof/Machine/Maker.lean ====
section
/-! DEFINITION. The maker gate (13 R346–R349) and what HOLD stops (14 R364). -/

namespace Sys2Proof.Machine

/-- What runs nothing in HOLD: lanes `OFF`, no plan in the fabric, no channel, no search, no solution; ports at their inactive level (14 R364). -/
def State.stopAll (s : State) : State :=
  let s1 := s.fab.acts.foldl (fun t a => t.abortAct a) s
  let s2 := (List.range 98).foldl (fun t n =>
    ((if (t.lane n).state = .live then t.leaveBeams n else t).toDark n (t.lane n).cause).laneTo n .off) s1
  let s3 := (List.range 32).foldl (fun t n => if (t.port n).pstate = .off then t else t.gateOff n .gated) s2
  { s3 with
    fab := { s3.fab with active := none, standby := none, swap := none, mqueue := [], devWait := none }
    trk := { s3.trk with ch := s3.trk.ch.map ChanState.idle, acq := s3.trk.acq.flashOnly }
    sol := { s3.sol with obs := [] } }

/-- Enters HOLD for a cause (14 R363, R364). -/
def State.enterHold (cause : Nat) (s : State) : State :=
  let t := s.stopAll
  { t with boo := { t.boo with dstate := .hold, holdCause := cause } }

/-- The roles of the maker commands that need an open gate (13 R347). -/
def roleMaker : Req → State → Bool := fun r _ => r.role == 3 && r.x.makerOpen

/-- `MAKER_OPEN` (13 R347): the mark is blown and read back, recorded, and HOLD entered with the gate open. -/
def specMakerOpen : CmdSpec :=
  { opcode := 0x7F00, role := fun r _ => r.role == 3, len := lenIs 0, hold := true
    changes := fun _ => true
    run := fun r s =>
      let was : Bool := s.boo.fuses.maker
      let back : Bool := was || Config.fuseBack 4 1 s.free == 1
      let s1 := if was then s else { s with free := s.free + 1 }
      if !back then (.fail stInternal, s1)
      else
        let s2 := { s1 with boo := { s1.boo with fuses := { s1.boo.fuses with maker := true } } }
        let s3 := s2.tally 0x0500 3 r.x.tenant r.x.sid (b32 r.x.rma ++ b8 (bbool was) ++ b8 1 ++ b16 0)
        (.ok [], (s3.enterHold 4).mapSession r.x.sid (fun x => { x with makerOpen := true })) }

/-- `MAKER_OPEN`, served by its spec (12 R315). -/
def execCmdMakerOpen (p : Packet) (s : State) : Host.Outcome State Fault Refusal := s.command specMakerOpen p

/-- `MAKER_MARK` (13 R349): a `MAKER_NOTE` of at most 256 bytes. -/
def specMakerMark : CmdSpec :=
  { opcode := 0x7F02, role := roleMaker, hold := true
    len := fun r => decide (4 ≤ r.pay.length) && r.pay.length == 4 + u16At r.pay 0
    param := fun r _ => firstBad [(decide (256 < u16At r.pay 0), 0), (!zeroAt r.pay 2 2, 2)]
    run := fun r s =>
      if !s.tallyRoom then (.fail stBusy, s) else (.ok [], s.tally 0x0501 3 r.x.tenant r.x.sid r.pay) }

/-- `MAKER_MARK`, served by its spec (12 R315). -/
def execCmdMakerMark (p : Packet) (s : State) : Host.Outcome State Fault Refusal := s.command specMakerMark p

/-- `MAKER_CLOSE` (13 R349): its record; the session closes after the reply and a SYSTEM RESET follows. -/
def specMakerClose : CmdSpec :=
  { opcode := 0x7F01, role := roleMaker, len := lenIs 0, hold := true
    run := fun r s =>
      if !s.tallyRoom then (.fail stBusy, s)
      else (.ok [], (s.tally 0x0502 3 r.x.tenant r.x.sid []).closeSession 7 r.x.sid) }

/-- `MAKER_CLOSE`, served by its spec (12 R315). -/
def execCmdMakerClose (p : Packet) (s : State) : Host.Outcome State Fault Refusal := s.command specMakerClose p

end Sys2Proof.Machine
end

