-- ==== Sys2Proof/Machine/Holdover.lean ====
section
/-! DEFINITION. Holdover (10 R258, R259; 11 R266) and the end of every channel that IDLE and the sleep states bring (18 R453). -/

namespace Sys2Proof.Machine

/-- Enters holdover (10 R258): y reverts to its value `HOLD_BACK` before the first failing epoch of the alarm, or before entry; port time is not
stepped; the bound of 11 R266 starts from `TERR_SIG` of the latest solution, with estimates of the frequency and its drift that the Overman holds
(free values). -/
def State.enterHoldover (s : State) : State :=
  if s.sol.holdover then s
  else
    let from_ := (s.sol.alarmSince.getD s.ms) - 1000 * s.sol.holdP.holdBack
    let a := s.takeNat
    let b := a.2.takeNat
    let base := s.sol.sigma.map (fun v => (v, a.1, b.1))
    let t := { b.2 with
      sol := { s.sol with holdover := true, holdSince := s.ms, goodFor := 0 }
      syn := { s.syn with y := s.syn.yAt from_, yHist := (s.ms, s.syn.yAt from_) :: s.syn.yHist, targets := [], pullLeft := 0, yPull := 0
                          phiTarget := s.syn.phiT, hoBase := base, hoTold := false } }
    t.reportNow 0x2002 1 0xFF s.sol.rec_.bytes

/-- Leaves holdover (10 R259). -/
def State.leaveHoldover (s : State) : State :=
  let t := { s with sol := { s.sol with holdover := false, lowFor := 0 }, syn := { s.syn with hoBase := none, hoTold := false } }
  t.reportNow 0x2003 0 0xFF s.sol.rec_.bytes

/-- The grade holds an alarm or no solution: holdover begins at once (10 R258). -/
def State.holdNow (s : State) : Bool := s.sol.grade == .suspect || s.sol.grade == .none || s.sol.holdForce

/-- The grade is good enough to leave holdover (10 R259). -/
def State.holdGood (s : State) : Bool := decide (Grade.nominal.code ≤ s.sol.grade.code ∧ s.sol.holdP.holdGrade ≤ s.sol.grade.code)

/-- Holdover at a boundary: entry, exit (10 R258, R259) and the limit on the error bound (11 R266). -/
def State.holdBoundary (s : State) : State :=
  let low := if s.sol.grade.code < s.sol.holdP.holdGrade then s.sol.lowFor + 1 else 0
  let good := if s.holdGood then s.sol.goodFor + 1 else 0
  let t := { s with sol := { s.sol with lowFor := low, goodFor := good } }
  if !t.sol.holdover then (if t.holdNow || decide (1000 * t.sol.holdP.holdDwell < low) then t.enterHoldover else t)
  else if 1000 * t.sol.holdP.recoverT < good ∧ t.sol.holdForce = false then t.leaveHoldover
  else
    match t.hoTe with
    | some v =>
      if 10 * t.syn.params.hoLimit < v ∧ !t.syn.hoTold then
        ({ t with syn := { t.syn with hoTold := true } }).reportNow 0x1204 2 0xFF (Config.encodeFields 0x1204 [v, t.holdSecs])
      else t
    | none => t

/-- A channel with a signal ends as in `LOST`: its last state becomes hot assistance (06 channel states, 18 R453). -/
def endChannel (s : State) (n : Nat) : State :=
  let c := s.chan n
  if c.st = .idle then s else (s.lostSearch c).mapChan n ChanState.idle

/-- Ends every channel (18 R453). -/
def State.endChannels (s : State) : State := (List.range 384).foldl endChannel s

end Sys2Proof.Machine
end

