-- ==== Sys2Proof/Machine/LaneEv.lean ====
section
/-! DEFINITION. The events of the element lanes (02 R36–R51): what arrives on a lane, what is due on it, and what is sent. -/

namespace Sys2Proof.Machine

/-- `OFFER` (02 R38, R44): every 100 µs, 8 184 ticks, while none waits for its acknowledgement; it offers the versions of the GV9600 and what
the charter permits for the element. -/
def execEvOffer (el : Fin 96) (s : State) : Host.Outcome State Fault Refusal :=
  let l := s.lane el
  let due := match l.offerAt with | none => true | some t => decide (t + 8184 ≤ s.clk.tick)
  .next
    (if l.state = .offer ∧ l.ctrl.isNone ∧ due = true then
      let e := s.elem el
      (((s.nextDseq el).sendCtrl el dtOffer (offerArg 1 3 (2 ^ (e.maxRate + 1) - 1) (2 ^ (e.maxWidth + 1) - 1))).mapLane el
        (fun l => { l with offerAt := some s.clk.tick }))
    else s)

/-- `ALIGNMENT_GAINED` (02 R44): in `DARK` the lane goes to `OFFER`; in `SWITCH`, at the new rate, to `RANGE`. -/
def execEvAlignmentGained (el : Fin 96) (s : State) : Host.Outcome State Fault Refusal :=
  let l := s.lane el
  .next
    (if l.state = .dark then
      let s1 := (s.laneTo el .offer).mapLane el (fun l => { l with lossTold := false, offerAt := none })
      { s1 with clk := { s1.clk with lanesLeft := true } }
    else if l.state = .switch ∧ l.rate = l.tryRate ∧ l.since + 16368 ≤ s.clk.tick then (s.laneTo el .range).mapLane el (fun l => { l with echoes := [] })
    else s)

/-- `ALIGNMENT_LOST` (02 R48). -/
def execEvAlignmentLost (el : Fin 96) (s : State) : Host.Outcome State Fault Refusal :=
  .next (if (s.lane el).receiving then (s.laneLoss el .alignment).afterLane el else s)

/-- `FRAMES_MISSING` (02 R48): 8 frame periods are 1 320 ticks. -/
def execEvFramesMissing (el : Fin 96) (s : State) : Host.Outcome State Fault Refusal :=
  let l := s.lane el
  .next (if l.state = .live ∧ l.lastValid + 1320 ≤ s.clk.tick then (s.laneLoss el .framesMissing).afterLane el else s)

/-- `RATE_SWITCH` (02 R44): 200 µs after the acknowledgement, 16 368 ticks, both ends change rate. -/
def execEvRateSwitch (el : Fin 96) (s : State) : Host.Outcome State Fault Refusal :=
  let l := s.lane el
  .next (if l.state = .switch then
      (s.wait (l.since + 16368 - s.clk.tick)).mapLane el (fun l => l.atRate l.tryRate (max s.clk.tick (l.since + 16368)))
    else s)

/-- `LANE_STATE_TIMEOUT` (02 R46). -/
def execEvLaneStateTimeout (el : Fin 96) (s : State) : Host.Outcome State Fault Refusal :=
  let l := s.lane el
  .next (match l.state.limit with
    | none => s
    | some x => if l.since + x.1 ≤ s.clk.tick then (s.laneTimeout el).afterLane el else s)

/-- `MARK` (02 R39, R40): at the next scheduled reference point, the multiples of 250 µs of device time (log 16), once at each; sends the lane's
next tag. `departure` is its time to 1/16 UI. -/
def execEvMark (el : Fin 96) (departure : Nat) (s : State) : Host.Outcome State Fault Refusal :=
  let l := s.lane el
  let k := s.clk.tick / markTicks
  let slot := if s.clk.tick % markTicks = 0 ∧ l.markSlot ≠ some k then k else k + 1
  .next
    (if l.receiving then
      let t := s.wait (slot * markTicks - s.clk.tick)
      (t.transmitAt el (max t.clk.tick l.txFree) ⟨dtMark, l.markTag⟩).mapLane el (fun l =>
        { l with marks := ((l.markTag, departure) :: l.marks).take 64, markTag := if l.markTag = 65535 then 1 else l.markTag + 1
                 markSlot := some slot })
    else s)

/-- `CTRL_RETRY` (02 R38): after 50 µs the word goes out again with its `DSEQ`; after four sends it has failed. -/
def execEvCtrlRetry (el : Fin 96) (s : State) : Host.Outcome State Fault Refusal :=
  .next (match (s.lane el).ctrl with
    | none => s
    | some w =>
      if s.clk.tick < w.sentAt + 4092 then s
      else if w.sends < 4 then
        (s.transmit el w.word).mapLane el (fun l => { l with ctrl := some { w with sends := w.sends + 1, sentAt := s.clk.tick } })
      else
        ((s.mapLane el (fun l => { l with ctrl := none, ctrlFail := satAdd 0xFFFF l.ctrlFail 1 })).laneReport 0x1103 1 el w.word.dtype).nextControl el)

/-- `STANDBY_TIMEOUT` (02 R51): 20 ms of downlink without a wake end `STANDBY`; the front-end returns to its power-up state. The downlink is
off while the device sleeps, but for the LAMP cycles. -/
def execEvStandbyTimeout (el : Fin 96) (s : State) : Host.Outcome State Fault Refusal :=
  let l := s.lane el
  .next (if l.state = .standby ∧ (s.pow.pst = .run ∨ s.pow.lampBusy) ∧ l.since + 1636800 ≤ s.clk.tick then s.bringUp el else s)

/-- `UPLINK_FRAME` (02 R48). -/
def execEvUplinkFrame (el : Fin 96) (f : RawFrame) (s : State) : Host.Outcome State Fault Refusal := .next ((s.uplink el f).afterLane el)

/-- `CAP_FRAME` (02 R36): a capability frame, which may echo a `MARK` (02 R40). -/
def execEvCapFrame (el : Fin 96) (f : RawFrame) (s : State) : Host.Outcome State Fault Refusal :=
  .next (if ((frameBytes (s.lane el).rate f.items).map (fun b => (headerOf b).ftype)) = some 1 then (s.uplink el f).afterLane el else s)

end Sys2Proof.Machine
end

