-- ==== Sys2Proof/Machine/Seams.lean ====
section
/-! DEFINITION. Island clocks and seams (17 R426–R441): stalls, unlocked generators, forced crossings, broken seams, `FLT_SEAM`. -/

namespace Sys2Proof.Machine

/-- `ISID` of an island by its place in the table (17 island status block). -/
def isid (n : Nat) : Nat :=
  if n < 36 then n else if n < 54 then 0x40 + (n - 36) else if n < 56 then 0x60 + (n - 54) else if n = 56 then 0x62
  else if n < 59 then 0x63 + (n - 57) else if n = 59 then 0x65 else 0x80 + (n - 60)

/-- `ICLASS` of an island. -/
def iclass (n : Nat) : Nat := if n < 36 then 0 else if n < 56 then 1 else if n = 56 then 2 else if n = 59 then 4 else 3

/-- An island's status. -/
def State.island (s : State) (n : Nat) : IslandState := vgetD s.clk.isl n {}

/-- Changes an island's status. -/
def State.mapIsland (n : Nat) (f : IslandState → IslandState) (s : State) : State := { s with clk := { s.clk with isl := vupdN s.clk.isl n f } }

/-- `FLT_SEAM` of an island pair and cause, at most once per second; the occurrences between count in the next one's `SCOUNT` (17 R440). -/
def State.seamFault (src dst cause : Nat) (s : State) : State :=
  let here (t : SeamTold) : Bool := t.src == src && t.dst == dst && t.cause == cause
  let others := s.clk.seamTold.filter (fun t => !here t)
  let n := 1 + ((s.clk.seamTold.find? here).map (·.count)).getD 0
  let soon := s.clk.seamTold.any (fun t => here t && decide (s.upMs < t.lastMs + 1000))
  let last := if soon then ((s.clk.seamTold.find? here).map (·.lastMs)).getD 0 else s.upMs
  let t := { s with clk := { s.clk with
    seamTold := others ++ [{ src := src, dst := dst, cause := cause, lastMs := last, count := if soon then n else 0 }] } }
  if soon then t
  else t.reportNow 0x1003 2 0xFF (b8 cause ++ b8 (isid src) ++ b8 (isid dst) ++ bz 1 ++ b32 s.ms ++ b16 (min 0xFFFF n) ++ bz 2)

/-- `FAULT_CLEAR` of `FLT_SEAM`: the unit is the pair, source in the low byte (log 7). -/
def State.seamClear (src dst : Nat) (s : State) : State := s.faultClear 0x1003 (isid src + 256 * isid dst)

/-- `STOPE_STALL` (17 R427): the clock of a running stope stops. -/
def execEvStopeStall (st : Fin 36) (s : State) : Host.Outcome State Fault Refusal :=
  .next (if (s.island st).istate = .running then (s.mapIsland st (fun i => { i with istate := .stalled })).seamFault st st 3 else s)

/-- `STALL_RESTART` (17 R427, R440): the clock of a stalled stope restarts at 600 MHz; its replica passes 620 MHz. -/
def execEvStallRestart (st : Fin 36) (s : State) : Host.Outcome State Fault Refusal :=
  .next (if (s.island st).istate = .stalled
    then (s.mapIsland st (fun i => { i with istate := .running, frep := 620, gen := 600, genAt := s.clk.up })).seamClear st st else s)

/-- `GENERATOR_UNLOCK` (17 R428): a running locked island. -/
def execEvGeneratorUnlock (isl : Fin 156) (s : State) : Host.Outcome State Fault Refusal :=
  .next (if iclass isl = 1 ∧ (s.island isl).istate = .running
    then (s.mapIsland isl (fun i => { i with istate := .unlocked })).seamFault isl isl 2 else s)

/-- `GENERATOR_RELOCK` (17 R428, R440). -/
def execEvGeneratorRelock (isl : Fin 156) (s : State) : Host.Outcome State Fault Refusal :=
  .next (if (s.island isl).istate = .unlocked
    then (s.mapIsland isl (fun i => { i with istate := .running })).seamClear isl isl else s)

/-- `FORCED_CROSSING` (17 R436): 16 retries into the destination, then the value of the freeze is accepted. -/
def execEvForcedCrossing (src dst : Fin 156) (s : State) : Host.Outcome State Fault Refusal :=
  .next ((s.mapIsland dst (fun i =>
    { i with retry := satAdd 0xFFFFFFFF i.retry 16, forced := satAdd 0xFFFF i.forced 1 })).seamFault src dst 1)

/-- Interrupt line 3 of the Overman (17 R440, 16 interrupt lines). -/
def State.overmanLine3 (s : State) : State :=
  s.signal 18 3

/-- The seam between two islands is marked broken. -/
def State.markedBroken (s : State) (src dst : Nat) : Bool := s.clk.brokenSeams.any (fun b => b.src == src && b.dst == dst)

/-- `SEAM_TIMEOUT` (17 R437, R440): the seam is marked broken; on a broken one a further transfer is dropped and counted. -/
def execEvSeamTimeout (src dst : Fin 156) (s : State) : Host.Outcome State Fault Refusal :=
  .next (if s.markedBroken src dst then
      let more (b : BrokenSeam) : BrokenSeam := if b.src = src.val ∧ b.dst = dst.val then { b with dropped := b.dropped + 1 } else b
      { s with clk := { s.clk with brokenSeams := s.clk.brokenSeams.map more } }
    else
      let new : BrokenSeam := { src := src, dst := dst, dropped := 0 }
      let t := { s with clk := { s.clk with brokenSeams := s.clk.brokenSeams ++ [new] } }
      let u := (t.mapIsland src (fun i => { i with broken := satAdd 0xFFFF i.broken 1 })).seamFault src dst 4
      if 36 ≤ src.val ∧ src.val < 54 then u.overmanLine3 else u)

/-- `SEAM_ACKNOWLEDGE` (17 R437, R440): a broken seam acknowledges again. -/
def execEvSeamAcknowledge (src dst : Fin 156) (s : State) : Host.Outcome State Fault Refusal :=
  .next (if s.markedBroken src dst then
      let l := s.clk.brokenSeams.filter (fun b => !(b.src == src.val && b.dst == dst.val))
      ({ s with clk := { s.clk with brokenSeams := l } }).seamClear src dst
    else s)

/-- The nominal frequency in kHz that an island without a monitor reports (17 R429): MACs 156.25 or 125 MHz, adits by their rate code. -/
def State.nominalKhz (s : State) (n : Nat) : Nat :=
  if n = 56 then 81840
  else if n < 59 then (if (vgetD s.por.eth (n - 57) {}).mode = 0 then 156250 else 125000)
  else if n = 59 then 33
  else [62500, 78125, 75758].getD (s.lane (n - 60)).rate 62500

/-- `ICLK_MEAS` and `ICLK_MIN` of an island. -/
def State.iclk (s : State) (n : Nat) : Nat × Nat :=
  if n < 56 then ((s.island n).meas, (s.island n).minMeas) else (s.nominalKhz n, s.nominalKhz n)

/-- An island's status block, 24 bytes (17). -/
def State.islandBytes (s : State) (n : Nat) : List Byte :=
  let i := s.island n
  b8 (isid n) ++ b8 (iclass n) ++ b8 i.istate.code ++ bz 1 ++ b32 (s.iclk n).1 ++ b32 (s.iclk n).2 ++ b16 i.cap ++ bz 2 ++ b32 i.retry ++
  b16 i.forced ++ b16 i.broken

end Sys2Proof.Machine
end

