-- ==== Sys2Proof/Machine/Tally.lean ====
section
/-! DEFINITION. The tally book (13 R340–R345): its commands, the write of a record to flash with the opening of a segment, and the walk of
the chain. -/

namespace Sys2Proof.Machine

/-- The first record retained; the next one to come while flash holds none (13 R342). -/
def TallyState.firstSeq (t : TallyState) : Nat := (t.flash.head?.map (·.2.seq)).getD (t.head.seq + 1)

/-- Segments in use, 1 to 128 (13 R345 `SEG_USED`). -/
def TallyState.segsUsed (t : TallyState) : Nat :=
  match t.flash.head?, t.flash.getLast? with
  | some a, some b => min 128 (b.1 - a.1 + 1)
  | _, _ => 1

/-- Bytes of the records that flash holds of a segment. -/
def TallyState.segBytesOf (t : TallyState) (seg : Nat) : List Byte := ((t.flash.filter (fun x => x.1 == seg)).map (fun x => x.2.bytes)).flatten

/-- Flash offset just behind the records of the newest segment (13 R341, 14 R352). -/
def TallyState.endOff (t : TallyState) : Nat :=
  match t.flash.getLast? with
  | none => 0x01000000
  | some x => 0x01000000 + segBytes * ((x.1 - 1) % 128) + (t.segBytesOf x.1).length

/-- The head after the newest record of flash (13 R341). -/
def TallyState.headAt (t : TallyState) (exp : Nat) : TallyHead :=
  match t.flash.getLast? with
  | none => { exp := exp, off := t.endOff }
  | some x => { seq := x.2.seq, hash := sha256 x.2.bytes, off := t.endOff, exp := exp }

/-- Writes a segment's first record: with all 128 in use, the oldest segment is erased; when it holds records above `EXP_SEQ`,
`FLT_TALLY` follows (13 R342). -/
def State.openSegment (seg : Nat) (s : State) : State :=
  let t := s.ten.tally
  if seg ≤ 128 then s
  else
    let u := { t with flash := t.flash.filter (fun x => x.1 != seg - 128) }
    if t.unexported (seg - 128) then
      let v := { u with segLost := min 0xFFFF (u.segLost + 1) }
      ({ s with ten := { s.ten with tally := v } }).report 0x1902 2 0xFF 0 (b16 v.segLost ++ b16 0 ++ b32 v.head.exp ++ b32 v.firstSeq)
    else { s with ten := { s.ten with tally := u } }

/-- `TALLY_FLASH_WRITE` (13 R341, R342): the oldest queued record goes to flash, then the head follows it; a seal opens its segment. With
no record queued nothing happens. -/
def execEvTallyFlashWrite (s : State) : Host.Outcome State Fault Refusal :=
  .next (match s.ten.tally.queue with
    | [] => s
    | r :: rest =>
      let seg := if r.typ = 3 then u32At r.body 0 else (s.ten.tally.flash.getLast?.map (·.1)).getD 1
      let s1 := if r.typ = 3 then s.openSegment seg else s
      let t := { s1.ten.tally with queue := rest, flash := s1.ten.tally.flash ++ [(seg, r)] }
      { s1 with ten := { s1.ten with tally := { t with head := t.headAt t.head.exp } } })

/-- `TALLY_STATUS` (13 R345). -/
def tallyBlock (t : TallyState) : List Byte :=
  b32 t.head.seq ++ b32 t.firstSeq ++ b32 t.head.exp ++ b8 t.segsUsed ++ bz 1 ++ b16 t.segLost ++ b16 t.queue.length ++
  b16 (bbool t.rebuilt + 2 * bbool t.broken) ++ t.head.hash

/-- `TALLY_STATUS`. -/
def specTallyStatus : CmdSpec :=
  { statusSpec 0x0E00 (fun _ s => tallyBlock s.ten.tally) with hold := true }

/-- `TALLY_STATUS`, served by its spec (12 R315). -/
def execCmdTallyStatus (p : Packet) (s : State) : Host.Outcome State Fault Refusal := s.command specTallyStatus p

/-- `TALLY_READ` (13 R345): raw bytes of the segment in place `OBJ` of the region; flash beyond its records reads erased. -/
def specTallyRead : CmdSpec :=
  { opcode := 0x0E01, role := fun r _ => r.role == 2 || r.role == 3, len := lenIs 8, hold := true, idle := true
    param := fun r _ => firstSome [must (decide (r.obj < 128)) 0, rangeBad segBytes r]
    run := fun r s =>
      let t := s.ten.tally
      let seg := ((t.flash.find? (fun x => (x.1 - 1) % 128 == r.obj)).map (·.1)).getD 0
      let b := (((t.segBytesOf seg).drop r.roff).take r.rlen)
      (.ok (b ++ List.replicate (r.rlen - b.length) 0xFF), s) }

/-- `TALLY_READ`, served by its spec (12 R315). -/
def execCmdTallyRead (p : Packet) (s : State) : Host.Outcome State Fault Refusal := s.command specTallyRead p

/-- A record as a role sees it: whole, or a stub with the record's hash (13 R344). -/
def TallyRec.shown (r : TallyRec) (role ten : Nat) : List Byte :=
  if role = 1 ∧ r.tenant ≠ 0xFF ∧ r.tenant ≠ ten then ({ r with typ := 0xFFFE, body := sha256 r.bytes } : TallyRec).bytes else r.bytes

/-- `TALLY_EXPORT` (13 R344). -/
def specTallyExport : CmdSpec :=
  { opcode := 0x0E02, role := fun r _ => r.role == 2 || r.role == 3 || (r.role == 1 && u8At r.pay 4 != 1), len := lenIs 8
    hold := true
    param := fun r s => firstBad
      [(decide (s.ten.tally.head.seq + 1 < u32At r.pay 0), 0), (decide (1 < u8At r.pay 4), 4), (!zeroAt r.pay 5 3, 5)]
    changes := fun r => u8At r.pay 4 == 1
    run := fun r s =>
      let t := s.ten.tally
      let from_ := u32At r.pay 0
      let l := (t.flash.map (·.2)).filter (fun x => decide (from_ ≤ x.seq))
      let out := fitting (1408 - 48) (l.map (fun x => x.shown r.role r.x.tenant))
      let nxt := ((l.drop out.length).head?.map (·.seq)).getD 0
      let s1 := if u8At r.pay 4 = 1
        then { s with ten := { s.ten with tally := { t with head := { t.head with exp := from_ - 1 } } } } else s
      (.ok (b16 out.length ++ b16 0 ++ b32 nxt ++ b32 t.head.seq ++ t.head.hash ++ out.flatten), s1) }

/-- `TALLY_EXPORT`, served by its spec (12 R315). -/
def execCmdTallyExport (p : Packet) (s : State) : Host.Outcome State Fault Refusal := s.command specTallyExport p

/-- `TALLY_VERIFY` (13 R345, 12 R313): a walk starts; a second one waits for it. -/
def specTallyVerify : CmdSpec :=
  { opcode := 0x0E03, role := fun r _ => r.role == 2 || r.role == 3, len := lenIs 0
    run := fun r s =>
      if s.ten.tally.verify.isSome then (.fail stBusy, s)
      else ({ status := stOk, interim := true },
        { s with ten := { s.ten with tally := { s.ten.tally with verify := some (r.x.sid, r.p.seq) } } }) }

/-- `TALLY_VERIFY`, served by its spec (12 R315). -/
def execCmdTallyVerify (p : Packet) (s : State) : Host.Outcome State Fault Refusal := s.command specTallyVerify p

/-- The first `TB_SEQ` of a chain whose `TB_PREV` does not follow from the record before it (13 R340, R345); the records of this model
carry their magic. -/
def chainBreak : List Byte → List TallyRec → Option Nat
  | _, [] => none
  | h, r :: rest => if r.prev = h then chainBreak (sha256 r.bytes) rest else some r.seq

/-- `TALLY_VERIFY_RESULT` (13 R345): the final reply of a walk, with the records checked and the first broken one; nothing while no walk
runs. -/
def execEvTallyVerifyResult (s : State) : Host.Outcome State Fault Refusal :=
  .next (match s.ten.tally.verify with
    | none => s
    | some (sid, seq) =>
      let l := s.ten.tally.flash.map (·.2)
      let bad := match l with
        | [] => none
        | r :: rest => if r.seq = 1 ∧ r.prev ≠ List.replicate 32 0 then some 1 else chainBreak (sha256 r.bytes) rest
      let t := { s with ten := { s.ten with tally := { s.ten.tally with verify := none, broken := bad.isSome } } }
      t.finalReply 0x0E03 sid seq (.ok (Config.encodeFields 0x0E03 [l.length, bad.getD 0])))

end Sys2Proof.Machine
end

