-- ==== Sys2Proof/Machine/Power.lean ====
section
/-! DEFINITION. The power states (18 R452–R461): `DEV_POWER`, entry, edge window, wakes, exit, LAMP cycles. -/

namespace Sys2Proof.Machine

/-! ### Wakes -/

/-- A wake source is of the edge class: EVn or BEVn (18 wake sources). -/
def edgeWake (code : Nat) : Bool := code == 2 || code == 4

/-- A source is set to wake by its level (18 R454). -/
def State.levelWake (s : State) (code index : Nat) : Bool :=
  (code == 2 && bit s.pow.evlev index) || (code == 4 && bit s.pow.bevlev index)

/-- `LASTWAKE` of a wake (18 R458). -/
def lastWakeOf (code index : Nat) : Nat := code % 16 + 16 * (index % 8)

/-- Sets every island but time base and backup domain to a state. -/
def State.islandsTo (st : IState) (s : State) : State :=
  { s with clk := { s.clk with isl := Vector.ofFn (fun i => if i.val = 56 ∨ i.val = 59 then s.clk.isl[i] else { s.clk.isl[i] with istate := st }) } }

/-- A lane at the exit to RUN: `LAMP` wake where it stands by, bring-up otherwise (18 exit table, 02 R44, R52). -/
def State.laneWakes (s : State) (n : Nat) : State :=
  if (s.lane n).state = .standby then (s.mapLane n (fun l => { l with since := s.clk.tick })).control n dtLamp 2
  else if (s.lane n).disabled then s else s.bringUp n

/-- Regions besides C7 return to `IDLE` where their banks were unpowered (18 R452, exit table). -/
def State.loseRegions (s : State) : State :=
  let keep := s.region 7
  let l := s.smp.lode
  { s with smp := { s.smp with lode := { l with
      regions := Vector.ofFn (fun i => if i.val = 7 then keep else {})
      mem := l.mem.filter (fun c => decide (keep.base ≤ c.1 ∧ c.1 < keep.base + keep.size)) } } }

/-- At the full wake from LAMP every signal is searched in the best mode that it allows (07 R172), in the class of assisted searches (log 54). -/
def State.searchAgain (s : State) : State := ((coldTypes.map (s.systemSearches 4 none)).flatten).foldl (fun t x => t.searchOnce x) s

/-- Exit to RUN from a sleep state (18 exit table): power, retained state and clamps within 3 ms, then the lanes. From BACKUP a wake asserts
`PWR_REQ`, and the POWER-ON RESET follows with the supplies. -/
def State.powerExit (code index : Nat) (s : State) : State :=
  let t := { s with bak := { s.bak with lastWake := lastWakeOf code index } }
  match s.pow.pst with
  | .backup => { t with bak := { t.bak with pwrReq := true }, pow := { t.pow with exit_ := some t.clk.up } }
  | .retain | .lamp =>
    let u := (if s.pow.pst = .lamp then t.loseRegions else t).wait 245520
    let v := { (u.islandsTo .running) with pow := { u.pow with pst := .run, exit_ := none, retained := false, wdFrom := u.clk.up, lampBusy := false, lampSleepAt := none, entry := none } }
    let w := v.fitted.foldl State.laneWakes v
    if s.pow.pst = .lamp then w.searchAgain else w
  | _ => t

/-- An entry is abandoned (18 R457): the lanes that were sent to standby wake again (DEDUCED, log 22). -/
def State.entryAbandoned (e : PowEntry) (s : State) : State :=
  let t := { s with pow := { s.pow with entry := none } }
  let sent (n : Nat) : Bool := (t.lane n).state == .standby || ((t.lane n).state == .live && (match (t.lane n).cap with | some c => bit c.flags 0 | none => false))
  if e.phase = 0 ∨ e.target = .backup then t
  else ((List.range 96).filter sent).foldl (fun u n => (u.mapLane n (fun l => { l with since := u.clk.tick })).control n dtLamp 2) t

/-- A wake (18 R453, R456–R458): it ends IDLE; during entry an edge abandons it or, inside the window, is lost, and other classes wait for its
end; in a sleep state it starts the exit when `WAKEMASK` enables it. A source set to its level is sampled as a level, not by its edges. -/
def State.wake (code index : Nat) (s : State) : State :=
  match s.pow.entry with
  | some e =>
    if !bit s.pow.wakemask code then s
    else if edgeWake code then
      if s.levelWake code index then s
      else if e.window.isSome then { s with bak := { s.bak with wkLost := satAdd 0xFFFF s.bak.wkLost 1 } }
      else let t := s.entryAbandoned e; { t with bak := { t.bak with lastWake := lastWakeOf code index } }
    else
      let first := match e.wake with
        | some w => if w.1 ≤ code then w else (code, index)
        | none => (code, index)
      { s with pow := { s.pow with entry := some { e with wake := some first } } }
  | none =>
    match s.pow.pst with
    | .run => s
    | .idle => s.leaveIdle code index
    | _ => if bit s.pow.wakemask code && s.pow.exit_.isNone then s.powerExit code index else s

/-- `POWER_EXIT` (18 R458): a wake source of code 1 to 7. -/
def execEvPowerExit (code index : Nat) (s : State) : Host.Outcome State Fault Refusal :=
  .next (if 1 ≤ code ∧ code ≤ 7 then s.wake code index else s)

/-! ### `DEV_POWER` -/

/-- The wake codes that a target state can serve (18 wake sources). -/
def servedWakes (target : Nat) : List Nat := if target = 2 then [1, 2, 3, 4, 6, 7] else if target = 3 then [1, 2, 3, 4, 5, 6, 7] else [1, 3, 4]

/-- The power state of a `TARGET` (12 R324). -/
def targetOf (t : Nat) : PowState := if t = 1 then .idle else if t = 2 then .retain else if t = 3 then .lamp else .backup

/-- Payload length of a `TARGET`; an undefined one passes to the field checks. -/
def powerLen (r : Req) : Bool :=
  match u8At r.pay 0 with
  | 1 => r.pay.length == 4
  | 2 => r.pay.length == 12
  | 3 => r.pay.length == 44
  | 4 => r.pay.length == 8
  | _ => decide (4 ≤ r.pay.length)

/-- The LAMP block (18 LAMP parameters). -/
def lampOf (b : List Byte) : LampParams :=
  { emask := fieldAt b 12 12, per := u16At b 24, band := u8At b 26, width := u8At b 27, nblk := u8At b 28, nsat := u8At b 29, nmin := u8At b 30
    tthr := u32At b 32, hor := u16At b 36 }

/-- The elements of a LAMP block. -/
def LampParams.els (l : LampParams) : List Nat := (List.range 96).filter (fun n => bit l.emask n)

/-- The site of a LAMP block's elements. -/
def State.lampSite (s : State) (l : LampParams) : Nat := s.siteOf (l.els.headD 0)

/-- A signal is predicted above a site's mask throughout a horizon in minutes (18 R459), by the second. -/
def State.visibleFor (s : State) (site : Nat) (sigid : Nat) (hor : Nat) : Bool :=
  (List.range (60 * hor + 1)).all (fun t =>
    match Config.direction sigid 0 (s.ms + 1000 * t) with
    | none => false
    | some (_, el) => decide ((100 * (vgetD s.arr.masks site {}).mask : Nat) ≤ el))

/-- The signals of a LAMP block's band with an ephemeris no older than 4 h that stay above the mask (18 R459). -/
def State.lampSignals (s : State) (l : LampParams) : List Nat :=
  let b := (Band.ofCode l.band).getD .u
  ((sigTypes.filter (fun t => t.band == b)).map (fun t => s.namedSignals t.code)).flatten.filter (fun x =>
    s.freshEph x && s.visibleFor (s.lampSite l) x l.hor)

/-- The first LAMP field at fault (18 LAMP parameters, R459). -/
def State.lampBad (s : State) (b : List Byte) : Option Nat :=
  let l := lampOf b
  let bd := (Band.ofCode l.band).getD .u
  firstBad
    [(decide (l.els.length < 1 ∨ 8 < l.els.length) || !l.els.all (fun n => s.siteOf n == s.lampSite l), 12),
     (decide (l.per < 10 ∨ 3600 < l.per), 24), (decide (2 < l.band), 26), (decide (1 < l.width), 27), (decide (l.nblk < 16 ∨ 64 < l.nblk), 28),
     (decide (l.nsat < 1 ∨ 8 < l.nsat), 29), (decide (l.nmin < 1 ∨ l.nsat < l.nmin), 30), (!zeroAt b 31 1, 31),
     (decide (l.tthr < 100 ∨ 100000 < l.tthr), 32), (decide (l.hor < 10 ∨ 240 < l.hor), 36), (!zeroAt b 38 6, 38),
     (!l.els.all (fun n => s.inService n bd && (s.lane n).lver == 3 && (match (s.lane n).cap with | some c => bit c.flags 0 | none => false)), 12),
     (decide (s.sol.grade.code < Grade.nominal.code), 0), (decide ((s.lampSignals l).length < l.nsat), 29)]

/-- The first field of `DEV_POWER` at fault (18 R454). -/
def State.powerBad (s : State) (b : List Byte) : Option Nat :=
  let t := u8At b 0
  let mask := u16At b 4
  let first := firstBad
    [(decide (t < 1 ∨ 4 < t), 0), (!zeroAt b 1 3, 1),
     (decide (2 ≤ t) && (List.range 16).any (fun n => bit mask n && !(servedWakes t).contains n), 4),
     (t == 4 && !zeroAt b 6 1, 6), (decide (2 ≤ t) && decide (4 ≤ u8At b 7), 7)]
  match first with
  | some f => some f
  | none => if t = 3 then s.lampBad b else none

/-- `DEV_POWER` (18 R454): refused while an activity runs; entry starts at the first boundary after the reply. -/
def specDevPower : CmdSpec :=
  { opcode := 0x0103, role := roleInstaller, len := powerLen
    param := fun r s => s.powerBad r.pay
    changes := fun _ => true
    run := fun r s =>
      match s.fab.acts.head? with
      | some a => ({ status := stBusyMaint, activity := a.code, actId := a.actId, actStart := a.startMs }, s)
      | none =>
        let b := r.pay
        let t := u8At b 0
        let q := { s.pow with
          pending := some (targetOf t)
          wakemask := if 2 ≤ t then u16At b 4 else s.pow.wakemask
          evlev := if t = 2 ∨ t = 3 then u8At b 6 else s.pow.evlev
          bevlev := if 2 ≤ t then u8At b 7 else s.pow.bevlev
          keepPorts := if t = 2 ∨ t = 3 then u32At b 8 else s.pow.keepPorts
          lamp := if t = 3 then lampOf b else s.pow.lamp }
        ({ s with pow := q }).accept r t }

/-- `DEV_POWER`, served by its spec (12 R315). -/
def execCmdDevPower (p : Packet) (s : State) : Host.Outcome State Fault Refusal := s.command specDevPower p

/-! ### Entry -/

/-- Takes IDLE at a boundary (18 R453): channels end, holdover begins, the clocks of stopes, deputies, Overman and haulage gate. -/
def State.enterIdle (s : State) : State :=
  let t := s.endChannels.enterHoldover
  let gate (i : Nat) (x : IslandState) : IslandState := if i < 56 then { x with istate := .gated } else x
  { t with pow := { t.pow with pst := .idle, pending := none }
           clk := { t.clk with isl := Vector.ofFn (fun i => gate i.val t.clk.isl[i]) } }

/-- The power state accepted takes effect at a boundary, or its entry starts (18 R453, R454). -/
def State.powerBoundary (s : State) : State :=
  match s.pow.pending with
  | none => s
  | some .idle => s.enterIdle
  | some .run => { s with pow := { s.pow with pending := none } }
  | some t => { s with pow := { s.pow with pending := none, entry := some { target := t, e := s.clk.up } } }

/-- The islands of IDLE run again at the first boundary after it ended (18 exit table). -/
def State.ungate (s : State) : State :=
  { s with clk := { s.clk with isl := s.clk.isl.map (fun i => if i.istate = .gated then { i with istate := .running } else i) } }

/-- Closes every session after its last reply (18 entry table); the record's cause is that of a reset, the nearest one (log 7). -/
def State.closeSessions (s : State) : State := s.ses.open_.foldl (fun t x => t.closeSession 3 x.sid) s

/-- Writes the whole tally queue to flash. -/
def flushStep (s : State) : State := match execEvTallyFlashWrite s with | .next t => t | _ => s
def State.flushTally (s : State) : State := (List.range s.ten.tally.queue.length).foldl (fun t _ => flushStep t) s

/-- A front-end that supports standby (02 R36 `FLAGS`, R51). -/
def State.canStandBy (s : State) (n : Nat) : Bool :=
  (s.lane n).state == .live && (match (s.lane n).cap with | some c => bit c.flags 0 | none => false)

/-- Steps 1 and 2 of the entry (18 entry table); at the entry to LAMP every search and candidate ends (07 R172). -/
def State.entryStart (target : PowState) (s : State) : State :=
  let s0 := s.endChannels.enterHoldover
  let s1 := if target = .lamp then s0.mapAcq (fun a => { a with queue := [], jobs := [], cands := [] }) else s0
  let s2 := ({ s1 with por := { s1.por with streams := [] } }).closeSessions
  (List.range 96).foldl (fun t n =>
    if target = .backup then (if (t.lane n).state = .off then t else t.transmit n ⟨dtReset, 0⟩)
    else if t.canStandBy n then t.control n dtLamp 1 else t) s2

/-- Steps 2 to 5 of the entry, at E+40 ms: downlinks stopped, tally and, in BACKUP, tables in flash, ports gated off, PD_FAB retained and the
edge window open (18 entry table). -/
def State.entryEnd (e : PowEntry) (s0 : State) : State :=
  let s := s0.wait (e.e + 40 * epochTicks - s0.clk.up)
  let s1 := (List.range 96).foldl (fun t n =>
    if (t.lane n).state = .standby then t
    else ((if (t.lane n).state = .live then t.leaveBeams n else t).toDark n (t.lane n).cause).laneTo n .off) s
  let s2 := s1.flushTally
  let s3 := if e.target = .backup then
      s2.saveTable.mapAcq (fun a => { a with ephFlash := a.eph, almFlash := a.alm }) else s2
  let s4 := (List.range 32).foldl (fun t n =>
    if (t.port n).pstate = .off ∨ (e.target ≠ .backup ∧ bit t.pow.keepPorts n = true) then t else t.gateOff n .gated) s3
  { s4 with pow := { s4.pow with retained := true, entry := some { e with phase := 2, window := some s4.clk.up } } }

/-- `POWER_ENTRY` (18 R454, entry table): the entry's first steps at E, the rest at E+40 ms; nothing while no entry runs. -/
def execEvPowerEntry (s : State) : Host.Outcome State Fault Refusal :=
  .next (match s.pow.entry with
    | some e =>
      if e.phase = 0 then
        let t := s.entryStart e.target
        { t with pow := { t.pow with entry := some { e with phase := 1 } } }
      else if e.phase = 1 then s.entryEnd e
      else s
    | none => s)

/-- The LAMP prediction table (18 R459): for every cycle within the horizon and each signal chosen, the capture tick and what is predicted. -/
def State.lampTable (s : State) (e : Nat) : List LampPred :=
  let l := s.pow.lamp
  let sigs := (s.lampSignals l).take l.nsat
  ((List.range (60 * l.hor / l.per)).map (fun k =>
    let t := (e + 1000 * l.per * (k + 1)) * epochTicks
    sigs.map (fun x => let c := Config.predictCode x 0 t; { cycle := k + 1, sigid := x, tick := t, code := c.1, dopp := c.2 : LampPred }))).flatten

/-- The wakes that are due when the window closes: active levels and what came during the entry; the lowest code (18 R456–R458). -/
def State.windowWake (s : State) (e : PowEntry) (ev bev : Nat) : Option (Nat × Nat) :=
  let evs := (List.range 8).filter (fun n => bit s.pow.wakemask 2 && bit s.pow.evlev n && bit ev n)
  let bevs := (List.range 2).filter (fun n => bit s.pow.wakemask 4 && bit s.pow.bevlev n && bit bev n)
  let l := e.wake.toList ++ evs.map (fun n => (2, n)) ++ bevs.map (fun n => (4, n))
  l.foldl (fun (b : Option (Nat × Nat)) x => match b with | some y => if y.1 ≤ x.1 then some y else some x | none => some x) none

/-- `EDGE_WINDOW_CLOSE` (18 R457, entry step 6): 6 backup ticks after the window opened the power goes; level wakes are sampled, and a wake
that came during the entry takes effect. `ev` and `bev` are the inputs' active levels. -/
def execEvEdgeWindowClose (ev : BitVec 8) (bev : BitVec 2) (s : State) : Host.Outcome State Fault Refusal :=
  .next (match s.pow.entry with
    | some e =>
      match e.window with
      | none => s
      | some w =>
        let t := s.wait (w + 14986 - s.clk.up)
        let q := { t.pow with pst := e.target, entry := none, exit_ := none, lampK := 1 }
        let u := (({ t with pow := q, bak := { t.bak with pwrReq := decide (e.target ≠ PowState.backup) } }).islandsTo .off)
        let e0 := s.ms - (s.clk.up - e.e) / epochTicks
        let v := if e.target = .lamp
          then { u with pow := { u.pow with lampE := e0, preds := u.lampTable e0 } } else u
        match v.windowWake e ev.toNat bev.toNat with
        | some x => v.powerExit x.1 x.2
        | none => v
    | none => s)

/-! ### LAMP -/

/-- The median of a list of integers, the lower middle one of an even number (log 6). -/
def medianInt (l : List Int) : Int :=
  let off := l.foldl min (l.headD 0)
  off + (medianNat (l.map (fun x => (x - off).toNat)) : Nat)

/-- The tick at which cycle `lampK` captures (18 R459). -/
def State.lampTick (s : State) : Nat := (s.pow.lampE + 1000 * s.pow.lamp.per * s.pow.lampK) * epochTicks

/-- `L_LEAD` in ticks (18 R460): 8 ms and the largest `WARM`, in 0.1 ms, of the LAMP elements. -/
def State.lampLead (s : State) : Nat :=
  epochTicks * 8 + epochTicks / 10 * (s.pow.lamp.els.map (fun n => ((s.lane n).cap.map (·.warm)).getD 0)).foldl max 0

/-- The islands of a LAMP cycle (18 R460): the stope of LS0 and the haulage. -/
def State.lampIslands (st : IState) (s : State) : State :=
  let up (i : Nat) : Bool := i == vgetD s.fab.lsMap 0 0 || i == 55
  { s with clk := { s.clk with isl := Vector.ofFn (fun i => if up i.val then { s.clk.isl[i] with istate := st } else s.clk.isl[i]) } }

/-- The cycle begins (18 R460 steps 1 to 3): at `L_LEAD` the LAMP set is powered and the downlinks restored; 5 ms later the front-ends are woken; C7 is
armed to capture at the cycle's tick. -/
def State.lampBegin (s0 : State) : State :=
  let l := s0.pow.lamp
  let at_ := s0.lampTick
  let s := ((s0.wait (at_ - s0.lampLead - s0.clk.tick)).lampIslands .running).wait (5 * epochTicks)
  let t := l.els.foldl (fun t n => if (t.lane n).state = .standby then t.laneWakes n else t) s
  let c7 : Region := { cmode := 0, cwidth := l.width, bands := 2 ^ l.band, elems := l.emask, nblk := l.nblk, cstate := .armed, trigAt := some at_, owner := 0 }
  let u := t.mapRegion 7 (fun r => { c7 with base := r.base })
  { u with pow := { u.pow with lampBusy := true } }

/-- The detection of a predicted signal in C7 (18 R460 step 4): each element by itself, powers added, code bins about the prediction, 3 Doppler bins. -/
def State.lampFind (s : State) (x : LampPred) : Option Detection :=
  let l := s.pow.lamp
  match typeOf x.sigid with
  | none => none
  | some t =>
    let b := (Band.ofCode l.band).getD .u
    let w := t.windowBins (ceilDiv (2 * l.tthr * t.dumpLen * 256) 1000000 + 512)
    let period := 256 * t.chips
    let g : SearchGrid :=
      { codes := (List.range (2 * w + 1)).map (fun (i : Nat) => (((x.code : Int) + ((i : Int) - w) * t.spacing) % (period : Int)).toNat)
        dopps := [x.dopp - 500000, x.dopp, x.dopp + 500000], round := false, spacing := t.spacing, period := period }
    let r := s.region 7
    let inputs := l.els.map (fun n => (List.range (l.nblk / 16)).map (fun m => (msTicks r.oldest.1 m).map (fun t => (s.snapSample r n b t).getD (0, 0))))
    let n := l.nblk / 16 * l.els.length
    let pw := g.powers s.trk.library x.sigid 0 t inputs
    let th := thresholdOf n s.trk.acq.params.pfa
    ((g.peaks (g.beyond n th pw)).map (g.detection n th pw x.sigid 0 { site := s.lampSite l } r.oldest.1)).head?

/-- e_j of a detected signal in 0.1 ns (18 R460 step 5): the predicted phase less the measured one, over the chip rate. -/
def lampError (x : LampPred) (d : Detection) : Option Int :=
  (typeOf x.sigid).map (fun t =>
    let p : Int := (256 * t.chips : Nat)
    let diff := ((x.code : Int) - d.code) % p
    quotI ((if 2 * diff < p then diff else diff - p) * 10 ^ 7) (256 * t.dumpLen))

/-- The errors of the cycle's signals. -/
def State.lampErrors (s : State) : List Int :=
  (s.pow.preds.filter (fun x => x.cycle == s.pow.lampK)).filterMap (fun x => (s.lampFind x).bind (lampError x))

/-- The capture is searched (18 R460 steps 4 to 6, R461): the cycle's record, and standby for the front-ends, or a full wake when a check fails. -/
def State.lampCheck (s0 : State) : State :=
  let l := s0.pow.lamp
  let at_ := s0.lampTick
  let s := s0.wait (at_ + 204600 - s0.clk.tick)
  let errors := s.lampErrors
  let f := s.takeInt
  let e := if errors.isEmpty then f.1 else medianInt errors
  let u := if errors.isEmpty then f.2 else s
  let more := u.pow.preds.any (fun x => x.cycle == u.pow.lampK + 1)
  let res := if !errors.isEmpty && decide (10 * l.tthr < e.natAbs) then 1
    else if errors.length < l.nmin then 2 else if !more then 3 else 0
  let rec_ : LampRec := { ltick := at_ % 2 ^ 48, lerr := quotI e 10, lndet := errors.length, lres := res }
  let all := u.pow.lampRecs ++ [rec_]
  let v := { u with pow := { u.pow with lampRecs := all.drop (all.length - 64), lampK := u.pow.lampK + 1 } }
  if res = 0 then
    let w := l.els.foldl (fun t n => if (t.lane n).state = .live then t.control n dtLamp 1 else t) v
    { w with pow := { w.pow with lampSleepAt := some (at_ + 368280) } }
  else v.powerExit 5 res

/-- The set sleeps again (18 R460 step 6): lanes that do not stand by are powered down, and the power goes. -/
def State.lampSleep (at_ : Nat) (s0 : State) : State :=
  let s := s0.wait (at_ - s0.clk.tick)
  let t := s.pow.lamp.els.foldl (fun t n => if (t.lane n).state = .standby then t else (t.toDark n (t.lane n).cause).laneTo n .off) s
  let u := t.lampIslands .off
  { u with pow := { u.pow with lampBusy := false, lampSleepAt := none } }

/-- `LAMP_CYCLE` (18 R460, R461): the next phase of the cycle: its beginning, the search once C7 is held, the return to sleep. Nothing is due outside
LAMP, nor while C7 fills. -/
def execEvLampCycle (_ : NoInput) (s : State) : Host.Outcome State Fault Refusal :=
  .next (
    if s.pow.pst ≠ .lamp ∨ s.pow.exit_.isSome then s
    else if !s.pow.lampBusy then s.lampBegin
    else
      match s.pow.lampSleepAt with
      | some t => s.lampSleep t
      | none => if (s.region 7).cstate = .held then s.lampCheck else s)

end Sys2Proof.Machine
end

