-- ==== Sys2Proof/Machine/Backup.lean ====
section
/-! DEFINITION. The backup domain (19): its events and the commands of group 0x0B. -/

namespace Sys2Proof.Machine

/-- Crystal edges in ticks: so many that `n` edges fall within (19 R465; log 8). -/
def edgesWait (n : Nat) : Nat := n * 2498

/-! ### Events -/

/-- `BACKUP_POWER_ON` (19 R464): every register of the domain takes its reset value; backup RAM, and with it the head and the time
record, is undefined, and the remap list of the spare rows is lost (22 R523). -/
def execEvBackupPowerOn (s : State) : Host.Outcome State Fault Refusal :=
  let f := s.takeBytes 4096
  let back (i : Nat) (w : WearEntry) : WearEntry :=
    if 187 ≤ i then { w with srows := w.srows + (s.hea.remap.filter (fun x => x.1 == i)).length } else w
  .next { f.2 with
    hea := { f.2.hea with remap := [], wear := Vector.ofFn (fun i => back i.val f.2.hea.wear[i]) }
    bak :=
      { ({} : BackupState) with
        bram := swrites 0 [] 0 f.1, wkpAddr := s.bak.wkpAddr, curveStore := s.bak.curveStore, onVbat := s.bak.onVbat, lost := true
        aTick := u64At f.1 0x30, aUnc := u32At f.1 0x38, leap := i8At f.1 0x3E, leapAnn := i8At f.1 0x3F }
    ten := { f.2.ten with tally := { s.ten.tally with head := { s.ten.tally.head with crcOk := false } } } }

/-- `BACKUP_SUPPLY_SWITCH` (19 R463): no tick is lost and no register changes but `ON_VBAT`. -/
def execEvBackupSupplySwitch (onVbat : Bool) (s : State) : Host.Outcome State Fault Refusal :=
  .next { s with bak := { s.bak with onVbat := onVbat } }

/-- Correction between the points of a curve (19 R472), without its offset; end points hold outside. -/
def curveAt (t : Int) : List (Int × Int) → Int
  | [] => 0
  | [p] => p.2
  | p :: q :: r => if t < p.1 then p.2 else if t < q.1 then p.2 + roundDiv ((q.2 - p.2) * (t - p.1)) (q.1 - p.1).toNat else curveAt t (q :: r)

/-- r of a temperature (19 R472), within its range (R471). -/
def BackupState.rAt (b : BackupState) (t : Int) : Int := clampI (-(2 ^ 23)) (2 ^ 23) (curveAt t b.curve + b.trimOff)

/-- The sensor's sample (19 R471): each second while VDD_IO is valid, every 16 s on VBAT; a learning window keeps its samples. -/
def BackupState.sample (temp : Int) (b : BackupState) : BackupState :=
  if b.tempTicks < (if b.onVbat then 16 else 1) * 32768 then b
  else { b with temp := temp, tempTicks := 0, learn := b.learn.map (fun w => { w with temps := temp :: w.temps }) }

/-- `TRIM_UPDATE` (19 R471): the sensor's sample where one is due, and, once 32 768 crystal ticks have passed since the last, the trim step. -/
def execEvTrimUpdate (temp : Int) (s : State) : Host.Outcome State Fault Refusal :=
  let b := s.bak.sample temp
  .next (
    if b.trimTicks < 32768 then { s with bak := b }
    else if !b.trimEn then { s with bak := { b with trimTicks := b.trimTicks - 32768, aligning := false } }
    else
      let r := b.rAt b.temp
      let f := (b.frac : Int) + r + b.padj
      { s with bak := { b with
        trimTicks := b.trimTicks - 32768, trim := r, padj := 0, aligning := false, learn := b.learn.map (fun w => { w with adj := w.adj + b.padj })
        frac := (f % 2 ^ 20).toNat, payout := b.payout + f / 2 ^ 20 } })

/-- `HALT_TIMEOUT` (19 R468): at 65 535 held ticks the hardware releases the halt with the old count plus the held ticks. -/
def execEvHaltTimeout (s : State) : Host.Outcome State Fault Refusal :=
  .next (if s.bak.halted ∧ 65535 ≤ s.bak.hcnt then
      { s with bak := { s.bak with
        halted := false, tickHalt := false, tickErr := true, count := (s.bak.count + s.bak.hcnt) % 2 ^ 48 } }
    else s)

/-- The multiple of the periodic wake's period that the count has reached (19 R474). -/
def BackupState.period (b : BackupState) : Nat := b.count / 2 ^ (b.pwE + 7)

/-- `PERIODIC_WAKE` (19 R474): when the count has reached or passed a multiple, `PW_FLAG` in RUN, a wake in the other states. -/
def execEvPeriodicWake (s : State) : Host.Outcome State Fault Refusal :=
  .next (
    if !s.bak.pwEn ∨ s.bak.period = s.bak.pwLast then s
    else
      let t := { s with bak := { s.bak with pwLast := s.bak.period, pwFlag := s.bak.pwFlag || s.pow.pst == PowState.run } }
      t.wake 3 0)

/-- `BEV_EDGE` (19 R475): an edge whose level has held for two samples; the first sample is now. -/
def execEvBevEdge (n : Fin 2) (rising : Bool) (s : State) : Host.Outcome State Fault Refusal :=
  let x := s.bak.bev[n]
  .next (
    if x.level = rising then s
    else
      let sel := bit (s.bak.bevCfg / 4 ^ n.val) (if rising then 0 else 1)
      let e : BevEntry := { ts := if s.bak.halted then (s.bak.count + s.bak.hcnt) % 2 ^ 48 else s.bak.count, rising := rising, hstamp := s.bak.halted }
      let y := { x with level := rising }
      let z := if !sel then y else if 4 ≤ y.fifo.length then { y with merge := satAdd 4095 y.merge 1 } else { y with fifo := y.fifo ++ [e] }
      let t := { s with bak := { s.bak with bev := vupd s.bak.bev n (fun _ => z) } }
      if sel && (rising || !s.levelWake 4 n) then t.wake 4 n else t)

/-- The count that device time gives at a tick, in 2^-20 tick (19 R467). -/
def countOf (tick : Nat) : Int := quotI (tick * 32768 * 2 ^ 20 : Nat) 81840000

/-- The count that device time gives now, in 2^-20 tick (19 R467). -/
def State.wantedCount (s : State) : Int := countOf s.clk.tick

/-- Device time at `BK_CAPT`, the last backup tick edge, less the count there, in 2^-20 tick (19 R467). -/
def State.countErr (s : State) : Int :=
  countOf (s.clk.tick - (s.tcnt + 2 ^ 48 - s.bak.capt) % 2 ^ 48) - ((s.bak.count * 2 ^ 20 + s.bak.frac : Nat) : Int)

/-- Sets the count through a halt and its release (19 R468): `want` answers the count at the moment it is asked. -/
def State.setCount (want : State → Nat) (s : State) : State :=
  let s1 := ({ s with bak := s.bak.setHalt true }).wait (edgesWait 3)
  let s2 := { s1 with bak := ({ s1.bak with bkNew := (want s1 + 2 ^ 48 - s1.bak.hcnt % 2 ^ 48) % 2 ^ 48 }).setHalt false }
  let s3 := s2.wait (edgesWait 2)
  { s3 with bak := { s3.bak with tvalid := true, learn := none } }

/-- Notes an anchor: the count and its uncertainty in ns (19 R467, R469, R473). -/
def State.anchor (unc : Nat) (s : State) : State := { s with bak := { s.bak with aTick := s.bak.count, aUnc := unc } }

/-- `COUNTER_ALIGN` (19 R467): once every 16 s at grade `NOMINAL` or better the Overman compares the count with device time; up to 8 ticks go
into `BK_PADJ`, more is set through a halt. -/
def execEvCounterAlign (s : State) : Host.Outcome State Fault Refusal :=
  .next (
    if s.sol.grade.code < Grade.nominal.code ∨ s.upMs < s.bak.alignMs + 16000 ∨ !s.awake then s
    else
      let res := s.countErr
      let r := s.sol.rec_
      let t :=
        if s.bak.tvalid ∧ -(2 ^ 23) ≤ res ∧ res < 2 ^ 23 then { s with bak := { s.bak with padj := res, aligning := true } }
        else s.setCount (fun x => (x.wantedCount / 2 ^ 20).toNat % 2 ^ 48)
      let u := t.anchor (ceilDiv r.terrSig 1000)
      { u with bak := { u.bak with
        alignMs := s.upMs, leap := if r.utcValid then r.leap else u.bak.leap, leapAnn := if r.utcValid then r.leapAnn else u.bak.leapAnn } })

/-- Distance of two temperatures. -/
def tempGap (a b : Int) : Nat := (a - b).natAbs

/-- The curve point nearest a temperature, the lower one on ties. -/
def nearestPoint (t : Int) (curve : List (Int × Int)) : Nat :=
  (List.range curve.length).foldl (fun b i =>
    if tempGap (curve.getD i (0, 0)).1 t < tempGap (curve.getD b (0, 0)).1 t then i else b) 0

/-- `TRIM_UNC` in 0.01 ppm from residuals in 2^-20 tick per second: the larger of 0.5 ppm and three times their RMS (19 R473, log 6). -/
def learnedUnc (res : List Int) : Nat :=
  let sq := (res.map (fun r => (r * r).toNat)).foldl (· + ·) 0
  let x := 9 * 10 ^ 16 * sq / (max 1 res.length * 2 ^ 70)
  let r := isqrt x
  max 50 (if r * r = x ∨ !Config.roundUp sq res.length then r else r + 1)

/-- A window's residual in 2^-20 tick per second (19 R473): the change of the counter's error and what `BK_PADJ` has taken out of it, over its
seconds. -/
def LearnWin.residual (err : Int) (now : Nat) (w : LearnWin) : Int := quotI (1000 * (err - w.err + w.adj)) (now - w.from_ : Nat)

/-- A residual of a window at a mean temperature (19 R473): the nearest point's c moves by half of it, and the 32 latest are kept. -/
def BackupState.learned (temp residual : Int) (b : BackupState) : BackupState :=
  let i := nearestPoint temp b.curve
  let p := b.curve.getD i (0, 0)
  let curve := b.curve.set i (p.1, p.2 + quotI residual 2)
  let updates := b.updates.set i (b.updates.getD i 0 + 1)
  let res := (residual :: b.residuals).take 32
  let visited := if b.visited.contains temp then b.visited else temp :: b.visited
  let done := (List.range 8).all (fun k =>
    !(visited.any (fun v => decide (tempGap v (curve.getD k (0, 0)).1 ≤ 40))) || decide (8 ≤ updates.getD k 0))
  { b with
    curve := curve, updates := updates, residuals := res, visited := visited, trimUnc := if done then learnedUnc res else 2000 }

/-- `TRIM_LEARN` (19 R473): a window of 1 000 s at grade `NOMINAL` or better and outside holdover ends, and the next begins; one in which the
sensor's samples span at most 1 °C is used. -/
def execEvTrimLearn (_ _ _ : NoInput) (s : State) : Host.Outcome State Fault Refusal :=
  let next (b : BackupState) : State := { s with bak := { b with learn := some { from_ := s.upMs, err := s.countErr } } }
  .next (
    if s.sol.grade.code < Grade.nominal.code ∨ s.sol.holdover ∨ !s.bak.tvalid then { s with bak := { s.bak with learn := none } }
    else
      match s.bak.learn with
      | none => next s.bak
      | some w =>
        if s.upMs < w.from_ + 1000000 then s
        else
          match w.temps with
          | [] => next s.bak
          | t :: ts =>
            let lo := ts.foldl (fun (a : Int) x => min a x) t
            let hi := ts.foldl (fun (a : Int) x => max a x) t
            if 4 < hi - lo then next s.bak
            else next (s.bak.learned (quotI ((t :: ts).foldl (· + ·) 0) ((t :: ts).length : Nat)) (w.residual s.countErr s.upMs)))

/-- `VBAT_MEASURE` (19 R477): once per minute in 10 mV steps, while VDD_IO is valid; below 1 800 mV a report at most once an hour. -/
def execEvVbatMeasure (mv : Nat) (s : State) : Host.Outcome State Fault Refusal :=
  .next (
    if s.bak.onVbat ∨ s.bak.vbatAt.any (fun m => decide (s.upMs < m + 60000)) then s
    else
      let v := mv / 10 * 10
      let t := { s with bak := { s.bak with vbat := v, vbatAt := some s.upMs } }
      let told := match s.bak.vbatTold with | some m => decide (s.upMs < m + 3600000) | none => false
      if v < 1800 ∧ !told then
        ({ t with bak := { t.bak with vbatTold := some s.upMs } }).reportNow 0x2008 1 0xFF (b16 v ++ bz 2)
      else t)

/-! ### Commands -/

/-- A LAMP cycle record (18), 16 bytes. -/
def LampRec.bytes (r : LampRec) : List Byte := b64 r.ltick ++ bi32 r.lerr ++ b8 r.lndet ++ b8 r.lres ++ bz 2

/-- `TIME_STATUS` (19 R479). -/
def specTimeStatus : CmdSpec :=
  statusSpec 0x0B00 (fun _ s =>
    let b := s.bak
    Config.encodeFields 0x0B00 [b.count, b.frac, bbool b.tvalid, s.countUnc, b.local_, b.leap, b.trim, b.temp, b.vbat, bbool b.onVbat,
      bbool b.pwEn + 2 * b.pwE, b.lastWake, b.wkLost] ++ (s.pow.lampRecs.map LampRec.bytes).flatten)

/-- `TIME_STATUS`, served by its spec (12 R315). -/
def execCmdTimeStatus (p : Packet) (s : State) : Host.Outcome State Fault Refusal := s.command specTimeStatus p

/-- `TICK_SET` (19 R469): `TCOUNT` is the count at receipt; the ticks since then are added. -/
def specTickSet : CmdSpec :=
  { opcode := 0x0B01, role := roleInstaller, len := lenIs 16
    param := fun r _ => firstBad [(decide (2 ^ 48 ≤ u64At r.pay 0), 0), (!zeroAt r.pay 12 4, 12)]
    changes := fun _ => true
    run := fun r s =>
      if s.bak.aligning then (.fail stBusy, s)
      else
        let e0 := crystalEdges s.clk.up
        (.ok [], (s.setCount (fun x => (u64At r.pay 0 + (crystalEdges x.clk.up - e0)) % 2 ^ 48)).anchor (u32At r.pay 8)) }

/-- `TICK_SET`, served by its spec (12 R315). -/
def execCmdTickSet (p : Packet) (s : State) : Host.Outcome State Fault Refusal := s.command specTickSet p

/-- The local offset after `TICK_DST` (19 R470). -/
def dstAfter (dir : Nat) (o : Int) : Int := if dir = 1 then o + hourTicks else o - hourTicks

/-- `TICK_DST` (19 R470). -/
def specTickDst : CmdSpec :=
  { opcode := 0x0B02, role := roleInstaller, len := lenIs 4
    param := fun r s => firstBad
      [(decide (u8At r.pay 0 ≠ 1 ∧ u8At r.pay 0 ≠ 2), 0), (!zeroAt r.pay 1 3, 1),
       (decide (2123366400 < (dstAfter (u8At r.pay 0) s.bak.local_).natAbs), 0)]
    changes := fun _ => true
    run := fun r s => (.ok [], { s with bak := { s.bak with local_ := dstAfter (u8At r.pay 0) s.bak.local_ } }) }

/-- `TICK_DST`, served by its spec (12 R315). -/
def execCmdTickDst (p : Packet) (s : State) : Host.Outcome State Fault Refusal := s.command specTickDst p

/-- `WAKE_SET` (19 R474). -/
def specWakeSet : CmdSpec :=
  { opcode := 0x0B03, role := roleInstaller, len := lenIs 4
    param := fun r _ => firstBad [(decide (1 < u8At r.pay 0), 0), (decide (24 < u8At r.pay 1), 1), (!zeroAt r.pay 2 2, 2)]
    changes := fun _ => true
    run := fun r s =>
      (.ok [], { s with bak := s.bak.write 0x8E (BitVec.ofNat 24 (u8At r.pay 0 + 2 * u8At r.pay 1)) }) }

/-- `WAKE_SET`, served by its spec (12 R315). -/
def execCmdWakeSet (p : Packet) (s : State) : Host.Outcome State Fault Refusal := s.command specWakeSet p

/-- The tally head's area of backup RAM (19 R476). -/
def TallyHead.bytes (h : TallyHead) : List Byte :=
  let b := b32 h.seq ++ bpad 32 h.hash ++ b32 h.off ++ b32 h.exp
  b ++ b32 (if h.crcOk then crc32 b else crc32 b + 1)

/-- The time record and the trim curve of backup RAM (19 R476). -/
def BackupState.records (b : BackupState) : List Byte :=
  let t := b64 b.aTick ++ b32 b.aUnc ++ b16 b.trimUnc ++ leBytes 1 (bitsOf 8 b.leap) ++ leBytes 1 (bitsOf 8 b.leapAnn) ++ bz 12
  t ++ b32 (crc32 t) ++ (b.curve.map (fun p => bi16 p.1 ++ bz 2 ++ bi32 p.2)).flatten

/-- The bytes of backup RAM that an `OBJ` names; the firmware area belongs to none (19 R476). -/
def State.bramArea (s : State) (obj : Nat) : List Byte :=
  if obj = 0 then s.ten.tally.head.bytes ++ s.bak.records
  else if obj = 1 then sreads 0 s.bak.bram 0x400 1024
  else sreads 0 s.bak.bram (0x800 + 256 * (obj - 0x10)) 256

/-- Size of an `OBJ`; 0 for one that names nothing. -/
def bramSize (obj : Nat) : Nat := if obj = 0 then 144 else if obj = 1 then 1024 else if 0x10 ≤ obj ∧ obj < 0x18 then 256 else 0

/-- An operator names its own tenant's area (19 R476). -/
def bramOwn (r : Req) (_ : State) : Bool := r.role != 1 || r.obj == 0x10 + r.x.tenant

/-- `BRAM_READ` (19 R476): `OBJ` 0 is also the maker's. -/
def specBramRead : CmdSpec :=
  { opcode := 0x0B04, role := fun r _ => r.role == 1 || r.role == 2 || (r.role == 3 && r.obj == 0), tenant := bramOwn
    len := lenIs 8, idle := true
    param := fun r _ => firstSome [must (bramSize r.obj != 0) 0, rangeBad (bramSize r.obj) r]
    run := fun r s => (.ok (((s.bramArea r.obj).drop r.roff).take r.rlen), s) }

/-- `BRAM_READ`, served by its spec (12 R315). -/
def execCmdBramRead (p : Packet) (s : State) : Host.Outcome State Fault Refusal := s.command specBramRead p

/-- `BRAM_WRITE` (19 R476). -/
def specBramWrite : CmdSpec :=
  { opcode := 0x0B05, role := roleInstOp, tenant := bramOwn, len := lenWrite
    param := fun r _ => firstSome [must (r.obj != 0 && bramSize r.obj != 0) 0, rangeBad (bramSize r.obj) r]
    changes := fun _ => true
    run := fun r s =>
      let base := if r.obj = 1 then 0x400 else 0x800 + 256 * (r.obj - 0x10)
      (.ok [], { s with bak := { s.bak with bram := swrites 0 s.bak.bram (base + r.roff) r.rbytes } }) }

/-- `BRAM_WRITE`, served by its spec (12 R315). -/
def execCmdBramWrite (p : Packet) (s : State) : Host.Outcome State Fault Refusal := s.command specBramWrite p

/-- `CHARGER_SET` (19 R477). -/
def specChargerSet : CmdSpec :=
  { opcode := 0x8B00, role := roleInstaller, len := lenIs 4
    param := fun r _ =>
      let v := u8At r.pay 0
      firstBad [(decide (32 ≤ v ∨ v / 2 % 4 = 0 ∨ v / 8 % 4 = 0), 0), (!zeroAt r.pay 1 3, 1)]
    changes := fun _ => true
    run := fun r s => (.ok [], { s with bak := { s.bak with chg := u8At r.pay 0 } }) }

/-- `CHARGER_SET`, served by its spec (12 R315). -/
def execCmdChargerSet (p : Packet) (s : State) : Host.Outcome State Fault Refusal := s.command specChargerSet p

/-- The points of a `TRIM_CURVE` request. -/
def curveOf (b : List Byte) : List (Int × Int) := (List.range 8).map (fun i => (i16At b (4 + 8 * i), i32At b (8 + 8 * i)))

/-- `TRIM_CURVE` (19 R472, R479): the curve and its offset, copied to `STORE`; the learning of R473 starts over. -/
def specTrimCurve : CmdSpec :=
  { opcode := 0x8B01, role := roleInstaller, len := lenIs 72
    param := fun r _ =>
      let c := curveOf r.pay
      let off := i32At r.pay 68
      firstSome
        [must (u8At r.pay 0 == 8) 0, must (zeroAt r.pay 1 3) 1,
         ((List.range 8).find? (fun i => !zeroAt r.pay (6 + 8 * i) 2)).map (fun i => 6 + 8 * i),
         ((List.range 7).find? (fun i => decide ((c.getD (i + 1) (0, 0)).1 ≤ (c.getD i (0, 0)).1))).map (fun i => 12 + 8 * i),
         ((List.range 8).find? (fun i => decide (2 ^ 23 < ((c.getD i (0, 0)).2 + off).natAbs))).map (fun i => 8 + 8 * i)]
    changes := fun _ => true
    run := fun r s =>
      let c := curveOf r.pay
      let off := i32At r.pay 68
      (.ok [], { s with bak := { s.bak with
        curve := c, trimOff := off, curveStore := some (c, off), updates := List.replicate 8 0, residuals := [], visited := [], learn := none
        trimUnc := 2000 } }) }

/-- `TRIM_CURVE`, served by its spec (12 R315). -/
def execCmdTrimCurve (p : Packet) (s : State) : Host.Outcome State Fault Refusal := s.command specTrimCurve p

end Sys2Proof.Machine
end

