-- ==== Sys2Proof/Machine/Plans.lean ====
section
/-! DEFINITION. The plan commands (08 R202–R211, 12 R322) and the row `PLAN_VERIFY_RESULT` (08 R199). -/

namespace Sys2Proof.Machine

/-- Bytes of a plan slot (08 R202). -/
def slotBytes : Nat := 262144

/-- A plan slot; an empty one for a number that names none. -/
def State.slot (s : State) (k : Nat) : PlanSlotSt := vgetD s.fab.slots k {}

/-- Changes a plan slot. -/
def State.mapSlot (k : Nat) (f : PlanSlotSt → PlanSlotSt) (s : State) : State := { s with fab := { s.fab with slots := vupdN s.fab.slots k f } }

/-- The image that a memory holds: `PLEN` bytes, as many as a slot has (08 R190). -/
def imageOf (m : Mem) : List Byte := sreads 0 m 0 (min slotBytes (u32At (sreads 0 m 8 4) 0))

/-- The designation lapses when slot 2 holds no plan that replaces the active one (08 R210). -/
def State.lapse (s : State) : State :=
  match s.fab.active, (s.slot 2).plan with
  | some a, some d => if (s.slot 2).verified && d.derateOf == a.planId then s else { s with fab := { s.fab with derated := false } }
  | _, _ => { s with fab := { s.fab with derated := false } }

/-- A swap from a slot is pending (08 R202). -/
def State.swapFrom (s : State) (k : Nat) : Bool := (s.fab.swap.map (·.slot)) == some k

/-- `PLAN_LOAD` (08 R202): a write at offset 0 clears the slot's verified state. -/
def specPlanLoad : CmdSpec :=
  { opcode := 0x0801, role := roleInstaller, len := lenWrite
    param := fun r _ => firstSome [must (r.obj == 1 || r.obj == 2) 0, rangeBad slotBytes r]
    changes := fun _ => true
    run := fun r s =>
      if s.swapFrom r.obj then (.fail stBusy, s)
      else
        let img := swrites 0 (s.slot r.obj).image r.roff r.rbytes
        let ver := (s.slot r.obj).verified && r.roff != 0
        let t := s.mapSlot r.obj (fun _ => { image := img, verified := ver, plan := if ver then some (planOf (imageOf img)) else none })
        (.ok [], t.lapse) }

/-- `PLAN_LOAD`, served by its spec (12 R315). -/
def execCmdPlanLoad (p : Packet) (s : State) : Host.Outcome State Fault Refusal := s.command specPlanLoad p

/-- `PLAN_VERIFY` (08 R199, 12 R313): the checks run and `PLAN_VERIFY_RESULT` answers. -/
def specPlanVerify : CmdSpec :=
  { opcode := 0x0802, role := roleInstaller, len := lenIs 4
    param := fun r _ => firstBad [(decide (2 < r.index), 0), (r.arg != 0, 2)]
    run := fun r s =>
      if s.boo.planVerify.isSome || !s.tallyRoom then (.fail stBusy, s)
      else ({ status := stOk, interim := true }, { s with boo := { s.boo with planVerify := some (r.x.sid, r.p.seq, r.index) } }) }

/-- `PLAN_VERIFY`, served by its spec (12 R315). -/
def execCmdPlanVerify (p : Packet) (s : State) : Host.Outcome State Fault Refusal := s.command specPlanVerify p

/-- The status of a failed check of R199. -/
def checkStatus (pchk : Nat) : Nat :=
  if pchk = 2 then stBadVersion else if pchk = 3 then stSignatureFail else if 7 ≤ pchk then stCertFail else stPlanRejected

/-- A plan slot becomes verified; the active plan stays the one that runs (08 R199). -/
def State.verifySlot (k : Nat) (s : State) : State :=
  s.mapSlot k (fun x => { x with verified := true, plan := some (planOf (imageOf x.image)) })

/-- `PLAN_VERIFY_RESULT` (08 R199): the slot's checks, the record of a pass (13 R340) and the final reply; nothing while no check runs. -/
def execEvPlanVerifyResult (s : State) : Host.Outcome State Fault Refusal :=
  .next (match s.boo.planVerify with
    | none => s
    | some (sid, seq, k) =>
      let t := { s with boo := { s.boo with planVerify := none } }
      match s.planChecks (imageOf (s.slot k).image) with
      | some (c, i) => t.finalReply 0x0802 sid seq { status := checkStatus c, detail := c, item := i }
      | none =>
        let pay := b16 k ++ b16 0
        let u := (t.verifySlot k).tally 0x0200 2 0xFF sid (b16 0x0802 ++ b16 stOk ++ b32 seq ++ b64 0 ++ b16 4 ++ bz 6 ++ sha256 pay)
        u.finalReply 0x0802 sid seq (.ok []))

/-- Notes a change accepted for a boundary of its own (12 R316, R317). -/
def State.noteAccepted (r : Req) (commit unit : Nat) (s : State) : State :=
  { s with ses := { s.ses with accepted := s.ses.accepted ++
      [{ sid := r.x.sid, seq := r.p.seq, opcode := r.opcode, commit := commit, tenant := r.x.tenant, unit := unit }] } }

/-- Where the kernels bound exceed what a plan gives: the first logical deputy (08 R208, 13 R338). -/
def State.kernelOver (p : Plan) (s : State) : Option Nat :=
  (List.range 16).find? (fun ld => decide (p.dbudget ld < s.kernelCharge p ld none) ||
    (List.range 8).any (fun t => decide ((vgetD s.ten.t t {}).klim.kShare * p.dbudget ld / 100 < s.kernelCharge p ld (some t))))

/-- `PLAN_ACTIVATE` (08 R203, R208, R209; 12 R322; 21 R514). -/
def specPlanActivate : CmdSpec :=
  { opcode := 0x0803, role := roleInstaller, len := lenIs 12
    param := fun r s => firstBad
      [(!((u8At r.pay 0 == 1 || u8At r.pay 0 == 2) && (s.slot (u8At r.pay 0)).verified), 0), (!zeroAt r.pay 1 3, 1),
       (decide (s.ms + 3600000 < u64At r.pay 4), 4)]
    changes := fun _ => true
    run := fun r s =>
      let k := u8At r.pay 0
      let at_ := u64At r.pay 4
      let a := s.request r { code := 3, arg := k, arg2 := 0, at_ := at_, sid := r.x.sid, seq := r.p.seq, opcode := r.opcode }
        (fun s => .accepted (max (s.nextBoundary + 1) at_))
        (fun s =>
          match (s.slot k).plan with
          | none => .fail stNoCapacity
          | some q =>
            match s.kernelOver q, s.overload (some q) s.quotaOf s.loads with
            | some ld, _ => { status := stNoCapacity, item := ld }
            | none, some port => { status := stNoCapacity, item := port }
            | none, none => .fail stNoCapacity)
      if s.fab.swap.isNone && a.2.fab.swap.isSome then (a.1, a.2.noteAccepted r a.1.commit k) else a }

/-- `PLAN_ACTIVATE`, served by its spec (12 R315). -/
def execCmdPlanActivate (p : Packet) (s : State) : Host.Outcome State Fault Refusal := s.command specPlanActivate p

/-- `PLAN_DISCARD` (08 R209). -/
def specPlanDiscard : CmdSpec :=
  { opcode := 0x0804, role := roleInstaller, len := lenIs 4
    param := fun r _ => firstBad [(r.index != 1 && r.index != 2, 0), (r.arg != 0, 2)]
    changes := fun _ => true
    run := fun r s =>
      if s.swapFrom r.index then
        match s.fab.swap.map (·.phase), s.fab.acts.find? (fun a => a.code == 3) with
        | some 0, some a =>
          let t := s.abortAct a
          (.ok [], ({ t with ses := { t.ses with accepted := t.ses.accepted.filter (fun x => x.opcode != 0x0803) } }).walkQueue)
        | _, _ => (.fail stBusy, s)
      else (.ok [], (s.mapSlot r.index (fun _ => {})).lapse) }

/-- `PLAN_DISCARD`, served by its spec (12 R315). -/
def execCmdPlanDiscard (p : Packet) (s : State) : Host.Outcome State Fault Refusal := s.command specPlanDiscard p

/-- The byte range asked for lies in the `CERT` section of a slot's image (08 R211). -/
def State.inCert (r : Req) (s : State) : Bool :=
  let b := imageOf (s.slot r.obj).image
  match (directory 128 b 8).find? (fun d => d.typ == 7) with
  | some d => decide (d.off ≤ r.roff ∧ r.roff + r.rlen ≤ d.off + d.len)
  | none => false

/-- `PLAN_READ` (08 R211): operators read the certificate only. -/
def specPlanRead : CmdSpec :=
  { opcode := 0x0805
    role := fun r s => r.role == 2 || r.role == 3 || (r.role == 1 && s.inCert r)
    len := lenIs 8
    idle := true
    param := fun r _ => firstSome [must (decide (r.obj ≤ 2)) 0, rangeBad slotBytes r]
    run := fun r s => (.ok (sreads 0 (s.slot r.obj).image r.roff r.rlen), s) }

/-- `PLAN_READ`, served by its spec (12 R315). -/
def execCmdPlanRead (p : Packet) (s : State) : Host.Outcome State Fault Refusal := s.command specPlanRead p

/-- `PLAN_DERATED` (08 R210, 14 R361). -/
def specPlanDerated : CmdSpec :=
  { opcode := 0x8800, role := roleInstaller, len := lenIs 4
    param := fun r s => firstBad
      [(r.index != 2, 0), (decide (1 < r.arg), 2),
       (r.arg == 1 && !((s.slot 2).verified && (match (s.slot 2).plan, s.fab.active with
         | some d, some a => d.derated && d.derateOf == a.planId
         | _, _ => false)), 2)]
    changes := fun _ => true
    run := fun r s =>
      (.ok [], { s with
        fab := { s.fab with derated := r.arg == 1 }
        boo := { s.boo with plansFlash := vupdN s.boo.plansFlash 1 (fun _ => if r.arg = 1 then (s.slot 2).image else []) } }) }

/-- `PLAN_DERATED`, served by its spec (12 R315). -/
def execCmdPlanDerated (p : Packet) (s : State) : Host.Outcome State Fault Refusal := s.command specPlanDerated p

/-- The clocks of a `PLAN_MODEL` request: logical stope and MHz. -/
def Req.clocks (r : Req) : List (Nat × Nat) := (List.range (u8At r.pay 1)).map (fun i => (u8At r.pay (4 + 4 * i), u16At r.pay (6 + 4 * i)))

/-- `PLAN_MODEL` (08 R211, 12 R322): the model of every logical stope of a verified slot, at the clock stated or at its floor. -/
def specPlanModel : CmdSpec :=
  { opcode := 0x8801, role := roleAny
    len := fun r => decide (4 ≤ r.pay.length) && r.pay.length == 4 + 4 * u8At r.pay 1
    idle := true
    param := fun r s =>
      let n := ((s.slot (u8At r.pay 0)).plan.map (·.nlst)).getD 0
      firstBad ([(!(s.slot (u8At r.pay 0)).verified, 0), (decide (32 < u8At r.pay 1), 1), (!zeroAt r.pay 2 2, 2)] ++
        ((List.range (u8At r.pay 1)).map (fun i =>
          [(decide (n ≤ u8At r.pay (4 + 4 * i)), 4 + 4 * i), (!zeroAt r.pay (5 + 4 * i) 1, 5 + 4 * i),
           (decide (u16At r.pay (6 + 4 * i) < 300 ∨ 1000 < u16At r.pay (6 + 4 * i)), 6 + 4 * i)])).flatten)
    run := fun r s =>
      match (s.slot (u8At r.pay 0)).plan with
      | none => (.badParam 0, s)
      | some q =>
        let one (ls : Nat) : List Byte :=
          let f := (((r.clocks.reverse.find? (fun c => c.1 == ls)).map (·.2)).getD (q.floorOf ls))
          let o := q.eval ls f
          b8 ls ++ bz 3 ++ b32 o.busy ++ bi32 o.slackmin ++ b32 o.cmp ++ bi32 o.margin
        (.ok (b8 q.nlst ++ bz 3 ++ ((List.range q.nlst).map one).flatten), s) }

/-- `PLAN_MODEL`, served by its spec (12 R315). -/
def execCmdPlanModel (p : Packet) (s : State) : Host.Outcome State Fault Refusal := s.command specPlanModel p

/-- `PLAN_STATUS` (08 R211): the layout of its contents is the implementation's (log 7). -/
def specPlanStatus : CmdSpec :=
  statusSpec 0x0800 (fun _ s =>
    let slotF (k : Nat) : List Int :=
      let x := s.slot k
      [((x.plan.map (·.planId)).getD 0 : Nat), ((x.plan.map (·.planGen)).getD 0 : Nat), (bbool x.verified : Nat)]
    let lsF (q : Plan) (ls : Nat) : List Int :=
      [(ls : Int), ((vgetD s.fab.lsMap ls 0 : Nat) : Int), ((q.floorOf ls : Nat) : Int), (q.eval ls (q.floorOf ls)).margin, (((s.runOf ls).cmpm : Nat) : Int)]
    Config.encodeFields 0x0800 (((List.range 3).map slotF).flatten ++
      [(((s.fab.swap.map (·.bs)).getD 0 : Nat) : Int), ((bbool s.fab.derated : Nat) : Int)] ++
      (match s.fab.active with
       | none => []
       | some q => ((List.range q.nlst).map (lsF q)).flatten)))

/-- `PLAN_STATUS`, served by its spec (12 R315). -/
def execCmdPlanStatus (p : Packet) (s : State) : Host.Outcome State Fault Refusal := s.command specPlanStatus p

end Sys2Proof.Machine
end

