-- ==== Sys2Proof/Machine/SiteChecks.lean ====
section
/-! DEFINITION. What an epoch's assay entries show at D2: phase steps of a site against its calibration (05 R118), spatial signatures (10 R249,
R250), and powers (10 R255). -/

namespace Sys2Proof.Machine

/-! ### Phases -/

/-- The phase in 48 bits that goes off a sum for the element's band path (05 estimator equation, 03 R63): θ, and the `GPH` that its samples took. -/
def State.pathPhase (s : State) (g : CalTable) (n : Nat) (b : Band) : Int :=
  (((g.eb n b).ph : Int) + ((s.adit n).blkBefore.gph.get b : Nat)) * 2 ^ 32

/-- A sum turned back by a phase of 48 bits. -/
def turnBack (v : Int × Int) (ph : Int) : Int × Int :=
  let c := cis 48 (bitsOf 48 (-ph))
  cdiv (cmul v c) (2 ^ 60)

/-- The valid sums of a site in an entry, each turned back by the phase that the calibration and the geometry predict, and added (05 R118). -/
def State.aligned (s : State) (g : CalTable) (e : AssayEntry) (d : Nat × Int) (site : Nat) : Int × Int :=
  let b := sigBand e.sigid
  let c := (s.chan e.ch).before
  let f := carrier e.sigid c.glok
  let bdly := (s.beam c.beam).wsBefore.bdly
  (((s.validEls e).filter (fun n => s.siteOf n == site)).map (fun n =>
    turnBack (e.sum.getD n (0, 0)) (s.weightPhase g b d f bdly n + s.pathPhase g n b))).foldl cadd (0, 0)

/-- A signal shows at a site a phase step larger than 0.25 cycle against prediction (05 R118): the site's sum stands more than a quarter turn from
the reference site's. -/
def State.stepsAt (s : State) (g : CalTable) (e : AssayEntry) (site : Nat) : Bool :=
  match Config.direction e.sigid (s.chan e.ch).before.glok (s.ms - 1) with
  | none => false
  | some d => decide ((cmul (s.aligned g e d site) (cconj (s.aligned g e d (s.refSite (sigBand e.sigid))))).1 < 0)

/-- `AMB_LOST` (05 R118): the ambiguities of the site and band are lost, and `FLT_ASSAY_SITE` (0x1A02) goes out. -/
def State.ambLost (site : Nat) (b : Band) (s : State) : State :=
  let t := s.mapAssay (fun a => { a with
    invalid := vupdN a.invalid site (fun v => v.set b true)
    ambs := a.ambs.map (fun x => if x.site = site ∧ sigBand x.sigid = b ∧ x.isFixed = true then { x with isFixed := false, good := 0, lost := true } else x) })
  t.report 0x1A02 2 0xFF site (Config.encodeFields 0x1A02 [site, 2])

/-- The epoch's phase steps (05 R118): more than half of a site's fixed signals in a band step. -/
def State.phaseSteps (l : List AssayEntry) (s : State) : State :=
  let g := s.genFor (s.ms - 1)
  ((List.range 12).map (fun i => bands.map (fun b => (i, b)))).flatten.foldl (fun t x =>
    let fixed := t.arr.assay.fixedIn x.1 x.2
    let steps := fixed.filter (fun a => l.any (fun e => e.sigid == a.sigid && (t.chan e.ch).before.glok == a.glok && t.stepsAt g e x.1))
    if fixed.length < 2 * steps.length then t.ambLost x.1 x.2 else t) s

/-! ### Spatial signatures -/

/-- The fit of a plane wave (10 R249), over the whole sphere: the carrier in Hz, each element's offset from the site's reference point in 0.1 mm and
its calibrated phase in 2^-16 turn; azimuth and elevation of the best direction in 0.01 degree, 1-sigma in 0.01 degree, the residuals of the best and of
the second-best direction (log 53). -/
opaque Config.planeWave : Int → List ((Int × Int × Int) × Int) → (Nat × Int) × Nat × Nat × Nat

/-- The angle between two unit vectors in Q60, in 2^-48 turn. -/
def angleBetween (u v : Int × Int × Int) : Int :=
  let d := clampI (-(2 ^ 60)) (2 ^ 60) (dot3 u v / 2 ^ 60)
  angleOf 48 d (isqrt (2 ^ 120 - (d * d).toNat))

/-- A site's result for an entry (10 R249): none is untested; else the angle in 2^-48 turn, and whether the site failed. -/
def State.siteTest (s : State) (e : AssayEntry) (site : Nat) : Option (Int × Bool) :=
  let b := sigBand e.sigid
  let k := (s.chan e.ch).before.glok
  let els := (s.validEls e).filter (fun n => s.siteOf n == site && s.inService n b)
  let rows := els.map (fun n =>
    let v := turnBack (e.sum.getD n (0, 0)) (s.pathPhase s.arr.assay.table n b)
    ((s.elem n).off, if v = (0, 0) then 0 else angleOf 16 v.1 v.2))
  let f := Config.planeWave (carrier e.sigid k) rows
  match Config.direction e.sigid k (s.ms - 1) with
  | none => none
  | some d =>
    if els.length < 4 ∨ 2 * f.2.2.2 ≤ 3 * f.2.2.1 then none
    else
      let a := angleBetween (unitEnu f.1.1 f.1.2) (unitEnu d.1 d.2)
      let excess := decide ((10 * s.sol.integP.sigAng : Nat) * 2 ^ 48 < a * 36000)
      if !excess then some (a, false) else if 3 * f.2.1 ≤ 10 * s.sol.integP.sigAng then some (a, true) else none

/-- An angle of 2^-48 turn in 0.01 degree; the rounding is open (log 6). -/
def centiDegrees (a : Int) : Nat := (openRound a (a * 36000 / 2 ^ 48) (a * 36000 % 2 ^ 48 == 0)).toNat

/-- A mask of the places of a list that hold true. -/
def boolMask (l : List Bool) : Nat := ((l.zip (List.range l.length)).map (fun x => if x.1 then 2 ^ x.2 else 0)).foldl (· + ·) 0

/-- An entry's signature results (10 R249). -/
def State.signatureOf (s : State) (e : AssayEntry) : SigFind :=
  let r := (List.range 12).map (s.siteTest e)
  let failed (x : Option (Int × Bool)) : Bool := x.any (·.2)
  { sys := sigSys e.sigid, sat := sigSat e.sigid, band := sigBand e.sigid
    failed := boolMask (r.map failed), tested := boolMask (r.map Option.isSome)
    angMax := min 0xFFFF (((r.filter failed).map (fun x => centiDegrees ((x.map (·.1)).getD 0))).foldl max 0) }

/-- The results of one satellite-band from two of its signals: a site that fails for one of them fails (log 53). -/
def SigFind.join (x y : SigFind) : SigFind :=
  { x with failed := x.failed ||| y.failed, tested := x.tested ||| y.tested, angMax := max x.angMax y.angMax }

/-- The signatures of the epoch per satellite-band (10 R250). -/
def State.signatures10 (l : List AssayEntry) (s : State) : State :=
  let add (acc : List SigFind) (f : SigFind) : List SigFind :=
    if acc.any (fun x => x.sys == f.sys && x.sat == f.sat && x.band == f.band) then
      acc.map (fun x => if x.sys = f.sys ∧ x.sat = f.sat ∧ x.band = f.band then x.join f else x)
    else acc ++ [f]
  { s with sol := { s.sol with sigNow := (l.map s.signatureOf).foldl add [] } }

/-! ### Powers -/

/-- The power of the assay sums of an entry and what noise alone would give, for its elements together (10 R255): each element's noise is the running
mean of |x|² as its `GMAG` scales it (05 R107). Both are in the same unit. -/
def State.entryPower (s : State) (e : AssayEntry) : Nat × Nat :=
  let b := sigBand e.sigid
  let one (n : Nat) : Nat × Nat :=
    let l := ((s.adit n).rms.get b).take 81840
    let g := (s.adit n).blkBefore.gmag.get b
    let sum := (l.map (·.2)).foldl (· + ·) 0
    (normSq (e.sum.getD n (0, 0)) * 2 ^ 48, e.nval.getD n 0 * epochTicks * g * g * sum / (255 * max 1 l.length))
  ((s.validEls e).map one).foldl (fun a x => (a.1 + x.1, a.2 + x.2)) (0, 0)

/-- By how much the per-element C/N0 of an entry exceeds `PWR_HI`, in 0.01 dB; none where it does not (10 R255; log 53). -/
def State.powerHigh (s : State) (e : AssayEntry) : Option Int :=
  let p := s.entryPower e
  let num := 1000 * (p.1 - p.2)
  if num = 0 ∨ p.2 = 0 ∨ dbAtLeast 1 p.2 num (-(s.sol.integP.pwrHi : Int)) then none else some (decibels 100 num p.2 - 100 * (s.sol.integP.pwrHi : Int))

/-- The beam C/N0 of a satellite-band, in 1/64 dB-Hz: of its channels in `TRACK` the strongest; none without one. -/
def State.beamCn0 (s : State) (sys sat : Nat) (b : Band) : Option Nat :=
  ((s.trk.ch.toList.filter (fun c => c.st == .track && !c.voided && sigSys c.sigid == sys && sigSat c.sigid == sat && sigBand c.sigid == b)).map
    ChanState.cn0).foldl (fun m v => some (max v (m.getD 0))) none

/-- The median of some figures, doubled: of an even number the sum of the middle two (log 45). -/
def median2 (l : List Nat) : Nat :=
  let v := sortBy (fun x => x) l
  v.getD ((l.length - 1) / 2) 0 + v.getD (l.length / 2) 0

/-- By how much a satellite-band's beam C/N0 exceeds the median of the band's other satellites within 10 degrees of elevation and `PWR_REL`, in 0.01 dB;
none where it does not, or without such satellites (10 R255). -/
def State.powerAbove (s : State) (x : Nat × Nat × Band) (sats : List (Nat × Nat × Band × Option Int)) : Option Int :=
  match s.beamCn0 x.1 x.2.1 x.2.2, (sats.find? (fun y => y.1 == x.1 && y.2.1 == x.2.1 && y.2.2.1 == x.2.2)).bind (·.2.2.2) with
  | some v, some el =>
    let near := sats.filter (fun y => y.2.2.1 == x.2.2 && !(y.1 == x.1 && y.2.1 == x.2.1) &&
      (match y.2.2.2 with | some o => decide ((o - el).natAbs ≤ 1000) | none => false))
    let m := median2 (near.filterMap (fun y => s.beamCn0 y.1 y.2.1 y.2.2.1))
    let excess : Int := 2 * (v : Int) - m - 128 * s.sol.integP.pwrRel
    if near.isEmpty ∨ excess ≤ 0 then none else some (quotI (excess * 100) 128)
  | _, _ => none

/-- The power conditions of the epoch (10 R255). -/
def State.powers (l : List AssayEntry) (s : State) : State :=
  let tracked := s.trk.ch.toList.filter (fun c => c.st == .track && !c.voided)
  let subj := nub (tracked.map (fun c => (sigSys c.sigid, sigSat c.sigid, sigBand c.sigid)) ++
    l.map (fun e => (sigSys e.sigid, sigSat e.sigid, sigBand e.sigid)))
  let sats := subj.map (fun x => (x.1, x.2.1, x.2.2,
    (tracked.find? (fun c => sigSys c.sigid == x.1 && sigSat c.sigid == x.2.1 && sigBand c.sigid == x.2.2)).bind (fun c =>
      (Config.direction c.sigid c.glok s.ms).map (·.2))))
  let one (x : Nat × Nat × Band) : Option (Nat × Nat × Band × Int) :=
    let high := (l.filter (fun e => sigSys e.sigid == x.1 && sigSat e.sigid == x.2.1 && sigBand e.sigid == x.2.2)).filterMap s.powerHigh
    let all := high ++ (s.powerAbove x sats).toList
    if all.isEmpty then none else some (x.1, x.2.1, x.2.2, all.foldl max 0)
  { s with sol := { s.sol with pwrNow := subj.filterMap one } }

/-! ### At D2 -/

/-- The entries of the epoch that the deputies have passed in time (09 R213). -/
def State.passedEntries (s : State) (p : Plan) : List AssayEntry :=
  let bank := vgetD s.arr.assay.entries s.readBank (Vector.replicate 160 {})
  ((p.assays.filter (fun x => vgetD s.fab.reduced x.aldep false)).map (fun x => vgetD bank x.aslot {})).filter (·.valid)

/-- What the Overman decides at D2 from the epoch's assay entries (05 R118; 10 R249, R250, R255). -/
def State.siteChecks (p : Plan) (s : State) : State :=
  let l := s.passedEntries p
  ((s.phaseSteps l).signatures10 l).powers l

end Sys2Proof.Machine
end

