-- ==== Sys2Proof/Machine/Thermal.lean ====
section
/-! DEFINITION. Thermal control (22 R526–R531): the sensors, the throttle state, the cap of the stopes and the derated swap. -/

namespace Sys2Proof.Machine

/-- The highest floor of a plan; 0 without logical stopes. -/
def Plan.floorMax (p : Plan) : Nat := ((List.range p.nlst).map p.floorOf).foldl max 0

/-- The highest floor of the plan whose strides are running (22 R528): from a swap boundary until D1, of both plans. -/
def State.runningFloor (s : State) : Nat :=
  let new := (s.fab.active.map Plan.floorMax).getD 0
  match s.fab.swap with
  | some w => if w.phase = 2 ∧ s.ms = w.bs ∧ s.clk.tick % epochTicks < d1Ticks then max new ((w.old.map Plan.floorMax).getD 0) else new
  | none => new

/-- The cap that the throttle state calls for in MHz (22 R527). -/
def State.wantCap (s : State) : Nat :=
  let p := s.hea.therm
  [880, p.cap1, p.cap2, p.cap3].getD s.hea.throttle 880

/-- The hottest sensor in service, the lowest on ties. -/
def State.hottest (s : State) : Nat :=
  ((List.range 40).find? (fun n => let x := vgetD s.hea.sens n {}; x.inService && x.reading == s.hea.tj)).getD 0

/-- `FLT_THERMAL` (22 R530) with its own rate: every event of causes 2 to 5, the others through `report`. -/
def State.thermalBody (cause sens : Nat) (s : State) : List Byte :=
  b8 cause ++ b8 s.hea.throttle ++ b8 sens ++ bz 1 ++ bi16 s.hea.tj ++ b16 s.hea.cap ++ b32 (s.ms % 2 ^ 32) ++ bz 4
/-- Reports go out while the Overman runs. -/
def State.thermTells (s : State) : Bool := s.pow.pst == .run || s.pow.pst == .idle

def State.thermal (cause : Nat) (s : State) : State := if !s.thermTells then s else s.reportNow 0x1401 2 0xFF (s.thermalBody cause s.hottest)

/-- Sets `ICLK_CAP` of every stope (22 R528): the state's cap, not below the running floor; each change is reported with cause 2. -/
def State.applyCap (s : State) : State :=
  let c := max s.wantCap s.runningFloor
  if c = s.hea.cap then s
  else
    let isl := Vector.ofFn (fun i => if i.val < 36 then { s.clk.isl[i] with cap := c } else s.clk.isl[i])
    ({ s with hea := { s.hea with cap := c }, clk := { s.clk with isl := isl } }).thermal 2

/-- The swap to the derated plan in slot 2 stands accepted. -/
def State.derateStaged (s : State) : Bool := (s.fab.swap.map (·.slot)) == some 2

/-- Requests the swap to the designated derated plan as a device-initiated activity (22 R528, 09 R228): cause 3 when it is accepted, cause 4 when
it is refused or none is designated; it may wait. -/
def State.requestDerate (s : State) : State :=
  let set (d : Nat) (t : State) : State := { t with hea := { t.hea with derate := d } }
  if s.hea.derate = 1 ∨ s.hea.derate = 3 then s
  else if !s.fab.derated then (set 2 s).thermal 4
  else
    let t := s.deviceStart { code := 3, arg := 2, arg2 := 0, initiator := 2 }
    if t.derateStaged then (set 1 t).thermal 3
    else if t.fab.devWait.isSome then set 3 t
    else (set 2 t).thermal 4

/-- Follows a requested swap (22 R528, R529): accepted after a wait, done, or aborted. -/
def State.watchDerate (s : State) : State :=
  let set (d : Nat) (t : State) : State := { t with hea := { t.hea with derate := d } }
  let done : Bool := match s.fab.active, (s.slotPlan 2) with
    | some a, some o => a.derated && a.derateOf == o.planId
    | _, _ => false
  if s.hea.derate = 3 then
    if s.derateStaged then (set 1 s).thermal 3 else if s.fab.devWait.isSome then s else (set 2 s).thermal 4
  else if s.hea.derate = 1 ∧ s.fab.swap.isNone then
    if done then { s with hea := { s.hea with derate := 0, swapped := true, backSince := none } } else (set 2 s).thermal 4
  else if s.hea.derate = 0 ∧ s.pow.pst = .run ∧ s.fab.active.any (fun a => !a.derated && decide (s.wantCap < a.floorMax)) then s.requestDerate
  else s

/-- Follows the return condition (22 R529): since when the state's cap has been at or above the floors of the plan kept in slot 2. -/
def State.watchReturn (s : State) : State :=
  if !s.hea.swapped then s
  else
    match s.slotPlan 2 with
    | none => { s with hea := { s.hea with swapped := false, backSince := none } }
    | some o =>
      let since := if o.floorMax ≤ s.wantCap then some (s.hea.backSince.getD s.upMs) else none
      { s with hea := { s.hea with backSince := since } }

/-- The two neighbours of a sensor among those in service (22 R526). -/
def neighbours (inService : List Nat) (n : Nat) : List Nat :=
  let below := (inService.filter (fun k => decide (k < n))).reverse
  let above := inService.filter (fun k => decide (n < k))
  if below.isEmpty then above.take 2 else if above.isEmpty then below.take 2 else below.take 1 ++ above.take 1

/-- A sensor takes its next reading (22 R526): for how long it has differed from both neighbours by more than 15 °C, and repeated itself. -/
def Sensor.sample (v : Int) (near : List Int) (x : Sensor) : Sensor :=
  let off := near.length == 2 && near.all (fun m => decide (60 < (v - m).natAbs))
  let hours := match x.hours with
    | [] => [v]
    | h :: r => max h v :: r
  { x with reading := v, disagree := if off then x.disagree + 1 else 0
           repeated := if v = x.reading then x.repeated + 1 else 0, hours := hours }

/-- A sensor is faulty: 1 s of disagreement or 10 s of one reading (22 R526). -/
def Sensor.faulty (x : Sensor) : Bool := decide (1001 ≤ x.disagree) || decide (10000 ≤ x.repeated)

/-- A threshold (°C) takes a reading of Tj in 0.25 °C (22 R527): it is crossed after 16 ms at or above it, and no longer after 16 ms at or below
3 °C under it. -/
def Crossing.sample (thr : Int) (tj : Int) (c : Crossing) : Crossing :=
  let above := if 4 * thr ≤ tj then c.above + 1 else 0
  let below := if tj ≤ 4 * thr - 12 then c.below + 1 else 0
  { above := above, below := below, crossed := if 17 ≤ above then true else if 17 ≤ below then false else c.crossed }

/-- The thresholds `T_WARN`, `T_THR1` to `T_THR3`, `T_TRIP`. -/
def ThermParams.thresholds (p : ThermParams) : List Int := [p.warn, p.thr1, p.thr2, p.thr3, p.trip]

/-- The sensors work: the main supplies are on and no reset holds the device. -/
def State.sensing (s : State) : Bool := s.pow.pst != .backup && !s.pow.resetHeld && !s.pow.testEn

/-- Thermal control runs: in every state with the main supplies on (22 R531). In a reset, a trip or a boot only the trip acts (18 R444, 22 R530). -/
def State.thermalRuns (s : State) : Bool := s.pow.pst != .backup && !s.held && s.boo.dstate != .boot

/-- A sensor goes out of service (22 R526). -/
def State.dropSensor (s : State) (n : Nat) : State :=
  { s with hea := { s.hea with sens := vupdN s.hea.sens n (fun x => { x with inService := false }) } }

/-- The sensors are sampled (22 R526, R527): readings, faulty sensors, which are reported with cause 6, Tj, crossings; a crossing of `T_WARN`
reports cause 1. -/
def State.sampleSensors (v : List Int) (s0 : State) : State :=
  let s := { s0 with hea := { s0.hea with senAt := some s0.clk.up } }
  let on := (List.range 40).filter (fun n => (vgetD s.hea.sens n {}).inService)
  let near (n : Nat) : List Int := (neighbours on n).map (fun k => v.getD k 0)
  let sens := Vector.ofFn (fun i => (s.hea.sens[i]).sample (v.getD i.val 0) (near i.val))
  let s1 := { s with hea := { s.hea with sens := sens } }
  let bad := if s.thermalRuns then on.filter (fun n => (vgetD sens n {}).faulty) else []
  let s2 := bad.foldl State.dropSensor s1
  let l := (List.range 40).filterMap (fun n => let x := vgetD s2.hea.sens n {}; if x.inService then some x.reading else none)
  let tj := match l with | [] => s.hea.tj | x :: r => r.foldl max x
  let th := s.hea.therm.thresholds
  let cross := Vector.ofFn (fun i =>
    if s.thermalRuns || (i == 4 && !s.pow.thermHold) then (s.hea.cross[i]).sample (th.getD i.val 0) tj else s.hea.cross[i])
  let tell (key cause n : Nat) (t : State) : State := if t.thermTells then t.report 0x1401 2 0xFF key (t.thermalBody cause n) else t
  let s3 := bad.foldl (fun t n => tell (8 * n + 6) 6 n t) { s2 with hea := { s2.hea with tj := tj, cross := cross } }
  if (vgetD cross 0 {}).crossed && !(vgetD s.hea.cross 0 {}).crossed then tell 1 1 s3.hottest s3 else s3

/-- The sensors have been sampled less than 1 ms ago (22 R526). -/
def State.senseRead (s : State) : Bool := s.hea.senAt.any (fun t => decide (s.clk.up < t + epochTicks))

/-- `THERMAL_SAMPLE` (22 R526): every 1 ms 40 readings in 0.25 °C. -/
def execEvThermalSample (readings : List Int) (s : State) : Host.Outcome State Fault Refusal :=
  .next (
    if s.senseRead then s
    else if s.thermalRuns then ((s.sampleSensors readings).watchDerate).watchReturn.applyCap
    else if s.sensing then s.sampleSensors readings
    else s)

/-- The throttle state that the crossings call for (22 R526, R527): at least 2 with 4 sensors out of service. -/
def State.throttleDue (s : State) : Nat :=
  let hi := if (vgetD s.hea.cross 3 {}).crossed then 3 else if (vgetD s.hea.cross 2 {}).crossed then 2
    else if (vgetD s.hea.cross 1 {}).crossed then 1 else 0
  if 4 ≤ ((List.range 40).filter (fun n => !(vgetD s.hea.sens n {}).inService)).length then max 2 hi else hi

/-- The return that was proposed is withdrawn when the state no longer allows it (22 R525). -/
def State.withdrawReturn (s : State) : State :=
  { s with hea := { s.hea with props := s.hea.props.map (fun p => if p.sact == 5 && p.sstate == 0 then { p with sstate := 3 } else p) } }

/-- `THROTTLE_CHANGE` (22 R527, R528): the state goes to what the crossings call for, at most once in 250 ms; the cap follows, and below a floor of
the active plan the derated swap is requested. -/
def execEvThrottleChange (s : State) : Host.Outcome State Fault Refusal :=
  .next (
    if !s.thermalRuns ∨ s.throttleDue = s.hea.throttle ∨
       (match s.hea.lastChange with | some t => decide (s.clk.up < t + 20460000) | none => false) = true then s
    else
      let t := ({ s with hea := { s.hea with throttle := s.throttleDue, lastChange := some s.clk.up } }).applyCap
      let u : State := if (t.slotPlan 2).any (fun o => decide (t.wantCap < o.floorMax)) then t.withdrawReturn else t
      if u.pow.pst = .run ∧ u.wantCap < ((u.fab.active.map Plan.floorMax).getD 0) then u.requestDerate else u)

/-- `THERMAL_TRIP` (22 R530, 18 R444): Tj has been at `T_TRIP` for 16 ms. -/
def execEvThermalTrip (s : State) : Host.Outcome State Fault Refusal :=
  .next (if s.sensing ∧ !s.pow.thermHold ∧ (vgetD s.hea.cross 4 {}).crossed = true then
      let t := s.systemReset rcTherm
      { t with pow := { t.pow with thermHold := true } }
    else s)

/-- `THERMAL_RETURN` (22 R529): the state has allowed the original plan for `THERM_BACK`; the swap back is proposed. -/
def execEvThermalReturn (s : State) : Host.Outcome State Fault Refusal :=
  .next (match s.hea.backSince with
    | some t =>
      if s.hea.swapped ∧ t + 1000 * s.hea.therm.back ≤ s.upMs then
        ((({ s with hea := { s.hea with swapped := false, backSince := none } }).thermal 5).proposeAs 5 0 0 0xFF 6)
      else s
    | none => s)

end Sys2Proof.Machine
end

