-- ==== Sys2Proof/Machine/Deadlines.lean ====
section
/-! DEFINITION. The deadline monitors (09 R212–R218), escalation (R216), stope and deputy substitution (R221–R223), and the rows `D1_DEADLINE`,
`D2_DEADLINE`, `DEPUTY_COPY_COMPLETE`, `DEEP_TEST_COMPLETE`. -/

namespace Sys2Proof.Machine

/-! ### Escalation -/

/-- Misses among the last `n` epochs. -/
def Esc.count (e : Esc) (n : Nat) : Nat := ((e.hist.take n).filter (·)).length

/-- A slot or unit takes an epoch (09 R216): whether it missed, and whether the run that level 2 counts goes on. -/
def Esc.note (miss run : Bool) (e : Esc) : Esc :=
  { e with
    hist := (miss :: e.hist).take 1000, run := if run then e.run + 1 else 0, clean := if miss then 0 else e.clean + 1
    misses := if miss then e.misses + 1 else e.misses }

/-- The epoch just taken turns out to be a miss. -/
def Esc.amend (e : Esc) : Esc :=
  if e.hist.headD false then e else { e with hist := true :: e.hist.drop 1, clean := 0, misses := e.misses + 1 }

/-- A slot's level (09 R216). -/
def Esc.slot (e : Esc) : Esc := { e with level := if 1000 ≤ e.clean then 0 else if 4 ≤ e.count 100 then max 1 e.level else e.level }

/-- A unit's level (09 R216): 2 where its condition holds; back to 0 after 1 000 epochs without a miss. -/
def Esc.unit (two : Bool) (e : Esc) : Esc :=
  if 1000 ≤ e.clean then { e with level := 0, acted := false } else if two then { e with level := max 2 e.level } else e

/-- Escalation of a logical stope. -/
def State.escStope (s : State) (ls : Nat) : Esc := vgetD s.fab.escLs ls {}
def State.mapEscLs (ls : Nat) (f : Esc → Esc) (s : State) : State := { s with fab := { s.fab with escLs := vupdN s.fab.escLs ls f } }
/-- Escalation of a logical deputy. -/
def State.escDep (s : State) (ld : Nat) : Esc := vgetD s.fab.escLd ld {}
def State.mapEscLd (ld : Nat) (f : Esc → Esc) (s : State) : State := { s with fab := { s.fab with escLd := vupdN s.fab.escLd ld f } }
/-- Escalation of a channel slot and of an assay slot. -/
def State.mapEscCh (n : Nat) (f : Esc → Esc) (s : State) : State := { s with fab := { s.fab with escCh := vupdN s.fab.escCh n f } }
def State.mapEscAs (n : Nat) (f : Esc → Esc) (s : State) : State := { s with fab := { s.fab with escAs := vupdN s.fab.escAs n f } }

/-- The level that a report gives: the unit's own, or 1 while one of its slots stands there (09 R216). -/
def reportLevel (unit : Nat) (slots : List Esc) : Nat := if unit = 0 ∧ slots.any (fun e => decide (0 < e.level)) then 1 else unit

/-- A bit map of numbers. -/
def mapOf (l : List Nat) : Nat := l.foldl (fun a n => a ||| 2 ^ n) 0

/-- A report of a deadline (09 R215): while its unit stands at level 2, one per second of those sent there, the rest counted. -/
def Esc.mayReport (now : Nat) (e : Esc) : Bool := e.level != 2 || (match e.lastReport with | none => true | some t => decide (t + 1000 ≤ now))
def Esc.reported (now : Nat) (e : Esc) : Esc := if e.mayReport now then { e with lastReport := if e.level = 2 then some now else none } else { e with heldBack := e.heldBack + 1 }

/-! ### D1 -/

/-- A channel's entry of the closed epoch is void (09 R212). -/
def ChanState.voidEntry (bank : Nat) (c : ChanState) : ChanState :=
  { c with entry := vupdN c.entry bank (fun e => { e with void := true, valid := false }), voided := true }

/-- The stope has run its epoch that closed at a boundary to the end, so that its completion and slack are known. -/
def StopeRun.knownAt (r : StopeRun) (ms : Nat) : Bool := r.known == some ms
/-- The stope has abandoned strides of the epoch that closed at a boundary, the last one as well where it has not run (08 R180). -/
def StopeRun.lostAt (r : StopeRun) (ms : Nat) : Bool := r.knownAt ms && r.lost

/-- `LATE_NS` of a D1 report (09 R215). -/
def StopeRun.lateNs (r : StopeRun) (ms : Nat) (free : Int) : Int :=
  if r.lostAt ms then 0x7FFFFFFF else if r.knownAt ms then quotI (((r.cmpm : Int) - 1040000) * 5) 4 else free

/-- `FLT_DEADLINE_D1` (09 R215). -/
def State.reportD1 (ls : Nat) (chs as : List Nat) (level : Nat) (s : State) : State :=
  let r := s.runOf ls
  let f := s.takeInt
  let e := s.escStope ls
  let t := if r.knownAt s.ms then s else f.2
  (if e.mayReport t.ms then
    t.reportNow 0x1001 2 0xFF
      (b8 ls ++ b8 (vgetD t.fab.lsMap ls 0) ++ b8 level ++ b8 (bbool (r.lostAt t.ms)) ++ b32 ((t.ms + 2 ^ 32 - 1) % 2 ^ 32) ++ bi32 (r.lateNs t.ms f.1) ++
       b16 chs.length ++ b16 as.length ++ leBytes 48 (mapOf chs) ++ leBytes 20 (mapOf as) ++ bz 4)
   else t).mapEscLs ls (Esc.reported t.ms)

/-- The void slots of a logical stope's closed epoch: channels and assay slots (09 R212). -/
def State.voidSlots (p : Plan) (s : State) (ls : Nat) : List Nat × List Nat :=
  (((p.chansOf ls).map (·.cnum)).filter (fun n => (s.chan n).landed != some s.ms),
   if (s.runOf ls).landed == some s.ms then [] else (p.assaysOf ls).map (·.aslot))

/-- A logical stope at D1 (09 R212, R216): its void entries, and the epoch in its slots' and its own history. -/
def State.d1Stope (p : Plan) (s : State) (ls : Nat) : State :=
  let bank := s.ms % 2
  let v := s.voidSlots p ls
  let miss := !v.1.isEmpty || !v.2.isEmpty
  let s1 := v.1.foldl (fun t n => t.mapChan n (ChanState.voidEntry bank)) s
  let s2 := s1.mapAssay (fun a => { a with
    entries := vupdN a.entries bank (fun l => v.2.foldl (fun l k => vupdN l k (fun e => { e with valid := false })) l) })
  let s3 := ((p.chansOf ls).map (·.cnum)).foldl (fun t n => t.mapEscCh n (fun e => (e.note (v.1.contains n) false).slot)) s2
  let s4 := ((p.assaysOf ls).map (·.aslot)).foldl (fun t k => t.mapEscAs k (fun e => (e.note (v.2.contains k) false).slot)) s3
  let e := (s4.escStope ls).note miss miss
  s4.mapEscLs ls (fun _ => e.unit (decide (s.fab.dlParams.escL2n ≤ e.run ∨ 100 ≤ e.count 1000)))

/-- What D1 reports of a logical stope (09 R215, R219): the void slots it had, and at the rise to level 2 the remedy; `before` is the state before
D1. -/
def State.d1Report (before : State) (p : Plan) (s : State) (ls : Nat) : State :=
  let v := before.voidSlots p ls
  let e := s.escStope ls
  let slots := (p.chansOf ls).map (fun c => vgetD s.fab.escCh c.cnum {}) ++ (p.assaysOf ls).map (fun x => vgetD s.fab.escAs x.aslot {})
  let t := if v.1.isEmpty && v.2.isEmpty then s else s.reportD1 ls v.1 v.2 (reportLevel e.level slots)
  if (before.escStope ls).level < 2 ∧ 2 ≤ e.level then t.proposeStope ls 3
  else if 2 ≤ (before.escStope ls).level ∧ e.level < 2 then t.withdraw (wearIndex 0 (vgetD t.fab.lsMap ls 0)) 3
  else t

/-- The completion of a logical stope's epoch lies beyond `WARN`, in time at its floor (09 R217); results that have not landed by D1 are later. -/
def State.slackLate (s : State) (p : Plan) (ls : Nat) : Bool :=
  let r := s.runOf ls
  let warn : Nat := ((p.dlStopes.find? (fun d => d.lst == ls)).map (·.warn)).getD 0
  !r.knownAt s.ms || decide (warn * 800 < r.cmpm * p.floorOf ls)

/-- The least stride slack of a logical stope's epoch is below a quarter of the certified one (09 R217). -/
def State.slackThin (s : State) (p : Plan) (ls : Nat) : Bool :=
  let r := s.runOf ls
  let slackmin : Int := ((p.cert.find? (fun c => c.lst == ls)).map (·.slackmin)).getD 0
  r.knownAt s.ms && decide (r.slkm * 4 * p.floorOf ls < slackmin * 800)

/-- `FLT_SLACK` (09 R217): once when either condition has held for 16 epochs in a row, cleared after 1 000 free of both. -/
def State.d1Slack (p : Plan) (s : State) (ls : Nat) : State :=
  let late := s.slackLate p ls
  let thin := s.slackThin p ls
  let r := s.runOf ls
  let r' : StopeRun := { r with
    slackBad := if late then r.slackBad + 1 else 0, slackThin := if thin then r.slackThin + 1 else 0
    slackGood := if late || thin then 0 else r.slackGood + 1 }
  if decide (16 ≤ r'.slackBad ∨ 16 ≤ r'.slackThin) && !r.slackUp then
    (s.mapRun ls (fun _ => { r' with slackUp := true })).reportNow 0x1004 1 0xFF (Config.encodeFields 0x1004 [ls, r.cmpm, r.slkm])
  else if r.slackUp && r'.slackGood == 1000 then (s.mapRun ls (fun _ => { r' with slackUp := false })).faultClear 0x1004 ls
  else s.mapRun ls (fun _ => r')

/-- `FLT_STOPE_SLOW` (09 R218, R219): the island clock below the floor for 16 epochs; measured clock, floor, failure clock and remedy. -/
def State.d1Slow (p : Plan) (s : State) (ls : Nat) : State :=
  let isl := s.stopeIsl (vgetD s.fab.lsMap ls 0)
  let slow := !isl.hist.isEmpty && decide (isl.meas < 1000 * p.floorOf ls)
  let n := (s.runOf ls).slow
  let t := s.mapRun ls (fun r => { r with slow := if slow then n + 1 else 0 })
  if slow && n == 15 then
    let remedy : Int := match s.bestStope with | some r => (r : Int) | none => if s.fab.derated then 0xFE else 0xFF
    (t.report 0x1005 1 0xFF ls (Config.encodeFields 0x1005 [ls, isl.meas, p.floorOf ls, p.failureClock ls, remedy])).proposeStope ls 2
  else if !slow && decide (16 ≤ n) then t.withdraw (wearIndex 0 (vgetD t.fab.lsMap ls 0)) 2
  else t

/-- The old stope of a substitution that switched at the last boundary returns to reserve, `SUSPECT` (09 R221). -/
def State.releaseStope (s : State) : State :=
  match s.fab.stSub with
  | some u =>
    if u.stage = 4 then
      (({ s with fab := { s.fab with stSub := none, stSuspect := s.fab.stSuspect ++ [u.old] } }).settle 1 u.ls 2).endAct
        (fun a => a.code == 2 && decide (a.arg < 0x100)) 1
    else s
  | none => s

/-- Level 3 at D1 (09 R216): with this epoch 8 logical stopes have missed in each of 64, and those that missed stand there. -/
def State.massAtD1 (p : Plan) (s : State) : State :=
  let st := (List.range p.nlst).filter (fun ls => (s.escStope ls).hist.headD false)
  if 8 ≤ st.length ∧ 63 ≤ s.fab.massRun ∧ s.fab.dlParams.escReset = 1 then
    st.foldl (fun t ls => t.mapEscLs ls (fun e => { e with level := 3 })) s
  else s

/-- The work of D1 (09 R212–R218, R221). -/
def State.d1 (s : State) : State :=
  let t := { s with fab := { s.fab with d1At := some s.ms } }
  (match t.closingPlan with
   | none => t
   | some p =>
     let l := List.range p.nlst
     let u := l.foldl (State.d1Report t p) ((l.foldl (State.d1Stope p) t).massAtD1 p)
     l.foldl (State.d1Slow p) (l.foldl (State.d1Slack p) u)).releaseStope

/-- `D1_DEADLINE` (09 R212): 300 µs after the boundary, once per epoch. -/
def execEvD1Deadline (s : State) : Host.Outcome State Fault Refusal := .next (if s.fab.d1At = some s.ms ∨ !s.fabricUp then s else (s.waitTo d1Ticks).d1.applyCap)

/-! ### D2 -/

/-- A deputy's channels whose closed epoch awaits an update (09 R213): they hold a signal and a valid entry. -/
def State.awaiting (s : State) (p : Plan) (ld : Nat) : List Nat :=
  (p.chans.filter (fun c => c.ldep == ld)).map (·.cnum) |>.filter (fun n =>
    (s.chan n).setNow.on && (vgetD (s.chan n).entry (s.ms % 2) {}).valid)

/-- A logical deputy at D2 (09 R213–R216): channels without `COMMIT` become void, reductions passed in time are held for the estimator. -/
def State.d2Deputy (p : Plan) (s : State) (ld : Nat) : State :=
  let l := s.awaiting p ld
  let late := l.filter (fun n => (s.chan n).staged.isNone || s.fab.lateCommits.any (fun x => x.1 == n))
  let passed := vgetD s.fab.reduced ld false
  let lost := p.assays.any (fun x => x.aldep == ld) && !passed
  let miss := !late.isEmpty || lost
  let s1 := late.foldl (fun t n => (t.mapChan n (fun c => { c with voided := true })).mapEscCh n (fun e => e.amend.slot)) s
  let s2 := if passed then s1.holdDeputy ld else s1
  let e := (s2.escDep ld).note miss (!late.isEmpty && late.length == l.length)
  let e' := e.unit (decide (16 ≤ e.run))
  let s3 := s2.mapEscLd ld (fun _ => e')
  let s4 := if miss then { s3 with fab := { s3.fab with d2Late := s3.fab.d2Late ++ [(ld, late)] } } else s3
  if (s.escDep ld).level < 2 ∧ 2 ≤ e'.level then s4.proposeDeputy ld 3
  else if 2 ≤ (s.escDep ld).level ∧ e'.level < 2 then s4.withdraw (wearIndex 1 (vgetD s4.fab.ldMap ld 0)) 3
  else s4

/-- The weight set that a deputy writes for the beam of one of its channels by D2, for the next boundary (04 R78, R83, R95; 05 R109): from the
generation that commits there; a channel-epoch that is void brings none. -/
def State.writeWeights (s : State) (n : Nat) : State :=
  let c := s.chan n
  let x := s.beam c.beam
  if c.staged.isNone ∨ c.voided ∨ x.kind ≠ 0 ∨ x.owner = 0 then s
  else
    let r := s.compute x.bandOf (fun e => s.inService e x.bandOf && bit x.sites (s.siteOf e)) (x.aim (s.ms + 1)) (s.ms + 1) false
    r.2.mapBeam c.beam (fun y => { y with staged := some r.1, stagedOld := false })

/-- Level 3 (09 R216): 8 logical stopes or 4 logical deputies missed in this epoch; after 64 such epochs the units that missed stand there. -/
def State.massMiss (p : Plan) (s : State) : State :=
  let st := (List.range p.nlst).filter (fun ls => (s.escStope ls).hist.headD false)
  let dp := (List.range p.nldep).filter (fun ld => (s.escDep ld).hist.headD false)
  let n := if 8 ≤ st.length ∨ 4 ≤ dp.length then s.fab.massRun + 1 else 0
  let t := { s with fab := { s.fab with massRun := n } }
  if 64 ≤ n ∧ s.fab.dlParams.escReset = 1 then
    dp.foldl (fun t ld => t.mapEscLd ld (fun e => { e with level := 3 })) (st.foldl (fun t ls => t.mapEscLs ls (fun e => { e with level := 3 })) t)
  else t

/-- The work of D2. -/
def State.d2 (s : State) : State :=
  let t := { s with fab := { s.fab with d2At := some s.ms } }
  match t.closingPlan with
  | none => t
  | some p =>
    let v := (((List.range p.nldep).foldl (State.d2Deputy p) t).siteChecks p).nullsAtD2
    let u := ((p.chans.map (·.cnum)).foldl State.writeWeights v).massMiss p
    { u with fab := { u.fab with reduced := Vector.replicate 16 false } }

/-- `D2_DEADLINE` (09 R213): 750 µs after the boundary, once per epoch. -/
def execEvD2Deadline (s : State) : Host.Outcome State Fault Refusal := .next (if s.fab.d2At = some s.ms ∨ !s.fabricUp then s else (s.waitTo d2Ticks).d2)

/-! ### What the boundary after does -/

/-- `FLT_DEADLINE_D2` of the epoch that closed 1 000 µs ago (09 R215); the device has passed the boundary. -/
def reportD2 (s : State) (x : Nat × List Nat) : State :=
  let e := s.escDep x.1
  let times := x.2.map (fun n => ((s.fab.lateCommits.filter (fun l => l.1 == n)).map (·.2)).getLast?)
  let ns : Nat := if x.2.isEmpty || times.any Option.isNone then 0x7FFFFFFF else (times.map (·.getD 0)).foldl max 0
  let p := s.closingPlan
  let slots := (match p with | some p => (p.chans.filter (fun c => c.ldep == x.1)).map (fun c => vgetD s.fab.escCh c.cnum {}) | none => [])
  let cause := if x.2.isEmpty then 2 else 0
  (if e.mayReport s.ms then
    s.reportNow 0x1002 2 0xFF
      (b8 x.1 ++ b8 (vgetD s.fab.ldMap x.1 0) ++ b8 (reportLevel e.level slots) ++ b8 cause ++ b32 ((s.ms + 2 ^ 32 - 2) % 2 ^ 32) ++ b32 ns ++
       b16 x.2.length ++ bz 2 ++ leBytes 48 (mapOf x.2))
   else s).mapEscLd x.1 (Esc.reported s.ms)

/-- A `COMMIT` that came after D2 and after the work of D2 makes its channel's epoch a miss as well (06 R139, 09 R216). -/
def State.lateMiss (s : State) (x : Nat × Nat) : State :=
  let n := x.1
  let ld := (s.chan n).dep
  if s.fab.d2Late.any (fun d => d.1 == ld && d.2.contains n) || !(vgetD (s.chan n).entry ((s.ms + 1) % 2) {}).valid then s
  else
    let t := (s.mapEscCh n (fun e => e.amend.slot)).mapEscLd ld (fun e => let a := e.amend; a.unit (decide (16 ≤ a.run)))
    let l := if s.fab.d2Late.any (fun d => d.1 == ld) then s.fab.d2Late.map (fun d => if d.1 = ld then (d.1, d.2 ++ [n]) else d) else s.fab.d2Late ++ [(ld, [n])]
    { t with fab := { t.fab with d2Late := l } }

/-- The D2 reports due at a boundary. -/
def State.d2Reports (s0 : State) : State :=
  let s := s0.fab.lateCommits.foldl State.lateMiss s0
  let t := s.fab.d2Late.foldl reportD2 s
  { t with fab := { t.fab with d2Late := [], lateCommits := [] } }

/-- A unit's tracked channels go to `COAST` (09 R216). -/
def State.coastUnit (f : ChanSlot → Bool) (p : Plan) (s : State) : State :=
  (p.chans.filter f).foldl (fun t c => t.mapChan c.cnum (fun x => if x.st = .track then x.enter .coast else x)) s

/-- The actions of levels 2 and 3 at a boundary (09 R216). -/
def State.escalate (s : State) : State :=
  match s.fab.active with
  | none => s
  | some p =>
    let due (e : Esc) : Bool := decide (2 ≤ e.level) && !e.acted
    let s1 := ((List.range 32).filter (fun ls => due (s.escStope ls))).foldl (fun t ls =>
      (t.coastUnit (fun c => c.lst == ls) p).mapEscLs ls (fun e => { e with acted := true })) s
    ((List.range 16).filter (fun ld => due (s.escDep ld))).foldl (fun t ld =>
      (t.coastUnit (fun c => c.ldep == ld) p).mapEscLd ld (fun e => { e with acted := true })) s1

/-- The CORE RESET of level 3 is due (09 R216). -/
def State.massReset (s : State) : Bool := decide (64 ≤ s.fab.massRun) && s.fab.dlParams.escReset == 1

/-- A stope substitution at a boundary (09 R221): its stages B1 to B4, the fourth mapping the logical stope to the reserve. -/
def State.stopeStage (s : State) : State :=
  match s.fab.stSub with
  | none => s
  | some u =>
    let n := s.ms + 1 - u.b1
    let t := { s with fab := { s.fab with stSub := some { u with stage := min 4 n } } }
    if n = 4 then { t with fab := { t.fab with lsMap := vupdN t.fab.lsMap u.ls (fun _ => u.phys) } } else t

/-- A deputy substitution whose copy is complete, 50 ms after acceptance at the latest (09 R223): the reserve takes the logical deputy with the old
one's instruction and data memory. -/
def State.deputyStage (s : State) : State :=
  match s.fab.dpSub with
  | some u =>
    if u.copied || s.fab.acts.any (fun a => a.code == 2 && decide (a.startMs + 50 ≤ s.ms)) then
      let old := vgetD s.fab.ldMap u.ld 0
      let c := vgetD s.cor.core old {}
      let t := { s with
        fab := { s.fab with dpSub := none, ldMap := vupdN s.fab.ldMap u.ld (fun _ => u.phys) }
        cor := { s.cor with core := vupdN s.cor.core u.phys (fun x => { x with dmem := c.dmem, imem := c.imem }) } }
      (t.settle 2 u.ld 2).endAct (fun a => a.code == 2 && decide (0x100 ≤ a.arg)) 1
    else s
  | none => s

/-- The sparing record is rewritten at the boundary at which any of what it holds changes (08 R174). -/
def State.saveSparing (s : State) : State :=
  let r : SparingRec :=
    { lsMap := s.fab.lsMap, ldMap := s.fab.ldMap, stSuspect := s.fab.stSuspect, dpSuspect := s.fab.dpSuspect, stRetired := s.fab.stRetired
      dpRetired := s.fab.dpRetired, stTest := s.fab.stTest, dpTest := s.fab.dpTest, bankMap := s.smp.lode.bankMap
      bankRetired := (List.range 68).filter (fun b => vgetD s.smp.lode.use b .service == .retired), serial := leNat Config.serial, ok := true }
  if s.fab.sparing = some r then s else { s with fab := { s.fab with sparing := some r } }

/-! ### Rows -/

/-- `DEPUTY_COPY_COMPLETE` (09 R223): the reserve takes over at the next boundary; line 2 tells both deputies that `FEAT2` is about to change (16
R405). Without a substitution nothing happens. -/
def execEvDeputyCopyComplete (s : State) : Host.Outcome State Fault Refusal :=
  .next (match s.fab.dpSub with
    | none => s
    | some u =>
      { s with
        fab := { s.fab with dpSub := some { u with copied := true } }
        cor := { s.cor with core := [vgetD s.fab.ldMap u.ld 99, u.phys].foldl (fun v k => vupdN v k (CoreState.signal 2)) s.cor.core } })

/-- The clock that a deep-tested stope must reach, in MHz × 100: 5 % above the highest floor of the active and the designated plan, 720 MHz
without one (22 R524). -/
def State.testClock (s : State) : Nat :=
  let plans := s.fab.active.toList ++ (if s.fab.derated then (s.slot 2).plan.toList else [])
  let floors := (plans.map (fun p => (List.range p.nlst).map p.floorOf)).flatten
  105 * (if floors.isEmpty then 720 else floors.foldl max 0)

/-- The result of a deep test stands (22 R524): a unit that fails is retired, and one that passes is no longer `SUSPECT`. -/
def State.tested (kind n : Nat) (pass : Bool) (s : State) : State :=
  let res := if pass then 1 else 2
  let f := s.fab
  let t := { s with fab :=
    if kind = 0 then { f with testing := none, stTest := vupdN f.stTest n (fun _ => res)
                              stSuspect := if pass then f.stSuspect.filter (· != n) else f.stSuspect
                              stRetired := if pass then f.stRetired else f.stRetired ++ [n] }
    else { f with testing := none, dpTest := vupdN f.dpTest n (fun _ => res)
                  dpSuspect := if pass then f.dpSuspect.filter (· != n) else f.dpSuspect
                  dpRetired := if pass then f.dpRetired else f.dpRetired ++ [n] } }
  let u := t.noteTest kind n res
  if pass then u else u.canary 5 (wearIndex kind n)

/-- `DEEP_TEST_COMPLETE` (22 R524): whether every result matched, and the frequency found in MHz. A stope test lasts 2 s, a deputy test 1 s; before
that nothing completes. -/
def execEvDeepTestComplete (matched : Bool) (frep : Nat) (s : State) : Host.Outcome State Fault Refusal :=
  .next (match s.fab.testing, s.fab.acts.find? (fun a => a.code == 6) with
    | some (kind, n), some a =>
      if s.ms < a.startMs + (if kind = 0 then 2000 else 1000) then s
      else
        let pass := matched && decide ((if kind = 0 then s.testClock else 84000) ≤ 100 * frep)
        let t := if kind = 0 then { s with clk := { s.clk with isl := vupdN s.clk.isl n (fun i => { i with frep := frep }) } } else s
        (t.tested kind n pass).endAct (fun a => a.code == 6) (if pass then 1 else 2)
    | _, _ => s)

/-! ### Commands -/

/-- An activity's fields as `MAINT_STATUS` gives them. -/
def Activity.fields (a : Activity) : List Int := [a.code, a.actId, a.startMs, a.arg, a.arg2]

/-- `MAINT_STATUS` (09 R230, log 7). -/
def specMaintStatus : CmdSpec :=
  statusSpec 0x0D00 (fun _ s => Config.encodeFields 0x0D00
    ((s.fab.acts.map Activity.fields).flatten ++ [-1] ++ (s.fab.mqueue.map (fun q => [(q.code : Int), (q.arg : Int), (q.arg2 : Int), (q.sid : Int)])).flatten ++
     [-1] ++ (s.reserveStopes.map (fun (n : Nat) => [(n : Int), ((vgetD s.fab.stTest n 0 : Nat) : Int)])).flatten ++
     [-1] ++ (s.reserveDeputies.map (fun (n : Nat) => [(n : Int), ((vgetD s.fab.dpTest n 0 : Nat) : Int)])).flatten))

/-- `MAINT_STATUS`, served by its spec (12 R315). -/
def execCmdMaintStatus (p : Packet) (s : State) : Host.Outcome State Fault Refusal := s.command specMaintStatus p

/-- `DL_STATUS` (09 R230, log 7). -/
def specDlStatus : CmdSpec :=
  statusSpec 0x0D01 (fun _ s =>
    let st (ls : Nat) : List Int :=
      let e := s.escStope ls
      let r := s.runOf ls
      let phys : Nat := vgetD s.fab.lsMap ls 0
      [phys, e.level, e.misses, e.heldBack, r.cmpm, r.slkm, (s.stopeIsl phys).meas]
    let dp (ld : Nat) : List Int :=
      let e := s.escDep ld
      let phys : Nat := vgetD s.fab.ldMap ld 0
      [phys, e.level, e.misses, e.heldBack, (vgetD s.clk.isl (36 + phys) {}).meas]
    let up (l : List Esc) : List Int := (((List.range l.length).zip l).filter (fun x => decide (0 < x.2.level))).map (fun x => ((1000 * x.2.level + x.1 : Nat) : Int))
    Config.encodeFields 0x0D01 (((List.range 32).map st).flatten ++ ((List.range 16).map dp).flatten ++ up s.fab.escCh.toList ++ [-1] ++ up s.fab.escAs.toList))

/-- `DL_STATUS`, served by its spec (12 R315). -/
def execCmdDlStatus (p : Packet) (s : State) : Host.Outcome State Fault Refusal := s.command specDlStatus p

/-- The refusal of a swap: `BUSY` for a reserve that is named and not free, `NO_CAPACITY` where none is to be proposed. -/
def noReserve (named : Nat) : Reply := .fail (if named = 0xFF then stNoCapacity else stBusy)

/-- `STOPE_SWAP` (09 R221): `SWAP_EPOCH` is the fourth boundary after acceptance. -/
def specStopeSwap : CmdSpec :=
  { opcode := 0x0D02, role := roleInstaller, len := lenIs 4
    param := fun r _ => firstBad [(decide (32 ≤ r.index), 0), (decide (36 ≤ r.arg) && r.arg != 0xFF, 2)]
    changes := fun _ => true
    run := fun r s =>
      let a := s.request r { code := 2, arg := r.index, arg2 := r.arg, sid := r.x.sid, seq := r.p.seq, opcode := r.opcode }
        (fun s => .accepted (s.nextBoundary + 3)) (fun _ => noReserve r.arg)
      if s.fab.stSub.isNone && a.2.fab.stSub.isSome then (a.1, a.2.noteAccepted r a.1.commit r.index) else a }

/-- `STOPE_SWAP`, served by its spec (12 R315). -/
def execCmdStopeSwap (p : Packet) (s : State) : Host.Outcome State Fault Refusal := s.command specStopeSwap p

/-- `DEPUTY_SWAP` (09 R223): the boundary given is the one by which the copy is complete at the latest. -/
def specDeputySwap : CmdSpec :=
  { opcode := 0x0D03, role := roleInstaller, len := lenIs 4
    param := fun r _ => firstBad [(decide (16 ≤ r.index), 0), (decide (18 ≤ r.arg) && r.arg != 0xFF, 2)]
    changes := fun _ => true
    run := fun r s =>
      let a := s.request r { code := 2, arg := 0x100 + r.index, arg2 := r.arg, sid := r.x.sid, seq := r.p.seq, opcode := r.opcode }
        (fun s => .accepted (s.nextBoundary + 50)) (fun _ => noReserve r.arg)
      if s.fab.dpSub.isNone && a.2.fab.dpSub.isSome then (a.1, a.2.noteAccepted r a.1.commit (0x100 + r.index)) else a }

/-- `DEPUTY_SWAP`, served by its spec (12 R315). -/
def execCmdDeputySwap (p : Packet) (s : State) : Host.Outcome State Fault Refusal := s.command specDeputySwap p

/-- `DEEP_TEST` (22 R524): the unit as 18 R451 numbers stopes and deputies; a unit in service is `BUSY`. -/
def specDeepTest : CmdSpec :=
  { opcode := 0x0D04, role := roleInstaller, len := lenIs 4
    param := fun r _ => firstBad [(!(decide (r.index < 36) || decide (0x100 ≤ r.index ∧ r.index < 0x112)), 0), (r.arg != 0, 2)]
    changes := fun _ => true
    run := fun r s =>
      s.request r { code := 6, arg := r.index / 256, arg2 := r.index % 256, sid := r.x.sid, seq := r.p.seq, opcode := r.opcode }
        (fun _ => .ok []) (fun _ => .fail stBusy) }

/-- `DEEP_TEST`, served by its spec (12 R315). -/
def execCmdDeepTest (p : Packet) (s : State) : Host.Outcome State Fault Refusal := s.command specDeepTest p

/-- The bank that `LODE_SWAP` means: the one named, or the one of the canary proposal (09 R230). -/
def State.bankMeant (s : State) (index : Nat) : Option Nat :=
  if index = 0xFF then (s.hea.props.find? (fun p => p.sact == 3 && decide (p.sstate = 0))).map (·.sindex)
  else if index < 68 ∧ vgetD s.smp.lode.use index .retired = .service then some index else none

/-- `LODE_SWAP` (03 R75). -/
def specLodeSwap : CmdSpec :=
  { opcode := 0x0D05, role := roleInstaller, len := lenIs 4
    param := fun r s => firstBad [((s.bankMeant r.index).isNone, 0), (r.arg != 0, 2)]
    changes := fun _ => true
    run := fun r s =>
      s.request r { code := 5, arg := (s.bankMeant r.index).getD 0, arg2 := 0, sid := r.x.sid, seq := r.p.seq, opcode := r.opcode }
        (fun _ => .ok []) (fun _ => .fail stNoCapacity) }

/-- `LODE_SWAP`, served by its spec (12 R315). -/
def execCmdLodeSwap (p : Packet) (s : State) : Host.Outcome State Fault Refusal := s.command specLodeSwap p

/-- `LANE_RENEG` (02 R47). -/
def specLaneReneg : CmdSpec :=
  { opcode := 0x0D06, role := roleInstaller, len := lenIs 4
    param := fun r _ => firstBad [(decide (96 ≤ r.index), 0), (r.arg != 0, 2)]
    changes := fun _ => true
    run := fun r s =>
      s.request r { code := 4, arg := r.index, arg2 := 0, sid := r.x.sid, seq := r.p.seq, opcode := r.opcode }
        (fun _ => .ok []) (fun _ => .fail stBusy) }

/-- `LANE_RENEG`, served by its spec (12 R315). -/
def execCmdLaneReneg (p : Packet) (s : State) : Host.Outcome State Fault Refusal := s.command specLaneReneg p

/-- `ELEM_OUT` (09 R224): `ARG` is `POWER`. -/
def specElemOut : CmdSpec :=
  { opcode := 0x0D07, role := roleInstaller, len := lenIs 4
    param := fun r s => firstBad [(!(s.elem r.index).fitted || decide (96 ≤ r.index), 0), (decide (1 < r.arg), 2)]
    changes := fun _ => true
    run := fun r s => ({ s with fab := { s.fab with elemOut := s.fab.elemOut ++ [(r.index, r.arg)] } }).accept r r.index }

/-- `ELEM_OUT`, served by its spec (12 R315). -/
def execCmdElemOut (p : Packet) (s : State) : Host.Outcome State Fault Refusal := s.command specElemOut p

/-- `ELEM_IN` (09 R224). -/
def specElemIn : CmdSpec :=
  { opcode := 0x0D08, role := roleInstaller, len := lenIs 4
    param := fun r s => firstBad
      [(!(s.elem r.index).fitted || decide (96 ≤ r.index) ||
         !(s.fab.outList.contains r.index || s.fab.elemOut.any (fun x => x.1 == r.index) || (s.lane r.index).state == .off), 0), (r.arg != 0, 2)]
    changes := fun _ => true
    run := fun r s => ({ s with fab := { s.fab with elemIn := s.fab.elemIn ++ [r.index] } }).accept r r.index }

/-- `ELEM_IN`, served by its spec (12 R315). -/
def execCmdElemIn (p : Packet) (s : State) : Host.Outcome State Fault Refusal := s.command specElemIn p

/-- Opcodes whose accepted change goes when an activity is aborted. -/
def actOpcodes (a : Activity) : List Nat := if a.code = 3 then [0x0803] else if a.code = 2 then (if a.arg < 0x100 then [0x0D02] else [0x0D03]) else []

/-- `MAINT_CANCEL` (09 R230): `WHICH` 0 names a place in the queue, counted from 1, `WHICH` 1 an `ACT_ID`. -/
def specMaintCancel : CmdSpec :=
  { opcode := 0x0D09, role := roleInstaller, len := lenIs 8
    param := fun r s => firstBad
      [(decide (1 < u8At r.pay 0), 0), (!zeroAt r.pay 1 3, 1),
       (if u8At r.pay 0 = 0 then u32At r.pay 4 == 0 || decide (s.fab.mqueue.length < u32At r.pay 4)
        else !(s.fab.acts.any (fun a => a.actId == u32At r.pay 4)), 4)]
    changes := fun _ => true
    run := fun r s =>
      if u8At r.pay 0 = 0 then
        let i := u32At r.pay 4
        (.ok [], ({ s with fab := { s.fab with mqueue := s.fab.mqueue.take (i - 1) ++ s.fab.mqueue.drop i } }).walkQueue)
      else
        match s.fab.acts.find? (fun a => a.actId == u32At r.pay 4) with
        | none => (.badParam 4, s)
        | some a =>
          if s.abortable a then
            let t := s.abortAct a
            (.ok [], ({ t with ses := { t.ses with accepted := t.ses.accepted.filter (fun x => !(actOpcodes a).contains x.opcode) } }).walkQueue)
          else (busyMaint a, s) }

/-- `MAINT_CANCEL`, served by its spec (12 R315). -/
def execCmdMaintCancel (p : Packet) (s : State) : Host.Outcome State Fault Refusal := s.command specMaintCancel p

/-- `DL_CLEAR` (09 R230): the counters that `DL_STATUS` reports. -/
def specDlClear : CmdSpec :=
  { opcode := 0x0D0A, role := roleInstaller, len := lenIs 0, changes := fun _ => true
    run := fun _ s =>
      let z (e : Esc) : Esc := { e with misses := 0, heldBack := 0 }
      (.ok [], { s with fab := { s.fab with
        escLs := s.fab.escLs.map z, escLd := s.fab.escLd.map z, escCh := s.fab.escCh.map z, escAs := s.fab.escAs.map z } }) }

/-- `DL_CLEAR`, served by its spec (12 R315). -/
def execCmdDlClear (p : Packet) (s : State) : Host.Outcome State Fault Refusal := s.command specDlClear p

/-- The deadline parameters (09 R230). -/
def dlRows : List (ParRow DlParams) :=
  [natRow 0 1 (·.escReset) (fun a v => { a with escReset := v }), natRow 4 256 (·.escL2n) (fun a v => { a with escL2n := v })]

/-- `DL_PARAMS` (09 R230). -/
def specDlParams : CmdSpec :=
  parSpec 0x8D00 dlRows (·.fab.dlParams) (·.fab.dlStaged) (fun a s => { s with fab := { s.fab with dlStaged := some a } })

/-- `DL_PARAMS`, served by its spec (12 R315). -/
def execCmdDlParams (p : Packet) (s : State) : Host.Outcome State Fault Refusal := s.command specDlParams p

end Sys2Proof.Machine
end

