-- ==== Sys2Proof/Machine/Health.lean ====
section
/-! DEFINITION. Canaries, wear and sparing (22 R519–R525) and the health commands (22 R534). -/

namespace Sys2Proof.Machine

/-- The deep test due flags of the reserves (22 R524), and in the Lyparil profile their tests queued as the installer's would be (22 R525, 09
R227). -/
def State.testsDue (s : State) : State :=
  let units := s.reserveStopes.map (fun n => (0, n)) ++ s.reserveDeputies.map (fun n => (1, n))
  let due (u : Nat × Nat) : Bool := decide ((s.wearOf (wearIndex u.1 u.2)).testTm + 3600000 * s.hea.canary.dtPeriod < s.ms)
  let s1 := units.foldl (fun t u => t.mapWear (wearIndex u.1 u.2) (fun w => { w with testDue := due u })) s
  if !s.lyparil then s1
  else
    (units.filter due).foldl (fun t u =>
      let q : MaintReq := { code := 6, arg := u.1, arg2 := u.2, opcode := 0x0D04, initiator := 1 }
      if t.fab.testing = some u ∨ t.fab.mqueue.any (fun x => x.code == 6 && x.arg == u.1 && x.arg2 == u.2) = true ∨ 4 ≤ t.fab.mqueue.length then t
      else
        match (if t.fab.mqueue.isEmpty && t.fab.devWait.isNone && (t.conflict 6).isNone then t.startReq q else none) with
        | some v => v
        | none => ({ t with fab := { t.fab with mqueue := t.fab.mqueue ++ [q] } }).walkQueue) s1

/-- The rings have been read less than 60 s ago (22 R519). -/
def State.ringsRead (s : State) : Bool := s.hea.ringAt.any (fun m => decide (s.upMs < m + 60000))

/-- A unit's own monitor has been read less than its interval in ms ago (22 R519). -/
def State.unitRead (n interval : Nat) (s : State) : Bool := (s.wearOf n).measAt.any (fun m => decide (s.upMs < m + interval))

/-- `RING_MONITOR` (22 R519): every 60 s the losses of the rings of stopes, deputies, Overman, haulage and time base. -/
def execEvRingMonitor (readings : List WearReading) (s : State) : Host.Outcome State Fault Refusal :=
  .next (
    if !s.awake ∨ s.ringsRead then s
    else
      let t := { s with hea := { s.hea with ringAt := some s.upMs } }
      ((readings.filter (fun r => decide (r.unit < 57))).foldl (fun u r => u.measure r.unit r.value) t.minute).testsDue)

/-- `SRAM_MARGIN_TEST` (22 R519, R523): every 24 h the entry of a memory's bank, its margin in mV, and the row that is to be spared, if any. -/
def execEvSramMarginTest (unit : Nat) (margin : Int) (failedRow : Option Nat) (s : State) : Host.Outcome State Fault Refusal :=
  .next (
    if !s.awake ∨ unit < 187 ∨ 314 ≤ unit ∨ s.unitRead unit 86400000 then s
    else
      let s0 := s.mapWear unit (fun w => { w with measAt := some s.upMs })
      let s1 := match failedRow with
        | some r => s0.spareRow unit r
        | none => s0
      s1.measure unit margin)

/-- `EYE` of an element lane is the last uplink opening measured (02 `EYE`). -/
def State.seeEye (n eye : Nat) (s : State) : State := if n < 96 then s.mapLane n (fun l => { l with eye := eye }) else s

/-- `EYE_MONITOR` (22 R519): each second the mean of lanes EL0 to EL95, then ETH0 and ETH1; a lane has an eye figure at version 3 only. -/
def execEvEyeMonitor (el : Fin 98) (eye : Nat) (s : State) : Host.Outcome State Fault Refusal :=
  let n := 57 + el.val
  .next (
    if !s.awake ∨ s.unitRead n 1000 then s
    else
      let t := s.mapWear n (fun w => { w with measAt := some s.upMs })
      if el.val < 96 ∧ (s.lane el.val).lver ≠ 3 then t.mapWear n (fun w => { w with unmon := true })
      else if 64 < eye then t.badReading n
      else (t.measure n eye).seeEye el.val eye)

/-! ### Commands -/

/-- `HEALTH_STATUS` (22 R534, 17 R429): the island status blocks. -/
def specHealthStatus : CmdSpec :=
  { rangeSpec 0x0C00 (fun _ => 156) (fun _ _ => List.range 156) State.islandBytes with gcp1 := true, hold := true }

/-- `HEALTH_STATUS`, served by its spec (12 R315). -/
def execCmdHealthStatus (p : Packet) (s : State) : Host.Outcome State Fault Refusal := s.command specHealthStatus p

/-- `THERMAL_STATUS` (22 R534). -/
def specThermalStatus : CmdSpec :=
  statusSpec 0x0C01 (fun _ s =>
    let h := s.hea
    Config.encodeFields 0x0C01 ([h.tj, (h.throttle : Int), (h.cap : Int)] ++
      (h.sens.toList.map (fun x => [x.reading, (bbool x.inService : Int)])).flatten ++
      [((h.lastChange.getD 0 : Nat) : Int), (bbool h.lastChange.isSome : Int)]))

/-- `THERMAL_STATUS`, served by its spec (12 R315). -/
def execCmdThermalStatus (p : Packet) (s : State) : Host.Outcome State Fault Refusal := s.command specThermalStatus p

/-- `WEAR_LIST` (22 R519, R534). -/
def specWearList : CmdSpec :=
  rangeSpec 0x0C02 (fun _ => 314) (fun _ _ => List.range 314) (fun s n => s.wearBytes n)

/-- `WEAR_LIST`, served by its spec (12 R315). -/
def execCmdWearList (p : Packet) (s : State) : Host.Outcome State Fault Refusal := s.command specWearList p

/-- `SPARE_LIST` (22 R525, R534): the proposals and the reserve units. -/
def specSpareList : CmdSpec :=
  statusSpec 0x0C03 (fun _ s =>
    Config.encodeFields 0x0C03 ([((min 32 s.hea.props.length : Nat) : Int), (s.reserveStopes.length : Int), (s.reserveDeputies.length : Int)] ++
      s.reserveStopes.map (fun (n : Nat) => (n : Int)) ++ s.reserveDeputies.map (fun (n : Nat) => (n : Int))) ++
      ((s.hea.props.drop (s.hea.props.length - 32)).map Proposal.bytes).flatten)

/-- `SPARE_LIST`, served by its spec (12 R315). -/
def execCmdSpareList (p : Packet) (s : State) : Host.Outcome State Fault Refusal := s.command specSpareList p

/-- An integer row. -/
def intRow {α : Type} (lo hi : Int) (get : α → Int) (set : α → Int → α) : ParRow α := { lo := lo, hi := hi, get := get, set := set }

/-- Rows of `THERMAL_PARAMS` (22 R530). -/
def thermRows : List (ParRow ThermParams) :=
  [intRow (-40) (2 ^ 31 - 1) (·.warn) (fun p v => { p with warn := v }), intRow (-(2 ^ 31)) (2 ^ 31 - 1) (·.thr1) (fun p v => { p with thr1 := v }),
   intRow (-(2 ^ 31)) (2 ^ 31 - 1) (·.thr2) (fun p v => { p with thr2 := v }), intRow (-(2 ^ 31)) (2 ^ 31 - 1) (·.thr3) (fun p v => { p with thr3 := v }),
   intRow (-(2 ^ 31)) thermReset.trip (·.trip) (fun p v => { p with trip := v }), natRow 600 880 (·.cap1) (fun p v => { p with cap1 := v }),
   natRow 600 880 (·.cap2) (fun p v => { p with cap2 := v }), natRow 600 880 (·.cap3) (fun p v => { p with cap3 := v }),
   natRow 10 3600 (·.back) (fun p v => { p with back := v })]

/-- The parameters of a range of R530 between them that breaks. -/
def thermRule (p : ThermParams) : Option (List Nat) :=
  if p.thr1 - 1 < p.warn then some [0, 1]
  else if p.thr2 - 1 < p.thr1 then some [1, 2]
  else if p.thr3 - 1 < p.thr2 then some [2, 3]
  else if p.trip - 2 < p.thr3 then some [3, 4]
  else if p.cap1 < p.cap2 then some [5, 6]
  else if p.cap2 < p.cap3 then some [6, 7]
  else none

/-- `THERMAL_PARAMS` (22 R530). -/
def specThermalParams : CmdSpec :=
  parSpec 0x8C00 thermRows (·.hea.therm) (·.hea.thermStaged) (fun a s => { s with hea := { s.hea with thermStaged := some a } }) thermRule

/-- `THERMAL_PARAMS`, served by its spec (12 R315). -/
def execCmdThermalParams (p : Packet) (s : State) : Host.Outcome State Fault Refusal := s.command specThermalParams p

/-- Rows of `CANARY_PARAMS` (22 R534). -/
def canaryRows : List (ParRow CanaryParams) :=
  [natRow 2 120 (·.eolWarn) (fun p v => { p with eolWarn := v }), natRow 1 60 (·.eolCrit) (fun p v => { p with eolCrit := v }),
   natRow 24 8760 (·.dtPeriod) (fun p v => { p with dtPeriod := v }), natRow 8 32 (·.eyeMin) (fun p v => { p with eyeMin := v }),
   natRow 2 16 (·.rowTrig) (fun p v => { p with rowTrig := v })]

/-- `EOL_WARN` is above `EOL_CRIT` (22 R534). -/
def canaryRule (p : CanaryParams) : Option (List Nat) := if p.eolWarn ≤ p.eolCrit then some [0, 1] else none

/-- `CANARY_PARAMS` (22 R534). -/
def specCanaryParams : CmdSpec :=
  parSpec 0x8C01 canaryRows (·.hea.canary) (·.hea.canaryStaged) (fun a s => { s with hea := { s.hea with canaryStaged := some a } }) canaryRule

/-- `CANARY_PARAMS`, served by its spec (12 R315). -/
def execCmdCanaryParams (p : Packet) (s : State) : Host.Outcome State Fault Refusal := s.command specCanaryParams p

end Sys2Proof.Machine
end

