-- ==== Sys2Proof/Machine/Device.lean ====
section
/-! DEFINITION. The device commands (12 R324) and the reset sources (18 R442–R446, R450, R458). -/

namespace Sys2Proof.Machine

/-! ### Commands -/

/-- `PART` (12 R324): the ordering code, padded to 16 bytes. -/
def partName : List Byte := bpad 16 (ascii (if Config.extended then "GV9600-FBX" else "GV9600-FB"))

/-- The behaviour baseline in force: the charter's; 0 without one. -/
def State.baseline (s : State) : Nat := if s.boo.charter.isEmpty then 0 else charterBaseline s.boo.charter

/-- `DEV_INFO` (12 R324), 60 bytes. -/
def State.devInfo (s : State) : List Byte :=
  let v := s.boo.fwVer
  partName ++ bpad 16 Config.serial ++ b8 0xB0 ++ bz 1 ++ b8 v.1 ++ b8 v.2.1 ++ b16 v.2.2 ++ deviceRange ++ b8 3 ++ b8 2 ++
  b8 (bbool s.lyparil) ++ b8 s.boo.fuses.tlimit.val ++ b8 (bbool s.boo.fuses.maker) ++ bz 1 ++ b16 s.boo.fuses.bfloor.val ++ b16 s.baseline ++ bz 8

/-- `DEV_INFO`. -/
def specDevInfo : CmdSpec :=
  { statusSpec 0x0100 (fun _ s => s.devInfo) with role := roleAll, hold := true, gcp1 := true }

/-- `DEV_INFO`, served by its spec (12 R315). -/
def execCmdDevInfo (p : Packet) (s : State) : Host.Outcome State Fault Refusal := s.command specDevInfo p

/-- `DEV_STATE` (12 R324), 32 bytes. -/
def State.devState (s : State) : List Byte :=
  b8 s.boo.dstate.code ++ b8 (bbool (s.pow.pst == .idle)) ++ b8 s.sol.grade.code ++ b8 (bbool s.sol.holdover) ++ b16 s.pow.rstCause ++
  b8 s.bak.lastWake ++ bz 1 ++ b32 ((s.clk.up - s.pow.leftReset) / secTicks) ++ b64 (s.clk.bnd / epochTicks) ++ b32 s.boo.cgen ++
  b32 ((s.fab.active.map (·.planId)).getD 0) ++
  b16 (bbool s.boo.lockViolation + 2 * bbool (!s.fab.acts.isEmpty) + 4 * bbool (charterTrust s.boo.charter)) ++ bz 2

/-- `DEV_STATE`. -/
def specDevState : CmdSpec :=
  { statusSpec 0x0101 (fun _ s => s.devState) with role := roleAll, hold := true, gcp1 := true }

/-- `DEV_STATE`, served by its spec (12 R315). -/
def execCmdDevState (p : Packet) (s : State) : Host.Outcome State Fault Refusal := s.command specDevState p

/-- `DEV_RESET` (12 R324, 18 R445): the reset comes `DELAY` after the reply; a second request while it waits is turned away. -/
def specDevReset : CmdSpec :=
  { opcode := 0x0102, role := roleInstaller, len := lenIs 8, hold := true, gcp1 := true
    param := fun r _ => firstBad [(decide (u8At r.pay 0 < 1 ∨ 2 < u8At r.pay 0), 0), (!zeroAt r.pay 1 3, 1),
      (decide (u32At r.pay 4 < 10 ∨ 60000 < u32At r.pay 4), 4)]
    changes := fun _ => true
    run := fun r s =>
      if s.pow.delayed.isSome then (.fail stBusy, s)
      else (.ok [], { s with pow := { s.pow with delayed := some (u8At r.pay 0, s.clk.up + epochTicks * u32At r.pay 4) } }) }

/-- `DEV_RESET`, served by its spec (12 R315). -/
def execCmdDevReset (p : Packet) (s : State) : Host.Outcome State Fault Refusal := s.command specDevReset p

/-- `RST_CLEAR` (18 R446): clears the bits of `RST_CAUSE` that `MASK` names; its `CONFIG` record is the tally's note of the clear.
DESIGN CHOICE (log 55): a 1 in bits 13 to 15 of `MASK`, which name reserved bits of `RST_CAUSE`, is answered `BAD_PARAM` as a reserved bit of
a field (R9), not ignored as one of a register (R8). -/
def specRstClear : CmdSpec :=
  { opcode := 0x0104, role := roleInstaller, len := lenIs 2, hold := true
    param := fun r _ => must (decide (u16At r.pay 0 < 0x2000)) 0
    changes := fun _ => true
    run := fun r s => (.ok [], { s with pow := { s.pow with rstCause := s.pow.rstCause &&& (0xFFFF ^^^ u16At r.pay 0) } }) }

/-- `RST_CLEAR`, served by its spec (12 R315). -/
def execCmdRstClear (p : Packet) (s : State) : Host.Outcome State Fault Refusal := s.command specRstClear p

/-- `DEV_FEATURES` (12 R324): what it returns the spec does not say (log 7). -/
def specDevFeatures : CmdSpec :=
  { statusSpec 0x8100 (fun _ _ => Config.encodeFields 0x8100 []) with role := roleInstaller, hold := true }

/-- `DEV_FEATURES`, served by its spec (12 R315). -/
def execCmdDevFeatures (p : Packet) (s : State) : Host.Outcome State Fault Refusal := s.command specDevFeatures p

/-! ### Resets -/

/-- The main domains are powered and not held in reset, so that the debug port and the watchdog can act. -/
def State.mainUp (s : State) : Bool := (s.pow.pst == .run || s.pow.pst == .idle) && !s.held

/-- `POWER_ON_RESET` (18 R442, R446): the main supplies reach their valid levels. -/
def execEvPowerOnReset (strap : Strap) (s : State) : Host.Outcome State Fault Refusal := .next (s.powerOnReset strap false)

/-- `BROWN_OUT` (18 R442, R446). -/
def execEvBrownOut (strap : Strap) (s : State) : Host.Outcome State Fault Refusal := .next (s.powerOnReset strap true)

/-- `RESET_N` (18 R442, R450, R458): low for 1 µs it resets, outside BACKUP, and holds; its rise releases the reset. -/
def execEvResetN (low : Bool) (s : State) : Host.Outcome State Fault Refusal :=
  .next (if !low then { s with pow := { s.pow with resetHeld := false, leftReset := if s.pow.resetHeld then s.clk.up else s.pow.leftReset } }
    else if s.pow.pst = .backup then { s with pow := { s.pow with resetHeld := true } }
    else
      let t := s.systemReset rcPin
      { t with pow := { t.pow with resetHeld := true }, bak := { t.bak with lastWake := 0 } })

/-- `DBG_SYS` (18 R442). -/
def execEvDbgSys (s : State) : Host.Outcome State Fault Refusal := .next (if s.mainUp then s.systemReset rcDbgSys else s)

/-- `DBG_CORE` (18 R442). -/
def execEvDbgCore (s : State) : Host.Outcome State Fault Refusal := .next (if s.mainUp then s.coreReset rcDbgCore else s)

/-- `WATCHDOG` (18 R442, R443): 2 s without a kick, which the firmware makes. The watchdog pauses in IDLE and the sleep states and counts anew after
them; in BOOT it has not begun. -/
def execEvWatchdog (s : State) : Host.Outcome State Fault Refusal :=
  .next (if s.mainUp ∧ s.pow.pst = .run ∧ s.boo.dstate ≠ .boot ∧ s.pow.wdFrom + 2 * secTicks ≤ s.clk.up then s.coreReset rcWdog else s)

/-- `RESET_DELAY_EXPIRY` (18 R445, 13 R349): the delayed reset takes place; nothing is due before its time. -/
def execEvResetDelayExpiry (s : State) : Host.Outcome State Fault Refusal :=
  .next (match s.pow.delayed with
    | some (level, due) =>
      if s.clk.up < due then s
      else
        let t := { s with pow := { s.pow with delayed := none } }
        if level = 1 then t.systemReset rcCmdSys else t.coreReset rcCmdCore
    | none => s)

/-- `THERMAL_TRIP_RELEASE` (18 R444): 15 °C below the trip point the reset that a trip holds ends. -/
def execEvThermalTripRelease (s : State) : Host.Outcome State Fault Refusal :=
  .next (if s.pow.thermHold ∧ s.hea.tj ≤ 4 * s.hea.therm.trip - 60 then
      { s with pow := { s.pow with thermHold := false, leftReset := s.clk.up } } else s)

end Sys2Proof.Machine
end

