-- ==== Sys2Proof/Machine/LocalPorts.lean ====
section
/-! DEFINITION. The local ports (20): UARTs, SPI host port, wake port, event inputs; their events and the commands of group 0x10. -/

namespace Sys2Proof.Machine

/-! ### UARTs -/

/-- The UART of a number. -/
def State.uart (s : State) (n : Nat) : UartState := vgetD s.por.uart n {}

/-- Changes one UART. -/
def State.mapUart (n : Nat) (f : UartState → UartState) (s : State) : State :=
  { s with por := { s.por with uart := vupdN s.por.uart n f } }

/-- A bit time in units of 1 / 3.2 GHz (20 R481). -/
def UartParams.bitUnits (p : UartParams) : Nat := 256 * p.udiv + p.ufrac

/-- Bits of a character (20 UART parameters). -/
def UartParams.charBits (p : UartParams) : Nat := 1 + p.ubits + bbool (p.upar != 0) + p.ustop

/-- Ticks of `n` sixteenths of a bit, counted up. -/
def UartParams.sixteenths (p : UartParams) (n : Nat) : Nat := ceilDiv (n * p.bitUnits * 81840000) 51200000000

/-- Ticks of `n` character times. -/
def UartParams.chars (p : UartParams) (n : Nat) : Nat := p.sixteenths (16 * n * p.charBits)

/-- Microseconds of `n` character times. -/
def UartParams.charsUs (p : UartParams) (n : Nat) : Nat := n * p.charBits * p.bitUnits / 3200

/-- UDEn is active (20 R487, UDUPLEX). -/
def UartState.driver (u : UartState) : Bool := if u.par.uduplex = 0 then u.par.umode != 0 else u.ude

/-- The receiver ignores RXD for its own echo (20 `UECHO`): in half duplex, while UDEn is active and for one bit after. -/
def UartState.echo (up : Nat) (u : UartState) : Bool :=
  u.par.uecho == 1 && u.par.uduplex == 1 && (decide (up < u.txEnd) || (u.txEnd != 0 && decide (up ≤ u.txEnd + u.par.sixteenths 16)))

/-- The level of a character's bit (20 R482, R485): the majority of its three samples; in synchronous mode, of the one on the clock's rising
edge. Bits beyond the last sampled one are mark. -/
def UartParams.level (p : UartParams) (c : UartChar) (i : Nat) : Bool :=
  let x := c.bits.getD i 7#3
  if p.umode = 2 then x.getLsbD 1
  else (x.getLsbD 0 && x.getLsbD 1) || (x.getLsbD 0 && x.getLsbD 2) || (x.getLsbD 1 && x.getLsbD 2)

/-- The data of a character, the first data bit the least significant (PRESUMED: log 58). -/
def UartParams.data (p : UartParams) (c : UartChar) : Byte :=
  BitVec.ofNat 8 ((List.range p.ubits).foldl (fun a i => a + 2 ^ i * bbool (p.level c (i + 1))) 0)

/-- The parity bit agrees (20 `UPAR`): with it the ones are even in number, or odd. -/
def UartParams.parityOk (p : UartParams) (c : UartChar) : Bool :=
  p.upar == 0 || ((List.range (p.ubits + 1)).foldl (fun a i => a + bbool (p.level c (i + 1))) 0) % 2 == p.upar - 1

/-- Every stop bit is mark. -/
def UartParams.stopOk (p : UartParams) (c : UartChar) : Bool := (List.range p.ustop).all (fun i => p.level c (p.charBits - 1 - i))

/-- Data, parity and stop bits are all 0: a break (20 R488). -/
def UartParams.allZero (p : UartParams) (c : UartChar) : Bool := (List.range (p.charBits - 1)).all (fun i => !p.level c (i + 1))

/-- The three samples of some bit disagree (20 R482). -/
def UartParams.noisy (p : UartParams) (c : UartChar) : Bool :=
  p.umode == 1 && (List.range p.charBits).any (fun i => let x := c.bits.getD i 7#3; x != 0#3 && x != 7#3)

/-- Bits at the end of a character that hold its last level. -/
def UartParams.tail (p : UartParams) (c : UartChar) : Nat :=
  ((List.range p.charBits).takeWhile (fun i => p.level c (p.charBits - 1 - i) == p.level c (p.charBits - 1))).length

/-- A low period of RXD counts one break (20 R488). -/
def UartState.break_ (since : Nat) (u : UartState) : UartState :=
  let v := { u with rxd := false, lowSince := some since, waitMark := true }
  if u.breakTold then v else { v with breakTold := true, breaks := satAdd 0xFFFF u.breaks 1 }

/-- RXD is at mark again (20 R488). -/
def UartState.mark (since : Nat) (u : UartState) : UartState :=
  { u with rxd := true, lowSince := none, breakTold := false, waitMark := false, markSince := since }

/-- A U0 frame ends unused: it counts in `FRMERR` (20 R491). -/
def UartState.frameBad (u : UartState) : UartState := { u with frmerr := satAdd 0xFFFF u.frmerr 1, frame := {} }

/-- The frame in progress holds something. -/
def FrameAsm.started (f : FrameAsm) : Bool := f.inside && (!f.bytes.isEmpty || f.esc || f.bad)

/-- The gap after the last character of a frame has passed 10 ms at an up-tick, where the next one starts (20 R491). -/
def FrameAsm.gap (up : Nat) (f : FrameAsm) : Bool := f.started && decide (f.lastUp + 818400 < up)

/-- The unescaped bytes of a frame hold a packet: length and CRC (20 R491). -/
def frameGood (b : List Byte) : Bool :=
  decide (28 ≤ b.length ∧ b.length ≤ 1452) && u32At b (b.length - 4) == crc32 (b.take (b.length - 4))

/-- A character comes to the assembly of U0's frames (20 R491); a completed packet is answered. `err` marks a character error or a break. -/
def UartState.frameByte (up : Nat) (c : Byte) (err : Bool) (u : UartState) : UartState × Option (List Byte) :=
  let f := u.frame
  let fresh : FrameAsm := { inside := true, lastUp := up }
  if c = 0x7E#8 ∧ err = false then
    if !f.started then ({ u with frame := fresh }, none)
    else if f.bad || f.esc || !frameGood f.bytes then ({ u.frameBad with frame := fresh }, none)
    else ({ u with frame := fresh }, some (f.bytes.take (f.bytes.length - 4)))
  else if !f.inside then (u, none)
  else
    let g := { f with lastUp := up }
    if err then ({ u with frame := { g with bad := true } }, none)
    else if f.esc then
      if c = 0x5E#8 then ({ u with frame := { g with esc := false, bytes := f.bytes ++ [0x7E#8] } }, none)
      else if c = 0x5D#8 then ({ u with frame := { g with esc := false, bytes := f.bytes ++ [0x7D#8] } }, none)
      else ({ u with frame := { g with esc := false, bad := true } }, none)
    else if c = 0x7D#8 then ({ u with frame := { g with esc := true } }, none)
    else ({ u with frame := { g with bytes := if f.bytes.length < 1453 then f.bytes ++ [c] else f.bytes } }, none)

/-- The Overman takes a character out of the holding register (20 R483, R486, R491). -/
def State.takeChar (n : Nat) (c : Byte) (err : Bool) (s : State) : State :=
  let u := s.uart n
  if u.par.ufunc = 3 then
    s.mapUart n (fun u => if u.rxq.length < 1024 then { u with rxq := u.rxq ++ [c] } else { u with ovr := satAdd 0xFFFF u.ovr 1 })
  else if u.par.ufunc = 0 then
    let v := if u.frame.gap (s.clk.up - u.par.chars 1) then u.frameBad else u
    let r := v.frameByte s.clk.up c err
    let t := s.mapUart n (fun _ => r.1)
    match r.2 with
    | some b => { t with por := { t.por with u0in := t.por.u0in ++ [b] } }
    | none => t
  else s

/-- The Overman runs its code: not in BOOT. -/
def State.overmanUp (s : State) : Bool := s.boo.dstate != .boot

/-- The Overman empties the holding register (20 R483). -/
def State.takeHold (n : Nat) (s : State) : State :=
  match (s.uart n).hold with
  | some h => (s.mapUart n (fun u => { u with hold := none })).takeChar n h.1 h.2
  | none => s

/-- Counts a character with its errors (20 R482, R486). -/
def UartState.counted (c : UartChar) (u : UartState) : UartState :=
  { u with
    rxchr := (u.rxchr + 1) % 2 ^ 32
    noise := if u.par.noisy c then satAdd 0xFFFF u.noise 1 else u.noise
    parity := if u.par.parityOk c then u.parity else satAdd 0xFFFF u.parity 1
    framing := if u.par.stopOk c then u.framing else satAdd 0xFFFF u.framing 1 }

/-- RXD after a character that is no break: at mark, or low since its last falling edge, which counts no break of its own (20 R482, R488). -/
def UartState.lineAfter (since : Nat) (high : Bool) (u : UartState) : UartState :=
  if high then (if u.dead then { u with rxd := true, lowSince := none, breakTold := false, waitMark := false, markSince := since } else u.mark since)
  else { u with rxd := false, lowSince := some since, breakTold := true, waitMark := true }

/-- A character has been received on a UART that is on (20 R482, R483, R485, R488): at the middle of its last bit. -/
def State.uartChar (n : Nat) (c : UartChar) (s : State) : State :=
  let p := (s.uart n).par
  let since := s.clk.up - p.sixteenths (16 * p.tail c - 8)
  if p.allZero c then
    let t := s.mapUart n (fun u => { u with breakTold := false }.break_ since)
    if p.ufunc = 0 then t.takeChar n 0#8 true else t
  else
    let t := s.mapUart n (UartState.lineAfter since (p.stopOk c))
    if p.ufunc = 1 ∨ p.ufunc = 2 then t
    else
      let t1 := t.mapUart n (UartState.counted c)
      let err := !p.parityOk c || !p.stopOk c
      if t1.overmanUp then (t1.takeHold n).takeChar n (p.data c) err
      else t1.mapUart n (fun u => if u.hold.isSome then { u with ovr := satAdd 0xFFFF u.ovr 1 } else { u with hold := some (p.data c, err) })

/-- `UART_CHARACTER` (20 R482): the reception of a character completes; the receiver of a UART that is off, in reset or listening to its own
echo takes none, nor does it at a false start or, after a framing error, before RXD has been at mark for one bit time. -/
def execEvUartCharacter (n : Fin 4) (c : UartChar) (s : State) : Host.Outcome State Fault Refusal :=
  let u := s.uart n
  .next (
    if s.mainUp ∧ u.par.umode ≠ 0 ∧ u.echo s.clk.up = false ∧ u.par.level c 0 = false ∧ (u.waitMark = false ∨ 16 ≤ c.mark) then s.uartChar n c
    else s)

/-- `FLT_LINE_DEAD` (20 R489). -/
def State.lineDead (line us : Nat) (s : State) : State := s.report 0x1801 2 0xFF line (b8 line ++ b8 0 ++ bz 2 ++ b32 us)

/-- `LINE_DEAD` (20 R488): RXD stays low until 64 character times after its falling edge, which is now where no character showed it. -/
def execEvLineDead (n : Fin 4) (s : State) : Host.Outcome State Fault Refusal :=
  let u := s.uart n
  .next (
    if !s.mainUp ∨ u.par.umode = 0 ∨ u.dead then s
    else
      let since := u.lowSince.getD s.clk.up
      let t := s.wait (since + u.par.chars 64 - s.clk.up)
      (t.mapUart n (fun u => { u.break_ since with dead := true, deads := satAdd 0xFFFF u.deads 1 })).lineDead n (u.par.charsUs 64))

/-- `LINE_RECOVER` (20 R488): RXD has been at mark for one character time. -/
def execEvLineRecover (n : Fin 4) (s : State) : Host.Outcome State Fault Refusal :=
  let u := s.uart n
  .next (
    if !s.mainUp ∨ u.par.umode = 0 ∨ (u.dead = false ∧ u.lowSince = none) then s
    else
      let t := s.mapUart n (fun u => { u.mark (s.clk.up - u.par.chars 1) with dead := false })
      if u.dead then t.faultClear 0x1801 n else t)

/-- A byte in a U0 frame, escaped (20 R491). -/
def escaped (c : Byte) : List Byte := if c = 0x7E#8 then [0x7D#8, 0x5E#8] else if c = 0x7D#8 then [0x7D#8, 0x5D#8] else [c]

/-- A U0 frame (20 R491). -/
def frameOf (b : List Byte) : List Byte := [0x7E#8] ++ ((b ++ b32 (crc32 b)).map escaped).flatten ++ [0x7E#8]

/-- The time-of-day frame of a UART in function 2 (20 R484, 11 R289): the port number it carries and the bits of a port's state are free. -/
def State.uartTod (n sec : Nat) (s : State) : List Byte × State :=
  let f := s.takeBytes 2
  let ann := s.sol.rec_.leapAnn
  let flags := bbool s.sol.holdover + 2 * bbool s.sol.rec_.utcValid + 4 * bbool (ann != 0) + 8 * bbool (decide (ann < 0)) +
    16 * ((f.1.getD 0 0).toNat % 4)
  let b := b16 0x5447 ++ b8 1 ++ b8 flags ++ leBytes 6 sec ++ b8 (bitsOf 8 ((s.syn.utc.map (·.2)).getD 0)) ++ b8 s.sol.grade.code ++
    b16 s.teEst ++ f.1.drop 1 ++ bz 1 ++ b16 (s.uart n).todSeq
  (b ++ b16 (crc16 b), f.2)

/-- What a UART's function has ready comes into its queue: the replies and reports of U0, the frame of a new second in function 2. -/
def State.uartFill (n : Nat) (s : State) : State :=
  let u := s.uart n
  if u.par.ufunc = 0 then
    let l := s.ses.out.filter (fun p => p.transport == 5)
    let t := { s with ses := { s.ses with out := s.ses.out.filter (fun p => p.transport != 5) } }
    t.mapUart n (fun u => { u with txq := u.txq ++ (l.map (fun p => frameOf p.bytes)).flatten })
  else if u.par.ufunc = 2 ∧ u.todSec ≠ s.ms / 1000 ∧ s.boo.dstate = .run then
    let r := s.uartTod n (s.ms / 1000)
    r.2.mapUart n (fun u => { u with txq := u.txq ++ r.1, todSec := s.ms / 1000, todSeq := (u.todSeq + 1) % 65536 })
  else s

/-- The staged settings take effect once nothing is being sent (20 R484). -/
def UartState.settle (u : UartState) : UartState :=
  if u.txBusy || !u.txq.isEmpty then u
  else match u.staged with | some p => { u with par := p, staged := none, ude := u.ude && p.uduplex == 1 } | none => u

/-- The driver is released after the tail (20 R487). -/
def UartState.release (up : Nat) (u : UartState) : UartState :=
  if u.txBusy && decide (u.txEnd ≤ up) then { u with txBusy := false, ude := false } else u

/-- The transmitter's next step at an up-tick (20 R487): characters queued before the tail ends join the transmission in progress; without more the
driver is released after the tail; a new one starts, in half duplex only after `TURN_GAP` of mark. -/
def UartState.transmit (up : Nat) (u0 : UartState) : UartState :=
  let u := u0.release up
  let half := u.par.uduplex == 1
  let lead := if half then u.par.sixteenths u.par.deLead else 0
  let tail := if half then u.par.sixteenths u.par.deTail else 0
  if u.txq.isEmpty then u.settle
  else if u.txBusy then
    { u with txd := u.txd ++ u.txq, txq := [], txEnd := max (u.txEnd - tail) up + u.par.chars u.txq.length + tail }
  else if half && (u.lowSince.isSome || decide (up < u.markSince + u.par.chars u.par.turnGap)) then u
  else { u with txBusy := true, ude := half, txd := u.txq, txq := [], txEnd := up + lead + u.par.chars u.txq.length + tail }

/-- `UART_TRANSMIT` (20 R487): the output pauses while the Overman does not run (18). -/
def execEvUartTransmit (n : Fin 4) (s : State) : Host.Outcome State Fault Refusal :=
  .next (if s.mainUp ∧ s.overmanUp ∧ (s.uart n).par.umode ≠ 0 then (s.uartFill n).mapUart n (UartState.transmit s.clk.up) else s)

/-- `U0_GAP_TIMEOUT` (20 R491): 10 ms after the last character of a frame in progress, the frame is discarded. -/
def execEvU0GapTimeout (s : State) : Host.Outcome State Fault Refusal :=
  let u := s.uart 0
  .next (
    if s.mainUp ∧ u.par.umode ≠ 0 ∧ u.par.ufunc = 0 ∧ u.frame.started then
      (s.wait (u.frame.lastUp + 818401 - s.clk.up)).mapUart 0 UartState.frameBad
    else s)

/-! ### SPI host port -/

/-- CS_N falls (20 R494): wake code 6. The transfer that wakes from a sleep state is not executed (18 R455); answers whether it is. -/
def State.spiSelect (s : State) : Bool × State :=
  let awake := s.mainUp && s.pow.entry.isNone
  (awake, if s.held then s else s.wake 6 0)

/-- `SPI_WR` (20 R492, R493): the bytes that the host sends after the first one; `whole` tells that CS_N rose after the last of them and not
within it. -/
def execEvSpiWr (bytes : List Byte) (whole : Bool) (s : State) : Host.Outcome State Fault Refusal :=
  let r := s.spiSelect
  let l := u16At bytes 0
  let p := (bytes.drop 2).take l
  let got := if whole then bytes.length else bytes.length - 1
  let fail := decide (got < 6 + l) || u32At bytes (2 + l) != crc32 p
  let ok := !fail && decide (24 ≤ l ∧ l ≤ 1448)
  .next (
    if !r.1 then r.2
    else
      let q := s.por.spi.inq
      let full := ok && decide (4 ≤ q.length)
      { r.2 with por := { r.2.por with spi :=
        { inq := if ok && !full then q ++ [p] else q, wrFail := fail, wrFull := full, miso := List.replicate bytes.length 0 } } })

/-- `SPI_RD` (20 R492, R494): the head of the outgoing queue; it leaves the queue when CS_N rises after its last CRC byte. -/
def execEvSpiRd (complete : Bool) (s : State) : Host.Outcome State Fault Refusal :=
  let r := s.spiSelect
  .next (
    if !r.1 then r.2
    else
      match s.ses.out.find? (fun p => p.transport == 4) with
      | none => { r.2 with por := { r.2.por with spi := { r.2.por.spi with miso := b16 0 } } }
      | some p =>
        let t := { r.2 with por := { r.2.por with spi := { r.2.por.spi with miso := b16 p.bytes.length ++ p.bytes ++ b32 (crc32 p.bytes) } } }
        if complete then { t with ses := { t.ses with out := dropFirst (fun p => p.transport == 4) t.ses.out } } else t)

/-- `SPI_ST` (20 R492). -/
def execEvSpiSt (s : State) : Host.Outcome State Fault Refusal :=
  let r := s.spiSelect
  let q := s.ses.out.find? (fun p => p.transport == 4)
  let x := s.por.spi
  let st := bbool q.isSome + 2 * bbool (decide (x.inq.length < 4)) + 4 * bbool x.wrFail + 8 * bbool x.wrFull
  .next (
    if !r.1 then r.2
    else { r.2 with por := { r.2.por with spi := { x with miso := b8 st ++ b16 ((q.map (fun p => p.bytes.length)).getD 0) ++ bz 1 } } })

/-- SPI_IRQ_N is low: the outgoing queue holds a packet (20 R494). -/
def State.spiIrq (s : State) : Bool := s.ses.out.any (fun p => p.transport == 4)

/-! ### Wake port -/

/-- Changes the wake port. -/
def State.mapWakePort (f : WakePortState → WakePortState) (s : State) : State := { s with por := { s.por with wakePort := f s.por.wakePort } }

/-- `WAKE_PORT_MATCH` (20 R495, R496): START and an address; a match is acknowledged, and in IDLE, RETAIN, LAMP and BACKUP it is wake code 1 and
the rest of the transaction is ignored. -/
def execEvWakePortMatch (addr : BitVec 7) (read : Bool) (s : State) : Host.Outcome State Fault Refusal :=
  .next (
    if !s.bak.wen ∨ s.por.wakePort.sdaDead then s
    else if addr.toNat ≠ s.bak.wkpAddr then s.mapWakePort (fun w => { w with ack := false, reading := false, ignoring := true })
    else (s.mapWakePort (fun w => { w with ack := true, reading := read, ignoring := s.pow.pst != PowState.run })).wake 1 0)

/-- `WAKE_PORT_READ` (20 R496): the bytes of a matched read: four in RUN, and 0xFF for all others. -/
def execEvWakePortRead (count : Nat) (s : State) : Host.Outcome State Fault Refusal :=
  let w := s.por.wakePort
  let four := b8 s.boo.dstate.code ++ b8 s.sol.grade.code ++ b8 (bbool s.sol.holdover) ++ b8 s.bak.lastWake
  let l := (if w.ignoring then [] else four) ++ List.replicate count 0xFF#8
  .next (if w.reading then s.mapWakePort (fun w => { w with reply := l.take count, reading := false, ack := false }) else s)

/-- `BUS_CLEAR` (20 R497): SDA has been low for 35 ms with SCL high; up to 9 pulses, until SDA is high after `risesAt` of them. While the line
stays dead it is repeated every second; `risesAt` 0 tells that SDA has risen by itself. -/
def execEvBusClear (risesAt : Option Nat) (s : State) : Host.Outcome State Fault Refusal :=
  let w := s.por.wakePort
  let up := s.mainUp && s.bak.wen
  .next (
    if !up ∨ (w.sdaDead ∧ s.upMs < w.clearMs + 1000 ∧ risesAt ≠ some 0) ∨ (!w.sdaDead ∧ risesAt = some 0) then s
    else
      let t := s.mapWakePort (fun w => { w with ack := false, reading := false, clearMs := s.upMs })
      match risesAt.filter (fun k => decide (k ≤ 9)) with
      | some k =>
        let u := t.mapWakePort (fun w => { w with pulses := k, sdaDead := false })
        if w.sdaDead then u.faultClear 0x1801 4 else u
      | none =>
        let u := t.mapWakePort (fun w => { w with pulses := 9, sdaDead := true })
        if w.sdaDead then u else u.lineDead 4 35090)

/-- `SCL_STUCK` (20 R497): SCL low for 35 ms clears the matcher; when the GV9600 is awake it reports. -/
def execEvSclStuck (s : State) : Host.Outcome State Fault Refusal :=
  .next (
    if !s.bak.wen then s
    else
      let t := s.mapWakePort (fun w => { w with ack := false, reading := false, ignoring := false })
      if s.mainUp then t.lineDead 5 35000 else t)

/-! ### Event inputs -/

/-- The event input of a number. -/
def State.evin (s : State) (n : Nat) : EvinState := vgetD s.por.ev n {}

/-- Changes one event input. -/
def State.mapEvin (n : Nat) (f : EvinState → EvinState) (s : State) : State := { s with por := { s.por with ev := vupdN s.por.ev n f } }

/-- An edge selected by `EV_EDGE`. -/
def EvParams.selects (p : EvParams) (rising : Bool) : Bool := bit p.edge (if rising then 0 else 1)

/-- Why an edge merges (20 R499): within 100 ns of the last stamped edge or into a full FIFO, or beyond the rate (`true`). -/
def EvinState.merges (at_ : Nat) (e : EvinState) : Option Bool :=
  let near := match e.lastStamp with | some l => decide ((at_ - l) * 1000 ≤ 2095104) | none => false
  if near then some false
  else if e.par.rmax ≤ e.secStamps then some true
  else if 256 ≤ e.fifo.length then some false
  else none

/-- A selected edge of an input in RUN or IDLE (20 R498–R500): stamped, or merged. -/
def State.eventEdge (n : Nat) (edge : EvEdge) (s : State) : State :=
  let at_ := 256 * edge.tick + edge.frac % 256
  let sec := edge.tick / secTicks
  let e0 := s.evin n
  let e := if e0.sec = sec then e0 else { e0 with sec := sec, secStamps := 0, secMerged := 0, storm := false }
  match e.merges at_ with
  | none =>
    let x : EvStamp := { etk := edge.tick % 2 ^ 48, efr := edge.frac % 256, ein := n, eedge := bbool edge.rising, emrg := e.emrg }
    let t := s.mapEvin n (fun _ =>
      { e with fifo := e.fifo ++ [x], emrg := 0, lastStamp := some at_, secStamps := e.secStamps + 1, nstamp := satAdd 0xFFFFFFFF e.nstamp 1 })
    let u := t.fire 2 n edge.tick
    if s.levelWake 2 n && !edge.rising then u else u.wake 2 n
  | some rate =>
    let t := s.mapEvin n (fun _ =>
      { e with emrg := satAdd 0xFFFF e.emrg 1, merge := satAdd 0xFFFFFFFF e.merge 1
               secMerged := if rate then satAdd 0xFFFF e.secMerged 1 else e.secMerged, storm := e.storm || rate })
    if rate && !e.storm then t.report 0x1802 1 e.par.owner n (b8 n ++ bz 1 ++ b16 (e.secMerged + 1)) else t

/-- `EVENT_EDGE` (20 R498): an edge whose level has held for `EV_MINW`. In the sleep states an edge only wakes; in BACKUP and in reset it does
nothing. -/
def execEvEventEdge (n : Fin 8) (edge : EvEdge) (s0 : State) : Host.Outcome State Fault Refusal :=
  let p := (s0.evin n).par
  .next (
    if s0.held = true ∨ s0.pow.pst = .backup ∨ edge.held < p.minw then s0
    else
      let t0 := s0.wait (edge.tick + ceilDiv (p.minw * 8184) 100000 - s0.clk.tick)
      let s := t0.mapEvin n (fun e => { e with level := edge.rising, lastEdge := t0.clk.up - (t0.clk.tick - edge.tick) })
      if !p.selects edge.rising then s
      else if s.mainUp then s.eventEdge n edge
      else if s.levelWake 2 n && !edge.rising then s else s.wake 2 n)

/-! ### Commands -/

/-- Rows of `UART_SET` (20 R484). -/
def uartRows : List (ParRow UartParams) :=
  [natRow 0 2 (·.umode) (fun p v => { p with umode := v }), natRow 0 3 (·.ufunc) (fun p v => { p with ufunc := v }),
   natRow 7 8 (·.ubits) (fun p v => { p with ubits := v }), natRow 0 2 (·.upar) (fun p v => { p with upar := v }),
   natRow 1 2 (·.ustop) (fun p v => { p with ustop := v }), natRow 1 65535 (·.udiv) (fun p v => { p with udiv := v }),
   natRow 0 255 (·.ufrac) (fun p v => { p with ufrac := v }), natRow 0 1 (·.uduplex) (fun p v => { p with uduplex := v }),
   natRow 0 1 (·.uecho) (fun p v => { p with uecho := v }), natRow 0 1 (·.usclk) (fun p v => { p with usclk := v })]

/-- Rows of `UART_TIMING` (20 R487). -/
def uartTimingRows : List (ParRow UartParams) :=
  [natRow 0 255 (·.deLead) (fun p v => { p with deLead := v }), natRow 0 255 (·.deTail) (fun p v => { p with deTail := v }),
   natRow 0 255 (·.turnGap) (fun p v => { p with turnGap := v })]

/-- The rule of R484 that settings break, as its parameters: function 0 off U0, half duplex in synchronous mode, a rate outside R481. -/
def uartRule (n : Nat) (p : UartParams) : Option (List Nat) :=
  if n ≠ 0 ∧ p.ufunc = 0 then some [1]
  else if p.uduplex = 1 ∧ p.umode = 2 then some [7, 0]
  else if (p.udiv = 1 ∧ p.ufrac ≠ 0) ∨ 3200000000 < 300 * p.bitUnits then some [5, 6]
  else none

/-- Sets a UART's settings (20 R484): at once when it is idle and `now` holds, otherwise once it has become so. -/
def State.setUart (n : Nat) (p : UartParams) (now : Bool) (s : State) : State :=
  s.mapUart n (fun u =>
    let v := { u with staged := some p }
    if now then v.settle else v)

/-- A parameter command over a UART (20 R484, R487). The reply that leaves on the UART itself goes out under the old settings. -/
def uartSpec (opcode : Nat) (rows : List (ParRow UartParams)) : CmdSpec :=
  let base (n : Nat) (s : State) : UartParams := (s.uart n).staged.getD (s.uart n).par
  let c := parCmd opcode roleInstaller rows (fun n _ => decide (3 < n)) (fun n s => (s.uart n).par) base
    (fun r p s => (.ok [], s.setUart r.scope p (!(r.scope == 0 && r.p.transport == 5))))
  { c with param := fun r s =>
      match c.param r s with
      | some f => some f
      | none => if r.npar = 0 then none
                else (uartRule r.scope (parApply rows r.pars (base r.scope s))).map (fun l => parRuleField l r.pars) }

/-- `UART_SET` (20 R484). -/
def specUartSet : CmdSpec :=
  uartSpec 0x1000 uartRows

/-- `UART_SET`, served by its spec (12 R315). -/
def execCmdUartSet (p : Packet) (s : State) : Host.Outcome State Fault Refusal := s.command specUartSet p

/-- `UART_TIMING` (20 R487). -/
def specUartTiming : CmdSpec :=
  uartSpec 0x9000 uartTimingRows

/-- `UART_TIMING`, served by its spec (12 R315). -/
def execCmdUartTiming (p : Packet) (s : State) : Host.Outcome State Fault Refusal := s.command specUartTiming p

/-- `USTATE`. -/
def UartState.code (u : UartState) : Nat :=
  if u.par.umode = 0 then 0 else if u.dead then 3 else if u.txBusy then 2 else 1

/-- The UART status block (20), and `RXN` received bytes behind it. -/
def UartState.status (u : UartState) (rx : List Byte) : List Byte :=
  b8 u.code ++ b8 (bbool u.rxd + 2 * bbool u.driver) ++ b16 rx.length ++ b32 u.rxchr ++ b16 u.noise ++ b16 u.framing ++ b16 u.parity ++
  b16 u.ovr ++ b16 u.breaks ++ b16 u.deads ++ b16 u.frmerr ++ b16 u.txq.length ++ rx

/-- `UART_STATUS` (20 R490). -/
def specUartStatus : CmdSpec :=
  { opcode := 0x1001
    role := fun r _ => r.role == 2 || (r.role != 0 && r.arg == 0)
    len := fun r => decide (4 ≤ r.pay.length) && r.pay.length == 4 + r.arg
    idle := true
    param := fun r s => firstBad [(decide (3 < r.index), 0), (decide (256 < r.arg) || (r.arg != 0 && (s.uart r.index).par.ufunc != 3), 2)]
    changes := fun r => r.arg != 0
    run := fun r s =>
      let u := s.uart r.index
      if 2048 < u.txq.length + r.arg then (.fail stBusy, s)
      else
        let v := { u with txq := u.txq ++ r.pay.drop 4, rxq := u.rxq.drop 1024 }
        (.ok (v.status (u.rxq.take 1024)), s.mapUart r.index (fun _ => v)) }

/-- `UART_STATUS`, served by its spec (12 R315). -/
def execCmdUartStatus (p : Packet) (s : State) : Host.Outcome State Fault Refusal := s.command specUartStatus p

/-- Rows of `EVIN_SET` (20 R498). -/
def evinRows : List (ParRow EvParams) :=
  [natRow 0 3 (·.edge) (fun p v => { p with edge := v }), natRow 0 10000 (·.minw) (fun p v => { p with minw := v }),
   natRow 1 100000 (·.rmax) (fun p v => { p with rmax := v }),
   { lo := 0, hi := 255, get := fun p => (p.owner : Int), set := fun p v => { p with owner := v.toNat }
     also := fun v => decide (v ≤ 7) || v == 255 }]

/-- `EVIN_SET` (20 R498). -/
def specEvinSet : CmdSpec :=
  parCmd 0x1002 roleInstaller evinRows (fun n _ => decide (7 < n)) (fun n s => (s.evin n).par) (fun n s => (s.evin n).par)
    (fun r a s => (.ok [], s.mapEvin r.scope (fun e => { e with par := a })))

/-- `EVIN_SET`, served by its spec (12 R315). -/
def execCmdEvinSet (p : Packet) (s : State) : Host.Outcome State Fault Refusal := s.command specEvinSet p

/-- An entry of `EVIN_STATUS` (12 R322). -/
def State.evinBytes (s : State) (n : Nat) : List Byte :=
  let e := s.evin n
  b8 n ++ b8 (bbool e.level) ++ b16 e.fifo.length ++ b32 e.merge ++ b32 (min 0xFFFFFFFF ((s.clk.up - e.lastEdge) / epochTicks)) ++ b32 e.nstamp

/-- The event inputs that a session sees (12 R319). -/
def State.evinSeen (r : Req) (s : State) : List Nat :=
  (List.range 8).filter (fun n => r.role != 1 || (s.evin n).par.owner == 0xFF || (s.evin n).par.owner == r.x.tenant)

/-- `EVIN_STATUS` (12 R322): the read clears `EV_MERGE` of the entries it returns. -/
def specEvinStatus : CmdSpec :=
  { rangeSpec 0x1003 (fun _ => 8) (fun r s => s.evinSeen r) State.evinBytes with
    run := fun r s =>
      let l := (s.evinSeen r).filter (fun u => decide (r.index ≤ u))
      let shown := if r.arg = 0 then l else l.take r.arg
      (.ok (rangeReply (s.evinSeen r) r.index r.arg s.evinBytes),
       shown.foldl (fun t n => t.mapEvin n (fun e => { e with merge := 0 })) s) }

/-- `EVIN_STATUS`, served by its spec (12 R315). -/
def execCmdEvinStatus (p : Packet) (s : State) : Host.Outcome State Fault Refusal := s.command specEvinStatus p

/-- `WAKEPORT_SET` (20 R496): `WEN` 0 releases both lines. -/
def specWakeportSet : CmdSpec :=
  { opcode := 0x1004, role := roleInstaller, len := lenIs 4
    param := fun r _ => firstBad [(decide (1 < u8At r.pay 0), 0), (!zeroAt r.pay 1 3, 1)]
    changes := fun _ => true
    run := fun r s =>
      let on := u8At r.pay 0 == 1
      let t := { s with bak := { s.bak with wen := on } }
      (.ok [], if on then t else t.mapWakePort (fun w => { w with ack := false, reading := false, ignoring := false })) }

/-- `WAKEPORT_SET`, served by its spec (12 R315). -/
def execCmdWakeportSet (p : Packet) (s : State) : Host.Outcome State Fault Refusal := s.command specWakeportSet p

/-- Clears the counters of a UART (20 R490). -/
def UartState.clear (u : UartState) : UartState :=
  { u with rxchr := 0, noise := 0, framing := 0, parity := 0, ovr := 0, breaks := 0, deads := 0, frmerr := 0 }

/-- `LINE_CLEAR` (20 R490): `ARG` 0 clears the line's counters, which the wake port's lines do not have; `ARG` 1 resets the UART as block class
4. -/
def specLineClear : CmdSpec :=
  { opcode := 0x1005, role := roleInstaller, len := lenIs 4
    param := fun r _ => firstBad [(decide (5 < r.index), 0), (decide (1 < r.arg) || (r.arg == 1 && decide (3 < r.index)), 2)]
    changes := fun _ => true
    run := fun r s =>
      if r.arg = 0 then (.ok [], s.mapUart r.index UartState.clear)
      else if s.pow.brstRun.isSome then (.fail stBusy, s)
      else
        let t := ({ s with pow := { s.pow with brstUnit := 4 * 256 + r.index } }).blockGo
        if t.pow.brstStat = 2 then (.fail stBusy, { s with pow := t.pow }) else (.ok [], t) }

/-- `LINE_CLEAR`, served by its spec (12 R315). -/
def execCmdLineClear (p : Packet) (s : State) : Host.Outcome State Fault Refusal := s.command specLineClear p

end Sys2Proof.Machine
end

