-- ==== Sys2Proof/Machine/SampleCmds.lean ====
section
/-! DEFINITION. The commands of group 0x03 (02 R50, 03 R58, R62, R63, R68–R71, 12 R320, R322): sites, elements, lanes, captures, adits. -/

namespace Sys2Proof.Machine

/-- `SITE_LIST` (12 R320): the sites of the charter in force; the entry's layout is open (log 7). -/
def specSiteList : CmdSpec :=
  rangeSpec 0x0300 (fun _ => 12) (fun _ s => (List.range 12).filter (fun n => (s.site n).isSome)) (fun s n =>
    let x := (s.site n).getD {}
    Config.encodeFields 0x0300 [n, x.mode, x.pos.1, x.pos.2.1, x.pos.2.2, x.sig, x.antDly.u, x.antDly.m, x.antDly.l])

/-- `SITE_LIST`, served by its spec (12 R315). -/
def execCmdSiteList (p : Packet) (s : State) : Host.Outcome State Fault Refusal := s.command specSiteList p

/-- `ELEM_LIST` (12 R320): the elements that the charter in force fits; the entry's layout is open (log 7). -/
def specElemList : CmdSpec :=
  rangeSpec 0x0301 (fun _ => 96) (fun _ s => s.fitted) (fun s n =>
    let x := s.elem n
    Config.encodeFields 0x0301 [n, x.site, x.off.1, x.off.2.1, x.off.2.2, x.maxRate, x.maxWidth, x.bands])

/-- `ELEM_LIST`, served by its spec (12 R315). -/
def execCmdElemList (p : Packet) (s : State) : Host.Outcome State Fault Refusal := s.command specElemList p

/-- The lane status block, 32 bytes (02 R50). -/
def LaneState.status (l : LaneState) : List Byte :=
  b8 l.state.code ++ b8 l.lver ++ b8 l.rate ++ b8 l.width ++ b8 l.bands ++ b8 l.cause.code ++ bz 2 ++ b32 l.rtt ++ b32 l.ddown ++
  b32 l.crcErr ++ b16 l.slips ++ b16 l.losses ++ b16 l.ctrlFail ++ b8 l.eye ++ bz 5

/-- `LANE_STATUS` (02 R50): 96 lanes, 12 in a GCP 1 session (12 R327). -/
def specLaneStatus : CmdSpec :=
  rangeSpec 0x0302 (fun r => if r.x.gcp1 then 12 else 96) (fun _ _ => List.range 96) (fun s n => (s.lane n).status) true

/-- `LANE_STATUS`, served by its spec (12 R315). -/
def execCmdLaneStatus (p : Packet) (s : State) : Host.Outcome State Fault Refusal := s.command specLaneStatus p

/-- `LANE_CLEAR` (02 R50): the lane's counters return to 0. -/
def specLaneClear : CmdSpec :=
  { opcode := 0x0303, role := roleInstaller, len := lenIs 4
    param := fun r _ => firstBad [(decide (96 ≤ r.index), 0), (r.arg != 0, 2)]
    changes := fun _ => true
    run := fun r s => (.ok [], s.mapLane r.index (fun l => { l with crcErr := 0, slips := 0, losses := 0, ctrlFail := 0 })) }

/-- `LANE_CLEAR`, served by its spec (12 R315). -/
def execCmdLaneClear (p : Packet) (s : State) : Host.Outcome State Fault Refusal := s.command specLaneClear p

/-- The region's `OWNER` code for a session: 0 the installer, 1 to 8 the tenants (03 capture descriptor). -/
def Req.ownerCode (r : Req) : Nat := if r.role = 1 then r.x.tenant + 1 else 0

/-- An operator names a region of its own tenant (13 R334). -/
def ownRegion (r : Req) (s : State) : Bool := r.role != 1 || (s.region r.index).owner == r.ownerCode

/-- An operator arms a free region or one of its own (13 R334). -/
def armable (r : Req) (s : State) : Bool :=
  ownRegion r s || ((s.region r.index).cstate == .idle && decide ((s.region r.index).owner ≤ 8))

/-- A tenant's regions that are not `IDLE`, but for one. -/
def State.heldBy (s : State) (owner but : Nat) : List Region :=
  (List.range 8).filterMap (fun c => let g := s.region c; if c ≠ but ∧ g.owner = owner ∧ g.cstate ≠ .idle then some g else none)

/-- The regions that an arming would overlap and that are not `IDLE` (03 R71). -/
def State.armConflict (s : State) (c : Nat) (g : Region) : Bool :=
  (List.range 8).any (fun i => let h := s.region i; i != c && h.cstate != .idle && g.overlaps h)

/-- The quota of an operator would be exceeded (13 R332, R334). -/
def State.overQuota (s : State) (r : Req) (g : Region) : Bool :=
  let q := (vgetD s.ten.t r.x.tenant {}).quota
  let held := s.heldBy r.ownerCode r.index
  decide (q.qCapreg < held.length + 1) || decide (1024 * q.qLode < (held.map Region.size).foldl (· + ·) g.size)

/-- The region of a `LODE_ARM`: armed, its owner the session's; trigger 0 waits for the next block (03 R69). -/
def Req.armed (r : Req) (s : State) : Region :=
  let g := captureOf (r.pay.drop 4)
  { g with owner := r.ownerCode, cstate := .armed
           trigAt := if g.ctrig = 0 then some ((s.clk.tick / 5115 + 1) * 5115) else none }

/-- `LODE_ARM` (03 R69–R71, 13 R334). -/
def specLodeArm : CmdSpec :=
  { opcode := 0x0304, role := roleInstOp, len := lenIs 40
    tenant := armable
    param := fun r _ =>
      let b := r.pay.drop 4
      let g := captureOf b
      match firstBad [(decide (7 ≤ r.index), 0), (!zeroAt r.pay 2 2, 2), (u8At b 0 != r.index, 4), (!zeroAt b 6 2, 10)] with
      | some f => some f
      | none =>
        match g.badField with
        | some f => some (4 + f)
        | none => if lodeBytes < g.base + g.size then some 24 else none
    changes := fun _ => true
    run := fun r s =>
      let g := r.armed s
      if (s.region r.index).owner = 0x10 ∨ (s.region r.index).cstate = .reading ∨ s.armConflict r.index g then (.fail stBusy, s)
      else if r.role = 1 ∧ s.overQuota r g then (.fail stNoCapacity, s)
      else (.ok [], s.mapRegion r.index (fun _ => g)) }

/-- `LODE_ARM`, served by its spec (12 R315). -/
def execCmdLodeArm (p : Packet) (s : State) : Host.Outcome State Fault Refusal := s.command specLodeArm p

/-- `LODE_TRIG` (03 R70, 12 R322): trigger 4 at the tick of execution. -/
def specLodeTrig : CmdSpec :=
  { opcode := 0x0305, role := roleInstOp, len := lenIs 4
    tenant := ownRegion
    param := fun r _ => firstBad [(decide (8 ≤ r.index), 0), (r.arg != 0, 2)]
    changes := fun _ => true
    run := fun r s =>
      let g := s.region r.index
      let t := if g.ctrig = 4 then g.trigger s.clk.tick else (false, g)
      (.ok (b64 s.tcnt ++ b8 (bbool t.1) ++ bz 3), s.mapRegion r.index (fun _ => t.2)) }

/-- `LODE_TRIG`, served by its spec (12 R315). -/
def execCmdLodeTrig (p : Packet) (s : State) : Host.Outcome State Fault Refusal := s.command specLodeTrig p

/-- `LODE_DISARM` (12 R322): the region returns to `IDLE` and its bytes are free; a plan's region stays the plan's. -/
def specLodeDisarm : CmdSpec :=
  { opcode := 0x0306, role := roleInstOp, len := lenIs 4
    tenant := ownRegion
    param := fun r _ => firstBad [(decide (8 ≤ r.index), 0), (r.arg != 0, 2)]
    changes := fun _ => true
    run := fun r s =>
      if (s.region r.index).cstate = .reading then (.fail stBusy, s)
      else
        (.ok [], s.mapRegion r.index (fun g => { g with
          cstate := .idle, owner := if g.owner = 0x10 then 0x10 else 0, trigAt := none, left := none, written := 0 })) }

/-- `LODE_DISARM`, served by its spec (12 R315). -/
def execCmdLodeDisarm (p : Packet) (s : State) : Host.Outcome State Fault Refusal := s.command specLodeDisarm p

/-- The capture descriptor's 44 bytes (03). -/
def Region.bytes (c : Nat) (g : Region) : List Byte :=
  b8 c ++ b8 g.cmode ++ b8 g.cwidth ++ b8 g.ctrig ++ b8 g.bands ++ b8 g.pre ++ bz 2 ++ leBytes 12 g.elems ++ b32 g.base ++ b16 g.nblk ++
  b16 g.targ ++ b64 g.ttime ++ b8 g.owner ++ b8 g.cstate.code ++ b16 g.tblk ++ b16 g.gotpre ++ bz 2

/-- `LODE_STATUS` (12 R322). -/
def specLodeStatus : CmdSpec :=
  { opcode := 0x0307, role := roleAny, len := lenIs 4, idle := true
    tenant := ownRegion
    param := fun r _ => firstBad [(decide (8 ≤ r.index), 0), (r.arg != 0, 2)]
    run := fun r s => (.ok ((s.region r.index).bytes r.index), s) }

/-- `LODE_STATUS`, served by its spec (12 R315). -/
def execCmdLodeStatus (p : Packet) (s : State) : Host.Outcome State Fault Refusal := s.command specLodeStatus p

/-- The fields of an adit conditioning block that a command gives (03 R63). -/
def aditBlockOf (b : List Byte) : AditBlock :=
  { idelay := i16At b 0, fdelay := u16At b 2, gmag := ⟨u16At b 8, u16At b 10, u16At b 12⟩, gph := ⟨u16At b 14, u16At b 16, u16At b 18⟩
    gref := ⟨u8At b 20, u8At b 21, u8At b 22⟩, blkMode := u8At b 23, blkThr := u8At b 24, blkPre := u8At b 25, blkPost := u8At b 26
    blimit := u8At b 27 }

/-- The first field of a conditioning block out of its range, by its offset in the block (03 R63). -/
def aditBlockBad (b : List Byte) : Option Nat :=
  let a := aditBlockOf b
  firstBad [(decide (a.idelay < -256 ∨ 255 < a.idelay), 0), (decide (63 < a.gref.u), 20), (decide (63 < a.gref.m), 21),
    (decide (63 < a.gref.l), 22),
    (decide (64 ≤ a.blkMode) || a.mode .u == 3 || a.mode .m == 3 || a.mode .l == 3, 23), (decide (a.blkThr < 0x18), 24),
    (decide (15 < a.blkPre), 25), (decide (a.blimit < 1 ∨ 100 < a.blimit), 27), (!zeroAt b 31 1, 31)]

/-- Assay's fields of two blocks agree (05 R108). -/
def AditBlock.sameCal (a b : AditBlock) : Bool := a.idelay == b.idelay && a.fdelay == b.fdelay && a.gmag == b.gmag && a.gph == b.gph

/-- `ADIT_SET` (03 R62, R63; 05 R108): a block staged for the next boundary; on a `LIVE` lane assay's fields stay as they are. -/
def specAditSet : CmdSpec :=
  { opcode := 0x8300, role := roleInstaller, len := lenIs 36
    param := fun r _ =>
      match firstBad [(decide (96 ≤ r.index), 0), (!zeroAt r.pay 2 2, 2)] with
      | some f => some f
      | none => (aditBlockBad (r.pay.drop 4)).map (4 + ·)
    changes := fun _ => true
    run := fun r s =>
      let a := aditBlockOf (r.pay.drop 4)
      let cur := (s.adit r.index).staged.getD (s.adit r.index).blk
      if (s.lane r.index).state = .live ∧ !a.sameCal cur then (.fail stBusy, s)
      else (s.mapAdit r.index (fun x => { x with staged := some a })).accept r r.index }

/-- `ADIT_SET`, served by its spec (12 R315). -/
def execCmdAditSet (p : Packet) (s : State) : Host.Outcome State Fault Refusal := s.command specAditSet p

/-- `NOTCH_SET` (03 R58, 12 R322). -/
def specNotchSet : CmdSpec :=
  { opcode := 0x8301, role := roleInstaller, len := lenIs 8
    param := fun r _ => firstBad [(decide (2 < u8At r.pay 0), 0), (decide (3 < u8At r.pay 1), 1), (decide (1 < u8At r.pay 2), 2),
      (decide (7 < u8At r.pay 3), 3), (decide (i32At r.pay 4 < -8388608 ∨ 8388607 < i32At r.pay 4), 4)]
    changes := fun _ => true
    run := fun r s =>
      let b := (Band.ofCode (u8At r.pay 0)).getD .u
      let e : Notch := { centre := i32At r.pay 4, k := u8At r.pay 3, enable := u8At r.pay 2 == 1 }
      ({ s with smp := { s.smp with notchStaged := s.smp.notchStaged ++ [(b, u8At r.pay 1, e)] } }).accept r 0xFFFF }

/-- `NOTCH_SET`, served by its spec (12 R315). -/
def execCmdNotchSet (p : Packet) (s : State) : Host.Outcome State Fault Refusal := s.command specNotchSet p

end Sys2Proof.Machine
end

