-- ==== Sys2Proof/Machine/Streams.lean ====
section
/-! DEFINITION. The Ethernet ports and data streams (21): frames from the wire, the egress scheduler, the stream commands. -/

namespace Sys2Proof.Machine

/-- The deficit round robin quantum in bytes of a weight in Mbit/s (21 R512; log 7). -/
opaque Config.drrQuantum : Nat → Nat

/-- Changes one Ethernet port. -/
def State.mapEth (port : Nat) (f : EthState → EthState) (s : State) : State := { s with por := { s.por with eth := vupdN s.por.eth port f } }

/-- The Ethernet port of a number. -/
def State.eth (s : State) (port : Nat) : EthState := vgetD s.por.eth port {}

/-! ### From the wire -/

/-- The MAC address of an Ethernet port (14 fuses): `MAC_BASE`, ETH1 the next. -/
def macOf (port : Nat) : List Byte := beBytes 6 (Config.macBase + port)

/-- A magic frame for a MAC address (18 R455): addressed to it or broadcast, with 6 bytes of 0xFF and 16 copies of the address anywhere. -/
def isMagic (mac frame : List Byte) : Bool :=
  let ones : List Byte := List.replicate 6 0xFF
  let mark := ones ++ (List.replicate 16 mac).flatten
  (frame.take 6 == mac || frame.take 6 == ones) && (List.range frame.length).any (fun i => (frame.drop i).take 102 == mark)

/-- `MAGIC_FRAME` (18 R455): wake code 7, where the frame is one for the port and its FCS is valid. -/
def execEvMagicFrame (f : EthFrame) (s : State) : Host.Outcome State Fault Refusal :=
  .next (if s.held = true ∨ f.fcsOk = false ∨ isMagic (macOf f.port.val) f.bytes = false then s else s.wake 7 f.port)

/-- A timestamp's 12 bytes for now (21 R503): TAI on the PTP timescale, in whole steps of 0.8 ns of port time. -/
def State.ptpStamp (s : State) : List Byte :=
  let n := ((s.portPs + 315964819 * 10 ^ 12) / 800).toNat
  let ns := 4 * n / 5
  leBytes 6 (ns / 10 ^ 9) ++ b32 (ns % 10 ^ 9) ++ b16 (quotI (4 * n % 5 * 65536 : Nat) 5).toNat

/-- A PTP item (21 R506): stamp, length, source address, the message's first 128 bytes, padded to a multiple of 8. -/
def State.ptpItem (s : State) (src message : List Byte) : List Byte :=
  let m := message.take 128
  pad8 (s.ptpStamp ++ b16 m.length ++ bpad 6 src ++ m)

/-- A PTP stream takes an item into the packet of the epoch, or counts its drop (21 R506, R516). -/
def StreamState.takePtp (it : List Byte) (x : StreamState) : StreamState :=
  if (x.ptp.map List.length).foldl (· + ·) 0 + it.length ≤ 1400 then { x with ptp := x.ptp ++ [it] }
  else { x with ndrop := satAdd 0xFFFFFFFF x.ndrop 1 }

/-- A big-endian field of a frame. -/
def netAt (b : List Byte) (off n : Nat) : Nat := beNat ((b.drop off).take n)

/-- Whether a frame of a port is a PTP event message, and its message (21 R505): EtherType 0x88F7, or an IPv4 or IPv6 UDP datagram to port 319,
behind at most one tag, addressed to the port or to a PTP group. A message on EtherType 0x88F7 is the rest of the frame (DEDUCED: log 59). -/
def ptpMessage (port : Nat) (frame : List Byte) : Option (List Byte) :=
  let off := if netAt frame 12 2 = 0x8100 then 18 else 14
  let et := netAt frame (off - 2) 2
  let p := frame.drop off
  let dst := frame.take 6
  let mine := dst == macOf port || dst == beBytes 6 0x011B19000000 || dst == beBytes 6 0x0180C200000E
  let udp (at_ : Nat) : Option (List Byte) :=
    if netAt p (at_ + 2) 2 = 319 then some ((p.drop (at_ + 8)).take (netAt p (at_ + 4) 2 - 8)) else none
  if et = 0x88F7 then (if mine then some p else none)
  else if et = 0x0800 then
    let group := netAt p 16 4 == 0xE0000181 || netAt p 16 4 == 0xE000006B
    if netAt p 0 1 / 16 = 4 ∧ netAt p 9 1 = 17 ∧ netAt p 6 2 % 8192 = 0 ∧ (mine || group) = true then udp (4 * (netAt p 0 1 % 16)) else none
  else if et = 0x86DD then
    let low := netAt p 26 14
    let group := netAt p 24 1 == 0xFF && ((decide (netAt p 25 1 < 16) && low == 0x181) || (netAt p 25 1 == 2 && low == 0x6B))
    if netAt p 0 1 / 16 = 6 ∧ netAt p 6 1 = 17 ∧ (mine || group) = true then udp 40 else none
  else none

/-- A PTP event message is stamped and goes to the port's `PTP` streams (21 R505): at most `PTP_RATE` a second, the others are counted as
dropped. -/
def State.takePtp (port : Nat) (src message : List Byte) (s : State) : State :=
  let e := s.eth port
  let sec := s.upMs / 1000
  let n := if e.ptpSec = sec then e.ptpCount else 0
  let ok := decide (n < e.par.ptpRate)
  let t := s.mapEth port (fun e => { e with ptpSec := sec, ptpCount := if ok then n + 1 else n })
  let f (x : StreamState) : StreamState :=
    if x.kind = 6 ∧ x.port = port ∧ x.draining = false then
      if ok then x.takePtp (s.ptpItem src message) else { x with ndrop := satAdd 0xFFFFFFFF x.ndrop 1 }
    else x
  { t with por := { t.por with streams := t.por.streams.map f } }

/-- `PTP_FRAME` (21 R502, R505): a frame from the wire, without its FCS; one that is too long or fails its FCS is dropped and counted, one that is
no PTP event message of the port is not for the `PTP` streams. -/
def execEvPtpFrame (port : Fin 2) (frame : List Byte) (fcsOk : Bool) (s : State) : Host.Outcome State Fault Refusal :=
  .next (
    if !s.mainUp ∨ !(s.eth port).link then s
    else if fcsOk = false ∨ 1518 < frame.length then s.mapEth port (fun e => { e with badFrames := satAdd 0xFFFFFFFF e.badFrames 1 })
    else match ptpMessage port frame with
      | some m => s.takePtp port ((frame.drop 6).take 6) m
      | none => s)

/-- `PAUSE_FRAME` (21 R515): quanta of 512 bit times, honoured when `PAUSE_RX` is 1. -/
def execEvPauseFrame (port : Fin 2) (quanta : Nat) (s : State) : Host.Outcome State Fault Refusal :=
  let e := s.eth port
  .next (if s.mainUp ∧ e.link ∧ e.par.pauseRx = 1 then
      s.mapEth port (fun e => { e with pauseUntil := s.clk.up + ceilDiv (64 * quanta * 8184) (100 * e.rate) })
    else s)

/-- `LINK_DOWN` (21 R516). -/
def execEvLinkDown (port : Fin 2) (s : State) : Host.Outcome State Fault Refusal :=
  .next (if s.mainUp then (s.mapEth port (fun e => { e with link := false })).dropLate port else s)

/-- `LINK_UP` (21 R516): the streams resume with what has not passed its deadline. -/
def execEvLinkUp (port : Fin 2) (s : State) : Host.Outcome State Fault Refusal :=
  .next (if s.mainUp then (s.dropLate port).mapEth port (fun e => { e with link := true }) else s)

/-! ### Egress -/

/-- Bytes around a stream packet's data on the wire (21 R510): preamble, Ethernet header, tag, IP and UDP, stream header, FCS, gap. -/
def StreamState.overhead (x : StreamState) : Nat :=
  8 + 14 + (if bit x.sflags 1 then 4 else 0) + (if x.strans = 0 then 28 else if x.strans = 1 then 48 else 0) + 24 + 4 + 12

/-- A frame of at least 64 bytes, with preamble and gap. -/
def onWire (n : Nat) : Nat := max 84 n

/-- The stream packet header (21 R507). -/
def StreamState.header (x : StreamState) (p : StPacket) : List Byte :=
  b16 0x5347 ++ b8 1 ++ b8 x.kind ++ b16 x.stid ++ b8 x.ten ++ b8 p.spf ++ b32 x.pseq ++ b64 p.stm ++ b16 x.sgap ++ b16 p.data.length

/-- The frame of a stream packet (21 R507, R518): timed packets carry `DSCP_T`, bulk packets 0. -/
def StreamState.frame (x : StreamState) (dscpT : Nat) (p : StPacket) : WireFrame :=
  .stream (if bit x.sflags 1 then some x.vlan else none) (if timedKind x.kind then dscpT else 0) x.strans x.daddr x.dport (x.header p ++ p.data)

/-- A stream after sending a packet; the first packet of a timed record gives its latency from B (21 R514). -/
def StreamState.afterSend (tick : Nat) (x : StreamState) (p : StPacket) : StreamState :=
  let ns := (quotI ((tick - p.stm * epochTicks) * 100000 : Nat) 8184).toNat
  { x with pseq := (x.pseq + 1) % 2 ^ 32, sgap := 0, nbytes := (x.nbytes + p.data.length) % 2 ^ 64
           lats := if timedKind x.kind && bit p.spf 0 then ((p.stm, ns) :: x.lats).take 1000 else x.lats }

/-- `n` wire bytes leave: the wire is taken, and the tenant's bucket pays (21 R511). -/
def State.pay (port ten n : Nat) (s : State) : State :=
  let t := s.mapEth port (fun e => { e with wireUntil := s.clk.up + ceilDiv (n * 8184) (100 * e.rate) })
  if ten < 8 then { t with por := { t.por with bucket := vupdN t.por.bucket ten (fun v => vupdN v port (fun b => b - (65472 * n : Nat))) } } else t

/-- Sends a packet of a stream, whose state after it is `y` but for the counts. -/
def State.sendPacket (port : Nat) (x y : StreamState) (p : StPacket) (s : State) : State :=
  let t := s.mapEth port (fun e => { e with sent := some (x.frame e.par.dscpT p) })
  (t.mapStream x.stid (fun _ => y.afterSend s.clk.tick p)).pay port x.ten (onWire (p.data.length + x.overhead))

/-- A tenant's place in the order of service. -/
def StreamState.rank (x : StreamState) : Nat := 65536 * x.ten + x.stid

/-- The element with the least key. -/
def leastOf {α : Type} (key : α → Nat) (l : List α) : Option α :=
  l.foldl (fun b x => match b with | some y => if key x < key y then some x else some y | none => some x) none

/-- The timed stream to serve next on a port (21 R512): by class, first packets of records before later ones, ascending tenant and `STID`; a
packet is available from its epoch's boundary on. -/
def State.nextTimed (s : State) (port : Nat) : Option (StreamState × StPacket) :=
  let avail (x : StreamState) : Option (StreamState × StPacket) :=
    match x.q with
    | p :: _ => if x.port = port ∧ timedKind x.kind = true ∧ p.due ≤ s.clk.up + classUs x.cls * 8184 / 100 then some (x, p) else none
    | [] => none
  leastOf (fun (a : StreamState × StPacket) => a.1.cls * 2 ^ 33 + (if bit a.2.spf 0 then 0 else 2 ^ 32) + a.1.rank) (s.por.streams.filterMap avail)

/-- Bytes of an export. -/
def StreamState.snapTotal (x : StreamState) (g : Region) : Nat := x.sarg / 65536 % 65536 * streamCount g.elems g.bands * blockBytes g.cwidth

/-- The next packet of an export (21 R506, R508): its bytes from the offset reached, cut at 1 400; the words read; and the stream after it. -/
def State.nextSnap (s : State) (x : StreamState) : Option (StreamState × StPacket × List Nat) :=
  match x.snap with
  | none => none
  | some (c, o) =>
    let g := s.region c
    let total := x.snapTotal g
    let base := x.sarg % 65536 * (streamCount g.elems g.bands * blockBytes g.cwidth)
    if total ≤ o then none
    else
      let offs := (List.range (min 1400 (total - o))).map (fun i => base + o + i)
      let p : StPacket := { spf := bbool (o == 0) + 2 * bbool (decide (total ≤ o + 1400)), stm := o, data := offs.map (s.lodeByte g), due := 0 }
      some ({ x with snap := some (c, o + 1400) }, p, nub (offs.map (fun i => g.captureAddr i / 8 * 8)))

/-- The next bulk packet of a tenant on a port, with the stream before and after it: its streams in ascending `STID`. -/
def State.nextBulk (s : State) (port ten : Nat) : Option (StreamState × StreamState × StPacket × List Nat) :=
  (s.por.streams.filterMap (fun x =>
    if x.port ≠ port ∨ (if x.ten < 8 then x.ten else 8) ≠ ten ∨ timedKind x.kind = true then none
    else if x.kind = 5 then (s.nextSnap x).map (fun r => (x, r.1, r.2.1, r.2.2))
    else match x.q with
      | p :: q => some (x, { x with q := q }, p, [])
      | [] => none)).head?

/-- A tenant's bulk packet may go: its bucket holds the wire bytes; the installer has no bucket (21 R511). -/
def State.bulkReady (s : State) (port ten : Nat) : Option Nat :=
  match s.nextBulk port ten with
  | none => none
  | some (x, _, p, _) =>
    let n := onWire (p.data.length + x.overhead)
    if ten = 8 ∨ ((65472 * n : Nat) : Int) ≤ vgetD (vgetD s.por.bucket ten (Vector.replicate 2 0)) port 0 then some n else none

/-- The weight of a tenant's bulk traffic in Mbit/s (21 R512). -/
def State.bulkWeight (s : State) (port ten : Nat) : Nat :=
  if ten = 8 then (s.eth port).par.instPct * 8 * (s.eth port).rate / 100 else (s.quotaOf ten).rate port

/-- Deficit round robin (21 R512): the tenant to serve and the port after it; `fuel` bounds the rounds, after which the first ready tenant is
served. -/
def State.drrPick (s : State) (port : Nat) (ready : List (Nat × Nat)) : Nat → EthState → Option (Nat × EthState)
  | 0, e => ready.head?.map (fun r => (r.1, e))
  | n + 1, e =>
    if ready.isEmpty then none
    else
      match ready.find? (fun r => r.1 == e.drr) with
      | some r =>
        let d := vgetD e.deficit r.1 0
        if r.2 ≤ d then some (r.1, { e with deficit := vupdN e.deficit r.1 (fun d => d - r.2) })
        else
          let t := (r.1 + 1) % 9
          s.drrPick port ready n { e with drr := t, deficit := vupdN e.deficit t (· + Config.drrQuantum (s.bulkWeight port t)) }
      | none =>
        let t := (e.drr + 1) % 9
        s.drrPick port ready n { e with drr := t, deficit := vupdN (vupdN e.deficit e.drr (fun _ => 0)) t (· + Config.drrQuantum (s.bulkWeight port t)) }

/-- Streams that have ended: draining ones whose queue is empty, and exports that are complete (21 R509). -/
def State.reapStreams (s : State) : State :=
  s.endStreams (fun x => (x.draining && x.q.isEmpty) ||
    (match x.snap with | some (c, o) => decide (x.snapTotal (s.region c) ≤ o) | none => false))

/-- The next frame of a port in the order of R512. -/
def State.sendNext (port : Nat) (s : State) : State :=
  match s.nextTimed port with
  | some (x, p) => s.sendPacket port x { x with q := x.q.drop 1 } p
  | none =>
    match s.ses.out.find? (fun o => o.transport == port || o.transport == port + 2) with
    | some o =>
      let t := { s with ses := { s.ses with out := dropFirst (fun o => o.transport == port || o.transport == port + 2) s.ses.out } }
      (t.mapEth port (fun e => { e with sent := some (.reply o.bytes) })).pay port 0xFF (onWire (o.bytes.length + 38))
    | none =>
      let ready := (List.range 9).filterMap (fun t => (s.bulkReady port t).map (fun n => (t, n)))
      match s.drrPick port ready 576 (s.eth port) with
      | none => s
      | some (t, e) =>
        match s.nextBulk port t with
        | none => s
        | some (x, y, p, words) =>
          let r := ((s.mapEth port (fun _ => e)).sendPacket port x y p).readWords words
          let u := r.2
          if r.1 then u.report 0x1501 2 0xFF x.stid (Config.encodeFields 0x1501 [0, x.kind, p.stm]) else u

/-- `EGRESS` (21 R512): when the wire is free, one frame leaves; none while the link is down or a PAUSE holds. -/
def execEvEgress (port : Fin 2) (s0 : State) : Host.Outcome State Fault Refusal :=
  .next (
    if !s0.mainUp then s0
    else if !(s0.eth port).link then s0.dropLate port
    else
      let s := (s0.wait ((s0.eth port).wireUntil - s0.clk.up)).fillBuckets
      if s.clk.up < (s.eth port).pauseUntil then s else (s.sendNext port).reapStreams)

/-! ### Commands -/

/-- The next free stream identifier from `n` on. -/
def freeStid (used : List Nat) : Nat → Nat → Nat
  | 0, n => n % 65536
  | k + 1, n => if used.contains (n % 65536) then freeStid used k (n + 1) else n % 65536

/-- A new stream of a request's session (21 R506, R509, R518). -/
def State.newStream (r : Req) (kind : Nat) (snap : Option (Nat × Nat)) (s : State) : StreamState :=
  let b := r.pay
  let ten := if r.x.role = 1 then r.x.tenant else 0xFF
  { stid := freeStid (s.por.streams.map (·.stid)) 64 s.por.nextStid, kind := kind, port := u8At b 1, ten := ten
    cls := if timedKind kind then classOf s.quotaOf ten else 0xFF, wep := worstBytes kind (Plan.slotsSeen s.fab.active ten)
    strans := u8At b 2, sflags := u8At b 3, dport := u16At b 4, vlan := u16At b 6, daddr := (b.drop 8).take 16, sarg := u32At b 24
    recVer := if r.x.gcp1 then 1 else 3, snap := snap }

/-- Inserts a stream by ascending `STID`. -/
def insertStream (x : StreamState) : List StreamState → List StreamState
  | [] => [x]
  | y :: l => if x.stid ≤ y.stid then x :: y :: l else y :: insertStream x l

/-- Opens a stream (21 R509, R514): at most 64, `Q_STREAMS` for a tenant, and a load that every port carries. -/
def State.openStream (x : StreamState) (s : State) : Reply × State :=
  let own := (s.por.streams.filter (fun y => y.ten == x.ten)).length
  if 64 ≤ s.por.streams.length ∨ (x.ten < 8 ∧ (s.quotaOf x.ten).qStreams ≤ own) then (.fail stNoCapacity, s)
  else
    match if timedKind x.kind then s.overload s.fab.active s.quotaOf (s.loads ++ [⟨x.kind, x.port, x.ten⟩]) else none with
    | some port => ({ status := stNoCapacity, item := port }, s)
    | none =>
      (.ok (b16 x.stid ++ bz 2 ++ b32 x.wep),
       { s with por := { s.por with streams := insertStream x s.por.streams, nextStid := (x.stid + 1) % 65536 } })

/-- The fields of the open request that both commands share (21 R518). -/
def streamBad (b : List Byte) : List (Bool × Nat) :=
  let addr := if u8At b 2 = 0 then 4 else if u8At b 2 = 1 then 16 else 6
  [(decide (1 < u8At b 1), 1), (decide (2 < u8At b 2), 2), (decide (4 ≤ u8At b 3), 3), (bit (u16At b 6) 12, 6),
   (!zeroAt b (8 + addr) (16 - addr), 8)]

/-- `STREAM_OPEN` (21 R506, R518). -/
def specStreamOpen : CmdSpec :=
  { opcode := 0x0910
    role := fun r _ => r.role == 2 || (r.role == 1 && !(u8At r.pay 0 == 3 && bit (u8At r.pay 3) 0))
    len := lenIs 32
    gcp1 := true
    param := fun r _ =>
      let b := r.pay
      let k := u8At b 0
      firstBad ([(decide (6 < k) || k == 5, 0)] ++ streamBad b ++
        [(bit (u8At b 3) 0 && k != 3, 3), (if k = 4 then decide (256 ≤ u32At b 24) else u32At b 24 != 0, 24), (!zeroAt b 28 4, 28)])
    changes := fun _ => true
    run := fun r s => s.openStream (s.newStream r (u8At r.pay 0) none) }

/-- `STREAM_OPEN`, served by its spec (12 R315). -/
def execCmdStreamOpen (p : Packet) (s : State) : Host.Outcome State Fault Refusal := s.command specStreamOpen p

/-- The region of an export is the session's: an operator's own, or any for the installer. -/
def exportable (r : Req) (s : State) : Bool := r.role != 1 || (s.region (u8At r.pay 0)).owner == r.ownerCode

/-- `SNAP_EXPORT` (21 R506, R518): blocks of a `HELD` region, which is `READING` until the export ends (03 R74). -/
def specSnapExport : CmdSpec :=
  { opcode := 0x0913, role := roleInstOp, len := lenIs 32
    tenant := exportable
    param := fun r s =>
      let b := r.pay
      let g := s.region (u8At b 0)
      firstBad ([(decide (8 ≤ u8At b 0), 0)] ++ streamBad b ++
        [(bit (u8At b 3) 0, 3),
         (g.cstate == .held && (u16At b 26 == 0 || decide (min g.written g.nblk < u16At b 24 + u16At b 26)), 24),
         (!zeroAt b 28 4, 28)])
    changes := fun _ => true
    run := fun r s =>
      let c := u8At r.pay 0
      if (s.region c).cstate ≠ .held then (.fail stBusy, s)
      else
        let a := s.openStream (s.newStream r 5 (some (c, 0)))
        if a.1.good then (a.1, a.2.mapRegion c (fun g => { g with cstate := .reading })) else a }

/-- `SNAP_EXPORT`, served by its spec (12 R315). -/
def execCmdSnapExport (p : Packet) (s : State) : Host.Outcome State Fault Refusal := s.command specSnapExport p

/-- An operator names a stream of its own tenant (21 R518). -/
def ownStream (r : Req) (s : State) : Bool :=
  r.role != 1 || !(s.por.streams.any (fun x => x.stid == r.index && x.ten != r.x.tenant))

/-- `STREAM_CLOSE` (21 R509, R517): queued packets leave; an export's region returns to `HELD`. -/
def specStreamClose : CmdSpec :=
  { opcode := 0x0911, role := roleInstOp, len := lenIs 4, gcp1 := true
    tenant := ownStream
    param := fun r s => firstBad [(!(s.por.streams.any (fun x => x.stid == r.index)), 0), (r.arg != 0, 2)]
    changes := fun _ => true
    run := fun r s =>
      let t := s.mapStream r.index (fun x => { x with draining := true })
      (.ok [], t.reapStreams) }

/-- `STREAM_CLOSE`, served by its spec (12 R315). -/
def execCmdStreamClose (p : Packet) (s : State) : Host.Outcome State Fault Refusal := s.command specStreamClose p

/-- A stream status entry (21). -/
def State.streamEntry (s : State) (x : StreamState) : List Byte :=
  let st := if x.draining then 2 else if (s.eth x.port).link then 0 else 1
  b16 x.stid ++ b8 x.kind ++ b8 x.port ++ b8 x.ten ++ b8 st ++ b8 x.cls ++ bz 1 ++ b32 x.pseq ++ b32 x.ndrop ++ b64 x.nbytes ++
  b32 (((x.lats.filter (fun l => decide (s.ms < l.1 + 1000))).map (·.2)).foldl max 0) ++ b32 x.wep

/-- `STREAM_STATUS` (21 R518): the streams a session sees, ascending, then `RXDROP` of each port. -/
def specStreamStatus : CmdSpec :=
  { opcode := 0x0912, role := roleAny, len := lenIs 4, idle := true
    run := fun r s =>
      let l := s.por.streams.filter (fun x => (r.role != 1 || x.ten == r.x.tenant) && decide (r.index ≤ x.stid))
      let want := if r.arg = 0 then l else l.take r.arg
      let n := min want.length 43
      (.ok (b16 n ++ b16 (((want.drop n).head?.map (·.stid)).getD 0xFFFF) ++ ((want.take n).map s.streamEntry).flatten ++
        b32 (s.eth 0).rxdrop ++ b32 (s.eth 1).rxdrop), s) }

/-- `STREAM_STATUS`, served by its spec (12 R315). -/
def execCmdStreamStatus (p : Packet) (s : State) : Host.Outcome State Fault Refusal := s.command specStreamStatus p

/-- Rows of `STREAM_PARAMS` (21 R518). -/
def ethRows : List (ParRow EthParams) :=
  [natRow 0 1 (·.pauseRx) (fun p v => { p with pauseRx := v }), natRow 16 8192 (·.ptpRate) (fun p v => { p with ptpRate := v }),
   natRow 1 10 (·.instPct) (fun p v => { p with instPct := v }), natRow 0 63 (·.dscpT) (fun p v => { p with dscpT := v })]

/-- `STREAM_PARAMS` (21 R518). -/
def specStreamParams : CmdSpec :=
  parCmd 0x8910 roleInstaller ethRows (fun n _ => decide (1 < n)) (fun n s => (s.eth n).par) (fun n s => (s.eth n).par)
    (fun r a s => (.ok [], s.mapEth r.scope (fun e => { e with par := a })))

/-- `STREAM_PARAMS`, served by its spec (12 R315). -/
def execCmdStreamParams (p : Packet) (s : State) : Host.Outcome State Fault Refusal := s.command specStreamParams p

end Sys2Proof.Machine
end

