-- ==== Sys2Proof/Machine/CharterCheck.lean ====
section
/-! DEFINITION. The charter's checks (14 R359) and what its sections set: ports (R573), tenants, and the parameter lists of `PARAMS`. -/

namespace Sys2Proof.Machine

/-! ### Parameter lists of `PARAMS` -/

/-- A list of `PARAMS`: its opcode, its reserved field, its payload in the form of 12 R321 (14 charter sections). -/
structure ParamList where
  opcode : Nat
  res : Nat
  pay : List Byte

/-- The scope and the entries of a list. -/
def ParamList.scope (l : ParamList) : Nat := u16At l.pay 2
def ParamList.entries (l : ParamList) : List (Nat × Int) := parEntries l.pay

/-- The lists of a `PARAMS` section and the bytes left over; `n` bounds their number. -/
def listsOf : Nat → List Byte → List ParamList × List Byte
  | 0, b => ([], b)
  | n + 1, b =>
    let l := 4 + 8 * u8At b 4
    if b.length < 4 + l then ([], b)
    else
      let r := listsOf n (b.drop (4 + l))
      (⟨u16At b 0, u16At b 2, (b.drop 4).take l⟩ :: r.1, r.2)

/-- The lists of a charter. -/
def charterLists (b : List Byte) : List ParamList := let sec := charterSec b 8; (listsOf sec.length sec).1

/-- What a parameter command's table asks of the charter's lists and how they take effect: the scopes, a range or rule that one breaks, the
table in force with entries written over it. `kept` marks a configuration that runs on through a CORE RESET (18). -/
structure ListTable where
  opcode : Nat
  scope : List Byte → Nat → Bool
  bad : List Byte → Bool
  rule : Nat → List (Nat × Int) → Bool
  put : Nat → List (Nat × Int) → State → State
  kept : Bool

/-- A table of parameters: `base` is its reset table, `get` the one in force. -/
def listTable {α : Type} (opcode : Nat) (scope : List Byte → Nat → Bool) (rows : List (ParRow α)) (base : Nat → α) (get : Nat → State → α)
    (put : Nat → α → State → State) (rule : Nat → α → Option (List Nat) := fun _ _ => none) (kept : Bool := false) : ListTable :=
  { opcode := opcode
    scope := scope
    bad := fun pay => (parBad rows 0 pay).isSome
    rule := fun sc es => (rule sc (parApply rows es (base sc))).isSome
    put := fun sc es s => put sc (parApply rows es (get sc s)) s
    kept := kept }

/-- Scopes: the whole device, or units below a number. -/
def wholeDevice (_ : List Byte) (sc : Nat) : Bool := sc == 0xFFFF
def unitsBelow (n : Nat) (_ : List Byte) (sc : Nat) : Bool := decide (sc < n)

/-- The reset settings of a UART (20 R484). -/
def uartReset (n : Nat) : UartParams := if n = 0 then { umode := 1, ufunc := 0 } else {}

/-- The tables that `PARAMS` may set: every parameter command whose table is the device's own. `SESS_PARAMS` is a session's, and
`TENANT_QUOTA` stands in `TENANTS`. -/
def listTables : List ListTable :=
  [listTable 0x8402 wholeDevice nullRows (fun _ => {}) (fun _ s => s.arr.nullParams) (fun _ a s => { s with arr := { s.arr with nullParams := a } }),
   listTable 0x8403 (unitsBelow 3) cohRows (fun _ => {}) (fun sc s => (s.cohOf ((Band.ofCode sc).getD .u)).params)
     (fun sc a s => s.mapCoh ((Band.ofCode sc).getD .u) (fun c => { c with params := a })) (fun _ => cohRule),
   listTable 0x8500 wholeDevice assayRows (fun _ => {}) (fun _ s => s.arr.assay.params) (fun _ a s => s.mapAssay (fun x => { x with params := a }))
     (fun _ x => if x.qmax < x.qmin then some [0, 2] else none),
   listTable 0x8600 (unitsBelow 384) loopRows (fun _ => {}) (fun sc s => (s.chan sc).loop) (fun sc a s => s.mapChan sc (fun c => { c with loop := a })),
   listTable 0x8701 wholeDevice acqRows (fun _ => {}) (fun _ s => s.trk.acq.params) (fun _ a s => s.mapAcq (fun x => { x with params := a })),
   listTable 0x8D00 wholeDevice dlRows (fun _ => {}) (fun _ s => s.fab.dlParams) (fun _ a s => { s with fab := { s.fab with dlParams := a } }),
   listTable 0x8900 wholeDevice solRows (fun _ => {}) (fun _ s => s.sol.solP) (fun _ a s => { s with sol := { s.sol with solP := a } }),
   listTable 0x8901 wholeDevice integRows (fun _ => {}) (fun _ s => s.sol.integP) (fun _ a s => { s with sol := { s.sol with integP := a } }),
   listTable 0x8902 wholeDevice holdRows (fun _ => {}) (fun _ s => s.sol.holdP) (fun _ a s => { s with sol := { s.sol with holdP := a } }),
   listTable 0x8903 wholeDevice rtcmRows (fun _ => {}) (fun _ s => s.sol.rtcmP) (fun _ a s => { s with sol := { s.sol with rtcmP := a } }),
   listTable 0x8A01 wholeDevice servoRows (fun _ => {}) (fun _ s => s.syn.params) (fun _ a s => { s with syn := { s.syn with params := a } }) (kept := true),
   listTable 0x8910 (unitsBelow 2) ethRows (fun _ => {}) (fun sc s => (s.eth sc).par) (fun sc a s => s.mapEth sc (fun e => { e with par := a })) (kept := true),
   listTable 0x8C00 wholeDevice thermRows (fun _ => thermReset) (fun _ s => s.hea.therm) (fun _ a s => { s with hea := { s.hea with therm := a } })
     (fun _ => thermRule),
   listTable 0x8C01 wholeDevice canaryRows (fun _ => {}) (fun _ s => s.hea.canary) (fun _ a s => { s with hea := { s.hea with canary := a } })
     (fun _ => canaryRule),
   listTable 0x1000 (unitsBelow 4) uartRows uartReset (fun sc s => (s.uart sc).par) (fun sc a s => s.setUart sc a true) uartRule (kept := true),
   listTable 0x9000 (unitsBelow 4) uartTimingRows uartReset (fun sc s => (s.uart sc).par) (fun sc a s => s.setUart sc a true) uartRule (kept := true),
   listTable 0x1002 (unitsBelow 8) evinRows (fun _ => {}) (fun sc s => (s.evin sc).par) (fun sc a s => s.mapEvin sc (fun e => { e with par := a }))
     (kept := true),
   listTable 0x9100 (fun b sc => (charterTenants b).any (fun t => t.t == sc)) klimRows (fun _ => {}) (fun sc s => (s.tenant sc).klim)
     (fun sc a s => s.mapTenant sc (fun t => { t with klim := a }))]

def tableOf (opcode : Nat) : Option ListTable := listTables.find? (fun t => t.opcode == opcode)

/-- The entries that a charter's lists give a table and scope, in their order. -/
def entriesFor (ls : List ParamList) (opcode sc : Nat) : List (Nat × Int) :=
  ((ls.filter (fun l => l.opcode == opcode && l.scope == sc)).map ParamList.entries).flatten

/-- The lists of a charter are whole, and within their chapters' ranges (R359 check 7). -/
def paramsOk (b : List Byte) : Bool :=
  let sec := charterSec b 8
  let r := listsOf sec.length sec
  r.2.isEmpty && r.1.all (fun l =>
    match tableOf l.opcode with
    | none => false
    | some t => t.scope b l.scope && !t.bad l.pay && !t.rule l.scope (entriesFor r.1 l.opcode l.scope))

/-- Writes a charter's lists over the tables in force. After a CORE RESET, the configurations that have run on keep their values (18). -/
def State.applyLists (restart : Bool) (b : List Byte) (s : State) : State :=
  (charterLists b).foldl (fun u l =>
    match tableOf l.opcode with
    | some t => if restart && t.kept then u else t.put l.scope l.entries u
    | none => u) s

/-! ### Ports and tenants of a charter -/

/-- The configuration of a block (11 R272). -/
def blockCfg (b : List Byte) : PortCfg :=
  let c := (({} : PortCfg).withMode b).withCable b
  { c with pflags := u8At b 1 % 16 }

/-- A port's entry in `PORTS` (R573). -/
def portEntry (b : List Byte) (n : Nat) : Option PortSec := (charterPorts b).find? (fun p => p.tp == n)

/-- The configuration and owner that a charter gives a port; the reset block for one without entry (R573). -/
def charterPort (b : List Byte) (n : Nat) : PortCfg × Nat :=
  match portEntry b n with
  | some e => (blockCfg e.block, e.owner)
  | none => ({}, 0xFF)

/-- The tenant that a charter lists under a number, its kernel limits as a list of `PARAMS` gives them. -/
def charterTenant (b : List Byte) (n : Nat) : Tenant :=
  match (charterTenants b).find? (fun t => t.t == n) with
  | some t => { present := true, quota := parApply quotaRows t.quota {}, klim := parApply klimRows (entriesFor (charterLists b) 0x9100 n) {} }
  | none => {}

/-- The Ethernet mode of a charter's `DEVICE` section (21 R501). -/
def charterEth (b : List Byte) (k : Nat) : Nat := let e := (charterDevice b).eth; if k = 0 then e.1 else e.2

/-- A state whose ports are as a charter gives them and whose Ethernet ports run in its modes, for the checks that need both. -/
def State.asCharter (b : List Byte) (s : State) : State :=
  { s with
    syn := { s.syn with ports := Vector.ofFn (fun i => let c := charterPort b i.val; { cfg := c.1, owner := c.2 }) }
    por := { s.por with eth := Vector.ofFn (fun k => { mode := charterEth b k.val }) } }

/-! ### The checks -/

/-- Offset of the entry of `SIG` in the directory of a charter. -/
def charterSigEntry : Nat := 64 + 16 * 9

/-- Check 1: magic, length, directory, order, alignment, gaps, section checks, reserved fields; the section at fault, 0 the header. -/
def charterCheck1 (b : List Byte) : Option Nat :=
  let dir := directory 64 b 10
  let ends := 224 :: dir.map (fun d => d.off + d.len)
  let at1 (x : Option Nat) : Option Nat := x.map (· + 1)
  firstSome
    [must (u32At b 0 == 0x48435647 && u16At b 6 == 10 && u32At b 8 == b.length && decide (224 ≤ b.length ∧ b.length ≤ 258048)) 0,
     at1 (firstFail (fun x => x.2.typ == x.1 + 1 && zeroAt b (64 + 16 * x.1 + 2) 2 && x.2.off % 8 == 0 && decide (ends.getD x.1 0 ≤ x.2.off) &&
       zeroAt b (ends.getD x.1 0) (x.2.off - ends.getD x.1 0) && decide (x.2.off + x.2.len ≤ b.length)) ((List.range 10).zip dir)),
     must (ends.getD 10 0 == b.length && (dir.getD 9 ⟨0, 0, 0, 0⟩).len == 200) 10,
     at1 (firstFail (fun d => crc32 ((b.drop d.off).take d.len) == d.crc) dir),
     must (zeroAt b 5 1 && decide (u16At b 18 < 2) && zeroAt b 32 32 && decide (1 ≤ charterGen b)) 0,
     must ((charterLists b).all (fun l => l.res == 0)) 8,
     must ((charterSec b 9).length == 4 && decide (charterLocks b < 2048) && !bit (charterLocks b) 0) 9,
     must (sigReserved b (dir.getD 9 ⟨0, 0, 0, 0⟩).off) 10]

/-- Check 4: the baseline against the floor and the running firmware's range. -/
def State.charterCheck4 (s : State) (b : List Byte) : Bool :=
  let v := charterBaseline b
  decide (s.boo.fuses.bfloor.val ≤ v ∧ s.boo.fwBase.1 ≤ v ∧ v ≤ s.boo.fwBase.2)

/-- Check 5: sites, elements, limits of lanes, the reference site and its frequency. -/
def charterCheck5 (b : List Byte) : Option Nat :=
  let ss := charterSites b
  let es := charterElems b
  let d := charterDevice b
  firstSome
    [must (decide (ss.length ≤ 12)) 12,
     (List.range ss.length).find? (fun i => decide (16 < (es.filter (fun e => e.fitted && e.site == i)).length)),
     firstFail (fun e => !e.fitted || (decide (e.site < ss.length) && comboPermitted e.maxRate e.maxWidth)) es,
     must (decide (es.length ≤ 96)) 96,
     must (decide (d.refSite < ss.length) && es.any (fun e => e.fitted && e.site == d.refSite)) d.refSite,
     must (d.refFreq == 10000 || d.refFreq == 20000 || d.refFreq == 30720) 1]

/-- Check 6: tenant numbers, port owners, quota sums. -/
def State.charterCheck6 (s : State) (b : List Byte) : Option Nat :=
  let ts := charterTenants b
  firstSome
    [(ts.find? (fun t => decide (min 8 s.boo.fuses.tlimit.val ≤ t.t) || decide (1 < (ts.filter (fun u => u.t == t.t)).length))).map (·.t),
     ((charterPorts b).find? (fun p => p.owner != 0xFF && !ts.any (fun t => t.t == p.owner))).map (·.tp),
     must ((s.asCharter b).sumsHold (charterTenant b)) 5]

/-- Check 7: port blocks, quota lists and parameter lists within their ranges. -/
def State.charterCheck7 (s : State) (b : List Byte) : Option Nat :=
  let u := s.asCharter b
  let ps := charterPorts b
  let quotaBad (t : TenSec) : Bool :=
    (List.range t.quota.length).any (fun i =>
      let e := t.quota.getD i (0, 0)
      (t.quota.take i).any (fun d => d.1 == e.1) || (match quotaRows[e.1]? with | none => true | some w => !w.fits e.2))
  firstSome
    [(ps.find? (fun p => decide (32 ≤ p.tp) || p.block.length != 48 || decide (1 < (ps.filter (fun q => q.tp == p.tp)).length) ||
       (u.portBad p.tp p.block (blockCfg p.block)).isSome)).map (·.tp),
     ((charterTenants b).find? quotaBad).map (·.t),
     must (paramsOk b) 8]

/-- Check 9: the first locked section that differs from the one in force; `LOCKS` fails also where a lock is cleared (R368). -/
def State.charterCheck9 (s : State) (b : List Byte) : Option Nat :=
  let old := charterLocks s.boo.charter
  if s.boo.charter.isEmpty then none
  else (List.range 11).find? (fun n => decide (0 < n) &&
    ((bit old n && charterSec s.boo.charter n != charterSec b n) || (n == 9 && old &&& charterLocks b != old)))

/-- The checks of R359 in order: `CCHK` and the item of the first that fails. Boot runs the first seven. -/
def State.charterChecks (boot : Bool) (b : List Byte) (s : State) : Option (Nat × Nat) :=
  let so := u32At b (charterSigEntry + 4)
  firstSome
    [failAt 1 (charterCheck1 b),
     failAt 2 (must (u8At b 4 == 1) 0),
     failAt 3 (must (s.boo.fuses.instKey.written && sigOk b so s.instKey) 10),
     failAt 4 (must (s.charterCheck4 b) 0),
     failAt 5 (charterCheck5 b),
     failAt 6 (s.charterCheck6 b),
     failAt 7 (s.charterCheck7 b),
     if boot then none else failAt 8 (must (decide (s.boo.cgen < charterGen b)) 0),
     if boot then none else failAt 9 (s.charterCheck9 b)]

/-- The status of a failed check. -/
def charterStatus (cchk : Nat) : Nat :=
  if cchk = 2 ∨ cchk = 4 then stBadVersion else if cchk = 3 then stSignatureFail else if cchk = 9 then stLocked else stBadParam

/-! ### Copies -/

/-- Bytes that a charter copy may hold (14 R355). -/
def copyBytes : Nat := 258048

/-- A copy in flash. -/
def State.copy (s : State) (i : Fin 2) : CharterCopy := s.boo.copies[i]

/-- The charter of a copy: as many bytes as its header states (R355). -/
def CharterCopy.image (c : CharterCopy) : List Byte := sreads 0xFF c.bytes 0 (min copyBytes (u32At (sreads 0xFF c.bytes 8 4) 0))

/-- A copy carries a seal that matches its bytes (R357, R358). -/
def CharterCopy.sealed (c : CharterCopy) : Bool := let b := c.image; c.sealOf == some (charterGen b, sha384 b)

/-- The standby copy: the one that does not hold the charter in force, CHB while none is (R357). -/
def State.standby (s : State) : Fin 2 := if s.boo.inForce = some 1 then 0 else 1

/-- A charter takes force: its copy, its bytes, its generation; the other copy becomes the standby copy. -/
def State.takeForce (i : Fin 2) (b : List Byte) (s : State) : State :=
  { s with boo := { s.boo with inForce := some i, charter := b, cgen := charterGen b, standbyOk := false } }

end Sys2Proof.Machine
end

