-- ==== Sys2Proof/Machine/PlanSwap.lean ====
section
/-! DEFINITION. A plan takes force: the binding of its slots (08 R191), the swap in step 3 of a boundary and in the window 1 ms later
(08 R202–R208, 04 R86, 05 R121, 03 R71), and the remedies that the Lyparil profile starts (09 R220, 22 R525, R529). -/

namespace Sys2Proof.Machine

/-- A beam that the plan in force lacks: as after reset, but for what the strides of its last epoch still use. -/
def BeamState.ended (x : BeamState) : BeamState :=
  { wsBefore := x.wsBefore, bshiftBefore := x.bshiftBefore, sumRun := x.sumRun, nRun := x.nRun, satRun := x.satRun, pwrRun := x.pwrRun,
    blankRun := x.blankRun }

/-- The slot of a beam in a plan. -/
def Plan.beam (p : Plan) (n : Nat) : Option BeamSlot := p.beams.find? (fun x => x.bnum == n)

/-- Binds the beam slots of a plan; a beam that the plan before it had in the same band carries its state (04 R86). -/
def State.bindBeams (old : Option Plan) (p : Plan) (s : State) : State :=
  let one (n : Nat) (x : BeamState) : BeamState :=
    match p.beam n with
    | none => x.ended
    | some y =>
      let kept := (old.bind (fun o => o.beam n)).any (fun z => z.bband == y.bband)
      { (if kept then x else x.ended) with band := y.bband, owner := y.bown }
  { s with arr := { s.arr with beams := Vector.ofFn (fun i => one i.val s.arr.beams[i]) } }

/-- Binds the channel slots of a plan: deputy, local slot, arms, owner (08 R191, R206, R207). -/
def State.bindChans (p : Plan) (s : State) : State :=
  let one (n : Nat) (c : ChanState) : ChanState :=
    match p.chan n with
    | none => { c with bound := false }
    | some y => { c with bound := true, dep := y.ldep, slot := y.lslot, narm := y.cnarm, owner := y.cown }
  { s with trk := { s.trk with ch := Vector.ofFn (fun i => one i.val s.trk.ch[i]) } }

/-- The fabric side of a channel that both plans hold (08 R205): its open dump is discarded unless its place is the same; with another number
of arms, the arm set is the default set. -/
def ChanState.handover (a b : ChanSlot) (c : ChanState) : ChanState :=
  let c1 := if a.lst = b.lst ∧ a.ldep = b.ldep ∧ a.lslot = b.lslot ∧ a.cnarm = b.cnarm then c
    else { c with dropDump := if c.dropDump = none ∧ c.st ≠ .idle then some false else c.dropDump }
  if a.cnarm = b.cnarm then c1 else { c1 with narm := b.cnarm, armsStaged := none }.armed

/-- The channels at a swap boundary (08 R205, R207). -/
def State.moveChans (old : Plan) (new : Plan) (s : State) : State :=
  (List.range 384).foldl (fun t n =>
    match old.chan n, new.chan n with
    | some a, some b => t.mapChan n (fun c => c.handover a b)
    | some _, none => endChannel t n
    | _, _ => t) s

/-- A plan's captures take the regions: those of the plan before return to `IDLE`, its own are armed (03 R71, 08 R195). -/
def PlanCapture.arm (c : PlanCapture) (tick : Nat) : Region :=
  { c.region with cstate := .armed, trigAt := if c.ctrig = 0 then some ((tick / 5115 + 1) * 5115) else none }

def State.planCaptures (p : Plan) (s : State) : State :=
  let one (n : Nat) (r : Region) : Region :=
    match p.caps.find? (fun c => c.cid == n) with
    | some c => c.arm s.clk.tick
    | none => if r.owner = 0x10 then {} else r
  { s with smp := { s.smp with lode := { s.smp.lode with regions := Vector.ofFn (fun i => one i.val s.smp.lode.regions[i]) } } }

/-- A plan's captures at a boundary: each is armed again every `CPERIOD` epochs, a region being filled or read left to its end (08 R195). -/
def State.rearm (s : State) : State :=
  match s.fab.active with
  | none => s
  | some p =>
    let one (n : Nat) (r : Region) : Region :=
      match p.caps.find? (fun c => c.cid == n) with
      | none => r
      | some c =>
        if r.owner ≠ 0x10 then r
        else if c.cperiod ≤ r.sinceArm + 1 ∧ r.cstate ≠ .reading ∧ ¬ (r.cstate = .filling ∧ r.left.isSome) then c.arm s.clk.tick
        else { r with sinceArm := r.sinceArm + 1 }
    { s with smp := { s.smp with lode := { s.smp.lode with regions := Vector.ofFn (fun i => one i.val s.smp.lode.regions[i]) } } }

/-- Assay slots that the plan in force lacks, or whose channel has ended, are given up (05 R121). -/
def State.dropAssays (p : Plan) (s : State) : State :=
  s.mapAssay (fun a => { a with
    reselect := true
    slots := Vector.ofFn (fun i =>
      match a.slots[i] with
      | some x => if p.assays.any (fun y => y.aslot == i.val) && (s.chan x.2).st != .idle then some x else none
      | none => none) })

/-- The streams' worst case under the plan in force (21 R510). -/
def State.sizeStreams (s : State) : State :=
  { s with por := { s.por with streams := s.por.streams.map (fun x =>
      { x with wep := worstBytes x.kind (Plan.slotsSeen s.fab.active x.ten) }) } }

/-- The Lyparil profile's swap back to the original plan designates the derated plan again (22 R529). -/
def State.designateAgain (s : State) : State :=
  let back := s.hea.props.any (fun p => p.sact == 5 && p.sstate == 1)
  let fits := match (s.slot 2).plan, s.fab.active with
    | some d, some a => (s.slot 2).verified && d.derated && d.derateOf == a.planId
    | _, _ => false
  let swapped (x : Proposal) : Proposal := if 4 ≤ x.sact ∧ x.sstate = 1 then { x with sstate := 2 } else x
  let t := { s with hea := { s.hea with props := s.hea.props.map swapped } }
  if back && fits then { t with fab := { t.fab with derated := true } } else t

/-- The active and the designated plan go to `PLANS` (14 R361). -/
def State.storePlans (s : State) : State :=
  let second : Mem := if s.fab.derated then (s.slot 2).image else []
  { s with boo := { s.boo with plansFlash := vupdN (vupdN s.boo.plansFlash 0 (fun _ => (s.slot 0).image)) 1 (fun _ => second) } }

/-- Step 3 at the swap boundary Bs: the new program runs from here; the plan that was active goes to the slot of the new one (08 R202, R205,
R207); a plan that a host activated goes to `PLANS` with the designated one (14 R361). -/
def State.swapFabric (w : Swap) (s : State) : State :=
  match (s.slot w.slot).plan with
  | none => s
  | some q =>
    let was := s.slot 0
    let slots := vupdN (vupdN s.fab.slots 0 (fun _ => s.slot w.slot)) w.slot (fun _ => if s.fab.active.isSome then was else {})
    let s1 := ({ s with fab := { s.fab with slots := slots, active := some q, swap := some { w with phase := 2, old := s.fab.active } } }).lapse
    let s2 := s1.designateAgain
    let s3 := if w.host then s2.storePlans else s2
      let s4 := match s.fab.active with
      | some o => s3.moveChans o q
      | none => s3
    (((s4.bindBeams s.fab.active q).planCaptures q).dropAssays q).sizeStreams

/-- Kernels of channels whose owner the new plan changes, or which it lacks, are unbound, with a record (08 R208, 13 R340). -/
def State.unbindMoved (p : Plan) (s : State) : State :=
  let moved := (List.range 384).filter (fun n => (s.chan n).kernel.isSome && !((p.chan n).any (fun y => y.cown == (s.chan n).owner)))
  let ks := nub (moved.filterMap (fun n => (s.chan n).kernel))
  let t := moved.foldl (fun u n => u.mapChan n (fun c => { c with kernel := none, kernelStaged := none })) s
  ks.foldl (fun u k => u.kernelRecord 0xFE k.1 0 4 2 k.2 (s.kernelHdr k) (moved.filter (fun n => (s.chan n).kernel == some k))) t

/-- Where the deputy side of a channel lies: its core and its local slot. -/
def State.depPlace (s : State) (n : Nat) : Option (Nat × Nat) :=
  if (s.chan n).bound then some (vgetD s.fab.ldMap (s.chan n).dep 0, (s.chan n).slot) else none

/-- The kernel state area of a channel moves to its new place (08 R206, 16 R416); `old` is the state before the move. The rest of the deputy side is
held with the channel. -/
def State.moveArea (old : State) (s : State) (n : Nat) : State :=
  match old.depPlace n, s.depPlace n with
  | some a, some b =>
    if a = b then s
    else
      let words := sreads 0 (vgetD old.cor.core a.1 {}).dmem (0x2000 + 0x100 * a.2) 256
      { s with cor := { s.cor with core := vupdN s.cor.core b.1 (fun c => { c with dmem := swrites 0 c.dmem (0x2000 + 0x100 * b.2) words }) } }
  | _, _ => s

/-- The changeover window of Bs + 1 ms: the deputies take the new channel map, and the plan load ends (08 R203, R206–R208). -/
def State.swapDeputies (s : State) : State :=
  match s.fab.active with
  | none => s
  | some q =>
    let u := (s.unbindMoved q).bindChans q
    let t := (List.range 384).foldl (State.moveArea s) u
    ({ t with fab := { t.fab with swap := none, standby := none } }).endAct (fun a => a.code == 3) 1

/-- A pending swap at a boundary (08 R203). -/
def State.swapStage (s : State) : State :=
  match s.fab.swap with
  | none => s
  | some w =>
    if w.phase = 2 then s.swapDeputies
    else if w.bs ≤ s.ms then s.swapFabric w
    else { s with fab := { s.fab with swap := some { w with phase := 1 } } }

/-- The Lyparil profile starts a remedy that it has proposed, while the proposal stands (09 R220, 22 R525, R529). -/
def State.startRemedy (s : State) (x : Nat × Nat × Nat) : State :=
  if !(s.hea.props.any (fun p => p.sact == x.1 && p.sindex == x.2.1 && p.sstate == 0)) then s
  else if x.1 = 1 then s.deviceStart { code := 2, arg := x.2.1, arg2 := x.2.2, initiator := 1 }
  else if x.1 = 2 then s.deviceStart { code := 2, arg := 0x100 + x.2.1, arg2 := x.2.2, initiator := 1 }
  else if x.1 = 3 then s.deviceStart { code := 5, arg := x.2.1, arg2 := x.2.2, initiator := 1 }
  else (s.deviceStart { code := 3, arg := 2, arg2 := s.spOf x.1 x.2.1, initiator := 1 }).settle x.1 x.2.1 1

/-- The remedies proposed before this boundary start. -/
def State.startRemedies (s : State) : State :=
  s.fab.remedies.foldl State.startRemedy { s with fab := { s.fab with remedies := [] } }

/-- A plan takes force at boot (14 R361): slot 0 holds it, its slots are bound, its captures armed. -/
def State.loadPlan (image : Mem) (p : Plan) (s : State) : State :=
  let t := { s with fab := { s.fab with
    active := some p, slots := vupdN s.fab.slots 0 (fun _ => { image := image, verified := true, plan := some p }) } }
  (((t.bindBeams none p).bindChans p).planCaptures p).sizeStreams

end Sys2Proof.Machine
end

