-- ==== Sys2Proof/Machine/Boot.lean ====
section
/-! DEFINITION. Boot and HOLD (14 R352–R365, 18 R447, R448): the rows `BOOT` and `FIRMWARE_RETRY`, and boot step 6, which a commit in HOLD
runs too. -/

namespace Sys2Proof.Machine

/-! ### Step 2 and 3: firmware -/

/-- A firmware image that verifies: major, minor, patch, least and greatest baseline (14 R353). -/
abbrev FwImage := Nat × Nat × Nat × Nat × Nat

def FwImage.ver (i : FwImage) : Nat × Nat × Nat := (i.1, i.2.1, i.2.2.1)
def FwImage.base (i : FwImage) : Nat × Nat := i.2.2.2
def FwImage.key (i : FwImage) : Nat := (i.1 * 65536 + i.2.1) * 65536 + i.2.2.1

/-- The image may boot under the fused baseline floor (R353). -/
def State.fwQualifies (s : State) (i : FwImage) : Bool :=
  let f := s.boo.fuses.bfloor
  !f.written || decide (i.base.1 ≤ f.val ∧ f.val ≤ i.base.2)

/-- The higher version of two, the first on ties. -/
def FwImage.higher (a : Option FwImage) (i : FwImage) : Option FwImage :=
  match a with
  | none => some i
  | some b => if b.key < i.key then some i else a

/-- The image to boot (R353): after a CORE RESET the one of the last boot while it verifies (18 R447), else the qualifying one of the higher
version. -/
def State.chooseFw (found : BootFound) (s : State) : Option FwImage :=
  let l := found.fw.filterMap id
  let best := (l.filter s.fwQualifies).foldl FwImage.higher none
  match (if s.boo.restart && s.boo.fwRetry.isNone then l.find? (fun i => FwImage.ver i == s.boo.fwVer) else none) with
  | some i => some i
  | none => best

/-- Milliseconds to load an image in the strapped flash width (14 boot sequence). -/
def State.loadMs (s : State) : Nat := if s.boo.strap = 2 ∨ s.boo.strap = 4 ∨ s.boo.strap = 8 then 400 else 120

/-- Waits until a number of milliseconds after a tick count since the reset. -/
def State.waitFrom (up ms : Nat) (s : State) : State := s.wait (up + ms * epochTicks - s.clk.up)

/-! ### Step 4: the tally head and the installer key -/

/-- The tally head against flash (13 R341): rebuilt when its CRC fails, or taken to the records beyond it whose chain follows. -/
def State.checkHead (s : State) : State :=
  let t := s.ten.tally
  let set (h : TallyHead) (cause : Nat) : State :=
    let u : TallyState := { t with head := h, rebuilt := true, broken := false
                                   nextSeq := if t.queue.isEmpty then h.seq + 1 else t.nextSeq
                                   lastHash := if t.queue.isEmpty then h.hash else t.lastHash }
    ({ s with ten := { s.ten with tally := u } }).tallyOwn 0x0002 0xFF (b32 h.seq ++ b8 cause ++ bz 3)
  let beyond := (t.flash.map (·.2)).filter (fun r => decide (t.head.seq < r.seq))
  if !t.head.crcOk then
    let first := ({ t with head := {} } : TallyState).firstSeq
    set (({ t with head := {} } : TallyState).headAt (first - 1)) 1
  else if !beyond.isEmpty && (chainBreak t.head.hash beyond).isNone then set (t.headAt t.head.exp) 2
  else { s with ten := { s.ten with tally := { t with rebuilt := false, broken := false } } }

/-- `PROV` names an installer key and its signature binds the key to this GV9600 (14 R354). -/
def provOk (b : List Byte) : Bool :=
  let ipub := (b.drop 4).take 97
  u32At b 0 == 0x56505647 &&
  ecVerify ipub (sha384 (ascii "GVP1" ++ Config.serial ++ ipub)) ((b.drop 101).take 48) ((b.drop 149).take 48)

/-- Provisioning (14 R354): a valid `PROV` blows the installer key hash, which is read back, with a `CONFIG` record of the GV9600. -/
def State.provision (s : State) : State :=
  if s.boo.fuses.instKey.written || !provOk s.boo.prov then s
  else
    let ipub := (s.boo.prov.drop 4).take 97
    let v := Config.fuseBack 1 (beNat (sha384 ipub)) s.free
    let t := { s with free := s.free + 1, boo := { s.boo with fuses := { s.boo.fuses with instKey := ⟨v, true⟩ } } }
    t.tallyOwn 0x0200 0xFF (b16 0xFFFF ++ b16 1 ++ b32 0 ++ b64 0 ++ b16 0 ++ bz 6 ++ sha256 ipub)

/-! ### Step 5: the charter -/

/-- What boot finds of a copy: 0 valid, 0xFE no seal that matches, else the check that fails (14 R358, 13 R574). -/
def State.bootCheck (s : State) (i : Fin 2) : Nat :=
  if !(s.copy i).sealed then 0xFE
  else match s.charterChecks true (s.copy i).image with
    | none => 0
    | some (c, _) => c

/-- The valid copy with the higher `CGEN` (14 R358). -/
def State.bootCopy (s : State) : Option (Fin 2) :=
  let ok (i : Fin 2) : Bool := s.bootCheck i == 0
  let g (i : Fin 2) : Nat := charterGen (s.copy i).image
  if ok 0 && ok 1 then (if g 0 < g 1 then some 1 else some 0) else if ok 0 then some 0 else if ok 1 then some 1 else none

/-- The HOLD cause where no copy is valid (14 R363). -/
def State.bootCause (s : State) : Nat :=
  let r := [s.bootCheck 0, s.bootCheck 1].filter (· != 0xFE)
  if !r.isEmpty && r.all (· == 4) then 3 else 2

/-- The `BOOT` record, with the crash record of a reset that left one (13 R574, 18 R448). -/
def State.bootRecord (cause : Nat) (s : State) : State :=
  let c := s.pow.crash
  let f (g : CrashRec → Nat) : List Byte := b32 ((c.map g).getD 0)
  let t := s.tallyOwn 0x0001 0xFF
    (b16 s.pow.rstCause ++ b8 (bbool s.lyparil) ++ b8 s.boo.strap ++ b8 s.boo.fwVer.1 ++ b8 s.boo.fwVer.2.1 ++ b16 s.boo.fwVer.2.2 ++
     b32 s.boo.cgen ++ b8 s.boo.chkA ++ b8 s.boo.chkB ++ b8 cause ++ bz 1 ++ b8 (bbool c.isSome) ++ bz 3 ++
     f (·.pc) ++ f (·.st) ++ f (·.excCause) ++ f (·.excAddr) ++ b32 0)
  { t with pow := { t.pow with crash := none } }

/-- Records `BOOT` with a HOLD cause and enters HOLD; the pins take their inactive levels (14 R363, R364). -/
def State.bootHold (cause : Nat) (s : State) : State :=
  let t := (s.bootRecord cause).enterHold cause
  { t with boo := { t.boo with restart := false }, pow := { t.pow with pinsHighZ := false, wdFrom := t.clk.up } }.refMissing

/-- The sparing record is restored at every boot; without a good record of this GV9600 it starts from the default mapping and the default bank map, with
every reserve untested (08 R174). -/
def State.restoreSparing (s : State) : State :=
  let fresh : FabricState := {}
  let plain : LodeState := {}
  let default : State := { s with
    fab := { s.fab with
      lsMap := fresh.lsMap, ldMap := fresh.ldMap, stSuspect := fresh.stSuspect, dpSuspect := fresh.dpSuspect, stRetired := fresh.stRetired
      dpRetired := fresh.dpRetired, stTest := fresh.stTest, dpTest := fresh.dpTest }
    smp := { s.smp with lode := { s.smp.lode with bankMap := plain.bankMap, use := plain.use } } }
  match s.fab.sparing with
  | none => default
  | some r =>
    if !r.ok || r.serial != leNat Config.serial then default
    else
      let use (b : Nat) : BankUse := if r.bankRetired.contains b then .retired else if r.bankMap.toList.contains b then .service else .spare
      { s with
        fab := { s.fab with lsMap := r.lsMap, ldMap := r.ldMap, stSuspect := r.stSuspect, dpSuspect := r.dpSuspect, stRetired := r.stRetired
                            dpRetired := r.dpRetired, stTest := r.stTest, dpTest := r.dpTest }
        smp := { s.smp with lode := { s.smp.lode with bankMap := r.bankMap, use := Vector.ofFn (fun i => use i.val) } } }

/-! ### Step 6: what the charter and flash bring -/

/-- The tenant table of the charter with the overlay of its generation (13 R331). -/
def State.bootTenants (b : List Byte) (s : State) : State :=
  let added := if s.ten.overlayGen = some (charterGen b) then s.ten.overlayTab else []
  let one (t : Nat) : Tenant :=
    let x := charterTenant b t
    match (added.reverse.find? (fun o => o.1 == t)).map (·.2) with
    | some (some q) => { x with present := true, quota := q }
    | some none => {}
    | none => x
  { s with ten := { s.ten with t := Vector.ofFn (fun i => one i.val) } }

/-- What `INTEGRITY` requires (14 charter sections, 10 R262). -/
def State.applyInteg (b : List Byte) (s : State) : State :=
  let g := charterInteg b
  { s with sol := { s.sol with integP := { s.sol.integP with osnmaReq := g.osnmaReq, sigreq := g.sigReq } } }

/-- A port as its charter entry has it at boot (14 R362, R573): its enable waits for `NOMINAL`, the port being `GATED` until then. -/
def bootPort (c : PortCfg × Nat) : PortState :=
  let d := c.1.dOf c.1.nomdly
  { cfg := { c.1 with pflags := c.1.pflags / 2 * 2 }, owner := c.2, dfwd := c.1.nomdly, d := d, dTarget := d, uncal := true
    pstate := if c.1.enable then .gated else .off }

/-- Ports and Ethernet modes at a boot from a reset that spares neither (14 R362, R573; 21 R501). -/
def State.bootPorts (b : List Byte) (s : State) : State :=
  { s with
    syn := { s.syn with ports := Vector.ofFn (fun i => bootPort (charterPort b i.val)) }
    por := { s.por with eth := Vector.ofFn (fun k => { s.por.eth[k] with mode := charterEth b k.val }) }
    boo := { s.boo with pendingEnable := (List.range 32).filter (fun n => (charterPort b n).1.enable) } }

/-- The calibration table as the charter starts it (05 R117, R119): a site surveyed by the installer has its baseline from a reference site so surveyed;
the others start with 5 m, and their code solution follows. And the survey of the reference site (10 R242): the installer's, the
self-survey stored under the charter's site and element table, or a self-survey that begins. -/
def State.bootSurvey (b : List Byte) (s : State) : State :=
  let home := (charterDevice b).refSite
  let r := (charterSites b)[home]?.getD {}
  let entry (i : Nat) (e : SiteEntry) : SiteEntry :=
    match (charterSites b)[i]? with
    | none => e
    | some x =>
      if x.mode = 1 then
        if r.mode = 1 then { e with bx := x.pos.1 - r.pos.1, by_ := x.pos.2.1 - r.pos.2.1, bz := x.pos.2.2 - r.pos.2.2, sigPos := min 0xFFFF x.sig }
        else { e with sigPos := 50000 }
      else { e with sigPos := 50000 }
  let kept := s.sol.surveyHash == some (siteHash b) && s.arr.assay.stored.isSome
  let pos := if r.mode = 1 then r.pos else if kept then (s.arr.assay.stored.map (·.refPos)).getD (0, 0, 0) else (0, 0, 0)
  let t := s.mapAssay (fun a => { a with table := { a.table with
    refSite := home, refPos := pos, sites := Vector.ofFn (fun i => entry i.val a.table.sites[i]) } })
  { t with sol := { t.sol with
    smode := if r.mode = 1 then 2 else if kept then 3 else 1
    survey := if r.mode = 1 ∨ kept then none else some (0, 0) } }

/-- The trim curve from `STORE`, then `TRIM_EN` (19 R464, R472). -/
def State.bootTrim (s : State) : State :=
  { s with bak := { s.bak with
    curve := (s.bak.curveStore.map (·.1)).getD s.bak.curve, trimOff := (s.bak.curveStore.map (·.2)).getD s.bak.trimOff, trimEn := true } }

/-- The plan of `PLANS` takes force when it verifies, and when it is the charter's boot plan or, after a CORE RESET, whatever plan stands
there (14 R361, 18 R447); then the derated plan that replaces it is designated. -/
def State.bootPlan (b : List Byte) (restart : Bool) (s : State) : State :=
  let m := s.boo.plansFlash[0]
  let p := planOf (imageOf m)
  let named := restart || (charterBootPlan b != 0 && p.planId == charterBootPlan b)
  if m.isEmpty || !named || (s.planChecks (imageOf m)).isSome then s
  else
    let t := s.loadPlan m p
    let d := s.boo.plansFlash[1]
    let q := planOf (imageOf d)
    if d.isEmpty || (t.planChecks (imageOf d)).isSome || !q.derated || q.derateOf != p.planId then t
    else { t with fab := { t.fab with derated := true, slots := vupdN t.fab.slots 2 (fun _ => { image := d, verified := true, plan := some q }) } }

/-- Boot step 6 with the charter in force: overlay, calibration, almanacs, survey, boot plan; after a CORE RESET the ports, the Ethernet modes
and TCNT run on (18). -/
def State.step6 (s : State) : State :=
  let b := s.boo.charter
  let re := s.boo.restart
  let s1 := ((((s.applyInteg b).applyLists re b).bootTenants b).bootSurvey b).bootTrim
  let s2 := s1.mapAcq (fun a => { a with eph := a.ephFlash, alm := a.almFlash })
  let s3 := if re then s2 else (s2.bootPorts b).bootTime
  s3.bootPlan b re

/-- Boot step 7: RUN, with its transports and, unless they have run on, its lanes, which wait for REFIN (23 R546). -/
def State.step7 (s : State) : State :=
  let re := s.boo.restart
  let t := { s with
    boo := { s.boo with dstate := .run, holdCause := 0, restart := false, resumed := re }
    pow := { s.pow with pinsHighZ := false, wdFrom := s.clk.up } }
  if re then t else t.startLanes.refMissing

/-- Boot step 5 and what follows it. -/
def State.step5 (s : State) : State :=
  if s.boo.restart && !s.boo.charter.isEmpty then
    let t := ({ s with boo := { s.boo with chkA := 0xFF, chkB := 0xFF } }).bootRecord 0
    (t.step6.wait (250 * epochTicks)).step7
  else
    let t := { s with boo := { s.boo with restart := false, chkA := s.bootCheck 0, chkB := s.bootCheck 1 } }
    match s.bootCopy with
    | none => t.bootHold s.bootCause
    | some i =>
      let u := (t.takeForce i (s.copy i).image).bootRecord 0
      (u.step6.wait (250 * epochTicks)).step7

/-- Boot from step 2 on, `from_` being the tick count since the reset at which the steps begin and `lead` the ms before step 3 ends without
the load. -/
def State.bootFrom (found : BootFound) (from_ lead : Nat) (s0 : State) : State :=
  let s := { s0 with boo := { s0.boo with prov := found.prov } }
  match s.chooseFw found with
  | none =>
    let t := s.waitFrom from_ lead
    { t with boo := { t.boo with fwRetry := some t.upMs } }
  | some i =>
    let s1 := { (s.waitFrom from_ (lead + s.loadMs)) with boo := { s.boo with fwVer := FwImage.ver i, fwBase := FwImage.base i, fwRetry := none } }
    let s2 := s1.restoreSparing.checkHead.flushTally.provision
    if !s2.boo.fuses.instKey.written then s2.bootHold 1 else (s2.wait (30 * epochTicks)).step5

/-- The Overman is about to boot: in BOOT, with power, and held in no reset. -/
def State.booting (s : State) : Bool := s.boo.dstate == .boot && s.pow.pst == .run && !s.held

/-- Once it has booted, the Overman empties the UARTs' holding registers (20 R483). -/
def State.emptyHolds (s : State) : State := if s.overmanUp then (List.range 4).foldl (fun t n => t.takeHold n) s else s

/-- `BOOT` (14 R353–R363, 18 R447). -/
def execEvBoot (found : BootFound) (s : State) : Host.Outcome State Fault Refusal :=
  .next (if s.booting ∧ s.boo.fwRetry = none then (s.bootFrom found s.pow.leftReset (if s.boo.restart then 0 else 5)).emptyHolds else s)

/-- `FIRMWARE_RETRY` (14 R353): 10 s after a choice that found no image. -/
def execEvFirmwareRetry (found : BootFound) (s : State) : Host.Outcome State Fault Refusal :=
  .next (match s.boo.fwRetry with
    | some t => if s.booting ∧ t + 10000 ≤ s.upMs then (s.bootFrom found s.clk.up 0).emptyHolds else s
    | none => s)

end Sys2Proof.Machine
end

