-- ==== Sys2Proof/Machine/Coherence.lean ====
section
/-! DEFINITION. Coherence at a boundary (step 4 of 01 R18): the dwell by which sites join and leave group 0 (04 R87, R91), and the mode, groups,
beams and linked channels of every tracked signal (04 R88–R90, 06 R134). -/

namespace Sys2Proof.Machine

/-! ### Sites -/

/-- A sector contains an azimuth, running clockwise from its first to its second bound (12 R322). -/
def inSector (x : Nat × Nat × Int) (az : Nat) : Bool :=
  if x.1 ≤ x.2.1 then decide (x.1 ≤ az ∧ az ≤ x.2.1) else decide (x.1 ≤ az ∨ az ≤ x.2.1)

/-- A direction lies above a site's mask. -/
def SkyMask.clear (m : SkyMask) (az : Nat) (el : Int) : Bool :=
  decide ((100 * m.mask : Nat) ≤ el) && m.sectors.all (fun x => !inSector x az || decide (x.2.2 < el))

/-- A site sees a signal: the signal lies above the site's mask and the site has an element in service (04 R88). A signal that nothing predicts
counts as seen. -/
def State.sees (s : State) (sigid : Nat) (k : Int) (site : Nat) : Bool :=
  !(s.serving site (sigBand sigid)).isEmpty &&
  (match Config.direction sigid k s.ms with | none => true | some d => (vgetD s.arr.masks site {}).clear d.1 d.2)

/-- The sites that see a signal. -/
def State.sitesOf (s : State) (sigid : Nat) (k : Int) : List Nat := (List.range 12).filter (s.sees sigid k)

/-- A mask of sites. -/
def siteMask (l : List Nat) : Nat := (l.map (2 ^ ·)).foldl (· + ·) 0

/-- Assay's uncertainties of a site lie within the entry thresholds (04 R87). -/
def BandCoh.within (c : BandCoh) (e : SiteEntry) (b : Band) : Bool :=
  decide (e.sigClk.get b ≤ 100 * c.params.tauIn ∧ e.sigPh.get b ≤ 4 * c.params.phiIn)

/-- One of them exceeds its exit threshold. -/
def BandCoh.outside (c : BandCoh) (e : SiteEntry) (b : Band) : Bool :=
  decide (100 * c.params.tauOut < e.sigClk.get b ∨ 4 * c.params.phiOut < e.sigPh.get b)

/-- One site's dwell at a boundary (04 R87): a site without an element in service, one whose calibration is invalid, and one whose swept solution
has been found to differ (05 R122), stands outside. -/
def State.siteDwell (s : State) (b : Band) (c : BandCoh) (site : Nat) : BandCoh :=
  let e := s.siteEntry site
  let shut := (s.serving site b).isEmpty || (vgetD s.arr.assay.invalid site ⟨false, false, false⟩).get b || vgetD s.arr.assay.conflict site false ||
    vgetD c.leave site false
  let in_ : Bool := vgetD c.inGroup site false
  let ni := if !shut && !in_ && c.within e b then vgetD c.dwellIn site 0 + 1 else 0
  let no := if !shut && in_ && c.outside e b then vgetD c.dwellOut site 0 + 1 else 0
  let now : Bool := if shut then false else if in_ then decide (no < c.params.dwellOut) else decide (c.params.dwellIn ≤ ni)
  { c with inGroup := vupdN c.inGroup site (fun _ => now), dwellIn := vupdN c.dwellIn site (fun _ => if now then 0 else ni)
           dwellOut := vupdN c.dwellOut site (fun _ => if now then no else 0) }

/-- The coherence state of a band at a boundary: parameters and policy accepted commit (04 R91, R99), then the dwell. -/
def State.bandDwell (s : State) (b : Band) : State :=
  let c := s.cohOf b
  let c1 : BandCoh := if s.stepping then c else
    { c with params := c.paramsStaged.getD c.params, paramsStaged := none, policy := c.policyStaged.getD c.policy, policyStaged := none }
  let c2 := ((List.range 12).filter (fun i => !s.isRef i b)).foldl (s.siteDwell b) c1
  s.mapCoh b (fun _ => { c2 with leave := Vector.replicate 12 false })

/-! ### Modes -/

/-- How a tracked signal is to be served: its primary channel, the groups of the sites that see it, and the group that one beam would take with
its elements left out (04 R88). -/
structure Want where
  n : Nat
  sigid : Nat
  groups : List Nat
  first : Nat
  left : Nat
deriving DecidableEq, Repr

/-- The elements in service that a group gives a signal. -/
def State.groupSize (s : State) (b : Band) (sites : List Nat) (g : Nat) : Nat :=
  ((sites.filter (fun i => s.groupOf i b == some g)).map (fun i => (s.serving i b).length)).foldl (· + ·) 0

/-- What a primary channel's signal asks for. -/
def State.want (s : State) (n : Nat) : Want :=
  let c := s.chan n
  let b := sigBand c.sigid
  let sites := s.sitesOf c.sigid c.glok
  let gs := sortBy (fun x => x) (nub (sites.filterMap (fun i => s.groupOf i b)))
  let size := s.groupSize b sites
  let first := if gs.contains 0 then 0 else (leastBy (fun g => 96 - size g) gs).getD 0
  { n := n, sigid := c.sigid, groups := gs, first := first, left := (gs.map size).foldl (· + ·) 0 - size first }

/-- Channels that are primary and hold a signal. -/
def State.primaries (s : State) : List Nat := (List.range 384).filter (fun n => (s.chan n).setNow.on && (s.chan n).prim.isNone)

/-- One grant of SPLIT (04 R89): primary channel, group, channel and beam. -/
structure Grant where
  prim : Nat
  group : Nat
  ch : Nat
  beam : Nat
deriving DecidableEq, Repr

/-- Channel and beam slots not yet granted at this boundary, the search beams that SPLIT may take, and how many each band still has. -/
structure Pool where
  chs : List Nat
  free : List Nat
  search : List Nat
  left : PerBand Nat
deriving DecidableEq, Repr

/-- What SPLIT may draw on: channels that are free or linked, track beams that are free or serve a linked channel, search beams (04 R89). -/
def State.pool (s : State) (p : Plan) : Pool :=
  let linked := (List.range 384).filter (fun n => (s.chan n).prim.isSome)
  let track := p.beams.filter (fun x => bit x.bkinds 0 && x.bown != 0)
  { chs := ((p.chans.map (·.cnum)).filter (fun n => (s.chan n).bound && ((s.chan n).st == .idle || linked.contains n)))
    free := (track.filter (fun x => (s.beam x.bnum).kind == 0xFF || linked.any (fun n => (s.chan n).beam == x.bnum))).map (·.bnum)
    search := (track.filter (fun x => (s.beam x.bnum).kind == 1)).map (·.bnum)
    left :=
      let n (b : Band) : Nat := (p.beams.filter (fun x => x.bband == b.code && (s.beam x.bnum).kind == 1)).length
      ⟨n .u, n .m, n .l⟩ }

/-- A free beam for a channel slot: the one it has, else one of its stope (04 R89). -/
def State.freeBeamFor (s : State) (p : Plan) (w : Want) (pool : Pool) (c : ChanSlot) : Option Nat :=
  let here (n : Nat) : Bool := (p.beam n).any (fun x => x.lst == c.lst)
  firstSome [pool.free.find? (fun n => (s.chan c.cnum).prim == some w.n && (s.chan c.cnum).beam == n && here n), pool.free.find? here]

/-- A search beam for a channel slot while more than `SRCH_MIN` remain in the band (04 R89). -/
def State.searchBeamFor (s : State) (p : Plan) (w : Want) (pool : Pool) (c : ChanSlot) : Option Nat :=
  let b := sigBand w.sigid
  if (s.cohOf b).params.srchMin < pool.left.get b then pool.search.find? (fun n => (p.beam n).any (fun x => x.lst == c.lst && x.bband == b.code)) else none

/-- A channel and a beam for one more group of a signal, on its primary channel's deputy (04 R89): free beam slots of the band come before search
beams. -/
def State.pair (s : State) (p : Plan) (w : Want) (pool : Pool) : Option (Nat × Nat × Pool) :=
  let b := sigBand w.sigid
  let ok (c : ChanSlot) : Bool :=
    c.ldep == (s.chan w.n).dep && ((p.stopes[c.lst]?).map (·.bandin)) == some b.code && pool.chs.contains c.cnum
  let l := sortBy (fun c => (if (s.chan c.cnum).prim == some w.n then 0 else 512) + c.cnum) (p.chans.filter ok)
  let without (x : Nat) : Pool := { pool with chs := pool.chs.filter (· != x) }
  firstSome (
    l.map (fun c => (s.freeBeamFor p w pool c).map (fun m => (c.cnum, m, { (without c.cnum) with free := pool.free.filter (· != m) }))) ++
    l.map (fun c => (s.searchBeamFor p w pool c).map (fun m =>
      (c.cnum, m, { (without c.cnum) with search := pool.search.filter (· != m), left := pool.left.upd b (· - 1) }))))

/-- A pair for each of the groups, or none. -/
def State.grantAll (s : State) (p : Plan) (w : Want) : List Nat → Pool → List Grant → Option (List Grant × Pool)
  | [], pool, acc => some (acc, pool)
  | g :: gs, pool, acc =>
    match s.pair p w pool with
    | none => none
    | some x => s.grantAll p w gs x.2.2 (acc ++ [{ prim := w.n, group := g, ch := x.1, beam := x.2.1 }])

/-- A signal may be served in SPLIT: its groups are several, the policy allows it, and its primary channel has entered `TRACK` (04 R88, R91; 06
R134). -/
def State.splits (s : State) (w : Want) : Bool :=
  decide (1 < w.groups.length) && (s.cohOf (sigBand w.sigid)).policy != .noSplit &&
  ((s.chan w.n).st == .track || (s.chan w.n).st == .coast || s.splitNow w.n)

/-- The mode of a signal: FULL 0, SPLIT 1, PART 2 (04 beam descriptor). A signal that no site sees fits none of the three: FULL with a group count
of 1 (DESIGN CHOICE, log 46). -/
def Want.mode (w : Want) (split : Bool) : Nat := if w.groups.all (· == 0) then 0 else if split then 1 else 2

/-- Grants slots to signals in descending order of the elements that PART would leave out, ties to the lower channel (04 R89). -/
def State.grants (s : State) (p : Plan) (l : List Want) : List Grant :=
  let order := sortBy (fun w => 512 * (96 - min 96 w.left) + w.n) (l.filter s.splits)
  (order.foldl (fun (acc : List Grant × Pool) w =>
    match s.grantAll p w (w.groups.filter (· != w.first)) acc.2 [] with
    | some r => (acc.1 ++ r.1, r.2)
    | none => acc) ([], s.pool p)).1

/-- Gives up a channel with nothing of it going back to acquisition: a linked channel that serves no more. -/
def State.unlink (n : Nat) (s : State) : State := s.mapChan n ChanState.idle

/-- A channel joins a signal as a linked channel (06 R134): the primary's code NCO, an own carrier NCO, which starts from the primary's. -/
def ChanState.link (g : Grant) (pr c : ChanState) : ChanState :=
  if c.prim = some g.prim ∧ c.sigid = pr.sigid ∧ c.beam = g.beam then { c with group := g.group }
  else
    ({ (c.idle.enter .pullin) with
        sigid := pr.sigid, glok := pr.glok, nco := pr.nco, secwipe := pr.secwipe, prim := some g.prim, beam := g.beam, group := g.group }).armed

/-- The sites of a signal's beam for a group: those that see it and stand in the group. -/
def State.groupSites (s : State) (sigid : Nat) (k : Int) (g : Nat) : Nat :=
  siteMask ((s.sitesOf sigid k).filter (fun i => s.groupOf i (sigBand sigid) == some g))

/-- A beam takes up a group of a signal; `MASKED` where a site of the group lies below its mask (04 beam descriptor). -/
def State.serve (s : State) (sigid : Nat) (k : Int) (g mode : Nat) (x : BeamState) : BeamState :=
  let b := sigBand sigid
  let hid := (List.range 12).any (fun i => s.groupOf i b == some g && !s.sees sigid k i)
  { x with kind := 0, signal := some sigid, glok := k, mode := mode, group := g, sites := s.groupSites sigid k g, flags := { x.flags with masked := hid } }

/-- Serves one primary signal: mode, group and beam of its channel and of those linked to it. -/
def State.serveSignal (gr : List Grant) (s : State) (w : Want) : State :=
  let c := s.chan w.n
  let mine := gr.filter (fun g => g.prim == w.n)
  let m := w.mode (!mine.isEmpty)
  let sv (g : Nat) (x : BeamState) : BeamState := s.serve w.sigid c.glok g m x
  let s1 := (s.mapChan w.n (fun x => { x with group := w.first })).mapBeam c.beam (sv w.first)
  let s2 := mine.foldl (fun t g => (t.mapChan g.ch (fun x => ChanState.link g c x)).mapBeam g.beam (sv g.group)) s1
  s2.mapCoh (sigBand w.sigid) (fun x => { x with modes := x.modes ++ [(w.sigid, c.glok, m, max 1 w.groups.length)] })

/-- Coherence in step 4 of a boundary (04 R87–R91): sites join and leave, linked channels that are not granted a slot again end, every tracked
signal gets its mode. -/
def State.coherence (s : State) : State :=
  let s1 := bands.foldl State.bandDwell s
  let s2 := bands.foldl (fun t b => t.mapCoh b (fun c => { c with modes := [] })) s1
  match s2.fab.active with
  | none => s2
  | some p =>
    let l := s2.primaries.map s2.want
    let gr := s2.grants p l
    let gone := (List.range 384).filter (fun n => (s2.chan n).prim.isSome && !gr.any (fun g => g.ch == n))
    l.foldl (State.serveSignal gr) (gone.foldl (fun t n => t.unlink n) s2)

end Sys2Proof.Machine
end

