-- ==== Sys2Proof/Machine/BoundaryChans.lean ====
section
/-! DEFINITION. Channels at a boundary (step 4 of 01 R18): the committed updates (06 R139), states (06 channel states), the commands accepted
(06 R153), kernels (06 R145, 13 R338, R339), linked channels (06 R134) and the carrier lock time (10 R237). -/

namespace Sys2Proof.Machine

/-- What the strides of the epoch that closes still use (08 R181), and the kernel that the deputies call for its dumps: the one bound in it
(01 R18). -/
def ChanState.keepBefore (v : Served) (c : ChanState) : ChanState := { c with before := c.setNow, was := v, kernelOld := c.kernel, kfirstOld := c.kfirst }

/-- The update of a primary channel as its linked channels take it: its code fields, or its code rate where it wrote none (06 R134). -/
def ChanState.codeUpdate (c : ChanState) : ChUpdate := c.staged.getD { crate := 0, krate := c.nco.krate }

/-- A linked channel's own update without its code fields; without one it takes those of the primary all the same. -/
def ChanState.ownUpdate (c : ChanState) : ChanState :=
  if c.prim.isSome then { c with staged := some (c.staged.getD { crate := c.nco.crate, krate := 0 }) } else c

/-- A channel's update registers, void flag and age in the new epoch (06 R139, R147, R153). -/
def ChanState.open_ (c : ChanState) : ChanState :=
  { c with upd := { c.upd with pending := false }, staged := none, voids := if c.voided then c.voids + 1 else 0
           voided := false, cage := satAdd 0xFFFF_FFFF c.cage 1 }

/-- The commands accepted for a channel (06 R153): loop parameters, arms, kernel. -/
def ChanState.commitStaged (c : ChanState) : ChanState :=
  let k := c.kernelStaged.getD c.kernel
  { c with
    loop := c.loopStaged.getD c.loop, loopStaged := none
    arms := c.armsStaged.getD c.arms, armsStaged := none
    kernel := k, kernelStaged := none, kfirst := if k = c.kernel then c.kfirst else k.isSome }

/-- The state at the new epoch's first tick of a channel that holds a signal (06 R134, R139), and the slot that decoding has named (07 R161). -/
def ChanState.moved (prim : Option ChanState) (c : ChanState) : ChanState :=
  match typeOf c.sigid with
  | none => c
  | some t =>
    let d := c.ownUpdate.applyUpdate t (prim.map ChanState.codeUpdate)
    match c.gloSlot with
    | some n => { d with sigid := 256 * sigT c.sigid + n, gloSlot := none }
    | none => d

/-- A channel whose initial NCO state commits (06 R151, channel states; 05 R115). -/
def ChanState.begun (boot : Bool) (c : ChanState) : ChanState :=
  ({ (c.enter (if boot then .boot else .pullin)) with nco := c.ncoInit.getD c.nco, ncoInit := none }).armed

/-- One channel at a boundary; `old` is the state before step 4. -/
def State.stepChan (old : State) (s : State) (n : Nat) : State :=
  let c := s.chan n
  let commit (x : ChanState) : ChanState := if s.stepping then x else x.commitStaged
  match c.st with
  | .idle => s.mapChan n (fun x => commit { x.open_ with releaseStaged := s.stepping && x.releaseStaged })
  | .handover => s.mapChan n (fun x => commit (x.open_.begun (s.bootstrap (sigBand x.sigid))))
  | .lost => (s.lostSearch c).mapChan n (fun x => commit x.idle)
  | _ =>
    if c.releaseStaged && !s.stepping then s.mapChan n (fun x => commit x.idle)
    else
      s.mapChan n (fun x =>
        let y := (x.moved (x.prim.map old.chan)).open_
        commit (if y.st = .boot ∧ s.bootstrap (sigBand y.sigid) = false then y.enter .pullin else y))

/-- The carrier lock time at a boundary (10 R234, R237): it counts in `TRACK`; it starts again after three void epochs, a carrier step of more than
a quarter cycle, or another set of sites in the epoch that closes; outside `TRACK` every entry carries `SLIP` until the count starts again (log 56). -/
def State.lockTime (old : State) (s : State) (n : Nat) : State :=
  let c := s.chan n
  let o := old.chan n
  let step : Int := ((o.staged.bind (·.cstep)).map (sx 48)).getD 0
  let sites := c.was.sites
  let anew (slip : Bool) (x : ChanState) : ChanState :=
    { x with locked := true, lockMs := 0, lockPhase := 0, lockL0 := s.lockStart c, slip := slip, sites := sites }
  s.mapChan n (fun x =>
    if x.st ≠ .track then { x with locked := false, lockMs := 0, lockPhase := 0, slip := x.locked || x.slip, sites := if x.st = .idle then 0 else sites }
    else if !x.locked then anew x.slip x
    else if x.voids = 3 ∨ 2 ^ 46 < step.natAbs ∨ x.sites ≠ sites then anew true x
    else { x with lockMs := x.lockMs + 1, lockPhase := x.lockPhase + 81840 * sx 48 o.nco.crate, slip := false })

/-- A kernel that failed too often is unbound, with `FLT_KERNEL` (0x1B01; 06 R145). -/
def State.failKernel (s : State) (k : Nat × Nat) : State :=
  (s.unbindKernel 1 k).report 0x1B01 1 k.1 (4 * k.1 + k.2) (Config.encodeFields 0x1B01 [k.1, k.2, (s.kernelHdr k).kid])

/-- Kernels in step 4: failures, then deletes that waited. -/
def State.stepKernels (s : State) : State :=
  let s1 := s.trk.kunbind.foldl State.failKernel s
  let s2 := { s1 with trk := { s1.trk with kunbind := [] } }
  if s.stepping then s2 else s2.commitDeletes

/-- Track beams that no channel uses any more are free (04 R82). -/
def State.freeBeams (s : State) : State :=
  let used := (List.range 384).filter (fun n => (s.chan n).st != .idle) |>.map (fun n => (s.chan n).beam)
  let one (n : Nat) (x : BeamState) : BeamState :=
    if x.kind = 0 ∧ x.owner ≠ 0 ∧ !used.contains n then { x.ended with band := x.band, owner := x.owner } else x
  { s with arr := { s.arr with beams := Vector.ofFn (fun i => one i.val s.arr.beams[i]) } }

/-- Signals pinned and the policy commit (06 R153); a type that the policy disables is tracked no more (12 `SIG_POLICY`). -/
def State.channelPolicy (s : State) : State :=
  if s.stepping then s
  else
    let t := { s with trk := { s.trk with
      pins := s.trk.pinsStaged.getD s.trk.pins, pinsStaged := none, policy := s.trk.policyStaged.getD s.trk.policy, policyStaged := none } }
    if s.trk.policyStaged.isNone then t
    else
      { t with trk := { t.trk with ch := t.trk.ch.map (fun c =>
          if c.st ≠ .idle ∧ t.enabled c.sigid = false then c.idle else c) } }

/-- Channels in step 4; kernels before the commands that bind anew. -/
def State.stepChannels (s : State) : State :=
  let s1 := s.stepKernels
  ((List.range 384).foldl (State.stepChan s1) s1).channelPolicy

end Sys2Proof.Machine
end

