-- ==== Sys2Proof/Machine/BoundaryBeams.lean ====
section
/-! DEFINITION. Beams at a boundary (step 4 of 01 R18): weight sets with their site delays commit together (04 R83, R85), the
host's slots take what was accepted (04 R99), and the runtime assigns search, null-monitor and sky-survey beams (04 R82, R98; 07 R154). -/

namespace Sys2Proof.Machine

/-- What the strides of the epoch that closes still use (08 R181). -/
def BeamState.keepBefore (x : BeamState) : BeamState := { x with wsBefore := x.ws, bshiftBefore := x.bshift }

/-- A set with weight 0 at some elements. -/
def WeightSet.only (ok : Nat → Bool) (x : WeightSet) : WeightSet := { x with w := (List.range 96).map (fun n => if ok n then x.at_ n else {}) }

/-- A beam takes a weight set (04 R78, R84): `DLY_RANGE` where one of its sites lies beyond the delays; `NULL_DEGRADED` stays while the set was
written with elements that have left. -/
def BeamState.take (ws : WeightSet) (nonull : Bool) (x : BeamState) : BeamState :=
  { x with ws := ws, staged := none, stagedOld := false
           flags := { x.flags with dlyRange := ws.far.any (bit x.sites), empty := ws.empty,
                                   nullDegraded := x.stagedOld && x.flags.nullDegraded, nonull := nonull } }

/-- A beam gets weights that the Overman computes for its sites at a boundary. -/
def State.weigh (n : Nat) (s : State) : State :=
  let x := s.beam n
  let r := s.compute x.bandOf (fun e => s.mayWeigh x.bandOf e && bit x.sites (s.siteOf e)) (x.aim s.ms) s.ms false
  r.2.mapBeam n (fun y => BeamState.take r.1 false { y with stagedOld := false })

/-- A signature's conjugate as weights (04 R98), scaled so that its largest component is 127 (log 45). -/
def conjWeights (sig : List (Nat × Int × Int)) : WeightSet :=
  let top := (sig.map (fun p => max p.2.1.natAbs p.2.2.natAbs)).foldl max 1
  let w := (List.range 96).map (fun n =>
    match sig.find? (fun p => p.1 == n) with
    | some p => (p.2.1 * 127 * 2 ^ 20 / (top : Int), Int.neg p.2.2 * 127 * 2 ^ 20 / (top : Int))
    | none => (0, 0))
  storeWeights (fun _ => true) (fun _ => 0) w []

/-- A null-monitor beam takes the conjugate of a null's signature and watches it (04 R98). -/
def State.monitorNull (n site : Nat) (b : Band) (i : Nat) (s : State) : State :=
  match (s.nullSite site b).nulls[i]? with
  | none => s.mapBeam n (BeamState.take {} false)
  | some e =>
    (s.mapBeam n (BeamState.take ((conjWeights e.sig).only (s.mayWeigh b)) false)).mapNull site b (fun x => { x with
      nulls := (List.range x.nulls.length).filterMap (fun j => (x.nulls[j]?).map (fun y => if j = i then { y with monitor := some n } else y)) })

/-! ### Host-owned slots -/

/-- The last of `BEAM_DEFINE` and `BEAM_WEIGHTS` that is due for a beam (12 R316). -/
def State.lastBeamChange (s : State) (n : Nat) : Option Nat :=
  ((s.ses.accepted.filter (fun a => decide (a.commit ≤ s.ms) && (a.opcode == 0x8400 || a.opcode == 0x8401) && a.unit == n)).getLast?).map (·.opcode)

/-- A definition commits: kind, sites and direction; its weights are computed, those of a null-monitor beam from the strongest null of its site
(log 45). `MODE` of a host's beam of kind 0 is 0xFF: the descriptor gives it none (DESIGN CHOICE, log 46). -/
def State.defineBeam (n : Nat) (d : Nat × Nat × Nat × Int) (s : State) : State :=
  if d.1 = 0xFF then s.mapBeam n (fun x => { x.ended with band := x.band, owner := x.owner })
  else
    let t := s.mapBeam n (fun x => { x with
      kind := d.1, sites := d.2.1, az := d.2.2.1, el := d.2.2.2, mode := if d.1 = 0 then 0xFF else 3, signal := none, seeks := none, hostSet := none })
    if d.1 = 2 then t.monitorNull n (Nat.log2 d.2.1) (t.beam n).bandOf 0 else t.weigh n

/-- Elements at which a host's set may put weight: those that may carry any, of a single-site kind only those of its site (04 R82). -/
def State.hostMay (s : State) (x : BeamState) (e : Nat) : Bool :=
  s.mayWeigh x.bandOf e && (!(decide (1 ≤ x.kind ∧ x.kind ≤ 3)) || bit x.sites (s.siteOf e))

/-- The host's set of a beam in force: projected onto the complement of the nulls, unless it carries `NONULL` or watches a null (04 R82, R95). -/
def State.applyHost (n : Nat) (w : WeightSet) (nonull : Bool) (s : State) : State :=
  let x := s.beam n
  s.mapBeam n (fun y => { BeamState.take (s.projected x.bandOf (nonull || x.kind == 2) w) nonull y with hostSet := some w })

/-- A weight set that the host wrote commits (04 R82, R95). -/
def State.hostWeights (n : Nat) (w : WeightSet) (nonull : Bool) (s : State) : State := s.applyHost n (w.only (s.hostMay (s.beam n))) nonull

/-- A host's beam where nothing new commits: new signatures reach its weights too (04 R95). -/
def State.refreshHost (n : Nat) (s : State) : State :=
  let x := s.beam n
  match x.hostSet with
  | some w => s.applyHost n w x.flags.nonull
  | none => if x.kind = 2 then s.monitorNull n (Nat.log2 x.sites) x.bandOf 0 else if x.kind = 0xFF then s else s.weigh n

/-- A host-owned slot at a boundary. -/
def State.hostBeam (n : Nat) (s : State) : State :=
  let x := s.beam n
  let clear (t : State) : State := t.mapBeam n (fun x => { x with staged := none, stagedDef := none, stagedNonull := none })
  let one (t : State) : State := match x.stagedDef with | some d => t.defineBeam n d | none => t
  let two (t : State) : State := match x.staged with | some w => t.hostWeights n w (x.stagedNonull.getD false) | none => t
  if s.stepping ∨ (x.staged.isNone ∧ x.stagedDef.isNone) then s.refreshHost n
  else if s.lastBeamChange n = some 0x8400 then (one (two s)) |> clear
  else (two (one s)) |> clear

/-! ### The runtime's slots -/

/-- A track beam takes the set that its deputy wrote by D2; where its sites or its signal changed the Overman computes one (04 R83, R85). -/
def State.trackWeights (old : State) (n : Nat) (s : State) : State :=
  let o := old.beam n
  let x := s.beam n
  if o.kind ≠ 0 ∨ o.sites ≠ x.sites ∨ o.signal ≠ x.signal ∨ o.glok ≠ x.glok then s.weigh n
  else match x.staged with
    | some w => s.mapBeam n (BeamState.take w false)
    | none => s

/-- The nulls of a band, site and place, in the order of sites and of the list (04 R94). -/
def State.bandNullList (s : State) (b : Band) : List (Nat × Nat) :=
  ((List.range 12).map (fun i => (List.range (s.nullsAt i b).length).map (fun j => (i, j)))).flatten

/-- Null-monitor beams of a band below a slot, which take the nulls before it. -/
def State.nullRank (s : State) (p : Plan) (y : BeamSlot) : Nat :=
  (p.beams.filter (fun x => x.bband == y.bband && x.bown != 0 && bit x.bkinds 2 && decide (x.bnum < y.bnum) && (s.beam x.bnum).kind != 0 &&
    !(bit x.bkinds 1 && p.searches.any (fun z => z.sinput == 0 && z.ssrc == x.bnum)))).length

/-- A live search's beam (07 R154, R155): steered at its direction for its signal's carrier, or its sector's set. -/
def State.searchBeam (s : State) (n : Nat) (j : SearchJob) (as : Nat → Nat → Nat → Int → Option Int → State → State) : State :=
  let x := j.x.beams.headD { site := 0 }
  let f := carrier j.x.sigid j.x.glok
  let t := as 1 (2 ^ x.site) x.az x.el (some f) s
  t.mapBeam n (BeamState.take (t.searchSet (sigBand j.x.sigid) f x) false)

/-- A slot of the runtime that serves no signal: a live search slot's source takes the search at work in it, a null-monitor slot the next null,
a sky-survey slot one direction; otherwise it is free. -/
def State.singleBeam (p : Plan) (y : BeamSlot) (s : State) : State :=
  let n := y.bnum
  let b := (Band.ofCode y.bband).getD .u
  let as (kind sites az : Nat) (el : Int) (seeks : Option Int) (t : State) : State :=
    t.mapBeam n (fun x => { x with
      kind := kind, mode := 3, group := 0xFF, signal := none, sites := sites, az := az, el := el, seeks := seeks, hostSet := none })
  if bit y.bkinds 1 && p.searches.any (fun z => z.sinput == 0 && z.ssrc == n) then
    match s.trk.acq.jobs.find? (fun j => j.live && j.src == n) with
    | some j => s.searchBeam n j as
    | none => (as 1 0 0 0 none s).weigh n
  else
    match (if bit y.bkinds 2 then (s.bandNullList b)[s.nullRank p y]? else none) with
    | some e => (as 2 (2 ^ e.1) 0 0 none s).monitorNull n e.1 b e.2
    | none =>
      if bit y.bkinds 3 && !bit y.bkinds 0 then
        let f := s.takeNat
        let g := f.2.takeNat
        let h := g.2.takeNat
        (as 3 (2 ^ (f.1 % 12) &&& s.charterSiteMask) (g.1 % 36000) ((h.1 % 9501 : Nat) - 500) none h.2).weigh n
      else s.mapBeam n (fun x => { x.ended with band := x.band, owner := x.owner })

/-- One beam slot of the plan at a boundary. -/
def State.stepBeam (old : State) (p : Plan) (s : State) (y : BeamSlot) : State :=
  if y.bown = 0 then s.hostBeam y.bnum
  else if (s.beam y.bnum).kind = 0 then State.trackWeights old y.bnum s
  else s.singleBeam p y

/-- Site masks accepted commit (04 R99). -/
def State.commitMasks (s : State) : State :=
  if s.stepping then s
  else { s with arr := { s.arr with masks := s.arr.masksStaged.foldl (fun v x => vupdN v x.1 (fun _ => x.2)) s.arr.masks, masksStaged := [] } }

/-- No beam watches a null, until it is given one. -/
def State.unwatch (s : State) : State :=
  { s with arr := { s.arr with nulls := s.arr.nulls.map (fun v => v.map (fun x => { x with nulls := x.nulls.map (fun n => { n with monitor := none }) })) } }

/-- The nulls that a site no longer may hold, for want of elements, are left unnulled (04 R94). -/
def State.trimNulls (s : State) : State :=
  bands.foldl (fun t b => (List.range 12).foldl (fun t i => t.mapNull i b (fun x =>
    if t.siteRoom i b < x.nulls.length then x.divide (t.siteRoom i b) else x)) t) s

/-- Signatures left unnulled in that way are reported (04 R97). -/
def State.trimReports (old s : State) : State :=
  bands.foldl (fun t b => (List.range 12).foldl (fun t i => if (old.nullSite i b).unnulled < (t.nullSite i b).unnulled then t.jam i b else t) t) s

/-- Beams in step 4: `old` is the state before the step. `NNULL` follows for every beam. -/
def State.stepBeams (old : State) (s : State) : State :=
  match s.fab.active with
  | none => s
  | some p =>
    let t := (sortBy (·.bnum) p.beams).foldl (State.stepBeam old p) (State.trimReports s s.trimNulls).unwatch
    t.mapBeams (fun x => { x with nnull := t.nullsOf x })

/-- The interference state's epoch (04 R92, R98; 05 R121). -/
def State.stepNulls (s0 : State) : State :=
  let s := bands.foldl (fun t b => (List.range 12).foldl (State.watchNulls b) t) s0
  { s with arr := { s.arr with nulls := s.arr.nulls.map (fun v => v.map (NullSite.epoch s.arr.assay.params.jamFreeze)) } }

end Sys2Proof.Machine
end

