-- ==== Sys2Proof/Machine/CharterCmd.lean ====
section
/-! DEFINITION. The charter and fuse commands (14 R357–R368) and the charter that a `CMODE` 1 commit brings into force at a boundary (R360,
R573). -/

namespace Sys2Proof.Machine

/-- A write of what is locked (14 R367): `LOCK_ATTEMPT`, the sticky `LOCK_VIOLATION`, `FLT_LOCK_VIOLATION`. -/
def State.lockAttempt (r : Req) (field item : Nat) (hash : List Byte) (s : State) : State :=
  let t := s.tally 0x0300 r.x.role r.x.tenant r.x.sid (b16 r.opcode ++ b16 field ++ b32 item ++ hash)
  ({ t with boo := { t.boo with lockViolation := true } }).report 0x1901 1 0xFF 0 (Config.encodeFields 0x1901 [r.opcode, field, item])

/-- Generation, baseline and seal state of a copy, for `CHARTER_STATUS`. -/
def CharterCopy.figures (c : CharterCopy) : List Int :=
  let b := c.image
  [((charterGen b : Nat) : Int), ((charterBaseline b : Nat) : Int), ((bbool c.sealed : Nat) : Int)]

/-- `CHARTER_STATUS` (14 R363, R368): the layout of its contents is the implementation's (log 7); `CLR` 1 of an installer clears
`LOCK_VIOLATION`. -/
def specCharterStatus : CmdSpec :=
  let clr (r : Req) : Bool := r.pay.length == 4 && u8At r.pay 0 == 1
  { opcode := 0x0200, hold := true, idle := true
    role := fun r _ => r.role != 0 && (!clr r || r.role == 2)
    len := fun r => r.pay.length == 0 || r.pay.length == 4
    param := fun r _ => if r.pay.isEmpty then none else firstBad [(decide (1 < u8At r.pay 0), 0), (!zeroAt r.pay 1 3, 1)]
    changes := clr
    run := fun r s =>
      let out := Config.encodeFields 0x0200 ([(s.boo.dstate.code : Int), (s.boo.holdCause : Int), (bbool s.boo.strapErr : Int), (s.boo.strap : Int)] ++
        (s.copy 0).figures ++ (s.copy 1).figures ++ [(bbool s.boo.standbyOk : Int), ((charterLocks s.boo.charter : Nat) : Int)])
      if clr r then
        (.ok out, { s with boo := { s.boo with lockViolation := false } })
      else (.ok out, s) }

/-- `CHARTER_STATUS`, served by its spec (12 R315). -/
def execCmdCharterStatus (p : Packet) (s : State) : Host.Outcome State Fault Refusal := s.command specCharterStatus p

/-- `CHARTER_LOAD` (14 R357): writes the standby copy; at offset 0 the copy and its seal are erased first. -/
def specCharterLoad : CmdSpec :=
  { opcode := 0x0201, role := roleInstaller, len := lenWrite, hold := true
    param := fun r _ => firstSome [must (r.obj == 1) 0, rangeBad copyBytes r]
    changes := fun _ => true
    run := fun r s =>
      if s.boo.liveCommit.isSome then (.fail stBusy, s)
      else
        let c : CharterCopy := if r.roff = 0 then {} else s.copy s.standby
        let d : CharterCopy := { c with bytes := swrites 0xFF c.bytes r.roff r.rbytes }
        (.ok [], { s with boo := { s.boo with copies := vupd s.boo.copies s.standby (fun _ => d), standbyOk := false } }) }

/-- `CHARTER_LOAD`, served by its spec (12 R315). -/
def execCmdCharterLoad (p : Packet) (s : State) : Host.Outcome State Fault Refusal := s.command specCharterLoad p

/-- `CHARTER_VERIFY` (14 R359): a failure of check 9 counts as a write of the locked section (R367). -/
def specCharterVerify : CmdSpec :=
  { opcode := 0x0202, role := roleInstaller, len := lenIs 0, hold := true
    changes := fun _ => true
    run := fun r s =>
      let b := (s.copy s.standby).image
      match s.charterChecks false b with
      | none => (.ok [], { s with boo := { s.boo with standbyOk := true } })
      | some (c, i) =>
        ({ status := charterStatus c, detail := c, item := i },
         if c = 9 then s.lockAttempt r 0xFFFF i (sha256 (charterSec b i)) else s) }

/-- `CHARTER_VERIFY`, served by its spec (12 R315). -/
def execCmdCharterVerify (p : Packet) (s : State) : Host.Outcome State Fault Refusal := s.command specCharterVerify p

/-- A charter that a live commit may bring into force (14 R360): only live sections differ, and no header field but `CGEN`, `CTIME` and
`CLEN`. -/
def liveOnly (old new : List Byte) : Bool :=
  let fixed (b : List Byte) : List Byte := b.take 8 ++ (b.drop 16).take 8 ++ (b.drop 32).take 32
  fixed old == fixed new && [1, 2, 3, 9].all (fun n => charterSec old n == charterSec new n)

/-- Roles and tenants that have a secret. -/
def secretRoles : List (Nat × Nat) := (2, 0xFF) :: (List.range 8).map (fun t => (1, t))

/-- Closes the sessions whose secret in effect differs between two states (12 R309). -/
def State.changedTo (was : State) (s : State) : State :=
  (secretRoles.filter (fun x => was.secret x.1 x.2 != s.secret x.1 x.2)).foldl (fun t x => t.closeRole x.1 x.2) s

/-- Seals the standby copy; the overlay is discarded, and with it the secrets that it held (14 R357, R360; 13 R331). -/
def State.sealStandby (s : State) : State :=
  let b := (s.copy s.standby).image
  let t := { s with
    boo := { s.boo with copies := vupd s.boo.copies s.standby (fun c => { c with sealOf := some (charterGen b, sha384 b) }) }
    ten := { s.ten with overlayGen := none, overlayTab := [], overlaySec := [] } }
  s.changedTo t

/-- `CHARTER_COMMIT` (14 R360, R365). -/
def specCharterCommit : CmdSpec :=
  { opcode := 0x0203, role := roleInstaller, len := lenIs 4, hold := true
    param := fun r s => firstBad [(decide (1 < u8At r.pay 0), 0), (!zeroAt r.pay 1 3, 1), (!s.boo.standbyOk, 0xFFFF)]
    changes := fun _ => true
    run := fun r s =>
      let b := (s.copy s.standby).image
      if s.boo.liveCommit.isSome then (.fail stBusy, s)
      else if s.boo.dstate = .hold then
        let t := s.sealStandby
        if s.boo.holdCause = 2 ∨ s.boo.holdCause = 3 then
          (.ok [], (((t.takeForce s.standby b).step6).wait (250 * epochTicks)).step7)
        else (.ok [], t)
      else if u8At r.pay 0 = 0 then (.ok [], s.sealStandby)
      else if !liveOnly s.boo.charter b then (.badParam 0xFFFF, s)
      else
        let t := s.sealStandby
        ({ t with boo := { t.boo with liveCommit := some b } }).accept r 0 }

/-- `CHARTER_COMMIT`, served by its spec (12 R315). -/
def execCmdCharterCommit (p : Packet) (s : State) : Host.Outcome State Fault Refusal := s.command specCharterCommit p

/-- The bytes of a copy from an offset, secrets read as 0 (14 charter commands). -/
def CharterCopy.shown (c : CharterCopy) (off n : Nat) : List Byte :=
  let b := c.image
  let spans : List (Nat × Nat) := match (charterDir b).find? (fun d => d.typ == 6) with
    | some d => (Config.secretSpans (charterSec b 6)).map (fun (x : Nat × Nat) => (d.off + x.1, d.off + x.1 + x.2))
    | none => []
  let raw := sreads 0xFF c.bytes off n
  (List.range n).map (fun i => if spans.any (fun (x : Nat × Nat) => decide (x.1 ≤ off + i ∧ off + i < x.2)) then 0 else raw.getD i 0)

/-- The copy that `OBJ` names: 0 in force, 1 standby. -/
def State.copyMeant (s : State) (obj : Nat) : Option CharterCopy := if obj = 1 then some (s.copy s.standby) else s.boo.inForce.map s.copy

/-- The range lies in `PORTS` or in `TENANTS` of the copy, which operators may read. -/
def State.operatorRange (s : State) (r : Req) : Bool :=
  match s.copyMeant r.obj with
  | none => false
  | some c => (charterDir c.image).any (fun d => (d.typ == 4 || d.typ == 5) && decide (d.off ≤ r.roff ∧ r.roff + r.rlen ≤ d.off + d.len))

/-- `CHARTER_READ` (14 charter commands). -/
def specCharterRead : CmdSpec :=
  { opcode := 0x0204, len := lenIs 8, hold := true, idle := true
    role := fun r s => r.role == 2 || (r.role == 1 && s.operatorRange r)
    param := fun r s => firstSome [must (decide (r.obj < 2) && (s.copyMeant r.obj).isSome) 0, rangeBad copyBytes r]
    run := fun r s => (.ok (((s.copyMeant r.obj).map (fun c => c.shown r.roff r.rlen)).getD []), s) }

/-- `CHARTER_READ`, served by its spec (12 R315). -/
def execCmdCharterRead (p : Packet) (s : State) : Host.Outcome State Fault Refusal := s.command specCharterRead p

/-- `FUSE_READ` (14 R366): every field and whether it is written (log 7). -/
def specFuseRead : CmdSpec :=
  { opcode := 0x0205, len := lenIs 0, hold := true, idle := true
    role := fun r s => r.role != 0 || s.boo.dstate == .hold
    run := fun _ s =>
      let f := s.boo.fuses
      let one (x : Fuse) : List Int := [((x.val : Nat) : Int), ((bbool x.written : Nat) : Int)]
      (.ok (Config.encodeFields 0x0205 ([((beNat Config.fwKeyHash : Nat) : Int), ((beNat Config.retKeyHash : Nat) : Int),
        ((beNat Config.serial : Nat) : Int), ((Config.macBase : Nat) : Int)] ++ one f.instKey ++ one f.tlimit ++ one f.bfloor ++
        [((bbool f.maker : Nat) : Int)])), s) }

/-- `FUSE_READ`, served by its spec (12 R315). -/
def execCmdFuseRead (p : Packet) (s : State) : Host.Outcome State Fault Refusal := s.command specFuseRead p

/-- The fuse field that a `FUSE_WRITE` names. -/
def Fuses.field (f : Fuses) (n : Nat) : Fuse := if n = 1 then f.instKey else if n = 2 then f.tlimit else f.bfloor
def Fuses.set (f : Fuses) (n : Nat) (x : Fuse) : Fuses :=
  if n = 1 then { f with instKey := x } else if n = 2 then { f with tlimit := x } else { f with bfloor := x }

/-- Bytes of a field's value in the command, and its bits in the fuses. -/
def fuseLen (n : Nat) : Nat := if n = 1 then 48 else if n = 2 then 1 else 2
def fuseBits (n : Nat) : Nat := if n = 1 then 384 else if n = 2 then 4 else 16
def fuseNat (n : Nat) (b : List Byte) : Nat := if n = 1 then beNat b else leNat b
def fuseBytes (n v : Nat) : List Byte := if n = 1 then beBytes 48 v else leBytes (fuseLen n) v

/-- A value that may not be fused (14 R366). -/
def State.fuseBad (s : State) (n v : Nat) : Bool :=
  if n = 2 then decide (v = 0 ∨ 8 < v ∨ v < (charterTenants s.boo.charter).length)
  else if n = 3 then !s.boo.charter.isEmpty && decide (charterBaseline s.boo.charter < v)
  else false

/-- `FUSE_WRITE` (14 R366, R367). -/
def specFuseWrite : CmdSpec :=
  { opcode := 0x8200, hold := true
    role := fun r _ => r.role == 2 && r.x.authm == 2 && u8At r.pay 0 != 4
    len := fun r => decide (4 ≤ r.pay.length) && r.pay.length == 4 + u16At r.pay 2
    param := fun r _ =>
      let n := u8At r.pay 0
      firstBad [(decide (n = 0 ∨ 3 < n), 0), (!zeroAt r.pay 1 1, 1), (u16At r.pay 2 != fuseLen n, 2)]
    changes := fun _ => true
    run := fun r s =>
      let n := u8At r.pay 0
      let v := fuseNat n (r.pay.drop 4)
      if (s.boo.fuses.field n).written then
        ({ status := stLocked, field := 4 }, s.lockAttempt r 4 0 (sha256 (r.pay.drop 4)))
      else if s.fuseBad n v then (.badParam 4, s)
      else
        let back := Config.fuseBack n v s.free % 2 ^ fuseBits n
        let t := { s with free := s.free + 1, boo := { s.boo with fuses := s.boo.fuses.set n ⟨back, true⟩ } }
        let data := b8 n ++ bz 1 ++ b16 (fuseLen n) ++ fuseBytes n back
        (if back = v then .ok data else { status := stInternal, data := data }, t) }

/-- `FUSE_WRITE`, served by its spec (12 R315). -/
def execCmdFuseWrite (p : Packet) (s : State) : Host.Outcome State Fault Refusal := s.command specFuseWrite p

/-! ### A live commit at its boundary -/

/-- Step 6 of the commit order: tenants of the charter that take force; those it lacks are removed (14 R360, 09 R225). -/
def State.liveTenants (b : List Byte) (s : State) : State :=
  (List.range 8).foldl (fun t n =>
    let x := charterTenant b n
    if x.present then t.mapTenant n (fun y => { y with present := true, quota := x.quota })
    else if (t.tenant n).present then t.removeTenant n else t) s

/-- Step 7: a port whose entry changes takes its new one, or the reset block; the others keep what they have (R573). -/
def State.livePorts (old new : List Byte) (s : State) : State :=
  (List.range 32).foldl (fun t n =>
    if portEntry old n = portEntry new n then t
    else
      let c := charterPort new n
      let u := t.mapPort n (fun x => { x with staged := some c.1, enStaged := none, owner := c.2 })
      { u with boo := { u.boo with pendingEnable := u.boo.pendingEnable.filter (· != n) } }) s

/-- The parameters of a charter committed with `CMODE` 1 hold from its boundary on, before the steps (14 R360). -/
def State.liveParams (s : State) : State :=
  match s.boo.liveCommit with
  | none => s
  | some b => (s.applyInteg b).applyLists false b

/-- A charter committed with `CMODE` 1 takes force (14 R360): tenants in step 6, ports before step 7 commits them, secrets with the sessions that
they close. -/
def State.liveCommit (s : State) : State :=
  match s.boo.liveCommit with
  | none => s
  | some b =>
    let old := s.boo.charter
    let s1 := (({ s with boo := { s.boo with liveCommit := none } }).takeForce s.standby b).liveTenants b
    s.changedTo (s1.livePorts old b)

end Sys2Proof.Machine
end

