-- ==== Sys2Proof/Machine/EpochStep.lean ====
section
/-! DEFINITION. The epoch step (17 R432): TCNT and all that refers to it move together by k epochs; port time stays. Moments and spans that
the model keeps in device time move with it, so that no running time is cut or stretched. -/

namespace Sys2Proof.Machine

/-- A tick moved by k epochs. -/
def stepTick (k : Int) (t : Nat) : Nat := bitsOf 48 ((t : Int) + k * epochTicks)

/-- A whole-millisecond count moved by k epochs. -/
def stepMs (k : Int) (m : Nat) : Nat := stepTick k (m * epochTicks) / epochTicks

/-- A span of ticks. -/
def stepSpan (k : Int) (x : Nat × Nat) : Nat × Nat := (stepTick k x.1, stepTick k x.2)

/-- A lane and its adit's mapping between `SIDX` and TCNT. -/
def LaneState.step (k : Int) (l : LaneState) : LaneState :=
  { l with since := stepTick k l.since, lastValid := stepTick k l.lastValid, sidxMap := l.sidxMap + k * epochTicks
           ctrl := l.ctrl.map (fun c => { c with sentAt := stepTick k c.sentAt }), offerAt := l.offerAt.map (stepTick k)
           txFree := stepTick k l.txFree, rateAt := stepTick k l.rateAt, slipAt := l.slipAt.map (fun x => (stepTick k x.1, x.2))
           markSlot := l.markSlot.map (fun x => stepTick k (x * 20460) / 20460), crcWin := l.crcWin.map (fun x => (stepTick k x.1, x.2)) }

/-- An adit. -/
def AditState.step (k : Int) (a : AditState) : AditState :=
  { a with buf := a.buf.map (fun l => l.map (fun x => (stepTick k x.1, x.2))), erased := a.erased.map (stepSpan k)
           nbuf := a.nbuf.map (fun l => l.map (fun x => (stepTick k x.1, x.2))), rms := a.rms.map (fun l => l.map (fun x => (stepTick k x.1, x.2)))
           blanked := a.blanked.map (fun l => l.map (stepSpan k)) }

/-- A capture region: its `TTIME` and a trigger that awaits its block. -/
def Region.step (k : Int) (r : Region) : Region :=
  if r.cstate = .idle then r else { r with ttime := stepTick k r.ttime, trigAt := r.trigAt.map (stepTick k), newest := stepTick k r.newest }

/-- The sample path. -/
def SampleState.step (k : Int) (x : SampleState) : SampleState :=
  { x with lanes := x.lanes.map (LaneState.step k), adits := x.adits.map (AditState.step k)
           block := x.block.map (fun b => (b.1, b.2.1, b.2.2.map (fun h => { h with tick := stepTick k h.tick })))
           lode := { x.lode with swapAt := stepTick k x.lode.swapAt, regions := x.lode.regions.map (Region.step k) } }

/-- Assay. -/
def AssayState.step (k : Int) (a : AssayState) : AssayState :=
  { a with held := a.held.map (fun h => { h with epoch := stepMs k h.epoch }), sweep := a.sweep.map (stepMs k)
           foldedTo := a.foldedTo.map (stepMs k)
           pendingGen := a.pendingGen.map (fun g => { g with commit := stepMs k g.commit })
           work := a.work.map (fun v => v.map (fun w => { w with tauHist := w.tauHist.map (fun x => (stepMs k x.1, x.2)) })) }

/-- A search: the tick of its code window's centre. -/
def Search.step (k : Int) (x : Search) : Search := { x with codeAt := x.codeAt.map (stepTick k) }

/-- Acquisition: every `TREF`, and the moments it keeps. -/
def AcqState.step (k : Int) (a : AcqState) : AcqState :=
  { a with cands := a.cands.map (fun c => { c with tref := stepTick k c.tref, atMs := stepMs k c.atMs })
           results := a.results.map (fun r => { r with tref := stepTick k r.tref, atMs := stepMs k r.atMs })
           jobs := a.jobs.map (fun j => { j with first := stepTick k j.first, since := stepMs k j.since, x := j.x.step k }), queue := a.queue.map (Search.step k)
           assistTime := a.assistTime.map (fun x => (x.1, x.2.1, stepTick k x.2.2)), lastBg := stepMs k a.lastBg
           eph := a.eph.map (fun x => (x.1, stepMs k x.2)), alm := a.alm.map (fun x => (x.1, stepMs k x.2)) }

/-- Channels and acquisition. -/
def TrackState.step (k : Int) (x : TrackState) : TrackState :=
  { x with ch := x.ch.map (fun c => { c with dump := { c.dump with from_ := stepTick k c.dump.from_ }, landed := c.landed.map (stepMs k) })
           kfails := x.kfails.map (fun f => (f.1, f.2.1, stepMs k f.2.2)), libChecked := stepMs k x.libChecked, acq := x.acq.step k }

/-- Escalation. -/
def Esc.step (k : Int) (e : Esc) : Esc := { e with lastReport := e.lastReport.map (stepMs k) }

/-- A waiting maintenance request. -/
def MaintReq.step (k : Int) (q : MaintReq) : MaintReq := if q.at_ = 0 then q else { q with at_ := stepMs k q.at_ }

/-- The fabric. -/
def FabricState.step (k : Int) (x : FabricState) : FabricState :=
  { x with swap := x.swap.map (fun w => { w with acceptedMs := stepMs k w.acceptedMs, bs := stepMs k w.bs })
           run := x.run.map (fun r => { r with at_ := stepMs k r.at_, landed := r.landed.map (stepMs k), known := r.known.map (stepMs k) })
           escLs := x.escLs.map (Esc.step k), escLd := x.escLd.map (Esc.step k), escCh := x.escCh.map (Esc.step k), escAs := x.escAs.map (Esc.step k)
           acts := x.acts.map (fun a => { a with startMs := stepMs k a.startMs }), mqueue := x.mqueue.map (MaintReq.step k)
           devWait := x.devWait.map (MaintReq.step k), stSub := x.stSub.map (fun u => { u with b1 := stepMs k u.b1 })
           d1At := x.d1At.map (stepMs k), d2At := x.d2At.map (stepMs k) }

/-- The solution and integrity. -/
def SolState.step (k : Int) (x : SolState) : SolState :=
  { x with holdSince := stepMs k x.holdSince, alarmSince := x.alarmSince.map (stepMs k), lastAlarm := x.lastAlarm.map (stepMs k)
           susp := x.susp.map (fun y => { y with last := stepMs k y.last, first := stepMs k y.first })
           ended := x.ended.map (fun y => (y.1, stepMs k y.2)), measAt := x.measAt.map (stepMs k), solAt := x.solAt.map (stepMs k)
           lastRtcm := stepMs k x.lastRtcm }

/-- One ms in 0.001 ps. -/
def msMilliPs : Int := 10 ^ 12

/-- φ_T moves by −k ms with its targets, so that port time stays; the ports' moments in device time. -/
def SynState.step (k : Int) (x : SynState) : SynState :=
  { x with phiT := x.phiT - k * msMilliPs, phiTarget := x.phiTarget - k * msMilliPs
           pullLeft := if x.pullLeft = 0 then 0 else x.pullLeft - k * msMilliPs
           targets := x.targets.map (fun t => (stepMs k t.1, t.2.1, t.2.2 - k * msMilliPs)), yHist := x.yHist.map (fun h => (stepMs k h.1, h.2))
           ports := x.ports.map (fun p => { p with
             dStep := p.dStep.map (fun d => (d.1, stepMs k d.2)), calMs := stepMs k p.calMs, lastEcho := p.lastEcho.map (stepMs k), burstFrom := stepTick k p.burstFrom }) }

/-- An event input: the stamps still in its FIFO (20 R500). -/
def EvinState.step (k : Int) (e : EvinState) : EvinState :=
  { e with fifo := e.fifo.map (fun x => { x with etk := stepTick k x.etk }), lastStamp := e.lastStamp.map (fun t => (((t : Int) + k * epochTicks * 256).toNat)) }

/-- The streams' latencies are kept by device time. -/
def PortsState.step (k : Int) (x : PortsState) : PortsState :=
  { x with ev := x.ev.map (EvinState.step k), streams := x.streams.map (fun y => { y with lats := y.lats.map (fun l => (stepMs k l.1, l.2)) }) }

/-- The beams: the live-search outputs' first tick. -/
def ArrayState.step (k : Int) (x : ArrayState) : ArrayState :=
  { x with assay := x.assay.step k, beams := x.beams.map (fun b => { b with live := b.live.map (fun l => (stepTick k l.1, l.2)) }) }

/-- Everything moves by k epochs. -/
def State.moveTime (k : Int) (s : State) : State :=
  { s with
    clk := { s.clk with tick := stepTick k s.clk.tick, bnd := stepTick k s.clk.bnd, step := none }
    smp := s.smp.step k, arr := s.arr.step k, trk := s.trk.step k, fab := s.fab.step k, sol := s.sol.step k
    syn := s.syn.step k, por := s.por.step k, bak := { s.bak with learn := none }
    ses := { s.ses with accepted := s.ses.accepted.map (fun a => { a with commit := stepMs k a.commit }) } }

/-- The epoch step at a boundary (17 R432): at its own one everything moves, and the tally book records it (13 R574 `CONFIG`); one without a
boundary takes the next at which no change is due. -/
def State.epochStep (quiet : State → Nat → Bool) (s : State) : State :=
  match s.clk.step with
  | none => s
  | some x =>
    if s.stepping then (s.moveTime x.k).tallyOwn 0x0200 0xFF (b16 0xFFFF ++ b16 2 ++ bi32 x.k ++ b64 x.at_ ++ b16 0 ++ bz 6 ++ bz 32)
    else if x.at_ = 0 ∧ quiet s (s.ms + 1) then { s with clk := { s.clk with step := some { x with at_ := s.ms + 1 } } }
    else s

end Sys2Proof.Machine
end

