-- ==== Sys2Proof/Machine/Boundary.lean ====
section
/-! DEFINITION. `EPOCH_BOUNDARY` (01 R18): at a boundary tick everything that was deferred to it takes effect, in the steps of the commit order,
and the epoch's own work of the Overman is done. -/

namespace Sys2Proof.Machine

/-! ### What the closing epoch leaves -/

/-- What the last strides and the last haulage block of the closing epoch still use (01 R17, 03 R62, 08 R181). -/
def AditState.keepBefore (st : PerBand Nat) (a : AditState) : AditState := { a with blkBefore := a.blk, termBefore := a.laneTerm, stBefore := st }

/-- Bands of the closing epoch whose calibration sums were dithered (05 R115). -/
def State.dithered (s : State) (b : Band) : Bool := bit s.arr.assay.table.ctFlags b.code || s.arr.assay.ditherEnd.get b

/-- Keeps the settings of the closing epoch, how its channels were served, and its plan and generation (10 R243). -/
def State.closeEpoch (t : State) : State :=
  let est (n : Nat) : PerBand Nat := ⟨(t.eb n .u).ebstate, (t.eb n .m).ebstate, (t.eb n .l).ebstate⟩
  let a := t.arr.assay
  { t with
    sol := { t.sol with genClosed := a.table.ctGen, planClosed := (t.fab.active.map (·.planId)).getD 0 }
    trk := { t.trk with ch := t.trk.ch.map (fun c => c.keepBefore (t.served c)) }
    arr := { t.arr with
      beams := t.arr.beams.map BeamState.keepBefore
      assay := { a with slotsBefore := a.slots, ditherBefore := ⟨t.dithered .u, t.dithered .m, t.dithered .l⟩ } }
    smp := { t.smp with
      adits := Vector.ofFn (fun i => (t.smp.adits[i]).keepBefore (est i.val))
      notchBefore := t.smp.notch } }

/-! ### Step 1: membership -/

/-- An element-band goes out of service. -/
def State.outOfService (n : Nat) (b : Band) (s : State) : State :=
  (s.mapEb n b (fun e => { e with ebstate := 2, qage := 0 })).mapWork n b (fun w => { w with qclock := 0 })

/-- The present boundary's last `ELEM_OUT` or `ELEM_IN` of an element (12 R316). -/
def State.lastElem (s : State) (n : Nat) : Option Nat :=
  ((s.ses.accepted.filter (fun a => decide (a.commit ≤ s.ms) && (a.opcode == 0x0D07 || a.opcode == 0x0D08) && a.unit == n)).getLast?).map (·.opcode)

/-- `ELEM_OUT` commits (09 R224). -/
def State.takeOut (s : State) (x : Nat × Nat) : State :=
  let n := x.1
  let t := bands.foldl (fun t b => t.outOfService n b) { s with fab := { s.fab with outList := s.fab.outList.filter (· != n) ++ [n] } }
  if x.2 = 1 then ((t.toDark n (t.lane n).cause).laneTo n .off).mapLane n (fun l => { l with disabled := true }) else t

/-- `ELEM_IN` commits (09 R224). -/
def State.takeIn (s : State) (n : Nat) : State :=
  let t := { s with fab := { s.fab with outList := s.fab.outList.filter (· != n) } }
  if (t.lane n).state = .off then (t.mapLane n (fun l => { l with disabled := false })).bringUp n
  else if (t.lane n).state = .live then t.quarantineAll n
  else t

/-- The element commands of a boundary, an element's own ones in order of acceptance. -/
def State.elemCommands (s : State) : State :=
  let first := s.fab.elemIn.filter (fun n => s.lastElem n == some 0x0D07)
  let last := s.fab.elemIn.filter (fun n => s.lastElem n != some 0x0D07)
  let t := last.foldl State.takeIn (s.fab.elemOut.foldl State.takeOut (first.foldl State.takeIn s))
  { t with fab := { t.fab with elemOut := [], elemIn := [] } }

/-- A lane that was lost or slipped gives up its element (02 R49); one that is `LIVE` again stays in quarantine. -/
def State.laneLeft (s : State) (n : Nat) : State :=
  let t := if (s.lane n).state = .live then s else bands.foldl (fun t b => if (s.eb n b).ebstate = 2 then t else t.outOfService n b) s
  t.mapLane n (fun l => { l with leaving := false, erasing := false })

/-- The Overman has resumed after a CORE RESET: every element-band enters quarantine whatever the state of its lane, seeded from the stored table (05 R113,
18 R447). -/
def State.resumeElement (s : State) (n : Nat) : State :=
  if !(s.elem n).fitted then s
  else
    let t := match (s.lane n).cap with | some c => s.identify n c | none => s
    (t.quarantineAll n).seedOnce n

/-- The elements in bootstrap search for signals (05 R115). -/
def State.bootstrapSearch (s : State) : State :=
  bands.foldl (fun t b => if t.bootstrap b && (List.range 96).any (fun n => (t.eb n b).ebstate == 1) then t.bootSearches b else t) s

/-- Step 1 of the commit order (01 R18; 02 R49, 04 R84, 05 R113–R116, 09 R224). -/
def State.membership (s0 : State) : State :=
  let s := s0.ageEbs
  let left := (List.range 96).filter (fun n => (s.lane n).leaving)
  let outs := if s.stepping then [] else s.fab.elemOut.map (·.1)
  let demoted (b : Band) : List Nat := (List.range 96).filter (fun n => s.demotable n b)
  let s1 := bands.foldl (fun t b => t.removeElements b (nub (left ++ outs ++ demoted b))) s
  let s2 := bands.foldl (fun t b => (demoted b).foldl (fun u n => u.quarantine n b) t) s1
  let s3 := left.foldl State.laneLeft s2
  let s4 := if s.stepping then s3 else s3.elemCommands
  let s5 := if s4.boo.resumed then
      { ((List.range 96).foldl State.resumeElement s4) with boo := { s4.boo with resumed := false } }
    else s4
  (State.redefine s0 (allEbs.foldl State.certify s5.startClocks)).bootstrapFlags.moveRefs.bootstrapSearch

/-! ### Changes that cannot be applied (12 R317) -/

/-- A channel slot that was bound before step 3 and has ended in it. -/
def State.slotEnded (before : State) (s : State) (n : Nat) : Bool :=
  ((before.fab.active.bind (·.chan n)).isSome || (before.chan n).bound) && (s.fab.active.bind (·.chan n)).isNone

/-- The status of an accepted change that cannot be applied at this boundary; none where it can. -/
def State.deferStatus (before : State) (s : State) (a : Accepted) : Option Nat :=
  let n := a.unit
  let c := s.chan n
  match a.opcode with
  | 0x0603 | 0x8600 => if State.slotEnded before s n then some stBadParam else none
  | 0x8601 => if State.slotEnded before s n || c.armsStaged.isNone then some stBadParam else none
  | 0x8602 =>
    if State.slotEnded before s n then some stBadParam
    else if c.kernelStaged.isNone || ((s.fab.active.bind (·.chan n)).map (fun y => y.cown != a.tenant)) == some true then some stDeniedTenant
    else none
  | 0x8400 | 0x8401 => if (s.hostSlot n).isNone then some stBadParam else none
  | 0x0504 => if (s.arr.assay.requal.filter (fun x => x.1 == n)).all (fun x => (s.eb x.1 x.2).ebstate != 1) then some stBadParam else none
  | 0x0505 => let k := s.scause n; if k = 1 ∨ k = 3 then none else some stBadParam
  | 0x8300 =>
    if (s.lane n).state == .live && (match (s.adit n).staged with | some x => !x.sameCal (s.adit n).blk | none => false) then some stBusy else none
  | _ => none

/-- Takes back what a change that cannot be applied has staged. -/
def State.unstage (a : Accepted) (s : State) : State :=
  let n := a.unit
  match a.opcode with
  | 0x0603 => s.mapChan n (fun c => { c with releaseStaged := false })
  | 0x8600 => s.mapChan n (fun c => { c with loopStaged := none })
  | 0x8601 => s.mapChan n (fun c => { c with armsStaged := none })
  | 0x8602 => s.mapChan n (fun c => { c with kernelStaged := none })
  | 0x8400 => s.mapBeam n (fun x => { x with stagedDef := none })
  | 0x8401 => s.mapBeam n (fun x => { x with staged := none, stagedNonull := none })
  | 0x0504 => s.mapAssay (fun y => { y with requal := y.requal.filter (fun x => x.1 != n) })
  | 0x0505 => s.mapAssay (fun y => { y with acceptSites := y.acceptSites.filter (· != n) })
  | 0x8300 => s.mapAdit n (fun x => { x with staged := none })
  | _ => s

/-- One accepted change of this boundary: dropped with `DEFER_FAILED` where it cannot be applied (12 R317). -/
def State.deferOne (before : State) (s : State) (a : Accepted) : State :=
  match State.deferStatus before s a with
  | none => s
  | some st => (s.deferFailed a.sid a.seq a.opcode st a.commit a.tenant).unstage a

/-- The accepted changes that have lost their object, after step 3 and before step 4. -/
def State.deferDropped (before : State) (s : State) : State :=
  if s.stepping then s
  else (s.ses.accepted.filter (fun a => decide (a.commit ≤ s.ms))).foldl (State.deferOne before) s

/-! ### Step 4 -/

/-- The signals tracked, with their channels. -/
def State.trackedNow (s : State) : List (Nat × Nat) :=
  ((List.range 384).filter (fun n => let c := s.chan n; c.prim.isNone && (c.st == .track || c.st == .boot))).map (fun n => ((s.chan n).sigid, n))

/-- A signal has left tracking since the last boundary (05 R104). -/
def State.trackingLeft (s : State) : Bool := s.arr.assay.tracked.any (fun x => !s.trackedNow.contains x)

/-- Step 4 of the commit order: channels, coherence, beams, assay signals (01 R18). -/
def State.tracking4 (old : State) (s : State) : State :=
  let s1 := s.stepChannels.commitMasks.coherence.freeBeams
  let s2 := (List.range 384).foldl (State.lockTime old) (State.stepBeams old s1)
  let s3 := if s2.stepping then s2 else s2.assayCommands.acqCommands
  (if s3.reselectDue || s3.trackingLeft then s3.reselectAssay else s3).mapAssay (fun a => { a with tracked := s3.trackedNow })

/-! ### Step 5: adits -/

/-- A host's block on a lane that is not `LIVE` seeds the element's estimates (05 R107, R108). -/
def State.seedFromBlock (n : Nat) (a : AditBlock) (s : State) : State :=
  let d := Int.neg (quotI ((65536 * a.idelay + a.fdelay) * 10 ^ 10) (8184 * 65536))
  (bands.foldl (fun t b => t.mapEb n b (fun e => { e with
    dly := d - (s.siteEntry (s.siteOf n)).clk.get b - s.arr.assay.table.shift.get b, ph := (65536 - a.gph.get b % 65536) % 65536 })) s).mapAssay
    (fun x => { x with seedDue := vupdN x.seedDue n (fun _ => false) })

/-- A staged conditioning block commits (03 R62, 05 R108). -/
def State.commitBlock (s : State) (n : Nat) : State :=
  match (s.adit n).staged with
  | none => s
  | some a =>
    let t := s.mapAdit n (fun x => { x with blk := a, staged := none })
    if (s.lane n).state = .live ∨ a.sameCal (s.adit n).blk then t else t.seedFromBlock n a

/-- Notch entries commit in order of acceptance (03 R58, R62). -/
def State.commitNotches (s : State) : State :=
  let set (v : PerBand (Vector Notch 4)) (x : Band × Nat × Notch) : PerBand (Vector Notch 4) := v.upd x.1 (fun w => vupdN w x.2.1 (fun _ => x.2.2))
  { s with smp := { s.smp with notch := s.smp.notchStaged.foldl set s.smp.notch, notchStaged := [] } }

/-- The lane term of every adit from the latest downlink delay (03 R59). -/
def State.laneTerms (s : State) : State :=
  let term (l : LaneState) : Int := l.fracOff + quotI (((l.ddown : Int) - l.ddownAtSync) * 8184 * 65536) (10 ^ 8)
  { s with smp := { s.smp with adits := Vector.ofFn (fun i => { s.smp.adits[i] with laneTerm := term (s.lane i.val) }) } }

/-- Step 5 of the commit order: adit settings and calibration generations (01 R18); a committed table goes to its streams (21). -/
def State.adits5 (s : State) : State :=
  let s1 := s.laneTerms
  let s2 := if s.stepping then s1 else ((List.range 96).foldl State.commitBlock s1).commitNotches
  let s3 := if s.stepping then s2 else s2.commitGenerations
  let s4 := s3.mapAssay (fun a => { a with sinceGen := a.sinceGen + 1 })
  if s4.arr.assay.table.ctGen = s.arr.assay.table.ctGen then s4 else s4.feedAssay false s4.tableBytes

/-! ### Parameters, grade and time -/

/-- Parameters and lists that commit at a boundary outside the steps of the commit order (10 R261, R262; 09 R230; 22 R530, R534). -/
def State.commitParams (s : State) : State :=
  if s.stepping then s
  else
    let x := s.sol
    let sol : SolState := { x with
      solP := x.solPS.getD x.solP, solPS := none
      integP := x.integPS.getD x.integP, integPS := none
      holdP := x.holdPS.getD x.holdP, holdPS := none
      rtcmP := x.rtcmPS.getD x.rtcmP, rtcmPS := none
      exclude := x.excludeStaged.getD x.exclude, excludeStaged := none
      holdForce := x.holdStaged.getD x.holdForce, holdStaged := none
      smode := if x.surveyStaged then 1 else x.smode
      survey := if x.surveyStaged then some (0, 0) else x.survey
      surveySum := if x.surveyStaged then ((0, 0, 0), 0) else x.surveySum
      surveyStaged := false }
    { s with
      sol := sol
      fab := { s.fab with dlParams := s.fab.dlStaged.getD s.fab.dlParams, dlStaged := none }
      hea := { s.hea with
        therm := s.hea.thermStaged.getD s.hea.therm, thermStaged := none, canary := s.hea.canaryStaged.getD s.hea.canary, canaryStaged := none } }

/-- The survey clock of a self-survey advances but in an epoch of grade `SUSPECT` (10 R242). -/
def State.surveyClock (s : State) : State :=
  if s.sol.smode = 1 ∧ s.sol.grade ≠ .suspect then { s with sol := { s.sol with survey := s.sol.survey.map (fun x => (x.1 + 1, x.2)) } } else s

/-- The grade of the boundary (10 R257), reported on a change; at `NOMINAL` the enables that the charter gives the ports commit (14 R362). -/
def State.regrade (s : State) : State :=
  let g := s.gradeOf
  let t := { s with sol := { s.sol with grade := g } }
  let u := if g = s.sol.grade then t else t.report 0x2006 0 0xFF 0 (b8 s.sol.grade.code ++ b8 g.code)
  if Grade.nominal.code ≤ g.code ∧ u.boo.dstate = .run then
    { (u.boo.pendingEnable.foldl (fun v n => v.mapPort n (fun x => { x with enStaged := some true })) u) with boo := { u.boo with pendingEnable := [] } }
  else u

/-- The trim learns only at grade `NOMINAL` or better and outside holdover: a window that leaves them is given up (19 R473). -/
def State.learnGate (s : State) : State :=
  if s.sol.grade.code < Grade.nominal.code ∨ s.sol.holdover then { s with bak := { s.bak with learn := none } } else s

/-- Integrity, grade, holdover and step 7 of the commit order (10 R250–R259, 11 R264–R288). -/
def State.time7 (s : State) : State := s.osnmaClock.integrityBoundary.surveyClock.regrade.holdBoundary.learnGate.timeOutputs

/-! ### The rest of a boundary -/

/-- Complex MAC that a plan's background slices perform in an epoch (08 R182). -/
def Plan.macs (p : Plan) : Nat :=
  (p.stopes.map (fun h => strides h.sg * ((p.template h.lst).map (fun o => if o.opc = 4 then 256 * o.cyc else 0)).foldl (· + ·) 0)).foldl (· + ·) 0

/-- A running sweep asks an epoch's correlation of the background slices (05 R122, 07 R164): a complex MAC for each tick, element and signal beyond
the selection. -/
def State.sweepAsks (s : State) : State :=
  match s.fab.active, s.arr.assay.sweep with
  | some p, some _ =>
    let sel := s.arr.assay.slots.toList.filterMap (fun x => x.map (·.2))
    (p.chans.filter (fun c => (s.chan c.cnum).st == .track && (s.chan c.cnum).prim.isNone && !sel.contains c.cnum)).foldl (fun t c =>
      t.owe (sigBand (s.chan c.cnum).sigid) (epochTicks * (p.routed c.lst).length)) s
  | _, _ => s

/-- `ACQ_RATE` each second (07 R164): what the surveys and a sweep have left of the plan's complex MAC, at 95 a cell; the quotient's rounding is
open (log 6). -/
def State.acqRateSecond (s : State) : State :=
  if s.ms % 1000 ≠ 0 then s
  else
    s.mapAcq (fun a => { a with acqRate := (quotI ((1000 * (s.fab.active.map Plan.macs).getD 0 - a.asked : Nat) : Int) 95).toNat, asked := 0 })

/-- Accepted changes of this boundary have committed (12 R316). -/
def State.acceptedDone (s : State) : State :=
  if s.stepping then s else { s with ses := { s.ses with accepted := s.ses.accepted.filter (fun a => !decide (a.commit ≤ s.ms)) } }

/-- Steps 1 to 7 of the commit order in RUN. -/
def State.commitOrder (s0 : State) : State :=
  let s1 := (if s0.stepping then s0 else s0.liveParams).membership
  let s2 := s1.stopeStage.deputyStage
  let s3 := State.deferDropped s2 s2.rearm.swapStage
  let s4 := State.tracking4 s3 s3
  let s5 := s4.adits5.fillBuckets
  let s6 := if s5.stepping then s5 else s5.commitTenants.liveCommit
  s6.commitParams.time7

/-- What the Overman does beside the commit order at a boundary (07 R163, R171; 08 R174; 09 R216; 18 R453; 21 R506, R516; 22 R528). -/
def State.overmanWork (s : State) : State :=
  let s1 := s.applyCap.escalate.assign.assistedSearches.placeSearches.sweepAsks.watchDerate.watchReturn.saveSparing.acqRateSecond
  let s2 := ((s1.feedPtp.dropLate 0).dropLate 1).acceptedDone
  s2.powerBoundary

/-- A boundary in RUN. -/
def State.boundaryRun (s0 : State) : State :=
  let s := s0.closeEpoch.tellSlips.ungate.startRemedies.d2Reports.stepNulls.commitOrder.overmanWork
  if s.massReset then s.coreReset rcDeadline else s.epochStep State.quietBoundary

/-- A boundary in IDLE and in HOLD: no channel, no plan; the time outputs run on (18 R453, 14 R364). Changes accepted before HOLD are dropped. -/
def State.boundaryRest (s : State) : State :=
  let t := s.time7
  if t.boo.dstate = .hold then
    let l := t.ses.accepted
    l.foldl (fun u a => u.deferFailed a.sid a.seq a.opcode stInHold a.commit a.tenant) { t with ses := { t.ses with accepted := [] } }
  else t

/-- `EPOCH_BOUNDARY` (01 R18, 17 R433): the next boundary tick comes; the observations of the epoch before stand as the end of its deadlines leaves them. While the Overman boots only the outputs run on; in RETAIN and LAMP only
TCNT does; in BACKUP, in reset and before SYN-A has locked there is no boundary. -/
def execEvEpochBoundary (s : State) : Host.Outcome State Fault Refusal :=
  .next (
    if s.pow.pst = .backup ∨ s.held = true ∨ s.clk.runs = false then s
    else
      let t := (if s.boo.dstate = .boot then s else s.takeObs).waitTo epochTicks
      if !s.mainUp then s.waitTo epochTicks
      else
        let u := { t with clk := { t.clk with bnd := t.clk.tick }, cor := { t.cor with core := t.cor.core.map (CoreState.signal 0) } }
        if u.boo.dstate = .boot then u.timeOutputs else if u.awake then u.boundaryRun else u.boundaryRest)

end Sys2Proof.Machine
end

