-- ==== Sys2Proof/Machine/Dispatch.lean ====
section
/-! DEFINITION. The dispatch: each command of the table to its meaning. -/

namespace Sys2Proof.Machine

def exec (i : Instr) (s : State) : Host.Outcome State Fault Refusal :=
  match i with
  | .evEpochBoundary => Sys2Proof.Machine.execEvEpochBoundary s
  | .evHaulageBlockRelease counts => Sys2Proof.Machine.execEvHaulageBlockRelease counts s
  | .evCaptureTimeTrigger region => Sys2Proof.Machine.execEvCaptureTimeTrigger region s
  | .evStrideStart ls frep => Sys2Proof.Machine.execEvStrideStart ls frep s
  | .evD1Deadline => Sys2Proof.Machine.execEvD1Deadline s
  | .evD2Deadline => Sys2Proof.Machine.execEvD2Deadline s
  | .evDeputyLoopUpdate ld u => Sys2Proof.Machine.execEvDeputyLoopUpdate ld u s
  | .evAssayFold u => Sys2Proof.Machine.execEvAssayFold u s
  | .evCalGeneration => Sys2Proof.Machine.execEvCalGeneration s
  | .evQuarantineExpiry el band => Sys2Proof.Machine.execEvQuarantineExpiry el band s
  | .evCalTableSave => Sys2Proof.Machine.execEvCalTableSave s
  | .evEphemerisSave => Sys2Proof.Machine.execEvEphemerisSave s
  | .evSweepEnd u => Sys2Proof.Machine.execEvSweepEnd u s
  | .evCodeLibraryCheck flips => Sys2Proof.Machine.execEvCodeLibraryCheck flips s
  | .evInterferenceSurvey site band u => Sys2Proof.Machine.execEvInterferenceSurvey site band u s
  | .evPullinTimeout ch => Sys2Proof.Machine.execEvPullinTimeout ch s
  | .evCoastTimeout ch => Sys2Proof.Machine.execEvCoastTimeout ch s
  | .evSearchComplete u => Sys2Proof.Machine.execEvSearchComplete u s
  | .evConfirmation a b => Sys2Proof.Machine.execEvConfirmation a b s
  | .evBackgroundColdSearch => Sys2Proof.Machine.execEvBackgroundColdSearch s
  | .evSolution u => Sys2Proof.Machine.execEvSolution u s
  | .evSuspicionExpiry index => Sys2Proof.Machine.execEvSuspicionExpiry index s
  | .evMeasurementRecord => Sys2Proof.Machine.execEvMeasurementRecord s
  | .evRtcmEpoch => Sys2Proof.Machine.execEvRtcmEpoch s
  | .evNmeaGroup => Sys2Proof.Machine.execEvNmeaGroup s
  | .evUplinkFrame el frame => Sys2Proof.Machine.execEvUplinkFrame el frame s
  | .evCapFrame el frame => Sys2Proof.Machine.execEvCapFrame el frame s
  | .evAlignmentGained el => Sys2Proof.Machine.execEvAlignmentGained el s
  | .evAlignmentLost el => Sys2Proof.Machine.execEvAlignmentLost el s
  | .evFramesMissing el => Sys2Proof.Machine.execEvFramesMissing el s
  | .evOffer el => Sys2Proof.Machine.execEvOffer el s
  | .evRateSwitch el => Sys2Proof.Machine.execEvRateSwitch el s
  | .evLaneStateTimeout el => Sys2Proof.Machine.execEvLaneStateTimeout el s
  | .evMark el departure => Sys2Proof.Machine.execEvMark el departure s
  | .evCtrlRetry el => Sys2Proof.Machine.execEvCtrlRetry el s
  | .evStandbyTimeout el => Sys2Proof.Machine.execEvStandbyTimeout el s
  | .evScrubCopyComplete => Sys2Proof.Machine.execEvScrubCopyComplete s
  | .evBankTestComplete pass => Sys2Proof.Machine.execEvBankTestComplete pass s
  | .evDeputyCopyComplete => Sys2Proof.Machine.execEvDeputyCopyComplete s
  | .evDeepTestComplete matched frep => Sys2Proof.Machine.execEvDeepTestComplete matched frep s
  | .evPlanVerifyResult => Sys2Proof.Machine.execEvPlanVerifyResult s
  | .evTallyVerifyResult => Sys2Proof.Machine.execEvTallyVerifyResult s
  | .evPortCalResult tp => Sys2Proof.Machine.execEvPortCalResult tp s
  | .evPortStart tp => Sys2Proof.Machine.execEvPortStart tp s
  | .evEcho tp rt => Sys2Proof.Machine.execEvEcho tp rt s
  | .evEchoMissing tp => Sys2Proof.Machine.execEvEchoMissing tp s
  | .evReturnStuck tp active => Sys2Proof.Machine.execEvReturnStuck tp active s
  | .evPathCalibration paths skews => Sys2Proof.Machine.execEvPathCalibration paths skews s
  | .evTodMessage tp => Sys2Proof.Machine.execEvTodMessage tp s
  | .evRefLoss => Sys2Proof.Machine.execEvRefLoss s
  | .evSynUnlock syn => Sys2Proof.Machine.execEvSynUnlock syn s
  | .evRefCoastExpiry => Sys2Proof.Machine.execEvRefCoastExpiry s
  | .evRefRestore => Sys2Proof.Machine.execEvRefRestore s
  | .evSessionIdleTimeout sid => Sys2Proof.Machine.execEvSessionIdleTimeout sid s
  | .evAuthTimeout sid => Sys2Proof.Machine.execEvAuthTimeout sid s
  | .evLockoutExpiry transport source => Sys2Proof.Machine.execEvLockoutExpiry transport source s
  | .evResetDelayExpiry => Sys2Proof.Machine.execEvResetDelayExpiry s
  | .evTallyFlashWrite => Sys2Proof.Machine.execEvTallyFlashWrite s
  | .evPowerOnReset strap => Sys2Proof.Machine.execEvPowerOnReset strap s
  | .evBrownOut strap => Sys2Proof.Machine.execEvBrownOut strap s
  | .evResetN low => Sys2Proof.Machine.execEvResetN low s
  | .evDbgSys => Sys2Proof.Machine.execEvDbgSys s
  | .evDbgCore => Sys2Proof.Machine.execEvDbgCore s
  | .evWatchdog => Sys2Proof.Machine.execEvWatchdog s
  | .evThermalTripRelease => Sys2Proof.Machine.execEvThermalTripRelease s
  | .evBoot found => Sys2Proof.Machine.execEvBoot found s
  | .evFirmwareRetry found => Sys2Proof.Machine.execEvFirmwareRetry found s
  | .evPowerEntry => Sys2Proof.Machine.execEvPowerEntry s
  | .evEdgeWindowClose ev bev => Sys2Proof.Machine.execEvEdgeWindowClose ev bev s
  | .evPowerExit code index => Sys2Proof.Machine.execEvPowerExit code index s
  | .evLampCycle u => Sys2Proof.Machine.execEvLampCycle u s
  | .evBlockResetDone => Sys2Proof.Machine.execEvBlockResetDone s
  | .evStopeStall st => Sys2Proof.Machine.execEvStopeStall st s
  | .evStallRestart st => Sys2Proof.Machine.execEvStallRestart st s
  | .evGeneratorUnlock isl => Sys2Proof.Machine.execEvGeneratorUnlock isl s
  | .evGeneratorRelock isl => Sys2Proof.Machine.execEvGeneratorRelock isl s
  | .evForcedCrossing src dst => Sys2Proof.Machine.execEvForcedCrossing src dst s
  | .evSeamTimeout src dst => Sys2Proof.Machine.execEvSeamTimeout src dst s
  | .evBackupPowerOn => Sys2Proof.Machine.execEvBackupPowerOn s
  | .evBackupSupplySwitch onVbat => Sys2Proof.Machine.execEvBackupSupplySwitch onVbat s
  | .evTrimUpdate temp => Sys2Proof.Machine.execEvTrimUpdate temp s
  | .evHaltTimeout => Sys2Proof.Machine.execEvHaltTimeout s
  | .evPeriodicWake => Sys2Proof.Machine.execEvPeriodicWake s
  | .evBevEdge n rising => Sys2Proof.Machine.execEvBevEdge n rising s
  | .evCounterAlign => Sys2Proof.Machine.execEvCounterAlign s
  | .evTrimLearn a b c => Sys2Proof.Machine.execEvTrimLearn a b c s
  | .evVbatMeasure mv => Sys2Proof.Machine.execEvVbatMeasure mv s
  | .evUartCharacter n c => Sys2Proof.Machine.execEvUartCharacter n c s
  | .evLineDead n => Sys2Proof.Machine.execEvLineDead n s
  | .evLineRecover n => Sys2Proof.Machine.execEvLineRecover n s
  | .evUartTransmit n => Sys2Proof.Machine.execEvUartTransmit n s
  | .evU0GapTimeout => Sys2Proof.Machine.execEvU0GapTimeout s
  | .evSpiWr bytes whole => Sys2Proof.Machine.execEvSpiWr bytes whole s
  | .evSpiRd complete => Sys2Proof.Machine.execEvSpiRd complete s
  | .evSpiSt => Sys2Proof.Machine.execEvSpiSt s
  | .evWakePortMatch addr read => Sys2Proof.Machine.execEvWakePortMatch addr read s
  | .evWakePortRead count => Sys2Proof.Machine.execEvWakePortRead count s
  | .evBusClear risesAt => Sys2Proof.Machine.execEvBusClear risesAt s
  | .evSclStuck => Sys2Proof.Machine.execEvSclStuck s
  | .evEventEdge n edge => Sys2Proof.Machine.execEvEventEdge n edge s
  | .evMagicFrame f => Sys2Proof.Machine.execEvMagicFrame f s
  | .evPtpFrame port frame fcsOk => Sys2Proof.Machine.execEvPtpFrame port frame fcsOk s
  | .evPauseFrame port quanta => Sys2Proof.Machine.execEvPauseFrame port quanta s
  | .evLinkDown port => Sys2Proof.Machine.execEvLinkDown port s
  | .evLinkUp port => Sys2Proof.Machine.execEvLinkUp port s
  | .evEgress port => Sys2Proof.Machine.execEvEgress port s
  | .evRingMonitor readings => Sys2Proof.Machine.execEvRingMonitor readings s
  | .evSramMarginTest unit margin failedRow => Sys2Proof.Machine.execEvSramMarginTest unit margin failedRow s
  | .evEyeMonitor el eye => Sys2Proof.Machine.execEvEyeMonitor el eye s
  | .evThermalSample readings => Sys2Proof.Machine.execEvThermalSample readings s
  | .evThrottleChange => Sys2Proof.Machine.execEvThrottleChange s
  | .evThermalTrip => Sys2Proof.Machine.execEvThermalTrip s
  | .evThermalReturn => Sys2Proof.Machine.execEvThermalReturn s
  | .evInterrupt core lines => Sys2Proof.Machine.execEvInterrupt core lines s
  | .evKcycLimExpiry core => Sys2Proof.Machine.execEvKcycLimExpiry core s
  | .evWaitRelease core => Sys2Proof.Machine.execEvWaitRelease core s
  | .hbNop core form => Sys2Proof.Machine.execHbNop core form s
  | .hbRet core => Sys2Proof.Machine.execHbRet core s
  | .hbReti core => Sys2Proof.Machine.execHbReti core s
  | .hbWfe core => Sys2Proof.Machine.execHbWfe core s
  | .hbBrk core => Sys2Proof.Machine.execHbBrk core s
  | .hbSetm core b => Sys2Proof.Machine.execHbSetm core b s
  | .hbClrm core b => Sys2Proof.Machine.execHbClrm core b s
  | .hbPush core g => Sys2Proof.Machine.execHbPush core g s
  | .hbPop core g => Sys2Proof.Machine.execHbPop core g s
  | .hbJr core g => Sys2Proof.Machine.execHbJr core g s
  | .hbCallr core g => Sys2Proof.Machine.execHbCallr core g s
  | .hbJ core target => Sys2Proof.Machine.execHbJ core target s
  | .hbCall core target => Sys2Proof.Machine.execHbCall core target s
  | .hbMov core d sr => Sys2Proof.Machine.execHbMov core d sr s
  | .hbAdd core form => Sys2Proof.Machine.execHbAdd core form s
  | .hbSub core form => Sys2Proof.Machine.execHbSub core form s
  | .hbAnd core form => Sys2Proof.Machine.execHbAnd core form s
  | .hbOr core form => Sys2Proof.Machine.execHbOr core form s
  | .hbXor core form => Sys2Proof.Machine.execHbXor core form s
  | .hbNot core d sr => Sys2Proof.Machine.execHbNot core d sr s
  | .hbNeg core d sr => Sys2Proof.Machine.execHbNeg core d sr s
  | .hbShl core form => Sys2Proof.Machine.execHbShl core form s
  | .hbShr core form => Sys2Proof.Machine.execHbShr core form s
  | .hbSar core form => Sys2Proof.Machine.execHbSar core form s
  | .hbAdds core form => Sys2Proof.Machine.execHbAdds core form s
  | .hbSubs core form => Sys2Proof.Machine.execHbSubs core form s
  | .hbMin core form => Sys2Proof.Machine.execHbMin core form s
  | .hbMax core form => Sys2Proof.Machine.execHbMax core form s
  | .hbAbs core d sr => Sys2Proof.Machine.execHbAbs core d sr s
  | .hbMul core d a b z => Sys2Proof.Machine.execHbMul core d a b z s
  | .hbMulh core d a b z => Sys2Proof.Machine.execHbMulh core d a b z s
  | .hbMulhu core d a b z => Sys2Proof.Machine.execHbMulhu core d a b z s
  | .hbAddi core g form => Sys2Proof.Machine.execHbAddi core g form s
  | .hbMovi core g imm => Sys2Proof.Machine.execHbMovi core g imm s
  | .hbLdi core g imm => Sys2Proof.Machine.execHbLdi core g imm s
  | .hbAndi core g imm => Sys2Proof.Machine.execHbAndi core g imm s
  | .hbOri core g imm => Sys2Proof.Machine.execHbOri core g imm s
  | .hbXori core g imm => Sys2Proof.Machine.execHbXori core g imm s
  | .hbShli core g imm => Sys2Proof.Machine.execHbShli core g imm s
  | .hbShri core g imm => Sys2Proof.Machine.execHbShri core g imm s
  | .hbSari core g imm => Sys2Proof.Machine.execHbSari core g imm s
  | .hbBset core g imm => Sys2Proof.Machine.execHbBset core g imm s
  | .hbBclr core g imm => Sys2Proof.Machine.execHbBclr core g imm s
  | .hbBtgl core g imm => Sys2Proof.Machine.execHbBtgl core g imm s
  | .hbLd core form => Sys2Proof.Machine.execHbLd core form s
  | .hbSt core form => Sys2Proof.Machine.execHbSt core form s
  | .hbCbEq core form => Sys2Proof.Machine.execHbCbEq core form s
  | .hbCbNe core form => Sys2Proof.Machine.execHbCbNe core form s
  | .hbCbLt core a b o => Sys2Proof.Machine.execHbCbLt core a b o s
  | .hbCbGe core a b o => Sys2Proof.Machine.execHbCbGe core a b o s
  | .hbCbLtu core a b o => Sys2Proof.Machine.execHbCbLtu core a b o s
  | .hbCbGeu core a b o => Sys2Proof.Machine.execHbCbGeu core a b o s
  | .hbCbz core form => Sys2Proof.Machine.execHbCbz core form s
  | .hbCbnz core form => Sys2Proof.Machine.execHbCbnz core form s
  | .hbMac core a sr t => Sys2Proof.Machine.execHbMac core a sr t s
  | .hbMsu core a sr t => Sys2Proof.Machine.execHbMsu core a sr t s
  | .hbMpy core a sr t => Sys2Proof.Machine.execHbMpy core a sr t s
  | .hbMacr core a sr t => Sys2Proof.Machine.execHbMacr core a sr t s
  | .hbMsur core a sr t => Sys2Proof.Machine.execHbMsur core a sr t s
  | .hbMpyr core a sr t => Sys2Proof.Machine.execHbMpyr core a sr t s
  | .hbMacm core op a pa pb k1 k2 z => Sys2Proof.Machine.execHbMacm core op a pa pb k1 k2 z s
  | .hbRep core form => Sys2Proof.Machine.execHbRep core form s
  | .hbRepi core form => Sys2Proof.Machine.execHbRepi core form s
  | .hbIn core form => Sys2Proof.Machine.execHbIn core form s
  | .hbOut core form => Sys2Proof.Machine.execHbOut core form s
  | .hbMovs core sr dir g z => Sys2Proof.Machine.execHbMovs core sr dir g z s
  | .hbClr core a z => Sys2Proof.Machine.execHbClr core a z s
  | .hbMova core a b z => Sys2Proof.Machine.execHbMova core a b z s
  | .hbAdda core a b z => Sys2Proof.Machine.execHbAdda core a b z s
  | .hbSuba core a b z => Sys2Proof.Machine.execHbSuba core a b z s
  | .hbNega core a b z => Sys2Proof.Machine.execHbNega core a b z s
  | .hbAbsa core a b z => Sys2Proof.Machine.execHbAbsa core a b z s
  | .hbShla core a sh z => Sys2Proof.Machine.execHbShla core a sh z s
  | .hbSara core a sh z => Sys2Proof.Machine.execHbSara core a sh z s
  | .hbRnd core a z => Sys2Proof.Machine.execHbRnd core a z s
  | .hbSata core a z => Sys2Proof.Machine.execHbSata core a z s
  | .hbNorm core a z => Sys2Proof.Machine.execHbNorm core a z s
  | .hbExp core g a z => Sys2Proof.Machine.execHbExp core g a z s
  | .hbShi core g a z => Sys2Proof.Machine.execHbShi core g a z s
  | .hbLda core a g z => Sys2Proof.Machine.execHbLda core a g z s
  | .hbLdal core a g z => Sys2Proof.Machine.execHbLdal core a g z s
  | .hbScale core a z => Sys2Proof.Machine.execHbScale core a z s
  | .hbBmov core pd ps kd ks z upTo => Sys2Proof.Machine.execHbBmov core pd ps kd ks z upTo s
  | .hbBexp core p k z upTo => Sys2Proof.Machine.execHbBexp core p k z upTo s
  | .hbWaitt core q z => Sys2Proof.Machine.execHbWaitt core q z s
  | .hbWfet core q xd z => Sys2Proof.Machine.execHbWfet core q xd z s
  | .hbSev core form => Sys2Proof.Machine.execHbSev core form s
  | .hbTrap core n z => Sys2Proof.Machine.execHbTrap core n z s
  | .regTcntLo core => Sys2Proof.Machine.execRegTcntLo core s
  | .regBndLo core => Sys2Proof.Machine.execRegBndLo core s
  | .regIntPend core value => Sys2Proof.Machine.execRegIntPend core value s
  | .regCommit core slot value => Sys2Proof.Machine.execRegCommit core slot value s
  | .regBlockReset value => Sys2Proof.Machine.execRegBlockReset value s
  | .regBkCntLo => Sys2Proof.Machine.execRegBkCntLo s
  | .regTickHalt => Sys2Proof.Machine.execRegTickHalt s
  | .regTickRelease => Sys2Proof.Machine.execRegTickRelease s
  | .regBkDst value => Sys2Proof.Machine.execRegBkDst value s
  | .regBkPadj value => Sys2Proof.Machine.execRegBkPadj value s
  | .regBkStat value => Sys2Proof.Machine.execRegBkStat value s
  | .regBevTsLo n => Sys2Proof.Machine.execRegBevTsLo n s
  | .regBevMerge => Sys2Proof.Machine.execRegBevMerge s
  | .regRegisterWrite core addr value => Sys2Proof.Machine.execRegRegisterWrite core addr value s
  | .cmdHello p => Sys2Proof.Machine.execCmdHello p s
  | .cmdAuth p => Sys2Proof.Machine.execCmdAuth p s
  | .cmdBye p => Sys2Proof.Machine.execCmdBye p s
  | .cmdPing p => Sys2Proof.Machine.execCmdPing p s
  | .cmdSessList p => Sys2Proof.Machine.execCmdSessList p s
  | .cmdEvtSubscribe p => Sys2Proof.Machine.execCmdEvtSubscribe p s
  | .cmdEvtRead p => Sys2Proof.Machine.execCmdEvtRead p s
  | .cmdSessParams p => Sys2Proof.Machine.execCmdSessParams p s
  | .cmdDevInfo p => Sys2Proof.Machine.execCmdDevInfo p s
  | .cmdDevState p => Sys2Proof.Machine.execCmdDevState p s
  | .cmdDevReset p => Sys2Proof.Machine.execCmdDevReset p s
  | .cmdDevPower p => Sys2Proof.Machine.execCmdDevPower p s
  | .cmdRstClear p => Sys2Proof.Machine.execCmdRstClear p s
  | .cmdDevFeatures p => Sys2Proof.Machine.execCmdDevFeatures p s
  | .cmdCharterStatus p => Sys2Proof.Machine.execCmdCharterStatus p s
  | .cmdCharterLoad p => Sys2Proof.Machine.execCmdCharterLoad p s
  | .cmdCharterVerify p => Sys2Proof.Machine.execCmdCharterVerify p s
  | .cmdCharterCommit p => Sys2Proof.Machine.execCmdCharterCommit p s
  | .cmdCharterRead p => Sys2Proof.Machine.execCmdCharterRead p s
  | .cmdFuseRead p => Sys2Proof.Machine.execCmdFuseRead p s
  | .cmdFuseWrite p => Sys2Proof.Machine.execCmdFuseWrite p s
  | .cmdSiteList p => Sys2Proof.Machine.execCmdSiteList p s
  | .cmdElemList p => Sys2Proof.Machine.execCmdElemList p s
  | .cmdLaneStatus p => Sys2Proof.Machine.execCmdLaneStatus p s
  | .cmdLaneClear p => Sys2Proof.Machine.execCmdLaneClear p s
  | .cmdLodeArm p => Sys2Proof.Machine.execCmdLodeArm p s
  | .cmdLodeTrig p => Sys2Proof.Machine.execCmdLodeTrig p s
  | .cmdLodeDisarm p => Sys2Proof.Machine.execCmdLodeDisarm p s
  | .cmdLodeStatus p => Sys2Proof.Machine.execCmdLodeStatus p s
  | .cmdAditSet p => Sys2Proof.Machine.execCmdAditSet p s
  | .cmdNotchSet p => Sys2Proof.Machine.execCmdNotchSet p s
  | .cmdBeamList p => Sys2Proof.Machine.execCmdBeamList p s
  | .cmdBandCoherence p => Sys2Proof.Machine.execCmdBandCoherence p s
  | .cmdNullList p => Sys2Proof.Machine.execCmdNullList p s
  | .cmdBeamPolicy p => Sys2Proof.Machine.execCmdBeamPolicy p s
  | .cmdSiteMask p => Sys2Proof.Machine.execCmdSiteMask p s
  | .cmdBeamDefine p => Sys2Proof.Machine.execCmdBeamDefine p s
  | .cmdBeamWeights p => Sys2Proof.Machine.execCmdBeamWeights p s
  | .cmdNullParams p => Sys2Proof.Machine.execCmdNullParams p s
  | .cmdCoherenceParams p => Sys2Proof.Machine.execCmdCoherenceParams p s
  | .cmdAssayStatus p => Sys2Proof.Machine.execCmdAssayStatus p s
  | .cmdCalRead p => Sys2Proof.Machine.execCmdCalRead p s
  | .cmdQuarList p => Sys2Proof.Machine.execCmdQuarList p s
  | .cmdAssaySweep p => Sys2Proof.Machine.execCmdAssaySweep p s
  | .cmdElemRequal p => Sys2Proof.Machine.execCmdElemRequal p s
  | .cmdCalAccept p => Sys2Proof.Machine.execCmdCalAccept p s
  | .cmdCalSave p => Sys2Proof.Machine.execCmdCalSave p s
  | .cmdAssayParams p => Sys2Proof.Machine.execCmdAssayParams p s
  | .cmdAssaySignals p => Sys2Proof.Machine.execCmdAssaySignals p s
  | .cmdCalSeed p => Sys2Proof.Machine.execCmdCalSeed p s
  | .cmdChList p => Sys2Proof.Machine.execCmdChList p s
  | .cmdChStatus p => Sys2Proof.Machine.execCmdChStatus p s
  | .cmdChPin p => Sys2Proof.Machine.execCmdChPin p s
  | .cmdChRelease p => Sys2Proof.Machine.execCmdChRelease p s
  | .cmdSigPolicy p => Sys2Proof.Machine.execCmdSigPolicy p s
  | .cmdChLoop p => Sys2Proof.Machine.execCmdChLoop p s
  | .cmdChArms p => Sys2Proof.Machine.execCmdChArms p s
  | .cmdChKernel p => Sys2Proof.Machine.execCmdChKernel p s
  | .cmdAcqStatus p => Sys2Proof.Machine.execCmdAcqStatus p s
  | .cmdAcqResults p => Sys2Proof.Machine.execCmdAcqResults p s
  | .cmdAcqStart p => Sys2Proof.Machine.execCmdAcqStart p s
  | .cmdAcqAssist p => Sys2Proof.Machine.execCmdAcqAssist p s
  | .cmdAcqSectors p => Sys2Proof.Machine.execCmdAcqSectors p s
  | .cmdAcqParams p => Sys2Proof.Machine.execCmdAcqParams p s
  | .cmdAcqSearch p => Sys2Proof.Machine.execCmdAcqSearch p s
  | .cmdPlanStatus p => Sys2Proof.Machine.execCmdPlanStatus p s
  | .cmdPlanLoad p => Sys2Proof.Machine.execCmdPlanLoad p s
  | .cmdPlanVerify p => Sys2Proof.Machine.execCmdPlanVerify p s
  | .cmdPlanActivate p => Sys2Proof.Machine.execCmdPlanActivate p s
  | .cmdPlanDiscard p => Sys2Proof.Machine.execCmdPlanDiscard p s
  | .cmdPlanRead p => Sys2Proof.Machine.execCmdPlanRead p s
  | .cmdPlanDerated p => Sys2Proof.Machine.execCmdPlanDerated p s
  | .cmdPlanModel p => Sys2Proof.Machine.execCmdPlanModel p s
  | .cmdMeasStatus p => Sys2Proof.Machine.execCmdMeasStatus p s
  | .cmdSolStatus p => Sys2Proof.Machine.execCmdSolStatus p s
  | .cmdIntegStatus p => Sys2Proof.Machine.execCmdIntegStatus p s
  | .cmdSurveyStart p => Sys2Proof.Machine.execCmdSurveyStart p s
  | .cmdHoldForce p => Sys2Proof.Machine.execCmdHoldForce p s
  | .cmdSatExclude p => Sys2Proof.Machine.execCmdSatExclude p s
  | .cmdSolParams p => Sys2Proof.Machine.execCmdSolParams p s
  | .cmdIntegParams p => Sys2Proof.Machine.execCmdIntegParams p s
  | .cmdHoldParams p => Sys2Proof.Machine.execCmdHoldParams p s
  | .cmdRtcmParams p => Sys2Proof.Machine.execCmdRtcmParams p s
  | .cmdStreamOpen p => Sys2Proof.Machine.execCmdStreamOpen p s
  | .cmdStreamClose p => Sys2Proof.Machine.execCmdStreamClose p s
  | .cmdStreamStatus p => Sys2Proof.Machine.execCmdStreamStatus p s
  | .cmdSnapExport p => Sys2Proof.Machine.execCmdSnapExport p s
  | .cmdStreamParams p => Sys2Proof.Machine.execCmdStreamParams p s
  | .cmdSynStatus p => Sys2Proof.Machine.execCmdSynStatus p s
  | .cmdPortStatus p => Sys2Proof.Machine.execCmdPortStatus p s
  | .cmdPortSet p => Sys2Proof.Machine.execCmdPortSet p s
  | .cmdPortEnable p => Sys2Proof.Machine.execCmdPortEnable p s
  | .cmdPortCable p => Sys2Proof.Machine.execCmdPortCable p s
  | .cmdPortCal p => Sys2Proof.Machine.execCmdPortCal p s
  | .cmdSynDither p => Sys2Proof.Machine.execCmdSynDither p s
  | .cmdServoParams p => Sys2Proof.Machine.execCmdServoParams p s
  | .cmdTimeStatus p => Sys2Proof.Machine.execCmdTimeStatus p s
  | .cmdTickSet p => Sys2Proof.Machine.execCmdTickSet p s
  | .cmdTickDst p => Sys2Proof.Machine.execCmdTickDst p s
  | .cmdWakeSet p => Sys2Proof.Machine.execCmdWakeSet p s
  | .cmdBramRead p => Sys2Proof.Machine.execCmdBramRead p s
  | .cmdBramWrite p => Sys2Proof.Machine.execCmdBramWrite p s
  | .cmdChargerSet p => Sys2Proof.Machine.execCmdChargerSet p s
  | .cmdTrimCurve p => Sys2Proof.Machine.execCmdTrimCurve p s
  | .cmdHealthStatus p => Sys2Proof.Machine.execCmdHealthStatus p s
  | .cmdThermalStatus p => Sys2Proof.Machine.execCmdThermalStatus p s
  | .cmdWearList p => Sys2Proof.Machine.execCmdWearList p s
  | .cmdSpareList p => Sys2Proof.Machine.execCmdSpareList p s
  | .cmdThermalParams p => Sys2Proof.Machine.execCmdThermalParams p s
  | .cmdCanaryParams p => Sys2Proof.Machine.execCmdCanaryParams p s
  | .cmdMaintStatus p => Sys2Proof.Machine.execCmdMaintStatus p s
  | .cmdDlStatus p => Sys2Proof.Machine.execCmdDlStatus p s
  | .cmdStopeSwap p => Sys2Proof.Machine.execCmdStopeSwap p s
  | .cmdDeputySwap p => Sys2Proof.Machine.execCmdDeputySwap p s
  | .cmdDeepTest p => Sys2Proof.Machine.execCmdDeepTest p s
  | .cmdLodeSwap p => Sys2Proof.Machine.execCmdLodeSwap p s
  | .cmdLaneReneg p => Sys2Proof.Machine.execCmdLaneReneg p s
  | .cmdElemOut p => Sys2Proof.Machine.execCmdElemOut p s
  | .cmdElemIn p => Sys2Proof.Machine.execCmdElemIn p s
  | .cmdMaintCancel p => Sys2Proof.Machine.execCmdMaintCancel p s
  | .cmdDlClear p => Sys2Proof.Machine.execCmdDlClear p s
  | .cmdDlParams p => Sys2Proof.Machine.execCmdDlParams p s
  | .cmdTallyStatus p => Sys2Proof.Machine.execCmdTallyStatus p s
  | .cmdTallyRead p => Sys2Proof.Machine.execCmdTallyRead p s
  | .cmdTallyExport p => Sys2Proof.Machine.execCmdTallyExport p s
  | .cmdTallyVerify p => Sys2Proof.Machine.execCmdTallyVerify p s
  | .cmdTenantList p => Sys2Proof.Machine.execCmdTenantList p s
  | .cmdTenantAdd p => Sys2Proof.Machine.execCmdTenantAdd p s
  | .cmdTenantRemove p => Sys2Proof.Machine.execCmdTenantRemove p s
  | .cmdTenantQuota p => Sys2Proof.Machine.execCmdTenantQuota p s
  | .cmdRoleSecret p => Sys2Proof.Machine.execCmdRoleSecret p s
  | .cmdUartSet p => Sys2Proof.Machine.execCmdUartSet p s
  | .cmdUartStatus p => Sys2Proof.Machine.execCmdUartStatus p s
  | .cmdEvinSet p => Sys2Proof.Machine.execCmdEvinSet p s
  | .cmdEvinStatus p => Sys2Proof.Machine.execCmdEvinStatus p s
  | .cmdWakeportSet p => Sys2Proof.Machine.execCmdWakeportSet p s
  | .cmdLineClear p => Sys2Proof.Machine.execCmdLineClear p s
  | .cmdUartTiming p => Sys2Proof.Machine.execCmdUartTiming p s
  | .cmdKernelList p => Sys2Proof.Machine.execCmdKernelList p s
  | .cmdKernelLoad p => Sys2Proof.Machine.execCmdKernelLoad p s
  | .cmdKernelVerify p => Sys2Proof.Machine.execCmdKernelVerify p s
  | .cmdKernelDelete p => Sys2Proof.Machine.execCmdKernelDelete p s
  | .cmdKernelBudget p => Sys2Proof.Machine.execCmdKernelBudget p s
  | .cmdMakerOpen p => Sys2Proof.Machine.execCmdMakerOpen p s
  | .cmdMakerClose p => Sys2Proof.Machine.execCmdMakerClose p s
  | .cmdMakerMark p => Sys2Proof.Machine.execCmdMakerMark p s
  | .evDiscardedPacket transport source bytes fcsOk => Sys2Proof.Machine.execEvDiscardedPacket transport source bytes fcsOk s
  | .evPortEdge tp => Sys2Proof.Machine.execEvPortEdge tp s
  | .evSeamAcknowledge src dst => Sys2Proof.Machine.execEvSeamAcknowledge src dst s
  | .evSynRelock syn => Sys2Proof.Machine.execEvSynRelock syn s
  | .regBkCaptLo => Sys2Proof.Machine.execRegBkCaptLo s

end Sys2Proof.Machine
end

