-- ==== Sys2Proof/Safety.lean ====
section
/-! DEFINITION. The terms statements are written in: when a core stands before an ordinary instruction and what it is after one, when a
request passes the checks of its command and how it is answered, and the sound states. -/

namespace Sys2Proof.Machine

/-! ### HB24 cores -/

/-- Core `k` stands before an instruction of `len` parcels with nothing in progress: it runs, neither repeats nor stands in a delay slot
or a load shadow, its cycle budget is not spent, the parcels may be fetched, and no enabled interrupt line waits. -/
structure Ready (k : Fin 19) (len : Nat) (s : State) : Prop where
  running : s.cor.core[k].lockup = false
  awake : s.cor.core[k].wait = none
  budget : s.cor.core[k].kexp = false
  noRep : s.cor.core[k].rep = none
  noRepi : s.cor.core[k].repi = none
  noSlot : s.cor.core[k].slot = none
  noLoad : s.cor.core[k].load = none
  noRepeat : s.cor.core[k].st.getLsbD 4 = false
  fetch : ∀ i, i < len → fetchOk k s.cor.core[k] (s.cor.core[k].pc + i) = true
  quiet : s.cor.core[k].st.getLsbD 0 = false ∨ s.cor.core[k].intPend &&& s.cor.core[k].intEn = 0

/-- Core `c0` after an instruction of `len` parcels and `n` cycles whose own effect left `c` (15 R397, 16 R421): `shadow` holds the old
mode bits after a write of them (15 R382). -/
def CoreState.after (c0 c : CoreState) (len n : Nat) (shadow : Option (BitVec 4) := none) : CoreState :=
  let c1 := { c with fresh := false, modeShadow := shadow, cycles := c.cycles + n, pc := c0.pc + len }
  if c0.user = true ∧ c0.kcycLim ≠ 0 then
    if c0.kcycLim.toNat ≤ n then { c1 with kcycLim := 0, kexp := true } else { c1 with kcycLim := c0.kcycLim - BitVec.ofNat 16 n }
  else c1

/-- The memories of one core have their canonical form (log 3). -/
def CoreState.memOk (c : CoreState) : Bool := swf 0 c.dmem && swf 0 c.imem

/-- Instruction `i` of `len` parcels completes on core `k` in `n` cycles, changes that core as `g` says and nothing else of the state. -/
def Runs (k : Fin 19) (len : Nat) (i : Instr) (g : CoreState → CoreState) (n : Nat := 1) : Prop :=
  ∀ s : State, Ready k len s → exec i s = .next (s.setCore k (s.cor.core[k].after (g s.cor.core[k]) len n))

/-- Puts `v` into general register `d`. -/
def CoreState.putG (c : CoreState) (d : Fin 16) (v : Word24) : CoreState := { c with g := c.g.set d v }

/-- Sets sticky bit `i` of st when a condition holds. -/
def CoreState.stick (c : CoreState) (i : Nat) (p : Prop) [Decidable p] : CoreState :=
  { c with st := if p then c.st ||| BitVec.twoPow 24 i else c.st }

/-- An exact value lies outside the signed 24-bit range. -/
abbrev Beyond24 (v : Int) : Prop := v < -(2 ^ 23) ∨ 2 ^ 23 ≤ v

/-- An exact value lies outside the signed 48-bit range of an accumulator. -/
abbrev Beyond48 (v : Int) : Prop := v < -(2 ^ 47) ∨ 2 ^ 47 ≤ v

/-- The nearest value of the signed 24-bit range. -/
def limit24 (v : Int) : Int := max (-(2 ^ 23)) (min (2 ^ 23 - 1) v)

/-- The nearest value of the signed 48-bit range. -/
def limit48 (v : Int) : Int := max (-(2 ^ 47)) (min (2 ^ 47 - 1) v)

/-- Writes an accumulator with an exact value: limited with `SATM`, modulo 2^56 without, and the sticky `AOV` bit when it does not fit
(16 R399, R400). -/
def CoreState.putA (c : CoreState) (a : Fin 4) (v : Int) : CoreState :=
  { c with ac := c.ac.set a (BitVec.ofInt 56 (if c.satm = true then limit48 v else v)) }.stick (8 + a.val) (Beyond48 v)

/-- Core `k` leaves its stream for a vector (16 R404): pc and st pushed, `IE`, `U` and `RPT` cleared, the exception registers written;
`EXC_ADDR` of a cause without an access address is an open value. -/
def State.trapped (k : Fin 19) (c : CoreState) (push vector : Nat) (addr : Option Word24) (info : Nat) (s : State) : State :=
  let sp := c.g[15]
  { s.setCore k
      { c with
        dmem := swrite 0 (swrite 0 c.dmem (sp - 1).toNat (BitVec.ofNat 24 push)) (sp - 2).toNat c.st
        g := c.g.set 15 (sp - 2)
        st := c.st &&& 0xFFFFEC#24
        pc := if vector < 16 then 4 * vector else 64 + 4 * (vector - 16)
        excCause := BitVec.ofNat 7 vector, excAddr := addr.getD (Config.freeWord s.free), excInfo := BitVec.ofNat 24 info
        fresh := true, slot := none, rep := none, repi := none, modeShadow := none, load := none, wait := none, kexp := false
        cycles := c.cycles + 6 } with
    free := s.free + 1 }

/-- Core `k` has room in its data memory for the two words of an entry (16 R404, R407). -/
def StackRoom (k : Fin 19) (c : CoreState) : Prop := (c.g[15] - 1).toNat < dataSize k ∧ (c.g[15] - 2).toNat < dataSize k

/-- Instruction `i` of `len` parcels raises vector `v` on a core that meets `when`, with no effect of its own: its own address is pushed
(16 R403, R404). -/
def Raises (k : Fin 19) (len : Nat) (i : Instr) (v : Nat) (when : CoreState → Prop := fun _ => True) : Prop :=
  ∀ s : State, Ready k len s → s.cor.core[k].fresh = false → StackRoom k s.cor.core[k] → when s.cor.core[k] →
    exec i s = .next (s.trapped k s.cor.core[k] s.cor.core[k].pc v none 0)

/-- An ALU operation does `f` (destination, first and second source value) in both its forms: 16 bits `d, s` over `d` and `s`, 32 bits
`d, a, b` with its reserved field 0. -/
def Alu (ctor : Fin 19 → AluForm → Instr) (f : Fin 16 → Word24 → Word24 → CoreState → CoreState) : Prop :=
  ∀ (k : Fin 19) (d a b : Fin 16),
    Runs k 1 (ctor k (.two d a)) (fun c => f d c.g[d] c.g[a] c) ∧ Runs k 2 (ctor k (.three d a b 0)) (fun c => f d c.g[a] c.g[b] c)

/-! ### Commands in general -/

/-- Command `i` completes in state `s` and leaves a state with property `P`. -/
def Gives (i : Instr) (s : State) (P : State → Prop) : Prop := ∃ t : State, exec i s = .next t ∧ P t

/-- Every lane but one is as it was. -/
def SameLanes (n : Nat) (s t : State) : Prop := ∀ j : Nat, j ≠ n → t.lane j = s.lane j

/-- A lane without the state of its downlink's line encoder (02 R28). -/
def LaneState.plain (l : LaneState) : LaneState := { l with txRd := false, txScr := 0, txBlocks := 0, txFree := 0 }

/-- Lane `n` is `l` but for its line encoder, and every other lane is as it was. -/
def LaneIs (n : Nat) (l : LaneState) (s t : State) : Prop := SameLanes n s t ∧ (t.lane n).plain = l.plain

/-- One word has gone out on a downlink, with its `CRC8` (02 R37). -/
def SentOne (n : Nat) (w : DWord) (s t : State) : Prop := ∃ x : SentWord, t.smp.sent = s.smp.sent ++ [x] ∧ x.lane = n ∧ x.word = w ∧ x.bytes = w.bytes

/-- A frame whose bytes are `b` arrives on a lane that has no slip to report, with its `CRC` right, and the lane's state allows it (02 R30, R48). -/
structure Arrives (l : LaneState) (f : RawFrame) (b : List Byte) : Prop where
  told : l.slipAt = none
  items : frameBytes l.rate f.items = some b
  long : 24 ≤ b.length
  crc : frameCrcOk b = true
  allowed : l.accepts b = true

/-- Every timing port but one is as it was. -/
def SamePorts (n : Nat) (s t : State) : Prop := ∀ j : Nat, j ≠ n → t.port j = s.port j

/-- No maintenance request waits (09 R227). -/
def NoQueue (s : State) : Prop := s.fab.mqueue = [] ∧ s.fab.devWait = none

/-! ### Commands of a session -/

/-- The opcode and the packet of a host command (12 R319–R324); none for an event or an instruction. -/
def requestOf : Instr → Option (Nat × Packet)
  | .cmdHello p => some (0x0000, p)
  | .cmdAuth p => some (0x0001, p)
  | .cmdBye p => some (0x0002, p)
  | .cmdPing p => some (0x0003, p)
  | .cmdSessList p => some (0x0004, p)
  | .cmdEvtSubscribe p => some (0x0005, p)
  | .cmdEvtRead p => some (0x0006, p)
  | .cmdSessParams p => some (0x8000, p)
  | .cmdDevInfo p => some (0x0100, p)
  | .cmdDevState p => some (0x0101, p)
  | .cmdDevReset p => some (0x0102, p)
  | .cmdDevPower p => some (0x0103, p)
  | .cmdRstClear p => some (0x0104, p)
  | .cmdDevFeatures p => some (0x8100, p)
  | .cmdCharterStatus p => some (0x0200, p)
  | .cmdCharterLoad p => some (0x0201, p)
  | .cmdCharterVerify p => some (0x0202, p)
  | .cmdCharterCommit p => some (0x0203, p)
  | .cmdCharterRead p => some (0x0204, p)
  | .cmdFuseRead p => some (0x0205, p)
  | .cmdFuseWrite p => some (0x8200, p)
  | .cmdSiteList p => some (0x0300, p)
  | .cmdElemList p => some (0x0301, p)
  | .cmdLaneStatus p => some (0x0302, p)
  | .cmdLaneClear p => some (0x0303, p)
  | .cmdLodeArm p => some (0x0304, p)
  | .cmdLodeTrig p => some (0x0305, p)
  | .cmdLodeDisarm p => some (0x0306, p)
  | .cmdLodeStatus p => some (0x0307, p)
  | .cmdAditSet p => some (0x8300, p)
  | .cmdNotchSet p => some (0x8301, p)
  | .cmdBeamList p => some (0x0400, p)
  | .cmdBandCoherence p => some (0x0401, p)
  | .cmdNullList p => some (0x0402, p)
  | .cmdBeamPolicy p => some (0x0403, p)
  | .cmdSiteMask p => some (0x0404, p)
  | .cmdBeamDefine p => some (0x8400, p)
  | .cmdBeamWeights p => some (0x8401, p)
  | .cmdNullParams p => some (0x8402, p)
  | .cmdCoherenceParams p => some (0x8403, p)
  | .cmdAssayStatus p => some (0x0500, p)
  | .cmdCalRead p => some (0x0501, p)
  | .cmdQuarList p => some (0x0502, p)
  | .cmdAssaySweep p => some (0x0503, p)
  | .cmdElemRequal p => some (0x0504, p)
  | .cmdCalAccept p => some (0x0505, p)
  | .cmdCalSave p => some (0x0506, p)
  | .cmdAssayParams p => some (0x8500, p)
  | .cmdAssaySignals p => some (0x8501, p)
  | .cmdCalSeed p => some (0x8502, p)
  | .cmdChList p => some (0x0600, p)
  | .cmdChStatus p => some (0x0601, p)
  | .cmdChPin p => some (0x0602, p)
  | .cmdChRelease p => some (0x0603, p)
  | .cmdSigPolicy p => some (0x0604, p)
  | .cmdChLoop p => some (0x8600, p)
  | .cmdChArms p => some (0x8601, p)
  | .cmdChKernel p => some (0x8602, p)
  | .cmdAcqStatus p => some (0x0700, p)
  | .cmdAcqResults p => some (0x0701, p)
  | .cmdAcqStart p => some (0x0702, p)
  | .cmdAcqAssist p => some (0x0703, p)
  | .cmdAcqSectors p => some (0x8700, p)
  | .cmdAcqParams p => some (0x8701, p)
  | .cmdAcqSearch p => some (0x8702, p)
  | .cmdPlanStatus p => some (0x0800, p)
  | .cmdPlanLoad p => some (0x0801, p)
  | .cmdPlanVerify p => some (0x0802, p)
  | .cmdPlanActivate p => some (0x0803, p)
  | .cmdPlanDiscard p => some (0x0804, p)
  | .cmdPlanRead p => some (0x0805, p)
  | .cmdPlanDerated p => some (0x8800, p)
  | .cmdPlanModel p => some (0x8801, p)
  | .cmdMeasStatus p => some (0x0900, p)
  | .cmdSolStatus p => some (0x0901, p)
  | .cmdIntegStatus p => some (0x0902, p)
  | .cmdSurveyStart p => some (0x0903, p)
  | .cmdHoldForce p => some (0x0904, p)
  | .cmdSatExclude p => some (0x0905, p)
  | .cmdSolParams p => some (0x8900, p)
  | .cmdIntegParams p => some (0x8901, p)
  | .cmdHoldParams p => some (0x8902, p)
  | .cmdRtcmParams p => some (0x8903, p)
  | .cmdStreamOpen p => some (0x0910, p)
  | .cmdStreamClose p => some (0x0911, p)
  | .cmdStreamStatus p => some (0x0912, p)
  | .cmdSnapExport p => some (0x0913, p)
  | .cmdStreamParams p => some (0x8910, p)
  | .cmdSynStatus p => some (0x0A00, p)
  | .cmdPortStatus p => some (0x0A01, p)
  | .cmdPortSet p => some (0x0A02, p)
  | .cmdPortEnable p => some (0x0A03, p)
  | .cmdPortCable p => some (0x0A04, p)
  | .cmdPortCal p => some (0x0A05, p)
  | .cmdSynDither p => some (0x8A00, p)
  | .cmdServoParams p => some (0x8A01, p)
  | .cmdTimeStatus p => some (0x0B00, p)
  | .cmdTickSet p => some (0x0B01, p)
  | .cmdTickDst p => some (0x0B02, p)
  | .cmdWakeSet p => some (0x0B03, p)
  | .cmdBramRead p => some (0x0B04, p)
  | .cmdBramWrite p => some (0x0B05, p)
  | .cmdChargerSet p => some (0x8B00, p)
  | .cmdTrimCurve p => some (0x8B01, p)
  | .cmdHealthStatus p => some (0x0C00, p)
  | .cmdThermalStatus p => some (0x0C01, p)
  | .cmdWearList p => some (0x0C02, p)
  | .cmdSpareList p => some (0x0C03, p)
  | .cmdThermalParams p => some (0x8C00, p)
  | .cmdCanaryParams p => some (0x8C01, p)
  | .cmdMaintStatus p => some (0x0D00, p)
  | .cmdDlStatus p => some (0x0D01, p)
  | .cmdStopeSwap p => some (0x0D02, p)
  | .cmdDeputySwap p => some (0x0D03, p)
  | .cmdDeepTest p => some (0x0D04, p)
  | .cmdLodeSwap p => some (0x0D05, p)
  | .cmdLaneReneg p => some (0x0D06, p)
  | .cmdElemOut p => some (0x0D07, p)
  | .cmdElemIn p => some (0x0D08, p)
  | .cmdMaintCancel p => some (0x0D09, p)
  | .cmdDlClear p => some (0x0D0A, p)
  | .cmdDlParams p => some (0x8D00, p)
  | .cmdTallyStatus p => some (0x0E00, p)
  | .cmdTallyRead p => some (0x0E01, p)
  | .cmdTallyExport p => some (0x0E02, p)
  | .cmdTallyVerify p => some (0x0E03, p)
  | .cmdTenantList p => some (0x0F00, p)
  | .cmdTenantAdd p => some (0x0F01, p)
  | .cmdTenantRemove p => some (0x0F02, p)
  | .cmdTenantQuota p => some (0x0F03, p)
  | .cmdRoleSecret p => some (0x8F00, p)
  | .cmdUartSet p => some (0x1000, p)
  | .cmdUartStatus p => some (0x1001, p)
  | .cmdEvinSet p => some (0x1002, p)
  | .cmdEvinStatus p => some (0x1003, p)
  | .cmdWakeportSet p => some (0x1004, p)
  | .cmdLineClear p => some (0x1005, p)
  | .cmdUartTiming p => some (0x9000, p)
  | .cmdKernelList p => some (0x1100, p)
  | .cmdKernelLoad p => some (0x1101, p)
  | .cmdKernelVerify p => some (0x1102, p)
  | .cmdKernelDelete p => some (0x1103, p)
  | .cmdKernelBudget p => some (0x9100, p)
  | .cmdMakerOpen p => some (0x7F00, p)
  | .cmdMakerClose p => some (0x7F01, p)
  | .cmdMakerMark p => some (0x7F02, p)
  | _ => none


/-- Who may send a command (12 R319): anybody, every role but `NONE`, the installer, the operator, either of these two. -/
def Anybody (_ : Nat) : Prop := True
def Users (role : Nat) : Prop := role ≠ 0
def Installer (role : Nat) : Prop := role = 2
def Operator (role : Nat) : Prop := role = 1
def Hosts (role : Nat) : Prop := role = 2 ∨ role = 1

/-- A row of the command table (12 R319): opcode, the roles that may send it (0 `NONE`, 1 operator, 2 installer, 3 maker), the payload's
length, whose tenant's things it may name, and whether it runs in HOLD, leaves IDLE alone (18 R458) and exists in GCP 1. -/
structure CmdRow where
  op : Nat
  roles : Nat → Prop
  len : List Byte → Prop := fun b => b = []
  may : Req → State → Prop := fun _ _ => True
  ten : Req → State → Prop := fun _ _ => True
  hold : Bool := false
  idle : Bool := false
  gcp1 : Bool := false

/-- A packet of opcode `op` reaches its session `x` as a new request: its transport is open, R298 does not discard it, its `SEQ` is new
(12 R310, R311), the window has room (R312), and its version is the session's (R302). -/
structure Fresh (op : Nat) (p : Packet) (x : Session) (s : State) : Prop where
  carried : s.carries p.transport = true
  formed : p.malformed op = false
  session : s.session p.sid = some x
  isNew : x.admission op (op == 1) p = .fresh
  room : x.crowded s.clk.up = false
  major : p.vmaj = x.vmaj
  minor : p.vmin = x.vmin

/-- The state in which a new request is checked: taken out of its port's queue, noted in its session (12 R310, R312). -/
def State.taken (op : Nat) (p : Packet) (x : Session) (s : State) : State :=
  ((s.unqueue op p).mapSession x.sid (fun y =>
      { y with recent := s.clk.up :: y.recent.filter (fun t => decide (s.clk.up < t + 1000 * epochTicks)) })).mapSession x.sid (fun y =>
    { y with lastSeq := p.seq, lastReq := s.upMs })

/-- The request that a packet makes in its session. -/
def Req.of (op : Nat) (p : Packet) (x : Session) (s : State) : Req :=
  { opcode := op, p := p, x := { x with lastSeq := p.seq, lastReq := s.upMs } }

/-- The state in which a command of a row runs: IDLE ends unless the row says otherwise (18 R458). -/
def CmdRow.start (w : CmdRow) (p : Packet) (x : Session) (s : State) : State :=
  if w.idle then s.taken w.op p x else (s.taken w.op p x).leaveIdle 8 0

/-- A request that checks 2 to 6 of 12 R315 let through: opcode of the version, role, tenant, length, HOLD. -/
structure Admitted (w : CmdRow) (p : Packet) (x : Session) (s : State) : Prop where
  fresh : Fresh w.op p x s
  version : x.gcp1 = true → w.gcp1 = true
  role : p.role = x.role
  listed : w.roles (Req.of w.op p x s).role
  may : w.may (Req.of w.op p x s) (s.taken w.op p x)
  tenant : p.tenant = x.tenant
  ten : w.ten (Req.of w.op p x s) (s.taken w.op p x)
  exact_ : p.overlong = false
  len : w.len p.body
  hold : s.boo.dstate = .run ∨ w.hold = true

/-- A command of a row turns a request away with the first of checks 1 to 6 of 12 R315 that fails, and with no effect besides its reply. -/
def Refuses (ctor : Packet → Instr) (w : CmdRow) : Prop :=
  ∀ (p : Packet) (x : Session) (s : State), Fresh w.op p x s →
    let r := Req.of w.op p x s
    let t := s.taken w.op p x
    let no (status : Nat) : Prop := exec (ctor p) s = .next (t.finish r (.fail status))
    (x.gcp1 = true → w.gcp1 = false → no 0x0101) ∧
    ((x.gcp1 = true → w.gcp1 = true) →
      (p.role ≠ x.role ∨ ¬ w.roles r.role → no 0x0201) ∧
      (p.role = x.role → w.roles r.role → w.may r t →
        (p.tenant ≠ x.tenant → no 0x0202) ∧
        (p.tenant = x.tenant → w.ten r t →
          (p.overlong = true ∨ ¬ w.len p.body → no 0x0102) ∧
          (p.overlong = false → w.len p.body → s.boo.dstate ≠ .run → w.hold = false → no 0x0305))))

/-- A request that a row admits and that meets `when` is answered as `P` says of the request, the state it runs in, the answer and the
state it leaves; a command that changes something (`rec`) needs room for its tally record and writes it (13 R340, R343), and what follows
the record (`after`) comes before the answer. -/
def Leads (ctor : Packet → Instr) (w : CmdRow) (when : Req → State → Prop) (P : Req → State → Reply → State → Prop) (rec : Bool := false)
    (after : Req → State → State := fun _ s => s) : Prop :=
  ∀ (p : Packet) (x : Session) (s : State), Admitted w p x s →
    let r := Req.of w.op p x s
    let u := w.start p x s
    when r u → (rec = true → u.tallyRoom = true) →
    ∃ (a : Reply) (t : State), P r u a t ∧ exec (ctor p) s = .next ((if rec then after r (r.record a t) else t).finish r a)

/-- `Leads`, and the requests that fail an earlier check are turned away. -/
def Answers (ctor : Packet → Instr) (w : CmdRow) (when : Req → State → Prop) (P : Req → State → Reply → State → Prop) (rec : Bool := false)
    (after : Req → State → State := fun _ s => s) : Prop := Refuses ctor w ∧ Leads ctor w when P rec after

/-- A reading command: it answers `OK` with its data and changes nothing. -/
def Reads (ctor : Packet → Instr) (w : CmdRow) (data : Req → State → List Byte) (when : Req → State → Prop := fun _ _ => True) : Prop :=
  Answers ctor w when (fun r u a t => a = .ok (data r u) ∧ t = u)

/-- A reading command whose data the spec lays out nowhere (log 7). -/
def Shows (ctor : Packet → Instr) (w : CmdRow) (when : Req → State → Prop := fun _ _ => True) : Prop :=
  Answers ctor w when (fun _ u a t => (∃ data, a = .ok data) ∧ t = u)

/-- A range reading command over `total` units (12 R320). -/
def Lists (ctor : Packet → Instr) (w : CmdRow) (total : Nat) (units : Req → State → List Nat) (entry : State → Nat → List Byte) : Prop :=
  Reads ctor { w with len := fun b => b.length = 4 }
    (fun r u => rangeReply ((units r u).filter (· < total)) (u16At r.pay 0) (u16At r.pay 2) (entry u)) (fun r _ => u16At r.pay 0 < total)

/-- A command that takes effect at once: `OK`, its data, and the state `f` gives. -/
def Sets (ctor : Packet → Instr) (w : CmdRow) (f : Req → State → State) (when : Req → State → Prop := fun _ _ => True)
    (data : Req → State → List Byte := fun _ _ => []) (rec : Bool := true) (after : Req → State → State := fun _ s => s) : Prop :=
  Answers ctor w when (fun r u a t => a = .ok (data r u) ∧ t = f r u) rec after

/-- A command for the next epoch boundary (12 R316): `ACCEPTED` with that boundary, the change staged as `f` says, and an entry in the list of
accepted changes (R317). -/
def Stages (ctor : Packet → Instr) (w : CmdRow) (f : Req → State → State) (when : Req → State → Prop := fun _ _ => True)
    (unit : Req → Nat := fun _ => 0xFFFF) : Prop :=
  Answers ctor w when (fun r u a t =>
    a = { status := 1, commit := u.nextBoundary } ∧
    t = { f r u with ses := { (f r u).ses with accepted := (f r u).ses.accepted ++
      [{ sid := r.x.sid, seq := r.p.seq, opcode := w.op, commit := u.nextBoundary, tenant := r.x.tenant, unit := unit r }] } }) true

/-- A list of parameters is well formed for a table: no reserved byte set, every `PID` in the table and named once, every value in range
(12 R321). -/
def GoodList {α : Type} (rows : List (ParRow α)) (r : Req) : Prop := parBad rows 0 r.pay = none

/-- The length of a parameter list (12 R321). -/
def parLength (b : List Byte) : Prop := 4 ≤ b.length ∧ b.length = 4 + 8 * u8At b 0

/-- A parameter command that answers with its table when the list is empty (12 R321). -/
def ReadsTable {α : Type} (ctor : Packet → Instr) (w : CmdRow) (rows : List (ParRow α)) (scope : Req → State → Prop) (cur : Req → State → α) :
    Prop :=
  Leads ctor { w with len := parLength } (fun r u => r.npar = 0 ∧ GoodList rows r ∧ scope r u)
    (fun r u a t => a = .ok (parTable rows (cur r u)) ∧ t = u)

/-- A parameter command whose list is in force at once. -/
def SetsTable {α : Type} (ctor : Packet → Instr) (w : CmdRow) (rows : List (ParRow α)) (scope : Req → State → Prop) (cur : Req → State → α)
    (put : Req → α → State → State) : Prop :=
  ReadsTable ctor w rows scope cur ∧
  Sets ctor { w with len := parLength } (fun r u => put r (parApply rows r.pars (cur r u)) u)
    (fun r u => r.npar ≠ 0 ∧ GoodList rows r ∧ scope r u)

/-- A parameter command whose list is staged for the next boundary, on top of one staged before. -/
def StagesTable {α : Type} (ctor : Packet → Instr) (w : CmdRow) (rows : List (ParRow α)) (scope : Req → State → Prop) (cur base : Req → State → α)
    (put : Req → α → State → State) (rule : α → Prop := fun _ => True) (unit : Req → Nat := fun _ => 0xFFFF) : Prop :=
  ReadsTable ctor w rows scope cur ∧
  Stages ctor { w with len := parLength } (fun r u => put r (parApply rows r.pars (base r u)) u)
    (fun r u => r.npar ≠ 0 ∧ GoodList rows r ∧ scope r u ∧ rule (parApply rows r.pars (base r u))) unit

/-- A command that starts an activity (09 R226, R227). Where a running activity conflicts: `BUSY_MAINT` that names it, and nothing changes;
with `QUEUE` set and four requests waiting, `BUSY`. Where nothing conflicts and `when` holds: the activity runs from now, answered as `P` says. -/
def Starts (ctor : Packet → Instr) (w : CmdRow) (code : Nat) (valid : Req → State → Prop) (when : Req → State → Prop)
    (P : Req → State → Reply → State → Prop) : Prop :=
  Refuses ctor w ∧
  Leads ctor w (fun r u => valid r u ∧ u.tallyRoom = true ∧ bit r.p.flags 1 = false ∧ u.conflict code ≠ none) (fun _ u a t =>
    t = u ∧ ∃ b, u.conflict code = some b ∧ a = { status := 0x0302, activity := b.code, actId := b.actId, actStart := b.startMs }) ∧
  Leads ctor w (fun r u => valid r u ∧ u.tallyRoom = true ∧ bit r.p.flags 1 = true ∧ u.conflict code ≠ none ∧ u.fab.mqueue.length = 4)
    (fun _ u a t => t = u ∧ a = .fail 0x0303) ∧
  Leads ctor w (fun r u => valid r u ∧ u.conflict code = none ∧ when r u) (fun r u a t => P r u a t ∧
    ∃ b, t.fab.acts = u.fab.acts ++ [b] ∧ b.code = code ∧ b.startMs = u.ms) true

/-- A tenant's stream stays within its `Q_STREAMS` (13 R332). -/
def RoomFor (u : State) (x : StreamState) : Prop :=
  x.ten < 8 → (u.por.streams.filter (fun y => y.ten == x.ten)).length < (u.quotaOf x.ten).qStreams

/-- Reserved bytes of a payload are 0 (01 R9). -/
def Clear (r : Req) (off n : Nat) : Prop := zeroAt r.pay off n = true

/-- Payload length. -/
def Long (n : Nat) (b : List Byte) : Prop := b.length = n

/-- The length of a list request (12 R320). -/
def ListLength (b : List Byte) : Prop := b.length = 4 + 4 * u8At b 0

/-- A list request of at most `n` entries, its reserved bytes 0. -/
def ListOf (n : Nat) (r : Req) : Prop := u8At r.pay 0 ≤ n ∧ listReserved r = none

/-- The length of a byte range that writes (12 R320). -/
def WriteLength (b : List Byte) : Prop := 8 ≤ b.length ∧ b.length = 8 + u16At b 2

/-- A byte range within an object of `size` bytes, at most 1 024 bytes (12 R320). -/
def RangeOf (size : Nat) (r : Req) : Prop := Clear r 1 1 ∧ r.rlen ≤ 1024 ∧ r.roff + r.rlen ≤ size

/-! ### Frames -/

/-- The parts of the state. -/
inductive Part where
  | smp | arr | trk | fab | sol | syn | ses | ten | boo | cor | clk | pow | bak | por | hea | pending | free
deriving DecidableEq, Repr

/-- A part of two states is the same. -/
def Part.same (s t : State) : Part → Prop
  | .smp => t.smp = s.smp
  | .arr => t.arr = s.arr
  | .trk => t.trk = s.trk
  | .fab => t.fab = s.fab
  | .sol => t.sol = s.sol
  | .syn => t.syn = s.syn
  | .ses => t.ses = s.ses
  | .ten => t.ten = s.ten
  | .boo => t.boo = s.boo
  | .cor => t.cor = s.cor
  | .clk => t.clk = s.clk
  | .pow => t.pow = s.pow
  | .bak => t.bak = s.bak
  | .por => t.por = s.por
  | .hea => t.hea = s.hea
  | .pending => t.pending = s.pending
  | .free => t.free = s.free

end Sys2Proof.Machine

namespace Sys2Proof

open Sys2Proof.Machine in
/-- The parts that an event or a register access may change; none where it may change more than thirteen, and for instructions and host commands,
whose statements give the state they leave. -/
def Instr.parts : Instr → Option (List Part)
  | .evCaptureTimeTrigger _ | .evOffer _ | .evStandbyTimeout _ => some [.smp]
  | .evCalGeneration | .evCalTableSave => some [.arr]
  | .evEphemerisSave | .evPullinTimeout _ | .evCoastTimeout _ | .evBackgroundColdSearch => some [.trk]
  | .evSuspicionExpiry _ => some [.sol]
  | .evPortStart _ | .evTodMessage _ | .evRefCoastExpiry | .evPortEdge _ => some [.syn]
  | .evLockoutExpiry _ _ => some [.ses]
  | .evThermalTripRelease | .regBlockReset _ => some [.pow]
  | .evBackupSupplySwitch _ | .evTrimUpdate _ | .evHaltTimeout | .evTrimLearn _ _ _ | .regTickHalt | .regTickRelease => some [.bak]
  | .evUartCharacter _ _ | .evWakePortRead _ | .evPtpFrame _ _ _ | .evPauseFrame _ _ | .evLinkDown _ | .evLinkUp _ => some [.por]
  | .evCtrlRetry _ => some [.smp, .ses]
  | .evAlignmentGained _ => some [.smp, .clk]
  | .evAssayFold _ | .evQuarantineExpiry _ _ => some [.arr, .ses]
  | .evCodeLibraryCheck _ => some [.trk, .ses]
  | .evDeputyCopyComplete => some [.fab, .cor]
  | .evNmeaGroup => some [.sol, .por]
  | .evEcho _ _ | .evEchoMissing _ | .evReturnStuck _ _ | .evRefLoss | .evSynUnlock _ | .evSynRelock _ => some [.syn, .ses]
  | .evTallyVerifyResult | .evTallyFlashWrite => some [.ses, .ten]
  | .evStopeStall _ | .evStallRestart _ | .evGeneratorUnlock _ | .evGeneratorRelock _ | .evForcedCrossing _ _
  | .evSeamAcknowledge _ _ => some [.ses, .clk]
  | .evVbatMeasure _ => some [.ses, .bak]
  | .evLineRecover _ | .evBusClear _ | .evSclStuck => some [.ses, .por]
  | .evCounterAlign => some [.clk, .bak]
  | .evRateSwitch _ | .evMark _ _ => some [.smp, .clk, .bak]
  | .evInterferenceSurvey _ _ _ => some [.arr, .trk, .ses]
  | .evThermalReturn => some [.fab, .ses, .hea]
  | .evSessionIdleTimeout _ | .evAuthTimeout _ => some [.ses, .ten, .pow]
  | .evSeamTimeout _ _ => some [.ses, .cor, .clk]
  | .evUartTransmit _ => some [.ses, .por, .free]
  | .regTcntLo _ | .regBndLo _ | .regBkCntLo | .regBevTsLo _ | .regBevMerge | .regBkCaptLo => some [.cor, .bak, .free]
  | .evU0GapTimeout => some [.clk, .bak, .por]
  | .evEyeMonitor _ _ => some [.smp, .fab, .ses, .hea]
  | .evHaulageBlockRelease _ => some [.smp, .ses, .clk, .bak]
  | .evPathCalibration _ _ => some [.fab, .syn, .ses, .hea]
  | .evPlanVerifyResult => some [.fab, .ses, .ten, .boo]
  | .evSramMarginTest _ _ _ => some [.fab, .ses, .ten, .hea]
  | .evMeasurementRecord | .evRtcmEpoch => some [.sol, .clk, .bak, .por]
  | .evPortCalResult _ => some [.syn, .ses, .clk, .bak]
  | .evDiscardedPacket _ _ _ _ => some [.ses, .cor, .por, .free]
  | .evLineDead _ => some [.ses, .clk, .bak, .por]
  | .evBackupPowerOn => some [.ten, .bak, .hea, .free]
  | .evEdgeWindowClose _ _ | .evPowerExit _ _ | .evPeriodicWake | .evBevEdge _ _ | .evMagicFrame _ => some [.smp, .trk, .clk, .pow, .bak]
  | .evRefRestore => some [.smp, .sol, .syn, .ses, .clk]
  | .evStrideStart _ _ => some [.arr, .trk, .fab, .clk, .bak]
  | .regIntPend _ _ | .regCommit _ _ _ | .regBkDst _ | .regBkPadj _ | .regBkStat _ | .regRegisterWrite _ _ _ => some [.trk, .fab, .cor, .pow, .bak]
  | .evSpiWr _ _ | .evSpiSt | .evWakePortMatch _ _ => some [.smp, .trk, .clk, .pow, .bak, .por]
  | .evLampCycle _ => some [.smp, .trk, .clk, .pow, .bak, .free]
  | .evScrubCopyComplete => some [.smp, .fab, .ses, .ten, .hea, .free]
  | .evSpiRd _ | .evEventEdge _ _ => some [.smp, .trk, .ses, .clk, .pow, .bak, .por]
  | .evBlockResetDone => some [.smp, .syn, .cor, .clk, .pow, .bak, .por]
  | .evSolution _ => some [.arr, .sol, .syn, .ses, .clk, .bak, .por]
  | .evSearchComplete _ | .evConfirmation _ _ => some [.smp, .arr, .trk, .fab, .sol, .ses, .ten, .hea, .free]
  | .evEgress _ => some [.smp, .fab, .ses, .ten, .clk, .bak, .por, .hea, .free]
  | .evD2Deadline => some [.arr, .trk, .fab, .sol, .ses, .clk, .bak, .hea, .free]
  | .evSweepEnd _ | .evAlignmentLost _ | .evFramesMissing _ | .evBankTestComplete _ | .evDeepTestComplete _ _ | .evRingMonitor _
  | .evThermalSample _ | .evThrottleChange => some [.smp, .arr, .fab, .syn, .ses, .ten, .cor, .clk, .por, .hea]
  | .evUplinkFrame _ _ | .evCapFrame _ _ | .evLaneStateTimeout _ => some [.smp, .arr, .fab, .syn, .ses, .ten, .cor, .clk, .por, .hea, .free]
  | .evPowerEntry => some [.smp, .arr, .trk, .sol, .syn, .ses, .ten, .clk, .pow, .bak, .por, .free]
  | .evD1Deadline => some [.smp, .arr, .trk, .fab, .syn, .ses, .ten, .cor, .clk, .bak, .por, .hea, .free]
  | _ => none

end Sys2Proof

namespace Sys2Proof.Machine

/-! ### Sound states -/

/-- What no command and no event may break: the memories of every core keep their canonical form (log 3), and the bits of every core's `st` that
15 R382 reserves read 0. -/
def SoundCores (s : State) : Prop := ∀ k : Fin 19, s.cor.core[k].memOk = true ∧ s.cor.core[k].st &&& ~~~stMask = 0

end Sys2Proof.Machine
end

