-- ==== Sys2Proof/Certificates/Slice0/Obligations.lean ====
section
/-! DEFINITION. The statements for the provers. Rules are cited by chapter of spec/ and number. -/

open Sys2Proof Sys2Proof.Machine

/-! ### HB24 instructions -/

/-- 15 ALU2, ALU3 and ALUI tables: the results of the moves, the logic, minimum and maximum, the upper halves of products, the immediate
and the bit operations. Each writes its destination register and advances the pc; flags, accumulators, special registers, memory, the other
cores and the rest of the device stay. -/
def Obligations.RegisterResultsOfPlainOperations : Prop :=
  Alu .hbAnd (fun d x y c => c.putG d (x &&& y)) ∧
  Alu .hbOr (fun d x y c => c.putG d (x ||| y)) ∧
  Alu .hbXor (fun d x y c => c.putG d (x ^^^ y)) ∧
  Alu .hbMin (fun d x y c => c.putG d (if x.slt y then x else y)) ∧
  Alu .hbMax (fun d x y c => c.putG d (if x.slt y then y else x)) ∧
  ∀ (k : Fin 19) (d a b : Fin 16) (n : Fin 24) (i8 : BitVec 8) (i16 : BitVec 16) (w : Word24),
    Runs k 1 (.hbNop k .plain) id ∧
    Runs k 1 (.hbMov k d a) (fun c => c.putG d c.g[a]) ∧
    Runs k 1 (.hbNot k d a) (fun c => c.putG d (~~~c.g[a])) ∧
    Runs k 2 (.hbMulh k d a b 0) (fun c => c.putG d ((c.g[a].signExtend 48 * c.g[b].signExtend 48).extractLsb' 24 24)) ∧
    Runs k 2 (.hbMulhu k d a b 0) (fun c => c.putG d ((c.g[a].setWidth 48 * c.g[b].setWidth 48).extractLsb' 24 24)) ∧
    Runs k 1 (.hbMovi k d i8) (fun c => c.putG d (i8.signExtend 24)) ∧
    Runs k 2 (.hbLdi k d w) (fun c => c.putG d w) ∧
    Runs k 2 (.hbAndi k d i16) (fun c => c.putG d (c.g[d] &&& i16.setWidth 24)) ∧
    Runs k 2 (.hbOri k d i16) (fun c => c.putG d (c.g[d] ||| i16.setWidth 24)) ∧
    Runs k 2 (.hbXori k d i16) (fun c => c.putG d (c.g[d] ^^^ i16.setWidth 24)) ∧
    Runs k 2 (.hbShli k d (BitVec.ofNat 16 n.val)) (fun c => c.putG d (c.g[d] <<< n.val)) ∧
    Runs k 2 (.hbShri k d (BitVec.ofNat 16 n.val)) (fun c => c.putG d (c.g[d] >>> n.val)) ∧
    Runs k 2 (.hbSari k d (BitVec.ofNat 16 n.val)) (fun c => c.putG d (c.g[d].sshiftRight n.val)) ∧
    Runs k 2 (.hbBset k d (BitVec.ofNat 16 n.val)) (fun c => c.putG d (c.g[d] ||| BitVec.twoPow 24 n.val)) ∧
    Runs k 2 (.hbBclr k d (BitVec.ofNat 16 n.val)) (fun c => c.putG d (c.g[d] &&& ~~~(BitVec.twoPow 24 n.val))) ∧
    Runs k 2 (.hbBtgl k d (BitVec.ofNat 16 n.val)) (fun c => c.putG d (c.g[d] ^^^ BitVec.twoPow 24 n.val))

/-- 15 R378: `ADD`, `SUB`, `ADDI`, `NEG` wrap and set `DOV` on signed overflow, `ADDS`, `SUBS`, `ABS` saturate and set it then; only a
destination among the x registers sets `DOV`, and nothing clears it; `MUL` wraps. A register shift by 24 to 31 gives 0 for `SHL` and `SHR` and all
sign bits for `SAR`. `CB.lt` and `CB.ge` compare as signed values, `CB.ltu` and `CB.geu` as unsigned ones. -/
def Obligations.IntegerResultsWrapSaturateAndCompare : Prop :=
  Alu .hbAdd (fun d x y c => (c.putG d (x + y)).stick 12 (d.val < 8 ∧ Beyond24 (x.toInt + y.toInt))) ∧
  Alu .hbSub (fun d x y c => (c.putG d (x - y)).stick 12 (d.val < 8 ∧ Beyond24 (x.toInt - y.toInt))) ∧
  Alu .hbAdds (fun d x y c =>
    (c.putG d (BitVec.ofInt 24 (limit24 (x.toInt + y.toInt)))).stick 12 (d.val < 8 ∧ Beyond24 (x.toInt + y.toInt))) ∧
  Alu .hbSubs (fun d x y c =>
    (c.putG d (BitVec.ofInt 24 (limit24 (x.toInt - y.toInt)))).stick 12 (d.val < 8 ∧ Beyond24 (x.toInt - y.toInt))) ∧
  Alu .hbShl (fun d x y c => c.putG d (if y.toNat % 32 < 24 then x <<< (y.toNat % 32) else 0)) ∧
  Alu .hbShr (fun d x y c => c.putG d (if y.toNat % 32 < 24 then x >>> (y.toNat % 32) else 0)) ∧
  Alu .hbSar (fun d x y c => c.putG d (x.sshiftRight (min 23 (y.toNat % 32)))) ∧
  ∀ (k : Fin 19) (d a b : Fin 16) (i8 : BitVec 8) (i20 : BitVec 20) (o : BitVec 16),
    let br (p : Bool) (c : CoreState) : CoreState :=
      { c with slot := some { outcome := if p then some (((c.pc : Int) + o.toInt) % 2 ^ 24).toNat else none } }
    Runs k 2 (.hbMul k d a b 0) (fun c => c.putG d (BitVec.ofInt 24 (c.g[a].toInt * c.g[b].toInt))) ∧
    Runs k 2 (.hbCbLt k a b o) (fun c => br (decide (c.g[a].toInt < c.g[b].toInt)) c) ∧
    Runs k 2 (.hbCbGe k a b o) (fun c => br (decide (c.g[b].toInt ≤ c.g[a].toInt)) c) ∧
    Runs k 2 (.hbCbLtu k a b o) (fun c => br (decide (c.g[a].toNat < c.g[b].toNat)) c) ∧
    Runs k 2 (.hbCbGeu k a b o) (fun c => br (decide (c.g[b].toNat ≤ c.g[a].toNat)) c) ∧
    Runs k 1 (.hbNeg k d a) (fun c => (c.putG d (-c.g[a])).stick 12 (d.val < 8 ∧ c.g[a] = 0x800000#24)) ∧
    Runs k 1 (.hbAbs k d a) (fun c =>
      (c.putG d (if c.g[a] = 0x800000#24 then 0x7FFFFF#24 else if c.g[a].msb = true then -c.g[a] else c.g[a])).stick 12
        (d.val < 8 ∧ c.g[a] = 0x800000#24)) ∧
    Runs k 1 (.hbAddi k d (.short i8)) (fun c =>
      (c.putG d (c.g[d] + i8.signExtend 24)).stick 12 (d.val < 8 ∧ Beyond24 (c.g[d].toInt + i8.toInt))) ∧
    Runs k 2 (.hbAddi k d (.long i20)) (fun c =>
      (c.putG d (c.g[d] + i20.signExtend 24)).stick 12 (d.val < 8 ∧ Beyond24 (c.g[d].toInt + i20.toInt)))

/-- 16 R399, R400 and the MAC and ACC tables of 15: what each accumulator operation leaves in its accumulator or register, and which sticky flag
it sets. Nothing else changes. 16 R399, R401: `EXP` answers the shift that brings a non-zero accumulator into [2^46, 2^47) or [−2^47, −2^46), and
0 for 0; `NORM` applies that shift and sets no flag. -/
def Obligations.AccumulatorResultsAndNormalisation : Prop :=
  (∀ (k : Fin 19) (a b : Fin 4) (x y : Fin 8) (g : Fin 16) (n : Fin 24),
      let sh : Fin 32 := ⟨n.val, by omega⟩
      let u (c : CoreState) := (c.g[x.val]'(by omega)).toInt * (c.g[y.val]'(by omega)).toInt
      let r (v : Int) := (v + 2 ^ 23) / 2 ^ 24 * 2 ^ 24
      let h (c : CoreState) := ((if c.rndm = true then c.ac[a].toInt + 2 ^ 23 else c.ac[a].toInt) / 2 ^ 24)
      Runs k 1 (.hbMac k a x y) (fun c => c.putA a (c.ac[a].toInt + u c)) ∧
      Runs k 1 (.hbMsu k a x y) (fun c => c.putA a (c.ac[a].toInt - u c)) ∧
      Runs k 1 (.hbMpy k a x y) (fun c => c.putA a (u c)) ∧
      Runs k 1 (.hbMacr k a x y) (fun c => c.putA a (r (c.ac[a].toInt + u c))) ∧
      Runs k 1 (.hbMsur k a x y) (fun c => c.putA a (r (c.ac[a].toInt - u c))) ∧
      Runs k 1 (.hbMpyr k a x y) (fun c => c.putA a (r (u c))) ∧
      Runs k 2 (.hbClr k a 0) (fun c => { c with ac := c.ac.set a 0 }) ∧
      Runs k 2 (.hbMova k a b 0) (fun c => { c with ac := c.ac.set a c.ac[b] }) ∧
      Runs k 2 (.hbAdda k a b 0) (fun c => c.putA a (c.ac[a].toInt + c.ac[b].toInt)) ∧
      Runs k 2 (.hbSuba k a b 0) (fun c => c.putA a (c.ac[a].toInt - c.ac[b].toInt)) ∧
      Runs k 2 (.hbNega k a b 0) (fun c => c.putA a (-c.ac[b].toInt)) ∧
      Runs k 2 (.hbAbsa k a b 0) (fun c => c.putA a (c.ac[b].toInt.natAbs : Int)) ∧
      Runs k 2 (.hbShla k a sh 0) (fun c => c.putA a (c.ac[a].toInt * 2 ^ n.val)) ∧
      Runs k 2 (.hbSara k a sh 0) (fun c => { c with ac := c.ac.set a (c.ac[a].sshiftRight n.val) }) ∧
      Runs k 2 (.hbRnd k a 0) (fun c => c.putA a (r c.ac[a].toInt)) ∧
      Runs k 2 (.hbSata k a 0) (fun c => { c with ac := c.ac.set a (BitVec.ofInt 56 (limit48 c.ac[a].toInt)) }) ∧
      Runs k 2 (.hbShi k g a 0) (fun c =>
        (c.putG g (BitVec.ofInt 24 (if c.satm = true then limit24 (h c) else h c))).stick 12 (g.val < 8 ∧ Beyond24 (h c))) ∧
      Runs k 2 (.hbLda k a g 0) (fun c => { c with ac := c.ac.set a (c.g[g].signExtend 56 <<< 24) }) ∧
      Runs k 2 (.hbLdal k a g 0) (fun c => { c with ac := c.ac.set a (c.g[g].signExtend 56) }) ∧
      Runs k 2 (.hbScale k a 0) (fun c =>
        c.putA a (if 0 ≤ c.ex.toInt then c.ac[a].toInt * 2 ^ c.ex.toInt.toNat else c.ac[a].toInt / 2 ^ (-c.ex.toInt).toNat))) ∧
  (∀ (k : Fin 19) (a : Fin 4) (g : Fin 16) (s : State), Ready k 2 s →
      ∃ e v : Int, -8 ≤ e ∧ e ≤ 47 ∧ (s.cor.core[k].ac[a] = 0 → e = 0) ∧
        v = (if 0 ≤ e then s.cor.core[k].ac[a].toInt * 2 ^ e.toNat else s.cor.core[k].ac[a].toInt / 2 ^ (-e).toNat) ∧
        (s.cor.core[k].ac[a] ≠ 0 → (2 ^ 46 ≤ v ∧ v < 2 ^ 47) ∨ (-(2 ^ 47) ≤ v ∧ v < -(2 ^ 46))) ∧
        exec (.hbNorm k a 0) s = .next (s.setCore k (s.cor.core[k].after
          { s.cor.core[k] with ac := s.cor.core[k].ac.set a (BitVec.ofInt 56 v) } 2 1)) ∧
        exec (.hbExp k g a 0) s = .next (s.setCore k (s.cor.core[k].after (s.cor.core[k].putG g (BitVec.ofInt 24 e)) 2 1)))

/-- 15 R373, R374: the address, the register and the pointer update of every `LD` and `ST` form, with every post-modify code and every
legal modifier. -/
def Obligations.AddressesAndPostModifiers : Prop :=
  ∀ (c : CoreState) (x p : Fin 8) (u : BitVec 7) (g : Fin 16) (o : BitVec 16),
    let pt := c.g[8 + p.val]'(by omega)
    let form (n : Fin 8) (v : Word24) : Prop := memForm c (.post x p n) = some (⟨x.val, by omega⟩, pt.toNat, some (⟨8 + p.val, by omega⟩, v))
    memForm c (.disp x p u) = some (⟨x.val, by omega⟩, (pt + u.setWidth 24).toNat, none) ∧
    memForm c (.off g p o) = some (g, (pt + o.signExtend 24).toNat, none) ∧
    form 0 pt ∧ form 1 (pt + 1) ∧ form 2 (pt - 1) ∧ memForm c (.post x p 3) = none ∧
    ∀ i : Fin 4,
      let m := c.m[i]
      let n : Fin 8 := ⟨4 + i.val, by omega⟩
      (m.extractLsb' 22 2 = 0 → form n (pt + (m.extractLsb' 0 22).signExtend 24)) ∧
      (m.extractLsb' 22 2 = 3 → memForm c (.post x p n) = none) ∧
      (m.extractLsb' 22 2 = 1 → m.extractLsb' 0 16 = 0 → memForm c (.post x p n) = none) ∧
      (m.extractLsb' 22 2 = 1 → ∀ (l w : Nat), l = (m.extractLsb' 0 16).toNat → l ≠ 0 → l ≤ 2 ^ w → (w = 0 ∨ 2 ^ (w - 1) < l) →
        ∀ base j : Nat, pt.toNat = base * 2 ^ w + j → j < 2 ^ w →
          form n (BitVec.ofInt 24 (base * 2 ^ w + (j + (m.extractLsb' 16 6).toInt) % l))) ∧
      (m.extractLsb' 22 2 = 2 → (m.extractLsb' 0 5 = 0 ∨ 16 < (m.extractLsb' 0 5).toNat ∨ m.extractLsb' 5 17 ≠ 0) →
        memForm c (.post x p n) = none)

/-- 15 R381, R384: `LD` and `POP` read data memory at the form's address; the loaded value is in flight, the pointer updated. 15 R381: the
instruction after a load still reads the register's old value; when both write one register, the loaded value stays. -/
def Obligations.LoadsTakeTheirWordWhichLandsLater : Prop :=
  ((∀ (k : Fin 19) (f : MemForm) (r : Fin 16) (ea : Nat) (up : Option (Fin 16 × Word24)) (s : State), Ready k f.len s →
      memForm s.cor.core[k] f = some (r, ea, up) → dataOk k s.cor.core[k] false ea = true →
      exec (.hbLd k f) s = .next (s.setCore k (s.cor.core[k].after
        { (match up with | none => s.cor.core[k] | some q => s.cor.core[k].putG q.1 q.2) with
          load := some (r, sread 0 s.cor.core[k].dmem ea) } f.len 1))) ∧
    (∀ (k : Fin 19) (r : Fin 16) (s : State), Ready k 1 s → r ≠ 15 → dataOk k s.cor.core[k] false s.cor.core[k].g[15].toNat = true →
      exec (.hbPop k r) s = .next (s.setCore k (s.cor.core[k].after
        { s.cor.core[k].putG 15 (s.cor.core[k].g[15] + 1) with
          load := some (r, sread 0 s.cor.core[k].dmem s.cor.core[k].g[15].toNat) } 1 1)))) ∧
  (∀ (k : Fin 19) (d a r : Fin 16) (v : Word24) (s : State), Ready k 1 s →
      exec (.hbMov k d a) (s.setCore k { s.cor.core[k] with load := some (r, v) }) =
        .next (s.setCore k (s.cor.core[k].after ((s.cor.core[k].putG d s.cor.core[k].g[a]).putG r v) 1 1)))

/-- 15 R373, R384: `ST` and `PUSH` write the one word at their address. Read back word by word, all other data memory is unchanged, and so
is all else but the pointer the form updates. -/
def Obligations.StoresChangeOneWord : Prop :=
  (∀ (k : Fin 19) (f : MemForm) (r : Fin 16) (ea : Nat) (up : Option (Fin 16 × Word24)) (s : State), Ready k f.len s →
    s.cor.core[k].memOk = true → memForm s.cor.core[k] f = some (r, ea, up) → dataOk k s.cor.core[k] true ea = true →
    ∃ m : WordMem, (∀ b : Nat, sread 0 m b = if b = ea then s.cor.core[k].g[r] else sread 0 s.cor.core[k].dmem b) ∧
      exec (.hbSt k f) s = .next (s.setCore k (s.cor.core[k].after
        { (match up with | none => s.cor.core[k] | some q => s.cor.core[k].putG q.1 q.2) with dmem := m } f.len 1))) ∧
  (∀ (k : Fin 19) (r : Fin 16) (s : State), Ready k 1 s → s.cor.core[k].memOk = true →
    dataOk k s.cor.core[k] true (s.cor.core[k].g[15] - 1).toNat = true →
    ∃ m : WordMem, (∀ b : Nat, sread 0 m b =
        if b = (s.cor.core[k].g[15] - 1).toNat then s.cor.core[k].g[r] else sread 0 s.cor.core[k].dmem b) ∧
      exec (.hbPush k r) s = .next (s.setCore k (s.cor.core[k].after
        { s.cor.core[k].putG 15 (s.cor.core[k].g[15] - 1) with dmem := m } 1 1)))

/-- 15 MAC table, R373: `MACM` multiplies the words at pa and pb, which it reads before it modifies the pointers. With pa and pb one pointer,
k1 applies and then k2 (the model's choice, log 9). -/
def Obligations.MultiplyAccumulateFromMemory : Prop :=
  ∀ (k : Fin 19) (op : Fin 6) (a : Fin 4) (pa pb k1 k2 : Fin 8) (va vb : Word24) (s : State), Ready k 2 s →
    let c := s.cor.core[k]
    let ga := c.g[8 + pa.val]'(by omega)
    let gb := c.g[8 + pb.val]'(by omega)
    let u := (sread 0 c.dmem ga.toNat).toInt * (sread 0 c.dmem gb.toNat).toInt
    let r (v : Int) := (v + 2 ^ 23) / 2 ^ 24 * 2 ^ 24
    postMod c k1 ga = some va → postMod c k2 (if pa = pb then va else gb) = some vb →
    dataOk k c false ga.toNat = true → dataOk k c false gb.toNat = true →
    exec (.hbMacm k ⟨op.val, by omega⟩ a pa pb k1 k2 0) s = .next (s.setCore k (c.after
      (((c.putG ⟨8 + pa.val, by omega⟩ va).putG ⟨8 + pb.val, by omega⟩ vb).putA a
        (match op.val with
          | 0 => c.ac[a].toInt + u | 1 => c.ac[a].toInt - u | 2 => u
          | 3 => r (c.ac[a].toInt + u) | 4 => r (c.ac[a].toInt - u) | _ => r u)) 2 1))

/-- 15 R379, R384 and the branch table: where the control transfers go, and what a call and a return do to the stack pointer. The
transfer is committed; its delay slot executes next. -/
def Obligations.ControlTransfersCommitTheirTarget : Prop :=
  (∀ (k : Fin 19) (t : Word24) (g a b : Fin 16) (x y : Fin 8) (o6 : BitVec 6) (o8 : BitVec 8) (o : BitVec 16),
    let go (c : CoreState) (t : Option Nat) : CoreState := { c with slot := some { outcome := t } }
    let rel (c : CoreState) (o : Int) : Nat := (((c.pc : Int) + o) % 2 ^ 24).toNat
    let br (p : Bool) (o : Int) (c : CoreState) : CoreState := go c (if p then some (rel c o) else none)
    let gx (c : CoreState) (n : Fin 8) : Word24 := c.g[n.val]'(by omega)
    Runs k 2 (.hbJ k t) (fun c => go c (some t.toNat)) ∧
    Runs k 1 (.hbJr k g) (fun c => go c (some c.g[g].toNat)) ∧
    Runs k 1 (.hbCbEq k (.short x y o6)) (fun c => br (gx c x == gx c y) o6.toInt c) ∧
    Runs k 2 (.hbCbEq k (.long a b o)) (fun c => br (c.g[a] == c.g[b]) o.toInt c) ∧
    Runs k 1 (.hbCbNe k (.short x y o6)) (fun c => br (gx c x != gx c y) o6.toInt c) ∧
    Runs k 2 (.hbCbNe k (.long a b o)) (fun c => br (c.g[a] != c.g[b]) o.toInt c) ∧
    Runs k 1 (.hbCbz k (.short x o8)) (fun c => br (gx c x == 0) o8.toInt c) ∧
    Runs k 2 (.hbCbz k (.long a o 0)) (fun c => br (c.g[a] == 0) o.toInt c) ∧
    Runs k 1 (.hbCbnz k (.short x o8)) (fun c => br (gx c x != 0) o8.toInt c) ∧
    Runs k 2 (.hbCbnz k (.long a o 0)) (fun c => br (c.g[a] != 0) o.toInt c)) ∧
  (∀ (k : Fin 19) (t : Word24) (g : Fin 16) (s : State),
    let c := s.cor.core[k]
    let sp := c.g[15]
    let called (t : Word24) : CoreState := { c.putG 15 (sp - 1) with slot := some { outcome := some t.toNat, link := some (sp - 1).toNat } }
    (Ready k 2 s → dataOk k c true (sp - 1).toNat = true → exec (.hbCall k t) s = .next (s.setCore k (c.after (called t) 2 1))) ∧
    (Ready k 1 s → dataOk k c true (sp - 1).toNat = true → exec (.hbCallr k g) s = .next (s.setCore k (c.after (called c.g[g]) 1 1))) ∧
    (Ready k 1 s → dataOk k c false sp.toNat = true →
      exec (.hbRet k) s = .next (s.setCore k (c.after
        { c.putG 15 (sp + 1) with slot := some { outcome := some (sread 0 c.dmem sp.toNat).toNat } } 1 1))) ∧
    (Ready k 1 s → c.user = false → dataOk k c false sp.toNat = true → dataOk k c false (sp + 1).toNat = true →
      exec (.hbReti k) s = .next (s.setCore k (c.after
        { c.putG 15 (sp + 2) with
          st := sread 0 c.dmem sp.toNat &&& 0x001F1F#24
          slot := some { outcome := some (sread 0 c.dmem (sp + 1).toNat).toNat, reti := some (c.pc, sp, c.st) } } 1 1
        (some (c.st.extractLsb' 0 4))))))

/-- 15 R379: the instruction in a delay slot executes, then execution goes to the transfer's outcome, or on after the slot for a branch not
taken; a call has written the address after its slot before the slot executes. -/
def Obligations.DelaySlotExecutesBeforeTheOutcome : Prop :=
  ∀ (k : Fin 19) (d a : Fin 16) (out link : Option Nat) (s : State), Ready k 1 s →
    let c := s.cor.core[k]
    let c1 : CoreState := match link with | none => c | some l => { c with dmem := swrite 0 c.dmem l (BitVec.ofNat 24 (c.pc + 1)) }
    exec (.hbMov k d a) (s.setCore k { c with slot := some { outcome := out, link := link } }) =
      .next (s.setCore k { c.after (c1.putG d c.g[a]) 1 1 with pc := out.getD (c.pc + 1) })

/-- 15 R386, R388: `REP` and `REPI` start a repeat; an instruction under `REP` #n has run n times when the next one begins, at one cycle
each. -/
def Obligations.RepeatsRunTheirCount : Prop :=
  (∀ (k : Fin 19) (n9 : BitVec 9) (n : BitVec 16) (g w : Fin 16),
    (n9 ≠ 0 → Runs k 1 (.hbRep k (.short n9)) (fun c => { c with rep := some { left := n9.toNat, done := 0, prefixAt := c.pc } })) ∧
    (n ≠ 0 → n.toNat ≤ 1023 →
      Runs k 2 (.hbRep k (.imm n w 0)) (fun c => { c with rep := some { left := n.toNat, done := 0, prefixAt := c.pc } })) ∧
    (let go (c : CoreState) (n : BitVec 16) : CoreState :=
      { c with lc := n, st := if n = 0 then c.st &&& 0xFFFFEF#24 else c.st ||| 0x000010#24, repi := some (c.pc, c.lc) }
    Runs k 1 (.hbRepi k (.short n9)) (fun c => go c (n9.setWidth 16)) ∧
    Runs k 2 (.hbRepi k (.imm n w 0)) (fun c => go c n) ∧
    Runs k 2 (.hbRepi k (.reg g n 0)) (fun c => go c (c.g[g].setWidth 16)))) ∧
  (∀ (k : Fin 19) (d : Fin 16) (i : BitVec 16) (n : Nat) (r : RepSt) (s : State), Ready k 2 s → s.cor.core[k].user = false →
    s.cor.core[k].modeShadow = none → 0 < n → r.left = n →
    exec (.hbXori k d i) (s.setCore k { s.cor.core[k] with rep := some r }) =
      .next (s.setCore k (s.cor.core[k].after
        (if n % 2 = 1 then s.cor.core[k].putG d (s.cor.core[k].g[d] ^^^ i.setWidth 24) else s.cor.core[k]) 2 n)))

/-- 15 R389–R391: one word of `BMOV` and of `BEXP`; with lc 0 neither does anything but go on; and a block instruction interrupted after
`j` words and resumed leaves what an uninterrupted run leaves, cycles apart. -/
def Obligations.BlockInstructionsMoveWordByWord : Prop :=
  (∀ (k : Fin 19) (pd ps kd ks : Fin 8) (va vd : Word24) (upTo : Option Nat) (s : State), Ready k 2 s →
    let c := s.cor.core[k]
    let ga := c.g[8 + ps.val]'(by omega)
    let gd := if pd = ps then va else c.g[8 + pd.val]'(by omega)
    (c.lc = 0 → ks ≠ 3 → (kd ≠ 3 → exec (.hbBmov k pd ps kd ks 0 upTo) s = .next (s.setCore k (c.after c 2 2))) ∧
      exec (.hbBexp k ps ks 0 upTo) s = .next (s.setCore k (c.after c 2 2))) ∧
    (c.lc ≠ 0 → postMod c ks ga = some va → dataOk k c false ga.toNat = true →
      (postMod c kd gd = some vd → dataOk k c true gd.toNat = true →
        exec (.hbBmov k pd ps kd ks 0 (some 1)) s = .next (s.setCore k
          { c.after { (c.putG ⟨8 + ps.val, by omega⟩ va).putG ⟨8 + pd.val, by omega⟩ vd with
              dmem := swrite 0 c.dmem gd.toNat (sread 0 c.dmem ga.toNat), lc := c.lc - 1 } 2 3 with
            pc := if c.lc = 1 then c.pc + 2 else c.pc })) ∧
      exec (.hbBexp k ps ks 0 (some 1)) s = .next (s.setCore k
        { c.after { c.putG ⟨8 + ps.val, by omega⟩ va with
            ex := if c.ex.toInt ≤ sbits (sread 0 c.dmem ga.toNat) then c.ex else BitVec.ofNat 6 (sbits (sread 0 c.dmem ga.toNat))
            lc := c.lc - 1 } 2 3 with
          pc := if c.lc = 1 then c.pc + 2 else c.pc }))) ∧
  (∀ (k : Fin 19) (pd ps kd ks : Fin 8) (j : Nat) (c1 : CoreState) (s u : State), Ready k 2 s → s.cor.core[k].user = false →
    s.cor.core[k].modeShadow = none → blockRun (bmovWord k pd ps kd ks) s.cor.core[k].lc.toNat s.cor.core[k] = .ok c1 →
    exec (.hbBmov k pd ps kd ks 0 (some j)) s = .next u → j < s.cor.core[k].lc.toNat →
    u.cor.core[k].pc = s.cor.core[k].pc ∧
    exec (.hbBmov k pd ps kd ks 0 none) u =
      .next (s.setCore k { s.cor.core[k].after c1 2 0 with cycles := s.cor.core[k].cycles + 4 + s.cor.core[k].lc.toNat }))

/-- 15 R382, R383: `SETM` and `CLRM` write the mode bits, and the old ones govern one instruction more. -/
def Obligations.ModeBitsChangeWithAShadow : Prop :=
  ∀ (k : Fin 19) (b : BitVec 4) (s : State), Ready k 1 s → (s.cor.core[k].user = false ∨ b &&& 3 = 0) →
    let c := s.cor.core[k]
    exec (.hbSetm k b) s =
      .next (s.setCore k (c.after { c with st := c.st ||| b.setWidth 24 } 1 1 (some (c.st.extractLsb' 0 4)))) ∧
    exec (.hbClrm k b) s =
      .next (s.setCore k (c.after { c with st := c.st &&& ~~~(b.setWidth 24) } 1 1 (some (c.st.extractLsb' 0 4))))

/-- 15 special register numbers, R371, R372, R382: `MOVS` copies each special register to a general one and back; pc is read only; user mode
keeps `IE` and `U`; the reserved bits of st stay 0. -/
def Obligations.SpecialRegistersMoveBothWays : Prop :=
  ∀ (k : Fin 19) (g : Fin 16) (n : Fin 4),
    let i (b : Nat) (h : b < 61) : Fin 64 := ⟨b + n.val, by omega⟩
    Runs k 2 (.hbMovs k (i 0 (by omega)) 1 g 0) (fun c => c.putG g ((c.ac[n].extractLsb' 48 8).signExtend 24)) ∧
    Runs k 2 (.hbMovs k (i 4 (by omega)) 1 g 0) (fun c => c.putG g (c.ac[n].extractLsb' 24 24)) ∧
    Runs k 2 (.hbMovs k (i 8 (by omega)) 1 g 0) (fun c => c.putG g (c.ac[n].extractLsb' 0 24)) ∧
    Runs k 2 (.hbMovs k (i 12 (by omega)) 1 g 0) (fun c => c.putG g c.m[n]) ∧
    Runs k 2 (.hbMovs k 0x10 1 g 0) (fun c => c.putG g (c.lc.setWidth 24)) ∧
    Runs k 2 (.hbMovs k 0x11 1 g 0) (fun c => c.putG g (c.ex.signExtend 24)) ∧
    Runs k 2 (.hbMovs k 0x12 1 g 0) (fun c => c.putG g c.st) ∧
    Runs k 2 (.hbMovs k 0x13 1 g 0) (fun c => c.putG g (BitVec.ofNat 24 c.pc)) ∧
    Runs k 2 (.hbMovs k (i 0 (by omega)) 0 g 0) (fun c =>
      { c with ac := c.ac.set n (c.g[g].extractLsb' 0 8 ++ c.ac[n].extractLsb' 0 48) }) ∧
    Runs k 2 (.hbMovs k (i 4 (by omega)) 0 g 0) (fun c =>
      { c with ac := c.ac.set n (c.ac[n].extractLsb' 48 8 ++ c.g[g] ++ c.ac[n].extractLsb' 0 24) }) ∧
    Runs k 2 (.hbMovs k (i 8 (by omega)) 0 g 0) (fun c =>
      { c with ac := c.ac.set n (c.ac[n].extractLsb' 24 32 ++ c.g[g]) }) ∧
    Runs k 2 (.hbMovs k (i 12 (by omega)) 0 g 0) (fun c => { c with m := c.m.set n c.g[g] }) ∧
    Runs k 2 (.hbMovs k 0x10 0 g 0) (fun c => { c with lc := c.g[g].setWidth 16 }) ∧
    Runs k 2 (.hbMovs k 0x11 0 g 0) (fun c => { c with ex := c.g[g].setWidth 6 }) ∧
    (∀ s : State, Ready k 2 s →
      let c := s.cor.core[k]
      exec (.hbMovs k 0x12 0 g 0) s = .next (s.setCore k (c.after
        { c with st := if c.user = true then (c.g[g] &&& 0x001F1C#24) ||| (c.st &&& 3#24) else c.g[g] &&& 0x001F1F#24 } 2 1
        (some (c.st.extractLsb' 0 4)))))

/-- 16 R403, R404: `BRK` and `TRAP` enter vectors 5 and 6 with the address of the next instruction pushed and `TRAP`'s number in
`EXC_INFO`. -/
def Obligations.TrapsEnterTheirVector : Prop :=
  ∀ (k : Fin 19) (n : BitVec 8) (s : State), StackRoom k s.cor.core[k] →
    let c := s.cor.core[k]
    (Ready k 1 s → exec (.hbBrk k) s = .next (s.trapped k (c.after c 1 1) (c.pc + 1) 5 none 0)) ∧
    (Ready k 2 s → exec (.hbTrap k n 0) s = .next (s.trapped k (c.after c 2 1) (c.pc + 2) 6 none n.toNat))

/-- 15 R375–R377, R380 and the operand tables: every reserved field, code and immediate raises the illegal-instruction exception, vector 1,
without any effect of the instruction (that R375's shift immediates include those of `SHLA` and `SARA` is the model's reading, log 9). 15 R383, 16 R403: in user mode every privileged instruction raises vector 2 and does nothing else. 15
R370, 16 R404, R407, R421: what a data access may reach, the data access exception with its address, and lockup when a fault finds no room for
its entry: a deputy stops with everything else of the core unchanged. -/
def Obligations.FaultsOfEncodingPrivilegeAndAccess : Prop :=
  (∀ (k : Fin 19) (d a b : Fin 16) (z16 : Fin 16) (z32 : Fin 32) (z128 : Fin 128) (i : BitVec 16) (x y : Fin 4) (p q r : Fin 8) (f : MemForm)
        (n : Fin 64) (z12 : BitVec 12),
      Raises k 1 (.hbNop k (.undefined false)) 1 ∧ Raises k 2 (.hbNop k (.undefined true)) 1 ∧ Raises k 1 (.hbPop k 15) 1 ∧
      (z16 ≠ 0 →
        (∀ ctor ∈ [Instr.hbAdd, .hbSub, .hbAnd, .hbOr, .hbXor, .hbShl, .hbShr, .hbSar, .hbAdds, .hbSubs, .hbMin, .hbMax],
          Raises k 2 (ctor k (.three d a b z16)) 1) ∧
        (∀ ctor ∈ [Instr.hbMul, .hbMulh, .hbMulhu], Raises k 2 (ctor k d a b z16) 1)) ∧
      (23 < i.toNat → ∀ ctor ∈ [Instr.hbShli, .hbShri, .hbSari, .hbBset, .hbBclr, .hbBtgl], Raises k 2 (ctor k d i) 1) ∧
      (23 < z32.val → Raises k 2 (.hbShla k x z32 0) 1 ∧ Raises k 2 (.hbSara k x z32 0) 1) ∧
      (∀ upTo : Option Nat, Raises k 2 (.hbBmov k p q 3 r 0 upTo) 1 ∧ Raises k 2 (.hbBmov k p q r 3 0 upTo) 1 ∧
        Raises k 2 (.hbBexp k p 3 0 upTo) 1) ∧
      (z32 ≠ 0 →
        (∀ ctor ∈ [Instr.hbMova, .hbAdda, .hbSuba, .hbNega, .hbAbsa], Raises k 2 (ctor k x y z32) 1) ∧
        (∀ ctor ∈ [Instr.hbClr, .hbRnd, .hbSata, .hbNorm, .hbScale], Raises k 2 (ctor k x z32) 1) ∧
        (∀ ctor ∈ [Instr.hbExp, .hbShi], Raises k 2 (ctor k d x z32) 1) ∧
        (∀ ctor ∈ [Instr.hbLda, .hbLdal], Raises k 2 (ctor k x d z32) 1)) ∧
      (∀ op : Fin 8, z128 ≠ 0 ∨ 6 ≤ op.val → Raises k 2 (.hbMacm k op x p q 0 0 z128) 1) ∧
      Raises k f.len (.hbLd k f) 1 (fun c => memForm c f = none) ∧ Raises k f.len (.hbSt k f) 1 (fun c => memForm c f = none) ∧
      Raises k 1 (.hbRep k (.short 0)) 1 ∧ (1023 < i.toNat → Raises k 2 (.hbRep k (.imm i d 0)) 1) ∧ Raises k 2 (.hbRep k (.reg d i 0)) 1 ∧
      (z12 ≠ 0 → ∀ dir : Fin 4, Raises k 2 (.hbMovs k n dir d z12) 1) ∧
      Raises k 2 (.hbMovs k 0x13 0 d 0) 1 ∧ (0x14 ≤ n.val → ∀ dir : Fin 4, Raises k 2 (.hbMovs k n dir d 0) 1)) ∧
  (∀ (k : Fin 19) (g : Fin 16) (p : Fin 8) (io o : BitVec 16) (b : BitVec 4) (m : BitVec 17) (q : Fin 4),
      let um (c : CoreState) : Prop := c.user = true
      Raises k 1 (.hbReti k) 2 um ∧ Raises k 1 (.hbWfe k) 2 um ∧ Raises k 2 (.hbWaitt k q 0) 2 um ∧ Raises k 2 (.hbWfet k q p 0) 2 um ∧
      Raises k 2 (.hbSev k (.imm m 0)) 2 um ∧ Raises k 2 (.hbSev k (.reg g 0)) 2 um ∧
      Raises k 2 (.hbIn k (.ptr g p o)) 2 um ∧ Raises k 2 (.hbIn k (.abs g io 0)) 2 um ∧
      Raises k 2 (.hbOut k (.ptr g p o)) 2 um ∧ Raises k 2 (.hbOut k (.abs g io 0)) 2 um ∧
      (b &&& 3 ≠ 0 → Raises k 1 (.hbSetm k b) 2 um ∧ Raises k 1 (.hbClrm k b) 2 um)) ∧
  ((∀ (k : Fin 19) (c : CoreState) (w : Bool) (a : Nat),
      dataOk k c w a = true ↔ a < (if k = 18 then 0x80000 else 0xC000) ∧
        (c.user = true →
          let win (i : Fin 5) : Prop := (c.uw[2 * i.val]'(by omega)).toNat ≤ a ∧ a ≤ (c.uw[2 * i.val + 1]'(by omega)).toNat
          win 3 ∨ win 4 ∨ (w = false ∧ (win 1 ∨ win 2)))) ∧
    (∀ (k : Fin 19) (f : MemForm) (r : Fin 16) (ea : Nat) (up : Option (Fin 16 × Word24)) (s : State), Ready k f.len s →
      s.cor.core[k].fresh = false → StackRoom k s.cor.core[k] → memForm s.cor.core[k] f = some (r, ea, up) →
      (dataOk k s.cor.core[k] false ea = false →
        exec (.hbLd k f) s = .next (s.trapped k s.cor.core[k] s.cor.core[k].pc 3 (some (BitVec.ofNat 24 ea)) 0)) ∧
      (dataOk k s.cor.core[k] true ea = false →
        exec (.hbSt k f) s = .next (s.trapped k s.cor.core[k] s.cor.core[k].pc 3 (some (BitVec.ofNat 24 ea)) 0))) ∧
    (∀ (k : Fin 19) (s t : State), Ready k 1 s → ¬ StackRoom k s.cor.core[k] → k ≠ 18 → exec (.hbPop k 15) s = .next t →
      t.cor.core[k] = { s.cor.core[k] with lockup := true }))

/-- 15 R392–R395, R398: `WFE`, `WAITT` and `WFET` go on when their event or time has come and wait otherwise, with pc at them; a release takes
the event; `SEV` sets the latch of every core of its mask. -/
def Obligations.EventsAndWaits : Prop :=
  (∀ (k : Fin 19) (q : Fin 4) (xd : Fin 8) (s : State),
    let c := s.cor.core[k]
    let t := (c.g[2 * q.val]'(by omega)).toNat + (c.g[2 * q.val + 1]'(by omega)).toNat * 2 ^ 24
    let x : Fin 16 := ⟨xd.val, by omega⟩
    c.user = false →
    (Ready k 1 s →
      (c.latch = true → exec (.hbWfe k) s = .next (s.setCore k (c.after { c with latch := false } 1 1))) ∧
      (c.latch = false →
        exec (.hbWfe k) s = .next (s.setCore k { c.after { c with wait := some .event, waitAt := s.clk.up } 1 0 with pc := c.pc }))) ∧
    (Ready k 2 s →
      (s.reached t = true → exec (.hbWaitt k q 0) s = .next (s.setCore k (c.after c 2 1))) ∧
      (s.reached t = false →
        exec (.hbWaitt k q 0) s =
          .next (s.setCore k { c.after { c with wait := some (.time t), waitAt := s.clk.up } 2 0 with pc := c.pc })) ∧
      (c.latch = true → exec (.hbWfet k q xd 0) s = .next (s.setCore k (c.after { c.putG x 1 with latch := false } 2 1))) ∧
      (c.latch = false → s.reached t = true → exec (.hbWfet k q xd 0) s = .next (s.setCore k (c.after (c.putG x 0) 2 1))) ∧
      (c.latch = false → s.reached t = false → exec (.hbWfet k q xd 0) s =
        .next (s.setCore k { c.after { c with wait := some (.either t xd.val), waitAt := s.clk.up } 2 0 with pc := c.pc })))) ∧
  (∀ (k : Fin 19) (s : State), s.cor.core[k].lockup = false → s.cor.core[k].st.getLsbD 0 = false →
    let c := s.cor.core[k]
    (c.wait = some .event → c.latch = true →
      exec (.evWaitRelease k) s = .next (s.setCore k
        { c with latch := false, wait := none, pc := c.pc + 1, cycles := c.cycles + c.waited s.clk.up })) ∧
    (∀ t, c.wait = some (.time t) → s.reached t = true →
      exec (.evWaitRelease k) s = .next (s.setCore k { c with wait := none, pc := c.pc + 2, cycles := c.cycles + c.waited s.clk.up })) ∧
    (∀ (t : Nat) (x : Fin 8), c.wait = some (.either t x.val) → c.latch = true →
      exec (.evWaitRelease k) s = .next (s.setCore k
        { c.putG ⟨x.val, by omega⟩ 1 with latch := false, wait := none, pc := c.pc + 2, cycles := c.cycles + c.waited s.clk.up }))) ∧
  (∀ (s : State) (t : Nat), s.reached t = true ↔ (s.clk.tick + 2 ^ 48 - t % 2 ^ 48) % 2 ^ 48 < 2 ^ 47) ∧
  (∀ (k : Fin 18) (z : Nat) (s : State), Ready ⟨k.val, by omega⟩ 2 s → s.clk.brokenSeams = [] →
    (s.cor.core[k.val]'(by omega)).user = false → (s.cor.core[k.val]'(by omega)).st.getLsbD 0 = false →
    ∃ t : State, exec (.hbSev ⟨k.val, by omega⟩ (.imm 0x10000#17 0)) s = .next t ∧
      t.cor.core[18] = { s.cor.core[18] with latch := true } ∧
      t.cor.core[k.val]'(by omega) = (s.cor.core[k.val]'(by omega)).after (s.cor.core[k.val]'(by omega)) 2 1)

/-- 15 R381, R397, R398, R383: `IN` puts the register's value in flight to its destination, after the register's side effect, and takes the
cycles of the register's island; `OUT` writes the register. Both forms name their address; supervisor mode, no seam broken. -/
def Obligations.InAndOutReachTheIoRegisters : Prop :=
  ∀ (k : Fin 19) (g : Fin 16) (p : Fin 8) (o io : BitVec 16) (s : State), Ready k 2 s → s.clk.brokenSeams = [] →
    let c := s.cor.core[k]
    let ptr : Nat := (c.g[8 + p.val]'(by omega) + o.signExtend 24).toNat % 2 ^ 16
    c.user = false → c.st.getLsbD 0 = false →
    ∀ (f : IoForm) (a : Nat), (f = .ptr g p o ∧ a = ptr) ∨ (f = .abs g io 0 ∧ a = io.toNat) →
      (let r := s.ioRead k c a
       let n := if a = 0x10 ∨ a = 0x11 then 24 else if 0x80 ≤ a ∧ a ≤ 0x9C ∧ k = 18 then 48833
          else if (0x100 ≤ a ∧ a ≤ 0x1FF ∨ 0x4000 ≤ a ∧ a ≤ 0x5FFF) ∧ k ≠ 18 then 6 else 2
       exec (.hbIn k f) s = .next (r.2.2.setCore k (c.after { r.2.1 with ioData := r.1, load := some (g, r.1) } 2 n))) ∧
      (let w := s.ioWrite k c a c.g[g]
       exec (.hbOut k f) s = .next (w.2.setCore k (c.after w.1 2 2)))

/-- 15 R369, R393, R396, 16 R404, R417, R421: what a core reads at the addresses of its own registers; an address without a register reads 0 and
a read changes nothing but the latches. 01 R6, 16 R404, R405, R421: a write of a core's register as a command: `INT_PEND` bits clear by writing
1, `INT_EN`, `EXC_CAUSE`, `DSR`, `KCYC_LIM` and the windows take the value, a read-only register stays. 15 R393, 16 R417, 06 R139: reads of
`TCNT_LO` and `BND_LO` latch their high parts; `COMMIT` by D2 stages the update of the slot's channel and sets `PENDING`, after D2 it stages
nothing, sets `LATE` and voids the epoch. -/
def Obligations.CoreRegistersReadLatchAndTakeWrites : Prop :=
  (∀ (k : Fin 19) (c : CoreState) (s : State) (n : Fin 10),
      s.ioRead k c 0x00 = (0x0000FF#24, c, s) ∧
      s.ioRead k c 0x01 = (if k = 18 then 0x200400#24 else 0x030040#24, c, s) ∧
      s.ioRead k c 0x10 = (BitVec.ofNat 24 s.tcnt, { c with tcntHi := BitVec.ofNat 24 (s.tcnt / 2 ^ 24) }, s) ∧
      s.ioRead k c 0x11 = (c.tcntHi, c, s) ∧
      s.ioRead k c 0x12 = (BitVec.ofNat 24 s.clk.bnd, { c with bndHi := BitVec.ofNat 24 (s.clk.bnd / 2 ^ 24) }, s) ∧
      s.ioRead k c 0x13 = (c.bndHi, c, s) ∧
      s.ioRead k c 0x20 = (c.intPend.setWidth 24, c, s) ∧ s.ioRead k c 0x21 = (c.intEn.setWidth 24, c, s) ∧
      s.ioRead k c 0x24 = (c.excCause.setWidth 24, c, s) ∧ s.ioRead k c 0x25 = (c.excAddr, c, s) ∧
      s.ioRead k c 0x26 = (c.excInfo, c, s) ∧ s.ioRead k c 0x27 = (c.dsr, c, s) ∧
      s.ioRead k c (0x30 + n.val) = (if k = 18 then 0 else c.uw[n], c, s) ∧
      s.ioRead k c 0x3A = (if k = 18 then 0 else c.kcycLim.setWidth 24, c, s) ∧
      (∀ a : Nat, (a = 0x0F ∨ a = 0x22 ∨ 0x43 ≤ a ∧ a < 0x80 ∨ 0x9D ≤ a ∧ a < 0x100 ∨ 0x200 ≤ a ∧ a < 0x4000 ∨ 0x6000 ≤ a) →
        s.ioRead k c a = (0, c, s) ∧ ∀ v, s.ioWrite k c a v = (c, s))) ∧
  (∀ (k : Fin 19) (v : Word24) (s : State) (n : Fin 10),
      let c := s.cor.core[k]
      let w (a : BitVec 16) (c' : CoreState) : Prop := exec (.regRegisterWrite k a v) s = .next (s.setCore k c')
      exec (.regIntPend k v) s = .next (s.setCore k { c with intPend := c.intPend &&& ~~~(v.setWidth 16) }) ∧
      w 0x20#16 { c with intPend := c.intPend &&& ~~~(v.setWidth 16) } ∧
      w 0x21#16 { c with intEn := v.setWidth 16 } ∧ w 0x24#16 { c with excCause := v.setWidth 7 } ∧ w 0x27#16 { c with dsr := v } ∧
      (k ≠ 18 → w 0x3A#16 { c with kcycLim := v.setWidth 16 } ∧ w (BitVec.ofNat 16 (0x30 + n.val)) { c with uw := c.uw.set n v }) ∧
      w 0x00#16 c ∧ w 0x10#16 c ∧ w 0x11#16 c ∧ w 0x12#16 c ∧ w 0x25#16 c ∧ w 0x26#16 c) ∧
  ((∀ (k : Fin 19) (s : State),
      let c := s.cor.core[k]
      exec (.regTcntLo k) s = .next (s.setCore k
        { c with ioData := BitVec.ofNat 24 (s.clk.tick % 2 ^ 48), tcntHi := BitVec.ofNat 24 (s.clk.tick % 2 ^ 48 / 2 ^ 24) }) ∧
      exec (.regBndLo k) s = .next (s.setCore k
        { c with ioData := BitVec.ofNat 24 s.clk.bnd, bndHi := BitVec.ofNat 24 (s.clk.bnd / 2 ^ 24) })) ∧
    (∀ (k : Fin 18) (slot : Fin 32) (ch : Fin 384) (v : Word24) (s : State), s.chanAt k.val slot.val = some ch.val → v.getLsbD 0 = true →
      let x := s.trk.ch[ch]
      let ctl (i : Nat) : Bool := v.getLsbD i
      (s.clk.tick % 81840 ≤ 61380 →
        exec (.regCommit k slot v) s = .next { s with trk := { s.trk with ch := s.trk.ch.set ch { x with
          staged := some { crate := x.upd.uCrate, krate := x.upd.uKrate
                           cstep := if ctl 1 then some x.upd.uCstep else none, kstep := if ctl 2 then some x.upd.uKstep else none
                           aoff := if ctl 3 then some x.upd.uAoff.toList else none, sec := if ctl 4 then some x.upd.uSec else none }
          upd := { x.upd with uCtrl := 0, pending := true, late := false } } } }) ∧
      (61380 < s.clk.tick % 81840 → ∃ t : State, exec (.regCommit k slot v) s = .next t ∧
        t.trk = { s.trk with ch := s.trk.ch.set ch { x with voided := true, upd := { x.upd with uCtrl := 0, late := true } } })))

/-- 18 R451: `GO` starts the reset of a block that meets its idle condition and is refused otherwise; when its time has passed the block's
reset has completed. -/
def Obligations.BlockResets : Prop :=
  (∀ (v : Word24) (s : State), s.pow.brstRun = none →
    (v.getLsbD 0 = false → exec (.regBlockReset v) s = .next s) ∧
    (v.getLsbD 0 = true → s.pow.pst ≠ .idle → s.blockIdle (s.pow.brstUnit / 256) (s.pow.brstUnit % 256) = true →
      exec (.regBlockReset v) s = .next { s with pow := { s.pow with brstStat := 1, brstRun := some s.pow.brstUnit } }) ∧
    (v.getLsbD 0 = true → s.pow.pst = .idle ∨ s.blockIdle (s.pow.brstUnit / 256) (s.pow.brstUnit % 256) = false →
      exec (.regBlockReset v) s = .next { s with pow := { s.pow with brstStat := 2 } })) ∧
  (∀ (idx : Fin 18) (s : State), s.clk.runs = true → s.pow.brstRun = some (256 + idx.val) → ∃ t : State, exec .evBlockResetDone s = .next t ∧
    t.pow.brstRun = none ∧ t.pow.brstStat = 0 ∧ t.clk.tick = s.clk.tick + 24552 ∧ t.cor.core[idx.val]'(by omega) = {} ∧
    ∀ j : Fin 19, j.val ≠ idx.val → t.cor.core[j] = s.cor.core[j])

/-- 19 R464, R466, R468, R470, R471, R474, R475: the backup registers that have a row of their own. -/
def Obligations.BackupRegisterAccesses : Prop :=
  ∀ (v : Word24) (n : Fin 2) (s : State),
    let c := s.cor.core[18]
    let b := s.bak
    let reads (x : Nat) (b' : BackupState) : State := ({ s with bak := b' } : State).setCore 18 { c with ioData := BitVec.ofNat 24 x }
    exec .regBkCntLo s = .next (reads b.count { b with cntHi := b.count / 2 ^ 24, fracL := b.frac }) ∧
    exec .regBkCaptLo s = .next (reads b.capt { b with captHi := b.capt / 2 ^ 24 % 2 ^ 24 }) ∧
    exec .regBevMerge s = .next (reads (b.bev[0].merge + 4096 * b.bev[1].merge) { b with bev := b.bev.map (fun x => { x with merge := 0 }) }) ∧
    (∀ (e : BevEntry) (r : List BevEntry), b.bev[n].fifo = e :: r →
      exec (.regBevTsLo n) s = .next (reads e.ts
        { b with bev := b.bev.set n { b.bev[n] with fifo := r, tsHi := e.ts / 2 ^ 24 % 2 ^ 24 }, lastRise := e.rising, lastHst := e.hstamp })) ∧
    (b.tickHalt = false → exec .regTickHalt s = .next { s with bak := { b with tickHalt := true, hcnt := if b.halted then b.hcnt else 0 } }) ∧
    exec .regTickRelease s = .next { s with bak := { b with tickHalt := false } } ∧
    exec (.regBkPadj v) s = .next { s with bak := { b with padj := v.toInt } } ∧
    exec (.regBkStat v) s = .next { s with bak := { b with tickErr := b.tickErr && !v.getLsbD 1, pwFlag := b.pwFlag && !v.getLsbD 3 } } ∧
    (-(2 ^ 46) ≤ b.local_ → b.local_ < 2 ^ 46 →
      exec (.regBkDst 1#24) s = .next { s with bak := { b with local_ := b.local_ + 117964800 } } ∧
      exec (.regBkDst 2#24) s = .next { s with bak := { b with local_ := b.local_ - 117964800 } } ∧
      exec (.regBkDst 0#24) s = .next s)

/-- 16 R404, R405, R421: a signalling line sets its pending bit; the core takes the first line pending and enabled when `IE` is 1, pushes pc
and st, clears `IE`, `U` and `RPT`, and leaves the bit set. A spent cycle budget enters vector 7. -/
def Obligations.InterruptsAndTheSpentBudget : Prop :=
  ∀ (k : Fin 19) (lines : BitVec 16) (s : State),
    let c := s.cor.core[k]
    let pend := c.intPend ||| (if k = 18 then lines else lines &&& 0x000F#16)
    let sp := c.g[15]
    (c.lockup = false → c.st.getLsbD 0 = false → exec (.evInterrupt k lines) s = .next (s.setCore k { c with intPend := pend })) ∧
    (∀ i : Fin 16, c.st.getLsbD 0 = true → c.slot = none → c.load = none → c.modeShadow = none → c.rep = none → c.repi = none →
      c.kexp = false → c.lockup = false → (pend &&& c.intEn).getLsbD i.val = true →
      (∀ j : Fin 16, j.val < i.val → (pend &&& c.intEn).getLsbD j.val = false) → StackRoom k c →
      exec (.evInterrupt k lines) s = .next (s.setCore k { c with
        intPend := pend, pc := 64 + 4 * i.val, st := c.st &&& 0xFFFFEC#24, g := c.g.set 15 (sp - 2), wait := none, fresh := true
        dmem := swrite 0 (swrite 0 c.dmem (sp - 1).toNat (BitVec.ofNat 24 c.pc)) (sp - 2).toNat c.st
        excCause := (c.excCause &&& 0x60#7) ||| BitVec.ofNat 7 (16 + i.val), cycles := c.cycles + c.waited s.clk.up + 6 })) ∧
    (c.kexp = true → c.lockup = false → c.fresh = false → c.slot = none → c.load = none → c.rep = none → c.repi = none → StackRoom k c →
      exec (.evKcycLimExpiry k) s = .next (s.trapped k c c.pc 7 none 0)) ∧
    (c.kexp = false → exec (.evKcycLimExpiry k) s = .next s)

/-! ### Element lanes, haulage and lode -/

/-- 02 R44, R45, R46 (lane states table): alignment, the offer, the choice of version and combination from a `CAP` frame, the switch of rate:
each step of the bring-up of a lane. No other lane changes. -/
def Obligations.LaneBringUpStepByStep : Prop :=
  ∀ (el : Fin 96) (f : RawFrame) (b : List Byte) (s : State), NoQueue s → s.clk.runs = true →
    let n := el.val
    let l := s.lane n
    let e := s.elem n
    let c := capOf (b.drop 16)
    (l.state = .dark → Gives (.evAlignmentGained el) s (fun t => SameLanes n s t ∧
      t.lane n = { l with state := .offer, since := s.clk.tick, tries := 0, lossTold := false, offerAt := none })) ∧
    (l.state = .offer → l.ctrl = none → (∀ x, l.offerAt = some x → x + 8184 ≤ s.clk.tick) → Gives (.evOffer el) s (fun t =>
      ∃ arg : Nat, arg / 2 ^ 40 = (l.dseq + 1) % 256 ∧ arg % 16 = 1 ∧ arg / 16 % 16 = 3 ∧ SentOne n ⟨0x10, arg⟩ s t ∧
        LaneIs n { l with dseq := (l.dseq + 1) % 256, offerAt := some s.clk.tick
                          ctrl := some ⟨⟨0x10, arg⟩, (l.dseq + 1) % 256, 1, s.clk.tick⟩ } s t)) ∧
    (l.state = .offer → l.marks = [] → Arrives l f b → (headerOf b).ftype = 1 →
      (l.ctrl = none ∨ ∃ w, l.ctrl = some w ∧ w.word.dtype = 0x10 ∧ w.dseq = (headerOf b).ctrlAck ∧ l.dqueue = []) →
      (∀ v r w, commonVersion c = some v → (combos e c v).head? = some (r, w) →
        Gives (.evCapFrame el f) s (fun t => SameLanes n s t ∧ (t.lane n).state = .select ∧ (t.lane n).cap = some c ∧
          (t.lane n).lver = v ∧ (t.lane n).tryRate = r ∧ (t.lane n).tryWidth = w ∧ (t.lane n).tries = 1)) ∧
      (commonVersion c = none → Gives (.evCapFrame el f) s (fun t => SameLanes n s t ∧ (t.lane n).state = .dark ∧
        (t.lane n).cause = .timeout))) ∧
    (l.state = .switch → s.clk.tick ≤ l.since + 16368 → Gives (.evRateSwitch el) s (fun t =>
      SameLanes n s t ∧ t.clk.tick = l.since + 16368 ∧ t.lane n = l.atRate l.tryRate (l.since + 16368))) ∧
    (l.state = .switch → l.rate = l.tryRate → l.since + 16368 ≤ s.clk.tick → Gives (.evAlignmentGained el) s (fun t => SameLanes n s t ∧
      t.lane n = { l with state := .range, since := s.clk.tick, tries := 0, echoes := [] }))

/-- 02 R38–R40, R46, R51: the marks at their scheduled points, the control words that go out again until they fail, the timeouts of the lane
states and of `STANDBY`. -/
def Obligations.LaneTimersAndRetries : Prop :=
  ∀ (el : Fin 96) (dep : Nat) (w : CtrlWait) (s : State), NoQueue s → s.clk.runs = true →
    let n := el.val
    let l := s.lane n
    ((l.state = .range ∨ l.state = .sync ∨ l.state = .live) → Gives (.evMark el dep) s (fun t => SentOne n ⟨2, l.markTag⟩ s t ∧
      ∃ k : Nat, t.clk.tick = 20460 * k ∧ s.clk.tick ≤ t.clk.tick ∧ t.clk.tick ≤ s.clk.tick + 20460 ∧
        (20460 * k = s.clk.tick → l.markSlot ≠ some k) ∧
        LaneIs n { l with marks := ((l.markTag, dep) :: l.marks).take 64, markTag := if l.markTag = 65535 then 1 else l.markTag + 1
                          markSlot := some k } s t)) ∧
    (l.ctrl = some w → w.sentAt + 4092 ≤ s.clk.tick → w.sends < 4 → Gives (.evCtrlRetry el) s (fun t => SentOne n w.word s t ∧
      LaneIs n { l with ctrl := some { w with sends := w.sends + 1, sentAt := s.clk.tick } } s t)) ∧
    (l.ctrl = some w → w.sentAt + 4092 ≤ s.clk.tick → 4 ≤ w.sends → l.dqueue = [] → Gives (.evCtrlRetry el) s (fun t => SameLanes n s t ∧
      t.smp.sent = s.smp.sent ∧ t.lane n = { l with ctrl := none, ctrlFail := min 65535 (l.ctrlFail + 1) })) ∧
    (l.state = .select → l.tries < 4 → l.since + 163680 ≤ s.clk.tick → Gives (.evLaneStateTimeout el) s (fun t => SameLanes n s t ∧
      (t.lane n).state = .select ∧ (t.lane n).tries = l.tries + 1 ∧ (t.lane n).since = s.clk.tick ∧
      (l.tries ≠ 0 → (t.lane n).dseq = l.dseq) ∧ ∃ arg : Nat, SentOne n ⟨0x11, arg⟩ s t)) ∧
    (l.state = .sync → l.tries < 4 → l.since + 163680 ≤ s.clk.tick → Gives (.evLaneStateTimeout el) s (fun t => SameLanes n s t ∧
      (t.lane n).state = .sync ∧ (t.lane n).tries = l.tries + 1 ∧ ∃ load : Nat, SentOne n ⟨1, load⟩ s t ∧ (t.lane n).syncL = some load)) ∧
    ((l.state = .select ∨ l.state = .sync) → 4 ≤ l.tries → l.since + 163680 ≤ s.clk.tick → Gives (.evLaneStateTimeout el) s (fun t =>
      SameLanes n s t ∧ (t.lane n).state = .dark ∧ (t.lane n).cause = .timeout ∧ (t.lane n).rate = 0)) ∧
    (l.state = .offer → l.since + 1636800 ≤ s.clk.tick → Gives (.evLaneStateTimeout el) s (fun t =>
      SameLanes n s t ∧ (t.lane n).state = .dark ∧ (t.lane n).cause = .timeout)) ∧
    (l.state = .standby → s.pow.pst = .run → l.since + 1636800 ≤ s.clk.tick → Gives (.evStandbyTimeout el) s (fun t =>
      SameLanes n s t ∧ (t.lane n).state = .dark ∧ (t.lane n).lossTold = false))

/-- 02 R48, R49, R50: a lane that loses alignment or whose frames stay away for 8 frame periods goes to `DARK` with the loss counted and its
cause, and a loss from `LIVE` takes the element out of the beams at the next boundary. -/
def Obligations.LaneLossesAreCountedWithTheirCause : Prop :=
  ∀ (el : Fin 96) (s : State), NoQueue s →
    let n := el.val
    let l := s.lane n
    let lost (cause : LCause) (t : State) : Prop := SameLanes n s t ∧ (t.lane n).state = .dark ∧ (t.lane n).cause = cause ∧
      (t.lane n).losses = min 65535 (l.losses + 1) ∧ (t.lane n).rate = 0 ∧ (t.lane n).lver = 0 ∧ (t.lane n).ctrl = none ∧
      (l.state = .live → (t.lane n).leaving = true ∧ (t.lane n).erasing = true)
    ((l.state = .offer ∨ l.state = .select ∨ l.state = .range ∨ l.state = .sync ∨ l.state = .live) →
      Gives (.evAlignmentLost el) s (lost .alignment)) ∧
    (l.state = .live → l.lastValid + 1320 ≤ s.clk.tick → Gives (.evFramesMissing el) s (lost .framesMissing)) ∧
    (l.state = .live → s.clk.tick < l.lastValid + 1320 → exec (.evFramesMissing el) s = .next s)

/-- 02 R30, R32, R33, R48, R50: an uplink frame of a `LIVE` lane in sequence is held and goes to the adit; one whose `CRC` fails erases its
165 sample times and is counted; one whose index does not follow is a slip; the first one after 8 frame periods without one is a loss; a frame
that holds fill or an unknown control item, or that lane state and width do not allow, is not used. -/
def Obligations.UplinkFramesOfALiveLane : Prop :=
  ∀ (el : Fin 96) (f : RawFrame) (b : List Byte) (q i : Nat) (s : State),
    let n := el.val
    let l := s.lane n
    let h := headerOf b
    NoQueue s → l.state = .live → l.ctrl = none → l.marks = [] → l.slipAt = none → l.lastFrame = some (q, i) →
    (frameBytes l.rate f.items = none → Gives (.evUplinkFrame el f) s (fun t => t.smp = s.smp)) ∧
    (frameBytes l.rate f.items = some b → 24 ≤ b.length → frameCrcOk b = true → l.accepts b = false →
      Gives (.evUplinkFrame el f) s (fun t => SameLanes n s t ∧ t.lane n = { l with arrivals := (f.arrival :: l.arrivals).take 4 })) ∧
    (Arrives l f b → h.ftype = 0 →
      (s.clk.tick < l.lastValid + 1320 →
        (h.fseq = (q + 1) % 256 → h.sidx = (i + 165) % 2 ^ 48 → q < 256 → Gives (.evUplinkFrame el f) s (fun t => SameLanes n s t ∧
          (t.lane n).state = .live ∧ (t.lane n).hdr = h ∧ (t.lane n).gain = trailerGain b ∧ (t.lane n).lastFrame = some (h.fseq, h.sidx) ∧
          (t.lane n).lastValid = s.clk.tick ∧ (t.lane n).crcErr = l.crcErr)) ∧
        (h.sidx ≠ (i + 165 * ((h.fseq + 256 - q - 1) % 256 + 1)) % 2 ^ 48 → Gives (.evUplinkFrame el f) s (fun t => SameLanes n s t ∧
          (t.lane n).state = .range ∧ (t.lane n).cause = .slip ∧ (t.lane n).slips = min 65535 (l.slips + 1) ∧ (t.lane n).lver = l.lver ∧
          (t.lane n).rate = l.rate ∧ (t.lane n).width = l.width))) ∧
      (l.lastValid + 1320 ≤ s.clk.tick → Gives (.evUplinkFrame el f) s (fun t => SameLanes n s t ∧
        (t.lane n).state = .dark ∧ (t.lane n).cause = .framesMissing ∧ (t.lane n).losses = min 65535 (l.losses + 1)))) ∧
    (frameBytes l.rate f.items = some b → frameCrcOk b = false → l.crcWin = [] → Gives (.evUplinkFrame el f) s (fun t => SameLanes n s t ∧
      (t.lane n).state = .live ∧ (t.lane n).crcErr = min 4294967295 (l.crcErr + 1) ∧
      (t.lane n).lastFrame = some ((q + 1) % 256, (i + 165) % 2 ^ 48)))

/-- 01 R15, 03 R64–R69: a haulage block is released 32 µs after its last tick with 288 streams, by element and within an element U, M, L; a
stream whose lane is not `LIVE` is carried fully blanked, out of service; the block index goes on modulo 16. -/
def Obligations.HaulageBlocksCarryEveryStream : Prop :=
  ∀ (counts : List Nat) (s : State), s.fabricUp = true →
    let k := s.smp.blockK
    Gives (.evHaulageBlockRelease counts) s (fun t =>
      t.smp.blockK = (k + 1) % 16 ∧
      (∃ m : Nat, t.clk.tick = 81840 * m + (k + 1) * 5115 + 2618 ∧ s.clk.tick ≤ t.clk.tick ∧ (m = 0 ∨ t.clk.tick < s.clk.tick + 81840)) ∧
      t.smp.headers.map (fun h => (h.elem, h.band)) = (List.range 288).map (fun i => (i / 3, i % 3)) ∧
      (∀ h ∈ t.smp.headers, h.blk = k ∧ ((s.lane h.elem).state ≠ .live → h.estate = 2 ∧ h.nblank = 5115 ∧ h.late = false)) ∧
      t.smp.block.map (fun x => (x.1, x.2.1.code)) = (List.range 288).map (fun i => (i / 3, i % 3)) ∧
      ∀ x ∈ t.smp.block, x.2.2.length = 5115)

/-- 03 R69, R70, R73, R75, 22 R524: a region armed for a time triggers when TCNT has reached it and only then; a scrub-and-swap switches the bank
map when the free windows have carried the copy, and the released bank stays a spare or is retired by its test. -/
def Obligations.CapturesAndBankSwaps : Prop :=
  (∀ (c : Fin 8) (s : State),
    let r := s.region c.val
    let past := (s.tcnt + 2 ^ 48 - r.ttime % 2 ^ 48) % 2 ^ 48
    r.ctrig = 1 →
    (past < 2 ^ 47 → (r.cstate = .armed ∨ r.cstate = .filling) → r.trigAt = none → Gives (.evCaptureTimeTrigger c) s (fun t =>
      t.region c.val = { r with trigAt := some (s.clk.tick - past) } ∧ ∀ j : Nat, j ≠ c.val → t.region j = s.region j)) ∧
    (2 ^ 47 ≤ past → exec (.evCaptureTimeTrigger c) s = .next s)) ∧
  (∀ (phys spare : Fin 68) (s : State), NoQueue s → phys ≠ spare →
    (s.smp.lode.swap = some (phys.val, spare.val, false) → s.copyDone = false → exec .evScrubCopyComplete s = .next s) ∧
    (s.smp.lode.swap = some (phys.val, spare.val, false) → s.copyDone = true → Gives .evScrubCopyComplete s (fun t =>
      (∀ b : Fin 64, t.smp.lode.bankMap[b] = if s.smp.lode.bankMap[b] = phys.val then spare.val else s.smp.lode.bankMap[b]) ∧
      t.smp.lode.use[phys] = .testing ∧ t.smp.lode.use[spare] = .service ∧ t.smp.lode.swap = some (phys.val, spare.val, true) ∧
      t.smp.lode.mem = s.smp.lode.mem)) ∧
    (∀ pass : Bool, s.smp.lode.swap = some (phys.val, spare.val, true) → Gives (.evBankTestComplete pass) s (fun t =>
      t.smp.lode.swap = none ∧ t.smp.lode.use[phys] = (if pass then .spare else .retired) ∧ t.smp.lode.bankMap = s.smp.lode.bankMap)))

/-! ### Stopes, deadlines, maintenance -/

/-- 08 R179, R184: a stride of a logical stope starts when its samples are ready, T0 plus `RDY(i)`, and the stope goes on to the next
stride, from the last one to the first; without a plan nothing runs. -/
def Obligations.StridesRunInTurn : Prop :=
  ∀ (ls : Fin 32) (frep : Nat) (s : State),
    (s.fab.active = none → s.fab.swap = none → exec (.evStrideStart ls frep) s = .next s) ∧
    (∀ (p : Plan) (h : StopeHdr), s.fabricUp = true → s.fab.swap = none → s.fab.active = some p → p.stopes[ls.val]? = some h →
      let i := (s.runOf ls.val).stride
      let m := (s.runOf ls.val).at_
      Gives (.evStrideStart ls frep) s (fun t =>
        (t.runOf ls.val).stride = (if i + 1 < strides h.sg then i + 1 else 0) ∧
        (0 < i → t.clk.tick = max s.clk.tick (81840 * m + (261888 + 1600 * h.sg * (i + 1) + 99) / 100) ∧ (t.runOf ls.val).at_ = m) ∧
        (i = 0 → t.clk.tick = max s.clk.tick (81840 * (t.runOf ls.val).at_ + (261888 + 1600 * h.sg + 99) / 100)) ∧
        ∀ j : Fin 32, j ≠ ls → t.runOf j.val = s.runOf j.val))

/-- 09 R212, R213: at D1, 300 µs after the boundary, the entries of every channel slot whose results have not landed become void; at D2,
750 µs after it, so does each channel that awaits an update and has none. Each happens once an epoch. -/
def Obligations.DeadlinesVoidWhatIsLate : Prop :=
  ∀ s : State, s.fabricUp = true → s.fab.swap = none →
    (s.fab.d1At = some s.ms → exec .evD1Deadline s = .next s) ∧
    (s.fab.d2At = some s.ms → exec .evD2Deadline s = .next s) ∧
    (s.fab.d1At ≠ some s.ms → Gives .evD1Deadline s (fun t => t.fab.d1At = some s.ms ∧ t.ms = s.ms ∧
      t.clk.tick = max s.clk.tick (81840 * s.ms + 24552) ∧
      ∀ (p : Plan) (c : ChanSlot), s.fab.active = some p → c ∈ p.chans → c.lst < p.nlst → c.cnum < 384 → (s.chan c.cnum).landed ≠ some s.ms →
        (t.chan c.cnum).voided = true ∧ (vgetD (t.chan c.cnum).entry (s.ms % 2) {}).void = true ∧
        (vgetD (t.chan c.cnum).entry (s.ms % 2) {}).valid = false)) ∧
    (s.fab.d2At ≠ some s.ms → Gives .evD2Deadline s (fun t => t.fab.d2At = some s.ms ∧ t.ms = s.ms ∧
      t.clk.tick = max s.clk.tick (81840 * s.ms + 61380) ∧
      ∀ (p : Plan) (c : ChanSlot), s.fab.active = some p → c ∈ p.chans → c.ldep < p.nldep → c.cnum < 384 →
        (s.chan c.cnum).setNow.on = true → (vgetD (s.chan c.cnum).entry (s.ms % 2) {}).valid = true → (s.chan c.cnum).staged = none →
        (t.chan c.cnum).voided = true))

/-- 09 R223, 16 R405, 22 R524, 08 R199: the copy of a deputy substitution is complete, and line 2 tells both deputies; a deep test ends after 2 s for a stope and 1 s for a deputy: a
unit that passes is in reserve and no longer suspect, one that fails is retired; the checks of a plan slot end with its verified state. -/
def Obligations.CopiesTestsAndChecksComplete : Prop :=
  (∀ s : State, (s.fab.dpSub = none → exec .evDeputyCopyComplete s = .next s) ∧
    (∀ u, s.fab.dpSub = some u →
      let old := vgetD s.fab.ldMap u.ld 99
      old ≠ u.phys → Gives .evDeputyCopyComplete s (fun t =>
        (∀ j : Fin 19, t.cor.core[j] = if j.val = old ∨ j.val = u.phys then (s.cor.core[j]).signal 2 else s.cor.core[j]) ∧
        t = { s with fab := { s.fab with dpSub := some { u with copied := true } }, cor := t.cor }))) ∧
  (∀ (n : Fin 18) (m : Fin 36) (matched : Bool) (frep : Nat) (a : Activity) (s : State), NoQueue s →
    s.fab.acts.find? (fun a => a.code == 6) = some a →
    (s.fab.testing = some (1, n.val) →
      (s.ms < a.startMs + 1000 → exec (.evDeepTestComplete matched frep) s = .next s) ∧
      (a.startMs + 1000 ≤ s.ms → Gives (.evDeepTestComplete matched frep) s (fun t => t.fab.testing = none ∧
        (let pass := matched = true ∧ 840 ≤ frep
         t.fab.dpTest[n] = (if pass then 1 else 2) ∧ (pass → n.val ∉ t.fab.dpSuspect ∧ t.fab.dpRetired = s.fab.dpRetired) ∧
          (¬ pass → t.fab.dpRetired = s.fab.dpRetired ++ [n.val]))))) ∧
    (s.fab.testing = some (0, m.val) →
      (s.ms < a.startMs + 2000 → exec (.evDeepTestComplete matched frep) s = .next s) ∧
      (a.startMs + 2000 ≤ s.ms → Gives (.evDeepTestComplete matched frep) s (fun t => t.fab.testing = none ∧
        (t.clk.isl[m.val]'(by omega)).frep = frep ∧
        (let pass := matched = true ∧ s.testClock ≤ 100 * frep
         t.fab.stTest[m] = (if pass then 1 else 2) ∧ (pass → m.val ∉ t.fab.stSuspect ∧ t.fab.stRetired = s.fab.stRetired) ∧
          (¬ pass → t.fab.stRetired = s.fab.stRetired ++ [m.val])))))) ∧
  (∀ (sid seq : Nat) (k : Fin 3) (s : State), s.boo.planVerify = some (sid, seq, k.val) →
    Gives .evPlanVerifyResult s (fun t => t.boo.planVerify = none ∧
      ((s.planChecks (imageOf (s.slot k.val).image)).isSome = true → t.fab = s.fab) ∧
      (s.planChecks (imageOf (s.slot k.val).image) = none →
        (t.slot k.val).verified = true ∧ (t.slot k.val).plan = some (planOf (imageOf (s.slot k.val).image)) ∧
        (t.slot k.val).image = (s.slot k.val).image)))

/-! ### Assay, interference, channels, acquisition -/

/-- 05 R105, R106, R109, R111, R120: epochs whose `AHOLD` has passed are folded. Without observations every uncertainty grows, the phase's by 0.5°/s and
the delay's by 0.2 ps/s, and the values stay. Of one epoch's observations an element-band takes the estimator's values where the condition holds, and the
delays of a site sum to zero. A generation is published every `AGEN` epochs for the boundary three ms on; the table is saved every 600 s. -/
def Obligations.AssayFoldsPublishesAndSaves : Prop :=
  (∀ s : State,
    let a := s.arr.assay
    let limit := s.ms - 1000 * a.params.ahold + 1
    let due := a.held.filter (fun h => decide (h.epoch < limit))
    (s.ms < 1000 * a.params.ahold ∨ s.fabricUp = false → exec (.evAssayFold ()) s = .next s) ∧
    (1000 * a.params.ahold ≤ s.ms → s.fabricUp = true →
      (due = [] → ∀ f : Nat, a.foldedTo = some f → f < limit → Gives (.evAssayFold ()) s (fun t =>
        t.arr.assay.foldedTo = some limit ∧ t.arr.assay.held = a.held ∧
        ∀ (n : Fin 96) (b : Band),
          (t.eb n.val b).dly = (s.eb n.val b).dly ∧ (t.eb n.val b).ph = (s.eb n.val b).ph ∧ (t.eb n.val b).gain = (s.eb n.val b).gain ∧
          (t.eb n.val b).sigPh = min 255 ((s.eb n.val b).sigPh + ((s.work n.val b).phHeld + (limit - f)) / 500) ∧
          (t.eb n.val b).sigDly = min 65535 ((s.eb n.val b).sigDly + ((s.work n.val b).dlyHeld + (limit - f)) / 50))) ∧
      (due ≠ [] → (∀ h ∈ due, h.epoch + 1 = limit ∧ h.sign.isSome = true ∧ h.extra = false) → a.foldedTo = some (limit - 1) →
        let est := Config.estimator a.est a.table due
        Gives (.evAssayFold ()) s (fun t => t.arr.assay.foldedTo = some limit ∧ t.arr.assay.est = est ∧
          t.arr.assay.held = a.held.filter (fun h => !decide (h.epoch < limit)) ∧
          (∀ (n : Fin 96) (b : Band), s.frozen (s.siteOf n.val) b = false → obsOf due n.val b ≠ [] →
            (t.eb n.val b).gain = (Config.estimate est (.gain n.val b)).1 ∧
            (t.eb n.val b).sigPh = min 255 (Config.estimate est (.phase n.val b)).2 ∧
            (spanTen (obsOf due n.val b) = true → (t.eb n.val b).sigDly = min 65535 (Config.estimate est (.delay n.val b)).2)) ∧
          ∀ (site : Fin 12) (b : Band), t.meanDelay site.val b = 0)))) ∧
  (∀ s : State,
    let a := s.arr.assay
    (a.sinceGen < a.params.agen → exec .evCalGeneration s = .next s) ∧
    (a.params.agen ≤ a.sinceGen → Gives .evCalGeneration s (fun t => t.arr.assay.sinceGen = 0 ∧ t.arr.assay.table = a.table ∧
      ∃ g : CalGen, t.arr.assay.pendingGen = a.pendingGen ++ [g] ∧ g.commit = s.ms + 3 ∧ g.table = a.table ∧ g.writes.length = 96 ∧
        (a.pendingGen = [] → g.num = a.table.ctGen + 1))) ∧
    (a.lastSave + 600000 ≤ s.upMs → s.boo.dstate = .run → exec .evCalTableSave s =
      .next { s with arr := { s.arr with assay := { a with stored := some a.table, lastSave := s.upMs } } }) ∧
    (s.upMs < a.lastSave + 600000 → exec .evCalTableSave s = .next s))

/-- 05 R114, R122, 04 R92, R94: an element-band that `QMAX` leaves unadmitted is rejected with its cause; a sweep ends after `SWEEP_T`, and a site whose
fresh solution differs is told to leave group 0, while the running table stays; a survey of a site and band runs when due, falls due again after `NREF`
epochs, and leaves at most 8 nulls at the site and `NULL_LIMIT` in the band. -/
def Obligations.QuarantineSweepAndSurvey : Prop :=
  (∀ (el : Fin 96) (b : Band) (s : State),
    let n := el.val
    (s.eb n b).ebstate = 1 → (s.work n b).rejected = false →
    ((s.work n b).qclock ≤ 1000 * s.arr.assay.params.qmax → exec (.evQuarantineExpiry el b) s = .next s) ∧
    (1000 * s.arr.assay.params.qmax < (s.work n b).qclock → (s.admitConds n b).all (·) = false →
      Gives (.evQuarantineExpiry el b) s (fun t => (t.work n b).rejected = true ∧ (t.eb n b).ebstate = 1 ∧
        (t.eb n b).cause = s.rejectCause n b ∧ ∀ (m : Nat) (c : Band), m ≠ n → t.eb m c = s.eb m c))) ∧
  (∀ (t0 : Nat) (s : State), NoQueue s → s.arr.assay.sweep = some t0 →
    (s.ms < t0 + 1000 * s.arr.assay.params.sweepT → exec (.evSweepEnd ()) s = .next s) ∧
    (t0 + 1000 * s.arr.assay.params.sweepT ≤ s.ms → Gives (.evSweepEnd ()) s (fun t =>
      t.arr.assay.sweep = none ∧ t.arr.assay.table = s.arr.assay.table ∧
      ∀ f ∈ s.sweepFresh, (s.siteEntry f.site).differs f = true →
        f ∈ t.arr.assay.sweepDiff ∧ (vgetD s.arr.assay.conflict f.site false = false → t.scause f.site = 3) ∧
        ∀ b : Band, vgetD (t.cohOf b).leave f.site false = true))) ∧
  (∀ s : State, s.arr.assay.sweep = none → exec (.evSweepEnd ()) s = .next s) ∧
  (∀ (site : Fin 12) (b : Band) (s : State),
    ((s.nullSite site.val b).due ≠ 0 → exec (.evInterferenceSurvey site b ()) s = .next s) ∧
    ((s.nullSite site.val b).due = 0 → Gives (.evInterferenceSurvey site b ()) s (fun t =>
      (t.nullSite site.val b).due = s.arr.nullParams.nref ∧ (t.nullSite site.val b).nulls.length ≤ 8 ∧
      (((List.range 12).map (fun i => (t.nullSite i b).nulls.length)).foldl (· + ·) 0) ≤ s.arr.nullParams.limit ∧
      (∀ (j : Nat) (c : Band), c ≠ b → t.nullSite j c = s.nullSite j c) ∧ ∀ (j : Nat), j ≠ site.val → (t.nullSite j b).due = (s.nullSite j b).due)))

/-- 06 R128, R146, channel states: the timeouts of `PULLIN` and `COAST`; every 10 s the code library's CRC is checked, and a copy that fails it is
reloaded while the entries that drew on it become void. -/
def Obligations.ChannelTimeoutsAndTheCodeLibrary : Prop :=
  (∀ (ch : Fin 384) (s : State),
    let c := s.chan ch.val
    let c1 : ChanState := { c with st := .lost, cage := 0, dwellHigh := 0, dwellLow := 0, dwellUnlock := 0, codeErrs := [] }
    let lost : State := { s with trk := { s.trk with ch := s.trk.ch.set ch c1 } }
    (c.st = .pullin → 2000 ≤ c.cage → exec (.evPullinTimeout ch) s = .next lost) ∧
    (c.st = .pullin → c.cage < 2000 → exec (.evPullinTimeout ch) s = .next s) ∧
    (c.st = .coast → c.loop.coastT ≤ c.cage → exec (.evCoastTimeout ch) s = .next lost) ∧
    (c.st = .coast → c.cage < c.loop.coastT → exec (.evCoastTimeout ch) s = .next s)) ∧
  (∀ (flips : List (Nat × Byte)) (s : State),
    let bad := upset s.trk.library flips
    (s.ms < s.trk.libChecked + 10000 ∨ s.awake = false →
      exec (.evCodeLibraryCheck flips) s = .next { s with trk := { s.trk with library := bad } }) ∧
    (s.trk.libChecked + 10000 ≤ s.ms → s.awake = true →
      (libraryCrc bad = libraryCrc [] → exec (.evCodeLibraryCheck flips) s =
        .next { s with trk := { s.trk with library := bad, libChecked := s.ms } }) ∧
      (libraryCrc bad ≠ libraryCrc [] → Gives (.evCodeLibraryCheck flips) s (fun t => t.trk.library = [] ∧ t.trk.libChecked = s.ms ∧
        ∀ ch : Fin 384, (s.trk.ch[ch].drewLibrary = false → t.trk.ch[ch] = s.trk.ch[ch]) ∧
          (s.trk.ch[ch].drewLibrary = true → t.trk.ch[ch].voided = true ∧ ∀ b : Fin 2, t.trk.ch[ch].entry[b].void = true ∧
            t.trk.ch[ch].entry[b].valid = false)))))

/-- 16 R418, 06 R138–R141: from the D1 tick a deputy works the dump of a local slot: the record carries the phase error of the coherent sum, the averages
and the rates in force, its 16 words stand in the deputy's data memory, and the filter's rates are committed in time. -/
def Obligations.DeputyLoopUpdateCommitsTheFilter : Prop :=
  ∀ (ld : Fin 16) (phys : Fin 18) (slot : Fin 32) (ch : Fin 384) (ty : SigType) (s : State),
    let c := s.chan ch.val
    let e := vgetD c.entry (s.ms % 2) {}
    let core : Fin 19 := ⟨phys.val, by omega⟩
    s.fabricUp = true → s.fab.active ≠ none → s.clk.tick % 81840 ≤ 24552 → vgetD s.fab.ldMap ld.val 0 = phys.val →
    s.cor.core[core].lockup = false → s.cor.core[core].memOk = true →
    (∀ i : Fin 32, s.chanAt phys.val i.val = if i = slot then some ch.val else none) →
    typeOf c.sigid = some ty → c.st = .pullin → c.setNow.on = true → c.before.on = true → e.valid = true → e.void = false → e.nodump = false →
    c.voided = false → c.kernelOld = none →
    Gives (.evDeputyLoopUpdate ld ()) s (fun t =>
      let d := t.chan ch.val
      t.clk.tick = 81840 * s.ms + 24552 ∧ t.fab.reduced[ld] = true ∧ (∀ j : Nat, j ≠ ch.val → t.chan j = s.chan j) ∧
      d.loops.figs = ({ prompt := e.armSum 0, noise := e.noise c.before.arms } :: c.loops.figs).take 100 ∧
      d.disc.cn0 = d.loops.cn0 ∧ d.disc.lock = d.loops.lock e.dumpseq ∧ d.disc.dph = phaseError (c.before.costas ty) e.dumpseq d.loops.sum ∧
      d.disc.crateIn = c.nco.crate ∧ d.disc.krateIn = c.nco.krate ∧ d.upd.pending = true ∧ d.upd.late = false ∧
      d.staged.map (fun u => (u.crate, u.krate)) = d.loops.out.map (fun r => (r.1 % 2 ^ 48, r.2 % 2 ^ 48)) ∧
      ∀ j : Fin 16, sread 0 t.cor.core[core].dmem (0x4000 + 16 * slot.val + j.val) = d.disc.words.getD j.val 0)

/-- 07 R162, R163, R165, R167–R171: the first search that has searched all its cells leaves the slots: without a detection the result that it was to
refresh expires, and what it detected becomes a candidate; a candidate is confirmed by a detection of its confirming search or discarded (what a search
detects rests on the codes of the signals' own documents: log 49); the background search falls due every `BG_PERIOD`; ephemerides are saved every 600 s. -/
def Obligations.SearchesConfirmationsAndSaves : Prop :=
  (∀ s : State, (∀ j ∈ s.trk.acq.jobs, j.complete = false ∨ j.x.cand.isSome = true) → exec (.evSearchComplete ()) s = .next s) ∧
  (∀ s : State, (∀ j ∈ s.trk.acq.jobs, j.complete = false ∨ j.x.cand = none) → exec (.evConfirmation () ()) s = .next s) ∧
  (∀ (j : SearchJob) (s : State), s.trk.acq.jobs.find? (fun k => k.complete && k.x.cand.isNone) = some j → j.live = true →
    let left := s.trk.acq.jobs.filter (fun k => k.slot != j.slot)
    Gives (.evSearchComplete ()) s (fun t => t.trk.acq.jobs = left ∧
      (s.detections j = [] → t = { s with trk := { s.trk with acq := { s.trk.acq with
        jobs := left, results := s.trk.acq.results.map (fun r => if j.x.refreshes = some r.acqid then { r with expired := true } else r) } } }) ∧
      ∀ d : Detection, s.detections j = [d] → s.stronger [d] d = none → s.trackers d.sigid d.glok = [] →
        (j.x.mode ≠ 2 → t.trk.acq.results = s.trk.acq.results ∧
          ∃ c : Candidate, t.trk.acq.cands = s.trk.acq.cands ++ [c] ∧ c.sigid = d.sigid ∧ c.glok = d.glok ∧ c.code = d.code ∧ c.dopp = d.dopp ∧
            c.cn0 = d.cn0 ∧ c.atMs = s.ms ∧ c.mode = j.x.mode ∧ c.suspect = false) ∧
        (j.x.mode = 2 → t.trk.acq.cands = s.trk.acq.cands ∧
          ∃ r ∈ t.trk.acq.results, r.sigid = d.sigid ∧ r.glok = d.glok ∧ r.code = d.code ∧ r.amode = 2 ∧ r.confirmed = false ∧
            r.acqid = s.trk.acq.nextId))) ∧
  (∀ (j : SearchJob) (c : Candidate) (s : State), s.trk.acq.jobs.find? (fun k => k.complete && k.x.cand.isSome) = some j → j.live = true →
    s.trk.acq.cands.find? (fun x => j.x.cand == some x.id) = some c →
    let left := s.trk.acq.jobs.filter (fun k => k.slot != j.slot)
    let rest := s.trk.acq.cands.filter (fun x => x.id != c.id)
    Gives (.evConfirmation () ()) s (fun t => t.trk.acq.jobs = left ∧ t.trk.acq.cands = rest ∧
      (s.detections j = [] → t = { s with trk := { s.trk with acq := { s.trk.acq with
        jobs := left, cands := rest
        results := s.trk.acq.results.map (fun r => if c.refreshes = some r.acqid then { r with expired := true } else r) } } }) ∧
      ∀ d : Detection, s.detections j = [d] → c.suspect = false → s.trackers d.sigid d.glok = [] →
        ∃ r ∈ t.trk.acq.results, r.sigid = d.sigid ∧ r.glok = d.glok ∧ r.confirmed = true ∧ r.code = d.code ∧ r.acqid = s.trk.acq.nextId)) ∧
  (∀ s : State, s.boo.dstate = .run →
    (s.trk.acq.lastBg + 1000 * s.trk.acq.params.bgPeriod ≤ s.ms → Gives .evBackgroundColdSearch s (fun t => t.trk.acq.lastBg = s.ms ∧
      t.trk.acq.results = s.trk.acq.results ∧ ∀ x ∈ t.trk.acq.queue, x ∈ s.trk.acq.queue ∨ x.cls = 5)) ∧
    (s.ms < s.trk.acq.lastBg + 1000 * s.trk.acq.params.bgPeriod → exec .evBackgroundColdSearch s = .next s) ∧
    (s.trk.acq.lastSave + 600000 ≤ s.upMs → exec .evEphemerisSave s = .next { s with trk := { s.trk with acq := { s.trk.acq with
      ephFlash := s.trk.acq.eph, almFlash := s.trk.acq.alm, lastSave := s.upMs } } }) ∧
    (s.upMs < s.trk.acq.lastSave + 600000 → exec .evEphemerisSave s = .next s))

/-- 01 R18, 10 R239, R243, R247, R248, R254, 17 R433, 23 R546: boundaries come in every power state that keeps TCNT, signal line 0 of every core, and in
RUN the changeover follows the commit order; solutions, records and NMEA groups come once in their periods; a suspicion ends when it is over. -/
def Obligations.BoundariesSolutionsAndRecords : Prop :=
  (∀ s : State,
    (s.pow.pst = .backup ∨ s.held = true ∨ s.clk.runs = false → exec .evEpochBoundary s = .next s) ∧
    (s.held = false → s.clk.runs = true → s.pow.pst = .retain ∨ s.pow.pst = .lamp → Gives .evEpochBoundary s (fun t =>
      t = s.waitTo 81840 ∧ t.clk.tick = 81840 * (s.ms + 1) ∧ t.clk.bnd = s.clk.bnd)) ∧
    (s.mainUp = true → s.clk.runs = true → s.boo.dstate ≠ .run ∨ s.pow.pst = .idle → Gives .evEpochBoundary s (fun t =>
      t.clk.tick = 81840 * (s.ms + 1) ∧ t.clk.bnd = t.clk.tick ∧ (s.boo.dstate = .hold → t.ses.accepted = []) ∧ t.fab.active = s.fab.active ∧
      ∀ k : Fin 19, t.cor.core[k] = (s.cor.core[k]).signal 0)) ∧
    (s.mainUp = true → s.clk.runs = true → s.awake = true →
      let w := s.takeObs.waitTo 81840
      let b : State := { w with clk := { w.clk with bnd := w.clk.tick }, cor := { w.cor with core := w.cor.core.map (CoreState.signal 0) } }
      let closed := b.closeEpoch.tellSlips.ungate.startRemedies.d2Reports.stepNulls
      let left := (if closed.stepping then closed else closed.liveParams).membership
      let served := left.stopeStage.deputyStage
      let planned := State.deferDropped served served.rearm.swapStage
      let tracked := (State.tracking4 planned planned).adits5.fillBuckets
      let tenants := if tracked.stepping then tracked else tracked.commitTenants.liveCommit
      let done := tenants.commitParams.time7.overmanWork
      exec .evEpochBoundary s = .next (if done.massReset then done.coreReset rcDeadline else done.epochStep State.quietBoundary))) ∧
  (∀ s : State,
    (s.awake = true → s.ms % s.sol.solP.solInt = 0 → s.sol.solAt ≠ some s.ms → Gives (.evSolution ()) s (fun t =>
      let r := t.sol.rec_
      t.sol.solAt = some s.ms ∧ r.tm = s.ms ∧ r.smode = s.sol.smode ∧ r.holdover = s.sol.holdover ∧ r.utcValid = s.utcSource.isSome ∧
      (s.sol.holdover = false → r.valid = true → t.syn.targets = s.syn.targets ++ [(s.ms + 2,
        clampI (Int.neg yLimit) yLimit (Int.neg (quotI (r.ferr * 2 ^ 48) (10 ^ 13))), Int.neg (1000 * r.terr + quotI (2 * r.ferr) 10))]) ∧
      (s.sol.holdover = true ∨ r.valid = false → t.syn.targets = s.syn.targets))) ∧
    (s.sol.solAt = some s.ms → exec (.evSolution ()) s = .next s) ∧ (s.ms % s.sol.solP.solInt ≠ 0 → exec (.evSolution ()) s = .next s)) ∧
  (∀ (i : Nat) (s : State),
    (∀ x : Suspicion, s.sol.susp[i]? = some x →
      (s.suspicionOver x = true → Gives (.evSuspicionExpiry i) s (fun t => t.sol.susp = s.sol.susp.filter (fun y => !y.same x) ∧
        t.sol.ended.head? = some (x, s.ms))) ∧
      (s.suspicionOver x = false → exec (.evSuspicionExpiry i) s = .next s)) ∧
    (s.sol.susp[i]? = none → exec (.evSuspicionExpiry i) s = .next s)) ∧
  (∀ s : State, s.awake = true →
    let w := s.waitTo 61380
    (s.sol.measAt = some s.ms → exec .evMeasurementRecord s = .next s) ∧
    (s.sol.measAt ≠ some s.ms → Gives .evMeasurementRecord s (fun t =>
      t.sol = { s.sol with obs := w.observe, measAt := some s.ms } ∧ t.clk = w.clk ∧
      ∀ x : StreamState, s.por.streams = [x] → x.kind = 0 → x.draining = false →
        let data := State.measRecord { w with sol := { w.sol with obs := w.observe, measAt := some s.ms } } x
        t.por.streams = [{ x with q := x.q ++ packetsOf s.ms (w.dueUp x.cls) data }])) ∧
    (s.sol.lastRtcm = s.ms ∨ s.ms % s.sol.rtcmP.int ≠ 0 → exec .evRtcmEpoch s = .next s) ∧
    (s.ms % s.sol.rtcmP.int = 0 → s.sol.lastRtcm ≠ s.ms → Gives .evRtcmEpoch s (fun t =>
      t.sol = { s.sol with obs := w.observe, lastRtcm := s.ms } ∧ t.clk = w.clk ∧ t.por.streams.length = s.por.streams.length)) ∧
    (s.ms / 1000 = s.sol.lastNmea ∨ s.ms % 1000 < 20 ∨ 30 ≤ s.ms % 1000 → exec .evNmeaGroup s = .next s) ∧
    (s.ms / 1000 ≠ s.sol.lastNmea → 20 ≤ s.ms % 1000 → s.ms % 1000 < 30 → Gives .evNmeaGroup s (fun t =>
      t.sol = { s.sol with lastNmea := s.ms / 1000 } ∧ ∃ group, ∀ u : Fin 4,
        (s.por.uart[u].par.umode ≠ 0 → s.por.uart[u].par.ufunc = 1 → t.por.uart[u] = { s.por.uart[u] with txq := s.por.uart[u].txq ++ group }) ∧
        (s.por.uart[u].par.ufunc ≠ 1 → t.por.uart[u] = s.por.uart[u]))))

/-! ### Timing ports -/

/-- 11 R271, R274–R280, R284–R286, R289, 23 R546: what the events of the timing ports and the synthesizers do, on the port or bank that they concern;
TCNT counts from the first lock on. -/
def Obligations.PortsStartMeasureAndCoast : Prop :=
  (∀ (n : Fin 32) (s : State),
    let x := s.port n
    (∀ sec : Nat, x.startAt = some sec → x.pstate = .starting → sec * 10 ^ 12 + s.scaleOff x.cfg ≤ s.edgePs x + 12219 →
      Gives (.evPortStart n) s (fun t => (t.port n).pstate = .running ∧ (t.port n).startAt = none ∧ (t.port n).cfg = x.cfg ∧
        (x.cfg.pmode ≠ 3 → (t.port n).level = true) ∧ SamePorts n s t)) ∧
    (x.startAt = none → exec (.evPortStart n) s = .next s) ∧
    (x.pstate = .running → x.cfg.pmode = 1 ∨ x.cfg.pmode = 2 →
      (x.level = true → s.edgePs x + 12219 < x.offAt → exec (.evPortEdge n) s = .next s) ∧
      (x.level = true → x.offAt ≤ s.edgePs x + 12219 → x.stopTo = none →
        exec (.evPortEdge n) s = .next (s.mapPort n (fun y => { y with level := false }))) ∧
      (x.level = false → (∀ l, x.lastEdge = some l → (l.1 : Int) < s.activeEdge x) → x.dStep = none → Gives (.evPortEdge n) s (fun t =>
        (t.port n).level = true ∧ (t.port n).lastEdge = some ((s.activeEdge x).toNat, x.instant (s.activeEdge x)) ∧ (t.port n).d = x.d ∧
        SamePorts n s t))) ∧
    (x.pstate = .off → exec (.evPortEdge n) s = .next s) ∧
    (∀ (l : List Nat) (rt : Nat), x.burst = some l → l.length < 256 → s.bankCoasts n = false →
      exec (.evEcho n rt) s = .next (s.mapPort n (fun y => { y with burst := some (rt :: l) }))) ∧
    (∀ rt : Nat, x.burst = none → x.cfg.rmode = 0 → exec (.evEcho n rt) s = .next s) ∧
    (∀ rt m v : Nat, x.burst = none → x.cfg.rmode = 1 → x.pstate = .running → s.bankCoasts n = false → x.lastEcho ≠ some s.ms →
      s.unwrap x.cfg rt = some (v : Int) → x.echoFault = false → x.rtt = some m → ((v : Int) - m).natAbs ≤ s.syn.params.echoWin →
      Gives (.evEcho n rt) s (fun t => (t.port n).echoes = (v :: x.echoes).take x.cfg.echoN ∧ (t.port n).missRun = 0 ∧
        (t.port n).rtt = x.rtt ∧ SamePorts n s t)) ∧
    (x.cfg.rmode = 1 → x.pstate = .running → s.bankCoasts n = false →
      (x.missRun + 1 < s.syn.params.echoLoss → Gives (.evEchoMissing n) s (fun t => (t.port n).missRun = x.missRun + 1 ∧
        (t.port n).echoFault = x.echoFault ∧ SamePorts n s t)) ∧
      (s.syn.params.echoLoss ≤ x.missRun + 1 → Gives (.evEchoMissing n) s (fun t => (t.port n).echoFault = true ∧ (t.port n).dfwd = x.dfwd ∧
        SamePorts n s t)) ∧
      (x.cfg.pmode = 2 → ∀ active : Bool, Gives (.evReturnStuck n active) s (fun t => (t.port n).echoFault = true ∧ (t.port n).dfwd = x.dfwd))) ∧
    (x.burst = none → exec (.evPortCalResult n) s = .next s) ∧
    (∀ l : List Nat, x.burst = some l → x.cfg.rmode = 1 →
      let ok := within s.syn.params.echoWin (medianNat l) l
      (16 ≤ ok.length → Gives (.evPortCalResult n) s (fun t => (t.port n).rtt = some (meanNat ok) ∧ (t.port n).pstate = .off ∧
        (t.port n).burst = none ∧ (t.port n).uncal = false ∧ (t.port n).dfwd = x.cfg.forward (meanNat ok) ∧ SamePorts n s t)) ∧
      (ok.length < 16 → Gives (.evPortCalResult n) s (fun t => (t.port n).rtt = x.rtt ∧ (t.port n).pstate = .off ∧ (t.port n).burst = none ∧
        SamePorts n s t))) ∧
    (x.cfg.pmode = 3 → x.pstate = .running → x.lastEdge = none → s.todSecond x * 10 ^ 12 + s.scaleOff x.cfg + 10 ^ 9 * x.cfg.todoff ≤ s.edgePs x →
      Gives (.evTodMessage n) s (fun t => t.syn.todOut = s.syn.todOut ++ [(n.val, s.todMessage n (s.todSecond x) x.cfg.todf)] ∧
        (t.port n).tseq = (x.tseq + 1) % 65536 ∧ SamePorts n s t)) ∧
    (x.cfg.pmode ≠ 3 → exec (.evTodMessage n) s = .next s)) ∧
  (∀ (paths skews : List Int) (s : State), paths.length = 32 → skews.length = 4 → s.syn.pathAt = none → Gives (.evPathCalibration paths skews) s (fun t =>
    t.syn.pathAt = some s.upMs ∧ (∀ n : Fin 32, (t.syn.ports[n]).path = paths.getD n 0) ∧ ∀ k : Fin 4, t.syn.skew[k] = skews.getD k 0)) ∧
  (∀ s : State,
    (s.syn.refValid = true → Gives .evRefLoss s (fun t => t.syn.refValid = false ∧ t.syn.synA = .coasting ∧ (∀ k : Fin 4, t.syn.bank[k] = .coasting) ∧
      ∀ n : Fin 32, (s.port n).pstate = .running → (t.port n).pstate = (if n.val < 4 then .coasting else .gated) ∨ (t.port n).stopTo = some .gated)) ∧
    (s.syn.refValid = false → exec .evRefLoss s = .next s) ∧
    (s.syn.refValid = false → Gives .evRefRestore s (fun t => t.syn.refValid = true ∧ t.syn.synA = .locked ∧ (∀ k : Fin 4, t.syn.bank[k] = .locked) ∧
      t.clk.runs = true ∧ (s.clk.runs = true → t.clk = s.clk) ∧ ∀ n : Fin 32, (t.port n).pstate ≠ .coasting)) ∧
    (s.syn.refValid = true → exec .evRefRestore s = .next s) ∧
    (∀ k : Fin 4, s.syn.refValid = true → s.syn.bank[k] = .locked → Gives (.evSynUnlock k.succ) s (fun t => t.syn.bank[k] = .coasting ∧
      t.syn.synA = s.syn.synA ∧ ∀ j : Fin 4, j ≠ k → t.syn.bank[j] = s.syn.bank[j])) ∧
    (∀ k : Fin 4, s.syn.refValid = true → s.syn.bank[k] = .coasting → Gives (.evSynRelock k.succ) s (fun t => t.syn.bank[k] = .locked ∧
      t.syn.synA = s.syn.synA ∧ ∀ j : Fin 4, j ≠ k → t.syn.bank[j] = s.syn.bank[j])) ∧
    (s.syn.refLostAt = none → exec .evRefCoastExpiry s = .next s) ∧
    (∀ at_ : Nat, s.syn.refLostAt = some at_ → at_ + s.syn.params.refCoast ≤ s.upMs → Gives .evRefCoastExpiry s (fun t =>
      ∀ n : Fin 32, (n.val < 4 → (s.port n).pstate = .coasting → (t.port n).pstate = .gated ∨ (t.port n).stopTo = some .gated) ∧
        (4 ≤ n.val → t.port n = s.port n))))

/-! ### Commands -/

/-- 12 R309, R323, R326 and 12 R319: the session commands: who may send them, what they answer, what they change. -/
def Obligations.SessionCommandsAnswer : Prop :=
  Reads .cmdPing { op := 0x0003, roles := Anybody, len := fun b => b.length ≤ 64, hold := true, idle := true, gcp1 := true }
    (fun r u => b64 u.tcnt ++ r.pay) ∧
  Reads .cmdSessList { op := 0x0004, roles := Users, hold := true, idle := true }
    (fun r u =>
      let l := u.ses.open_.filter (fun x => r.role != 1 || (x.role == 1 && x.tenant == r.x.tenant))
      b16 l.length ++ bz 2 ++ (l.map (Session.entry u.upMs)).flatten) ∧
  Sets .cmdEvtSubscribe { op := 0x0005, roles := Users, len := Long 8, hold := true, idle := true, gcp1 := true }
    (fun r u => u.mapSession r.x.sid (fun x => { x with evsev := u8At r.pay 0, evgrp := u32At r.pay 4 }))
    (fun r _ => u8At r.pay 0 ≤ 3 ∧ Clear r 1 3 ∧ u32At r.pay 4 &&& 0x7FFFF000 = 0) ∧
  Reads .cmdEvtRead { op := 0x0006, roles := Users, len := Long 4, hold := true, idle := true }
    (fun r u =>
      let l := u.ses.reports.filter (fun e => decide (u32At r.pay 0 ≤ e.eseq) && r.x.maySee e)
      let f := fitting 1400 (l.map (fun e => reportPayload e r.x.gcp1))
      b16 f.length ++ bz 2 ++ f.flatten) ∧
  SetsTable .cmdSessParams { op := 0x8000, roles := Users, hold := true, idle := true } sessRows (fun r _ => r.scope = 0xFFFF)
    (fun r _ => r.x) (fun r _ u => u.mapSession r.x.sid (fun y => parApply sessRows r.pars y)) ∧
  Answers .cmdBye { op := 0x0002, roles := Anybody, hold := true, idle := true, gcp1 := true } (fun _ _ => True)
      (fun r u a t => a = .ok [] ∧ t.session r.x.sid = none ∧ ∀ id : Nat, id ≠ r.x.sid → t.session id = u.session id) ∧
  -- `HELLO` opens a session with an id of its own; an address that is locked out and a range without a common version are turned away.
  (∀ (p : Packet) (s : State), s.carries p.transport = true → p.malformed 0 = false → p.authFlag = false → p.sid = 0 → 4 ≤ p.body.length →
    let b := p.body
    let rt := s.helloRole p.transport (u8At b 6) (u8At b 4) (u8At b 5)
    let v := negotiate (256 * u8At b 0 + u8At b 1) (256 * u8At b 2 + u8At b 3)
    let tells (a : Reply) (data : List Byte) (payload : List Byte) : Prop := payload = a.prefix_ ++ data
    (s.lockedOut p.transport p.source = true → ∃ payload, tells { status := 0x0203, detail := 4 } [] payload ∧
      exec (.cmdHello p) s = .next ((s.unqueue 0 p).send (p.answer 0 p.vmaj p.vmin 0 false payload))) ∧
    (s.lockedOut p.transport p.source = false → v = none → ∃ payload, tells (.fail 0x0104) [1, 0, 3, BitVec.ofNat 8 Config.gcpMinor] payload ∧
      exec (.cmdHello p) s = .next ((s.unqueue 0 p).send (p.answer 0 p.vmaj p.vmin 0 false payload))) ∧
    (∀ w, s.lockedOut p.transport p.source = false → v = some w → b.length = 40 → p.overlong = false → u8At b 4 ≤ 3 →
      (u8At b 4 = 1 → u8At b 5 ≤ 7) → (u8At b 4 ≠ 1 → u8At b 5 = 0xFF) → u8At b 6 ≤ 3 → u8At b 7 = 0 → s.sessionsFull rt.1 rt.2 = false →
      s.tallyRoom = true → Gives (.cmdHello p) s (fun t => ∃ x : Session, t.ses.open_ = s.ses.open_ ++ [x] ∧ (x.role, x.tenant) = rt ∧
        x.authm = u8At b 6 ∧ x.authed = false ∧ 256 * x.vmaj + x.vmin = w ∧ x.lastSeq = p.seq ∧ x.transport = p.transport ∧ x.source = p.source ∧
        x.opened = s.upMs ∧ x.sid ≠ 0 ∧ ∀ y ∈ s.ses.open_, y.sid ≠ x.sid))) ∧
  -- `AUTH` by a secret (12 R304): the proof of the session's key authenticates it, any other closes it.
  (let w : CmdRow := { op := 0x0001, roles := Anybody, len := fun b => b.length = authLen (u8At b 0), hold := true, idle := true, gcp1 := true }
   let asks (r : Req) (u : State) (sec : List Byte) : Prop := r.x.authed = false ∧ r.x.authm = 1 ∧ u8At r.pay 0 = 1 ∧ Clear r 1 3 ∧ r.x.role ≠ 0 ∧
     u.secret r.x.role r.x.tenant = some sec
   let key (r : Req) (sec : List Byte) : List Byte := r.x.keyFrom "GVK1" sec
   Refuses .cmdAuth w ∧
   (∀ sec, Leads .cmdAuth w (fun r u => asks r u sec ∧ r.x.proof "GVH1" (key r sec) = (r.pay.drop 4).take 32 ∧ u.tallyRoom = true)
     (fun r u a t => a = .ok (r.x.proof "GVD1" (key r sec)) ∧
       t.session r.x.sid = (u.session r.x.sid).map (fun y => { y with authed := true, key := some (key r sec), rma := 0 }) ∧
       ∀ id : Nat, id ≠ r.x.sid → t.session id = u.session id)) ∧
   (∀ sec, Leads .cmdAuth w (fun r u => asks r u sec ∧ r.x.proof "GVH1" (key r sec) ≠ (r.pay.drop 4).take 32 ∧ u.tallyRoom = true)
     (fun r u a t => a = { status := 0x0203, detail := 2 } ∧ t.session r.x.sid = none ∧ ∀ id : Nat, id ≠ r.x.sid → t.session id = u.session id)))

/-- 12 R324, R319; 13 R344, R345; 17 R429; 18 R445, R446, R454; 19 R469, R470, R474, R476, R477, R472; 20 R487–R498; 22 R534: the commands of the
device, the tally, the backup domain, the local ports and the health tables. -/
def Obligations.DeviceCommandsAnswer : Prop :=
  Reads .cmdDevInfo { op := 0x0100, roles := Anybody, hold := true, idle := true, gcp1 := true } (fun _ u => u.devInfo) ∧
  Reads .cmdDevState { op := 0x0101, roles := Anybody, hold := true, idle := true, gcp1 := true } (fun _ u => u.devState) ∧
  Sets .cmdDevReset { op := 0x0102, roles := Installer, len := Long 8, hold := true, gcp1 := true }
    (fun r u => { u with pow := { u.pow with delayed := some (u8At r.pay 0, u.clk.up + 81840 * u32At r.pay 4) } })
    (fun r u => (u8At r.pay 0 = 1 ∨ u8At r.pay 0 = 2) ∧ Clear r 1 3 ∧ 10 ≤ u32At r.pay 4 ∧ u32At r.pay 4 ≤ 60000 ∧ u.pow.delayed = none) ∧
  Sets .cmdRstClear { op := 0x0104, roles := Installer, len := Long 2, hold := true }
    (fun r u => { u with pow := { u.pow with rstCause := u.pow.rstCause &&& (0xFFFF - u16At r.pay 0) } }) (fun r _ => u16At r.pay 0 < 0x2000) ∧
  Shows .cmdDevFeatures { op := 0x8100, roles := Installer, hold := true, idle := true } ∧
  Answers .cmdDevPower { op := 0x0103, roles := Installer, 
                         len := fun b => match u8At b 0 with | 1 => Long 4 b | 2 => Long 12 b | 3 => Long 44 b | 4 => Long 8 b | _ => 4 ≤ b.length }
    (fun r u => u.powerBad r.pay = none ∧ u.fab.acts = [])
      (fun r u a t => a = { status := 1, commit := u.nextBoundary } ∧ t.pow.pending = some (targetOf (u8At r.pay 0)) ∧ t.pow.pst = u.pow.pst ∧
        t.fab = u.fab ∧ t.bak = u.bak) true ∧
  Lists .cmdHealthStatus { op := 0x0C00, roles := Users, hold := true, idle := true, gcp1 := true } 156 (fun _ _ => List.range 156) State.islandBytes ∧
  Shows .cmdThermalStatus { op := 0x0C01, roles := Users, idle := true } ∧
  Lists .cmdWearList { op := 0x0C02, roles := Users, idle := true } 314 (fun _ _ => List.range 314) (fun u n => u.wearBytes n) ∧
  Shows .cmdSpareList { op := 0x0C03, roles := Users, idle := true } ∧
  Shows .cmdTimeStatus { op := 0x0B00, roles := Users, idle := true } ∧
  Sets .cmdTickSet { op := 0x0B01, roles := Installer, len := Long 16 }
    (fun r u => (u.setCount (fun x => (u64At r.pay 0 + (crystalEdges x.clk.up - crystalEdges u.clk.up)) % 2 ^ 48)).anchor (u32At r.pay 8))
    (fun r u => u64At r.pay 0 < 2 ^ 48 ∧ Clear r 12 4 ∧ u.bak.aligning = false) ∧
  Sets .cmdTickDst { op := 0x0B02, roles := Installer, len := Long 4 }
    (fun r u => { u with bak := { u.bak with local_ := dstAfter (u8At r.pay 0) u.bak.local_ } })
    (fun r u => (u8At r.pay 0 = 1 ∨ u8At r.pay 0 = 2) ∧ Clear r 1 3 ∧ (dstAfter (u8At r.pay 0) u.bak.local_).natAbs ≤ 2123366400) ∧
  Sets .cmdWakeSet { op := 0x0B03, roles := Installer, len := Long 4 }
    (fun r u => { u with bak := u.bak.write 0x8E (BitVec.ofNat 24 (u8At r.pay 0 + 2 * u8At r.pay 1)) })
    (fun r _ => u8At r.pay 0 ≤ 1 ∧ u8At r.pay 1 ≤ 24 ∧ Clear r 2 2) ∧
  Reads .cmdBramRead { op := 0x0B04, roles := Users, may := fun r _ => r.role ≤ 3 ∧ (r.role = 3 → r.obj = 0), len := Long 8, idle := true
                       ten := fun r _ => r.role = 1 → r.obj = 0x10 + r.x.tenant }
    (fun r u => ((u.bramArea r.obj).drop r.roff).take r.rlen) (fun r _ => bramSize r.obj ≠ 0 ∧ RangeOf (bramSize r.obj) r) ∧
  Sets .cmdBramWrite { op := 0x0B05, roles := Hosts, len := WriteLength, ten := fun r _ => r.role = 1 → r.obj = 0x10 + r.x.tenant }
    (fun r u => { u with bak := { u.bak with
      bram := swrites 0 u.bak.bram ((if r.obj = 1 then 0x400 else 0x800 + 256 * (r.obj - 0x10)) + r.roff) r.rbytes } })
    (fun r _ => r.obj ≠ 0 ∧ bramSize r.obj ≠ 0 ∧ RangeOf (bramSize r.obj) r) ∧
  Sets .cmdChargerSet { op := 0x8B00, roles := Installer, len := Long 4 } (fun r u => { u with bak := { u.bak with chg := u8At r.pay 0 } })
    (fun r _ => u8At r.pay 0 < 32 ∧ u8At r.pay 0 / 2 % 4 ≠ 0 ∧ u8At r.pay 0 / 8 % 4 ≠ 0 ∧ Clear r 1 3) ∧
  Sets .cmdTrimCurve { op := 0x8B01, roles := Installer, len := Long 72 }
    (fun r u => { u with bak := { u.bak with
      curve := curveOf r.pay, trimOff := i32At r.pay 68, curveStore := some (curveOf r.pay, i32At r.pay 68), updates := List.replicate 8 0
      residuals := [], visited := [], learn := none, trimUnc := 2000 } })
    (fun r _ => u8At r.pay 0 = 8 ∧ Clear r 1 3 ∧ ∀ i, i < 8 → Clear r (6 + 8 * i) 2 ∧
      (0 < i → ((curveOf r.pay).getD (i - 1) (0, 0)).1 < ((curveOf r.pay).getD i (0, 0)).1) ∧
      (((curveOf r.pay).getD i (0, 0)).2 + i32At r.pay 68).natAbs ≤ 2 ^ 23) ∧
  Sets .cmdUartStatus { op := 0x1001, roles := Users, may := fun r _ => r.role = 2 ∨ r.arg = 0, idle := true
                        len := fun b => 4 ≤ b.length ∧ b.length = 4 + u16At b 2 }
    (fun r u => u.mapUart r.index (fun x => { x with rxq := x.rxq.drop 1024 }))
    (fun r u => r.index ≤ 3 ∧ r.arg = 0 ∧ (u.uart r.index).txq.length ≤ 2048)
    (fun r u => ({ u.uart r.index with rxq := (u.uart r.index).rxq.drop 1024 }).status ((u.uart r.index).rxq.take 1024)) false ∧
  Answers .cmdUartStatus { op := 0x1001, roles := Users, may := fun r _ => r.role = 2 ∨ r.arg = 0, idle := true
                           len := fun b => 4 ≤ b.length ∧ b.length = 4 + u16At b 2 }
    (fun r u => r.index ≤ 3 ∧ r.arg ≠ 0 ∧ r.arg ≤ 256 ∧ (u.uart r.index).par.ufunc = 3 ∧ (u.uart r.index).txq.length + r.arg ≤ 2048)
    (fun r u a t => a.status = 0 ∧ (t.uart r.index).txq = (u.uart r.index).txq ++ r.pay.drop 4 ∧ t.ses = u.ses ∧
      ∀ n : Nat, n ≠ r.index → t.uart n = u.uart n) true ∧
  Answers .cmdEvinStatus { op := 0x1003, roles := Users, len := Long 4, idle := true }
 (fun r _ => r.index < 8)
      (fun r u a t => a = .ok (rangeReply (u.evinSeen r) r.index r.arg u.evinBytes) ∧ t.ses = u.ses ∧
        let l := (u.evinSeen r).filter (fun n => decide (r.index ≤ n))
        let shown := if r.arg = 0 then l else l.take r.arg
        ∀ n : Nat, n < 8 → (n ∈ shown → (t.evin n).merge = 0) ∧ (n ∉ shown → t.evin n = u.evin n)) ∧
  Sets .cmdWakeportSet { op := 0x1004, roles := Installer, len := Long 4 }
    (fun r u => if u8At r.pay 0 = 1 then { u with bak := { u.bak with wen := true } }
      else { u with bak := { u.bak with wen := false }, por := { u.por with wakePort := { u.por.wakePort with ack := false, reading := false, ignoring := false } } })
    (fun r _ => u8At r.pay 0 ≤ 1 ∧ Clear r 1 3) ∧
  Sets .cmdLineClear { op := 0x1005, roles := Installer, len := Long 4 } (fun r u => u.mapUart r.index UartState.clear)
    (fun r _ => r.index ≤ 5 ∧ r.arg = 0) ∧
  Reads .cmdTallyStatus { op := 0x0E00, roles := Users, hold := true, idle := true } (fun _ u => tallyBlock u.ten.tally) ∧
  Answers .cmdTallyRead { op := 0x0E01, roles := Users, may := fun r _ => r.role = 2 ∨ r.role = 3, len := Long 8, hold := true, idle := true }
    (fun r _ => r.obj < 128 ∧ RangeOf 65536 r) (fun r u a t => (∃ data, a = .ok data ∧ data.length = r.rlen) ∧ t = u) ∧
  Answers .cmdTallyExport { op := 0x0E02, roles := Users, may := fun r _ => r.role = 2 ∨ r.role = 3 ∨ r.role = 1 ∧ u8At r.pay 4 ≠ 1, len := Long 8, hold := true }
    (fun r u => u32At r.pay 0 ≤ u.ten.tally.head.seq + 1 ∧ u8At r.pay 4 = 0 ∧ Clear r 5 3) (fun _ u a t => (∃ data, a = .ok data) ∧ t = u) ∧
  Answers .cmdTallyExport { op := 0x0E02, roles := Users, may := fun r _ => r.role = 2 ∨ r.role = 3 ∨ r.role = 1 ∧ u8At r.pay 4 ≠ 1, len := Long 8, hold := true }
    (fun r u => u32At r.pay 0 ≤ u.ten.tally.head.seq + 1 ∧ u8At r.pay 4 = 1 ∧ Clear r 5 3) (fun r u a t => a.status = 0 ∧
      t = { u with ten := { u.ten with tally := { u.ten.tally with head := { u.ten.tally.head with exp := u32At r.pay 0 - 1 } } } }) true ∧
  Answers .cmdTallyVerify { op := 0x0E03, roles := Users, may := fun r _ => r.role = 2 ∨ r.role = 3 }
    (fun _ u => u.ten.tally.verify = none) (fun r u a t => a = { status := 0, interim := true } ∧
      t = { u with ten := { u.ten with tally := { u.ten.tally with verify := some (r.x.sid, r.p.seq) } } })

/-- 02 R50; 03 R58, R62, R63, R69–R71; 04 R77, R82, R88, R91, R94, R99; 05 R104, R108, R114, R118–R123; 06 R150, R153; 13 R334, R338: the
commands of lanes, captures, adits, beams, assay and channels. -/
def Obligations.ArrayAndChannelCommandsAnswer : Prop :=
  Shows .cmdSiteList { op := 0x0300, roles := Users, len := Long 4, idle := true } (fun r _ => r.index < 12) ∧
  Shows .cmdElemList { op := 0x0301, roles := Users, len := Long 4, idle := true } (fun r _ => r.index < 96) ∧
  Reads .cmdLaneStatus { op := 0x0302, roles := Users, len := Long 4, idle := true, gcp1 := true }
    (fun r u => rangeReply ((List.range 96).filter (fun n => n < (if r.x.gcp1 = true then 12 else 96))) r.index r.arg (fun n => (u.lane n).status))
    (fun r _ => r.index < (if r.x.gcp1 = true then 12 else 96)) ∧
  Sets .cmdLaneClear { op := 0x0303, roles := Installer, len := Long 4 }
    (fun r u => u.mapLane r.index (fun l => { l with crcErr := 0, slips := 0, losses := 0, ctrlFail := 0 })) (fun r _ => r.index < 96 ∧ r.arg = 0) ∧
  Sets .cmdLodeArm { op := 0x0304, roles := Hosts, len := Long 40
                     ten := fun r u => r.role = 1 → (u.region r.index).owner = r.x.tenant + 1 ∨ (u.region r.index).cstate = .idle ∧ (u.region r.index).owner ≤ 8 }
    (fun r u => u.mapRegion r.index (fun _ => { captureOf (r.pay.drop 4) with
      owner := if r.role = 1 then r.x.tenant + 1 else 0, cstate := .armed
      trigAt := if (captureOf (r.pay.drop 4)).ctrig = 0 then some ((u.clk.tick / 5115 + 1) * 5115) else none }))
    (fun r u => r.index < 7 ∧ Clear r 2 2 ∧ u8At r.pay 4 = r.index ∧ Clear r 10 2 ∧ (captureOf (r.pay.drop 4)).badField = none ∧
      (captureOf (r.pay.drop 4)).base + (captureOf (r.pay.drop 4)).size ≤ lodeBytes ∧ (u.region r.index).owner ≠ 0x10 ∧
      (u.region r.index).cstate ≠ .reading ∧ u.armConflict r.index (r.armed u) = false ∧
      (r.role = 1 → u.overQuota r (r.armed u) = false)) ∧
  Answers .cmdLodeTrig { op := 0x0305, roles := Hosts, len := Long 4, ten := fun r u => r.role = 1 → (u.region r.index).owner = r.x.tenant + 1 }
    (fun r _ => r.index < 8 ∧ r.arg = 0) (fun r u a t =>
      let hit : Bool := (u.region r.index).ctrig == 4 && ((u.region r.index).trigger u.clk.tick).1
      a = .ok (b64 u.tcnt ++ b8 (bbool hit) ++ bz 3) ∧
      t = (if (u.region r.index).ctrig = 4 then u.mapRegion r.index (fun g => (g.trigger u.clk.tick).2) else u.mapRegion r.index id)) true ∧
  Sets .cmdLodeDisarm { op := 0x0306, roles := Hosts, len := Long 4, ten := fun r u => r.role = 1 → (u.region r.index).owner = r.x.tenant + 1 }
    (fun r u => u.mapRegion r.index (fun g => { g with
      cstate := .idle, owner := if g.owner = 0x10 then 0x10 else 0, trigAt := none, left := none, written := 0 }))
    (fun r u => r.index < 8 ∧ r.arg = 0 ∧ (u.region r.index).cstate ≠ .reading) ∧
  Reads .cmdLodeStatus { op := 0x0307, roles := Users, len := Long 4, idle := true, ten := fun r u => r.role = 1 → (u.region r.index).owner = r.x.tenant + 1 }
    (fun r u => (u.region r.index).bytes r.index) (fun r _ => r.index < 8 ∧ r.arg = 0) ∧
  Stages .cmdAditSet { op := 0x8300, roles := Installer, len := Long 36 }
    (fun r u => u.mapAdit r.index (fun x => { x with staged := some (aditBlockOf (r.pay.drop 4)) }))
    (fun r u => r.index < 96 ∧ Clear r 2 2 ∧ aditBlockBad (r.pay.drop 4) = none ∧
      ((u.lane r.index).state = .live → (aditBlockOf (r.pay.drop 4)).sameCal ((u.adit r.index).staged.getD (u.adit r.index).blk) = true)) Req.index ∧
  Stages .cmdNotchSet { op := 0x8301, roles := Installer, len := Long 8 }
    (fun r u => { u with smp := { u.smp with notchStaged := u.smp.notchStaged ++ [((Band.ofCode (u8At r.pay 0)).getD .u, u8At r.pay 1,
      { centre := i32At r.pay 4, k := u8At r.pay 3, enable := u8At r.pay 2 == 1 })] } })
    (fun r _ => u8At r.pay 0 ≤ 2 ∧ u8At r.pay 1 ≤ 3 ∧ u8At r.pay 2 ≤ 1 ∧ u8At r.pay 3 ≤ 7 ∧ -8388608 ≤ i32At r.pay 4 ∧ i32At r.pay 4 ≤ 8388607) ∧
  Lists .cmdBeamList { op := 0x0400, roles := Users, idle := true } 256 (fun _ _ => List.range 256) (fun u n => (u.beam n).bytes n) ∧
  Shows .cmdBandCoherence { op := 0x0401, roles := Users, idle := true } ∧
  Shows .cmdNullList { op := 0x0402, roles := Users, idle := true } ∧
  Stages .cmdBeamPolicy { op := 0x0403, roles := Installer, len := Long 4 }
    (fun r u => u.mapCoh ((Band.ofCode r.index).getD .u) (fun c => { c with policyStaged := some (policyOf r.arg) }))
    (fun r _ => r.index ≤ 2 ∧ r.arg ≤ 2) Req.index ∧
  Stages .cmdSiteMask { op := 0x0404, roles := Installer, len := fun b => 4 ≤ b.length ∧ b.length = 4 + 8 * u8At b 3 }
    (fun r u => { u with arr := { u.arr with masksStaged := u.arr.masksStaged ++ [(r.index, { mask := u8At r.pay 2, sectors := r.sectors })] } })
    (fun r u => (u.site r.index).isSome = true ∧ u8At r.pay 2 ≤ 30 ∧ u8At r.pay 3 ≤ 8 ∧ ∀ i, i < u8At r.pay 3 →
      u16At r.pay (4 + 8 * i) < 36000 ∧ u16At r.pay (6 + 8 * i) < 36000 ∧ Clear r (10 + 8 * i) 2) Req.index ∧
  Stages .cmdBeamDefine { op := 0x8400, roles := Installer, len := Long 28 }
    (fun r u => u.mapBeam r.index (fun x => { x with stagedDef := some (u8At r.pay 5, u16At r.pay 10, u16At r.pay 12, i16At r.pay 14) }))
    (fun r u => ∃ x, u.hostSlot r.index = some x ∧ Clear r 2 2 ∧ (u8At r.pay 5 = 0xFF ∨ u8At r.pay 5 ≤ 3 ∧ bit x.bkinds (u8At r.pay 5) = true) ∧
      u16At r.pay 10 &&& u.charterSiteMask = u16At r.pay 10 ∧
      (1 ≤ u8At r.pay 5 → u8At r.pay 5 ≤ 3 → ((List.range 12).filter (bit (u16At r.pay 10))).length = 1) ∧
      u16At r.pay 12 < 36000 ∧ -500 ≤ i16At r.pay 14 ∧ i16At r.pay 14 ≤ 9000 ∧ u16At r.pay 18 < 64 ∧ Clear r 21 1 ∧ Clear r 25 3) Req.index ∧
  Stages .cmdBeamWeights { op := 0x8401, roles := Installer, len := Long 220 }
    (fun r u => u.mapBeam r.index (fun x => { x with
      staged := some (weightSetOf (r.pay.drop 4)), stagedNonull := some (Config.weightNonull r.pay) }))
    (fun r u => (u.hostSlot r.index).isSome = true ∧ Clear r 2 2 ∧
      (∀ n, n < 96 → ((weightSetOf (r.pay.drop 4)).at_ n).i ≠ -128 ∧ ((weightSetOf (r.pay.drop 4)).at_ n).q ≠ -128) ∧
      ∀ i, i < 12 → (weightSetOf (r.pay.drop 4)).bdly.getD i 0 ≤ 1023) Req.index ∧
  Shows .cmdAssayStatus { op := 0x0500, roles := Users, idle := true } ∧
  Reads .cmdCalRead { op := 0x0501, roles := Users, len := Long 8, idle := true }
    (fun r u => (u.tableBytes.drop r.roff).take r.rlen) (fun r _ => r.obj = 0 ∧ RangeOf 6000 r) ∧
  Shows .cmdQuarList { op := 0x0502, roles := Users, idle := true } ∧
  Stages .cmdElemRequal { op := 0x0504, roles := Installer, len := Long 4 }
    (fun r u => u.mapAssay (fun a => { a with requal := a.requal ++ [(r.index, (Band.ofCode r.arg).getD .u)] }))
    (fun r u => r.index < 96 ∧ r.arg ≤ 2 ∧ (u.eb r.index ((Band.ofCode r.arg).getD .u)).ebstate = 1) Req.index ∧
  Stages .cmdCalAccept { op := 0x0505, roles := Installer, len := Long 4 }
    (fun r u => u.mapAssay (fun a => { a with acceptSites := a.acceptSites ++ [r.index] }))
    (fun r u => r.index < 12 ∧ (u.scause r.index = 1 ∨ u.scause r.index = 3) ∧ r.arg = 0) Req.index ∧
  Sets .cmdCalSave { op := 0x0506, roles := Installer }
    (fun _ u => { u with arr := { u.arr with assay := { u.arr.assay with stored := some u.arr.assay.table, lastSave := u.upMs } } }) ∧
  Stages .cmdAssaySignals { op := 0x8501, roles := Installer, len := ListLength }
    (fun r u => u.mapAssay (fun a => { a with
      signalsStaged := some ((r.entries.filter (fun e => e.2 == 0)).map (·.1), (r.entries.filter (fun e => e.2 == 1)).map (·.1)) }))
    (fun r _ => (r.entries.filter (fun e => e.2 == 0)).length ≤ 16 ∧ (r.entries.filter (fun e => e.2 == 1)).length ≤ 32 ∧ listReserved r = none ∧
      ∀ i, i < r.entries.length → sigOkIndex (r.entries.getD i (0, 0)).1 0 = true ∧ (r.entries.getD i (0, 0)).2 ≤ 1) ∧
  Answers .cmdCalSeed { op := 0x8502, roles := Installer, len := fun _ => True }
    (fun r u => ∀ e ∈ Config.seedEntries r.pay, e.1 < 96 ∧ e.2.1 ≤ 2 ∧ (u.lane e.1).state ≠ .live)
    (fun r u a t => a = .ok [] ∧ t.ses = u.ses ∧ t.smp = u.smp ∧ t.trk = u.trk ∧
      (∀ (n : Nat) (b : Band), (∀ e ∈ Config.seedEntries r.pay, e.1 = n → e.2.1 ≠ b.code) → t.eb n b = u.eb n b) ∧
      ∀ e, Config.seedEntries r.pay = [e] → (t.eb e.1 ((Band.ofCode e.2.1).getD .u)).dly = e.2.2.1 ∧
        (t.eb e.1 ((Band.ofCode e.2.1).getD .u)).ph = e.2.2.2.1 % 65536 ∧ (t.eb e.1 ((Band.ofCode e.2.1).getD .u)).gain = e.2.2.2.2) true ∧
  Reads .cmdChList { op := 0x0600, roles := Users, len := Long 4, idle := true, gcp1 := true }
    (fun r u => rangeReply ((List.range 384).filter (r.seesChan u)) r.index r.arg u.chanBytes) (fun r _ => r.index < 384) ∧
  Shows .cmdChStatus { op := 0x0601, roles := Users, len := Long 4, idle := true, gcp1 := true, ten := fun r u => r.seesChan u r.index = true }
    (fun r _ => r.index < 384 ∧ r.arg = 0) ∧
  Stages .cmdChPin { op := 0x0602, roles := Installer, len := ListLength }
    (fun r u => { u with trk := { u.trk with pinsStaged := some (r.entries.map (fun e => (e.1, sx 8 e.2))) } })
    (fun r _ => ListOf 32 r ∧ ∀ i, i < r.entries.length → sigOkIndex (r.entries.getD i (0, 0)).1 (sx 8 (r.entries.getD i (0, 0)).2) = true) ∧
  Stages .cmdChRelease { op := 0x0603, roles := Installer, len := Long 4 } (fun r u => u.mapChan r.index (fun c => { c with releaseStaged := true }))
    (fun r _ => r.index < 384 ∧ r.arg = 0) Req.index ∧
  Stages .cmdSigPolicy { op := 0x0604, roles := Installer, len := Long 32 }
    (fun r u => { u with trk := { u.trk with policyStaged := some (leNat r.pay) } }) (fun r _ => leNat r.pay &&& definedTypes = leNat r.pay) ∧
  Stages .cmdChArms { op := 0x8601, roles := Installer, len := fun b => 4 ≤ b.length ∧ b.length = 4 + 4 * u8At b 2 }
    (fun r u => u.mapChan r.index (fun c => { c with armsStaged := some r.armSet }))
    (fun r u => r.index < 384 ∧ u8At r.pay 2 = (u.chan r.index).narm ∧ Clear r 3 1 ∧
      (∀ i, i < u8At r.pay 2 → u8At r.pay (6 + 4 * i) < 8 ∧ Clear r (7 + 4 * i) 1) ∧
      armsBad (typeOf (u.chan r.index).sigid) r.armSet = none) Req.index ∧
  Stages .cmdChKernel { op := 0x8602, roles := Operator, len := ListLength
                        ten := fun r u => ∀ e ∈ r.entries, e.1 < 384 → (u.chan e.1).owner = r.x.tenant }
    (fun r u => r.bindRecords u (u.bindKernels r.x.tenant r.entries))
    (fun r u => ListOf 32 r ∧ (u.bindKernels r.x.tenant r.entries).overShare r.x.tenant = none ∧ ∀ i, i < r.entries.length →
      let e := r.entries.getD i (0, 0)
      let k := vgetD (vgetD u.ten.t r.x.tenant {}).kslots e.2 {}
      e.1 < 384 ∧ (e.2 = 0xFF ∨ e.2 < 4 ∧ k.ver.isSome = true ∧ k.deleting = false)) (fun r => (r.entries.headD (0xFFFF, 0)).1)

/-- 07 R162, R170, R173; 08 R199, R202, R203, R209–R211; 10 R242, R258, R261; 11 R269, R273, R274, R279, R281, R291; 21 R506, R509, R517, R518:
the commands of acquisition, plans, the solution, the ports and the streams. -/
def Obligations.AcquisitionPlanAndOutputCommandsAnswer : Prop :=
  Shows .cmdAcqStatus { op := 0x0700, roles := Users, idle := true } ∧
  Reads .cmdAcqResults { op := 0x0701, roles := Users, len := Long 8, idle := true }
    (fun r u =>
      let l := u.trk.acq.results.filter (fun x => decide (u32At r.pay 0 ≤ x.acqid))
      let want := if u16At r.pay 4 = 0 then l else l.take (u16At r.pay 4)
      let es := want.take 43
      b16 es.length ++ bz 2 ++ b32 (((want.drop es.length).head?.map (·.acqid)).getD 0xFFFFFFFF) ++ (es.map AcqResult.bytes).flatten)
    (fun r _ => Clear r 6 2) ∧
  Answers .cmdAcqStart { op := 0x0702, roles := Installer, len := Long 4 }
    (fun r u => bit (u8At r.pay 0) 7 = false ∧ u8At r.pay 1 ≤ 3 ∧ (u8At r.pay 1 = 2 → u.warmAble = true) ∧ (u8At r.pay 1 = 3 → u.hotAble = true) ∧
      Clear r 2 2)
    (fun r u a t => a = .ok (b16 (t.depth 3) ++ bz 2) ∧ t.ses = u.ses ∧ t.trk.acq.results = u.trk.acq.results ∧
      (u8At r.pay 0 = 0 → t = u)) true ∧
  Sets .cmdAcqAssist { op := 0x0703, roles := Installer, len := Long 48 }
    (fun r u => { u with trk := { u.trk with acq := { u.trk.acq with
      assistTime := some (u64At r.pay 0 * 10 ^ 9 + u32At r.pay 8, u32At r.pay 12, u.clk.tick)
      assistPos := if u8At r.pay 16 = 1 then some (i64At r.pay 24, i64At r.pay 32, i64At r.pay 40, u32At r.pay 20) else u.trk.acq.assistPos } } })
    (fun r _ => u32At r.pay 8 < 10 ^ 9 ∧ 1 ≤ u32At r.pay 12 ∧ u32At r.pay 12 ≤ 4000000000 ∧ u8At r.pay 16 ≤ 1 ∧ Clear r 17 3) ∧
  Stages .cmdAcqSectors { op := 0x8700, roles := Installer, len := Long 4 }
    (fun r u => { u with trk := { u.trk with acq := { u.trk.acq with nsectStaged := u.trk.acq.nsectStaged ++ [(r.index, r.arg)] } } })
    (fun r u => (u.site r.index).isSome = true ∧ r.index < 12 ∧ r.arg ∈ [1, 4, 8, 16]) Req.index ∧
  Answers .cmdAcqSearch { op := 0x8702, roles := Installer, len := Long 28 }
    (fun r u => sigOkIndex (u16At r.pay 0) (i8At r.pay 2) = true ∧ (u.site (u8At r.pay 3)).isSome = true ∧ u8At r.pay 3 < 12 ∧
      (u8At r.pay 4 = 0xFF ∨ u8At r.pay 4 < vgetD u.trk.acq.nsect (u8At r.pay 3) 0) ∧ 1 ≤ u8At r.pay 5 ∧ u8At r.pay 5 ≤ 64 ∧ Clear r 6 2 ∧
      u16At r.pay 8 < 36000 ∧ -9000 ≤ i16At r.pay 10 ∧ i16At r.pay 10 ≤ 9000 ∧ u32At r.pay 24 ≤ 10000 ∧
      (u.trk.acq.queue.filter (fun x => x.host && x.cls == 3)).length < 64)
    (fun r u a t => a = .ok (b16 (t.depth 3) ++ bz 2) ∧ t.ses = u.ses ∧
      ∃ x ∈ t.trk.acq.queue, x.sigid = u16At r.pay 0 ∧ x.glok = i8At r.pay 2 ∧ x.cls ≤ 3) true ∧
  Shows .cmdPlanStatus { op := 0x0800, roles := Users, idle := true } ∧
  Sets .cmdPlanLoad { op := 0x0801, roles := Installer, len := WriteLength }
    (fun r u =>
      let img := swrites 0 (u.slot r.obj).image r.roff r.rbytes
      let ver := (u.slot r.obj).verified && r.roff != 0
      (u.mapSlot r.obj (fun _ => { image := img, verified := ver, plan := if ver then some (planOf (imageOf img)) else none })).lapse)
    (fun r u => (r.obj = 1 ∨ r.obj = 2) ∧ RangeOf slotBytes r ∧ u.fab.swap.map (·.slot) ≠ some r.obj) ∧
  Answers .cmdPlanVerify { op := 0x0802, roles := Installer, len := Long 4 }
    (fun r u => r.index ≤ 2 ∧ r.arg = 0 ∧ u.boo.planVerify = none ∧ u.tallyRoom = true) (fun r u a t => a = { status := 0, interim := true } ∧
      t = { u with boo := { u.boo with planVerify := some (r.x.sid, r.p.seq, r.index) } }) ∧
  Sets .cmdPlanDiscard { op := 0x0804, roles := Installer, len := Long 4 } (fun r u => (u.mapSlot r.index (fun _ => {})).lapse)
    (fun r u => (r.index = 1 ∨ r.index = 2) ∧ r.arg = 0 ∧ u.fab.swap.map (·.slot) ≠ some r.index) ∧
  Reads .cmdPlanRead { op := 0x0805, roles := Users, may := fun r u => r.role = 2 ∨ r.role = 3 ∨ r.role = 1 ∧ u.inCert r = true, len := Long 8, idle := true }
    (fun r u => sreads 0 (u.slot r.obj).image r.roff r.rlen) (fun r _ => r.obj ≤ 2 ∧ RangeOf slotBytes r) ∧
  Sets .cmdPlanDerated { op := 0x8800, roles := Installer, len := Long 4 }
    (fun r u => { u with
      fab := { u.fab with derated := r.arg == 1 }
      boo := { u.boo with plansFlash := vupdN u.boo.plansFlash 1 (fun _ => if r.arg = 1 then (u.slot 2).image else []) } })
    (fun r u => r.index = 2 ∧ (r.arg = 0 ∨ r.arg = 1 ∧ (u.slot 2).verified = true ∧
      ∃ d a, (u.slot 2).plan = some d ∧ u.fab.active = some a ∧ d.derated = true ∧ d.derateOf = a.planId)) ∧
  Answers .cmdPlanModel { op := 0x8801, roles := Users, len := fun b => 4 ≤ b.length ∧ b.length = 4 + 4 * u8At b 1, idle := true }
    (fun r u => (u.slot (u8At r.pay 0)).verified = true ∧ Clear r 2 2 ∧ u8At r.pay 1 ≤ 32 ∧
      ∃ q, (u.slot (u8At r.pay 0)).plan = some q ∧ ∀ i, i < u8At r.pay 1 → u8At r.pay (4 + 4 * i) < q.nlst ∧ Clear r (5 + 4 * i) 1 ∧
        300 ≤ u16At r.pay (6 + 4 * i) ∧ u16At r.pay (6 + 4 * i) ≤ 1000)
    (fun r u a t => t = u ∧ ∃ q, (u.slot (u8At r.pay 0)).plan = some q ∧ a = .ok (b8 q.nlst ++ bz 3 ++ ((List.range q.nlst).map (fun ls =>
      let o := q.eval ls (((r.clocks.reverse.find? (fun c => c.1 == ls)).map (·.2)).getD (q.floorOf ls))
      b8 ls ++ bz 3 ++ b32 o.busy ++ bi32 o.slackmin ++ b32 o.cmp ++ bi32 o.margin)).flatten)) ∧
  Shows .cmdMeasStatus { op := 0x0900, roles := Users, idle := true, gcp1 := true } ∧
  Shows .cmdSolStatus { op := 0x0901, roles := Users, idle := true, gcp1 := true } ∧
  Shows .cmdIntegStatus { op := 0x0902, roles := Users, idle := true } ∧
  Stages .cmdSurveyStart { op := 0x0903, roles := Installer } (fun _ u => { u with sol := { u.sol with surveyStaged := true } })
    (fun _ u => (u.site u.arr.assay.table.refSite).map (·.mode) ≠ some 1) (fun _ => 0) ∧
  Stages .cmdHoldForce { op := 0x0904, roles := Installer, len := Long 4 }
    (fun r u => { u with sol := { u.sol with holdStaged := some (u8At r.pay 0 == 1) } }) (fun r _ => u8At r.pay 0 ≤ 1 ∧ Clear r 1 3) (fun _ => 0) ∧
  Stages .cmdSatExclude { op := 0x0905, roles := Installer, len := ListLength }
    (fun r u => { u with sol := { u.sol with excludeStaged := some (nub (r.entries.map (fun e => (sigSys e.1, sigSat e.1)))) } })
    (fun r _ => ListOf 32 r ∧ ∀ e ∈ r.entries, sigOkIndex e.1 (sx 8 e.2) = true) (fun _ => 0) ∧
  Shows .cmdSynStatus { op := 0x0A00, roles := Users, idle := true, gcp1 := true } ∧
  Reads .cmdPortStatus { op := 0x0A01, roles := Users, len := Long 4, idle := true, gcp1 := true }
    (fun r u => rangeReply ((List.range 32).filter (r.ownsPort u)) r.index r.arg (fun n => (u.port n).block ++ u.portStatus n)) (fun r _ => r.index < 32) ∧
  Stages .cmdPortSet { op := 0x0A02, roles := Hosts, len := Long 52, gcp1 := true, ten := fun r u => r.ownsPort u r.index = true }
    (fun r u => u.mapPort r.index (fun x => { x with staged := some (((u.port r.index).staged.getD (u.port r.index).cfg).withMode (r.pay.drop 4)) }))
    (fun r u => r.index < 32 ∧ Clear r 2 2 ∧
      u.portBad r.index (r.pay.drop 4) (((u.port r.index).staged.getD (u.port r.index).cfg).withMode (r.pay.drop 4)) = none) Req.index ∧
  Stages .cmdPortEnable { op := 0x0A03, roles := Hosts, len := ListLength, gcp1 := true, ten := fun r u => ∀ e ∈ r.entries, r.ownsPort u e.1 = true }
    (fun r u => r.entries.foldl (fun t e => t.mapPort e.1 (fun x => { x with enStaged := some (e.2 == 1) })) u)
    (fun r _ => ListOf 32 r ∧ ∀ e ∈ r.entries, e.1 < 32 ∧ e.2 ≤ 1) (fun r => (r.entries.map (·.1)).headD 0) ∧
  Stages .cmdPortCable { op := 0x0A04, roles := Installer, len := Long 52, ten := fun r u => r.ownsPort u r.index = true }
    (fun r u => u.mapPort r.index (fun x => { x with staged := some (((u.port r.index).staged.getD (u.port r.index).cfg).withCable (r.pay.drop 4)) }))
    (fun r u => r.index < 32 ∧ Clear r 2 2 ∧
      u.portBad r.index (r.pay.drop 4) (((u.port r.index).staged.getD (u.port r.index).cfg).withCable (r.pay.drop 4)) = none) Req.index ∧
  Answers .cmdPortCal { op := 0x0A05, roles := Hosts, may := fun r _ => r.role = 2 ∨ r.arg = 0, len := Long 4, ten := fun r u => r.ownsPort u r.index = true }
    (fun r u => r.index < 32 ∧ (r.arg = 0 ∧ (u.port r.index).cfg.enable = false ∧ (u.port r.index).pstate = .off ∧ u.clk.runs = true ∨
      r.arg = 1 ∧ (u.port r.index).jumped.isSome = true ∨ r.arg = 2))
    (fun r u a t => if r.arg = 0
      then a = { status := 0, interim := true } ∧ t = u.mapPort r.index (fun x =>
          { x with pstate := .cal, burst := some [], burstFrom := u.clk.tick, burstReq := some (r.x.sid, r.p.seq) })
      else if r.arg = 1
      then a = .ok [] ∧ ∃ d, (u.port r.index).jumped = some d ∧
        t = (u.mapPort r.index (fun x => { x with jumped := none, calJump := false, uncal := false })).useForward r.index d
      else a = .ok [] ∧ t = u.mapPort r.index (fun x => { x with echoMiss := 0 })) true ∧
  Stages .cmdSynDither { op := 0x8A00, roles := Installer, len := fun b => 4 ≤ b.length ∧ b.length = 4 + 8 * u8At b 0 }
    (fun r u => { u with syn := { u.syn with ditherStaged := u.syn.ditherStaged ++ (List.range (u8At r.pay 0)).map (ditherEntry r) } })
    (fun r _ => Clear r 1 3 ∧ ∀ i, i < u8At r.pay 0 → ((ditherEntry r i).1 < 5 ∨ 16 ≤ (ditherEntry r i).1 ∧ (ditherEntry r i).1 < 48) ∧
      u8At r.pay (6 + 8 * i) ≤ 1 ∧ Clear r (7 + 8 * i) 1) (fun _ => 0) ∧
  Answers .cmdStreamOpen { op := 0x0910, roles := Hosts, may := fun r _ => r.role = 2 ∨ ¬ (u8At r.pay 0 = 3 ∧ bit (u8At r.pay 3) 0 = true), len := Long 32, gcp1 := true }
    (fun r u => u8At r.pay 0 ≤ 6 ∧ u8At r.pay 0 ≠ 5 ∧ (∀ c ∈ streamBad r.pay, c.1 = false) ∧ (bit (u8At r.pay 3) 0 = true → u8At r.pay 0 = 3) ∧
      (if u8At r.pay 0 = 4 then u32At r.pay 24 < 256 else u32At r.pay 24 = 0) ∧ Clear r 28 4 ∧
      u.por.streams.length < 64 ∧ RoomFor u (u.newStream r (u8At r.pay 0) none) ∧
      u.overload u.fab.active u.quotaOf (u.loads ++ [⟨u8At r.pay 0, u8At r.pay 1, (u.newStream r (u8At r.pay 0) none).ten⟩]) = none)
    (fun r u a t => let x := u.newStream r (u8At r.pay 0) none
      a = .ok (b16 x.stid ++ bz 2 ++ b32 x.wep) ∧
      t = { u with por := { u.por with streams := insertStream x u.por.streams, nextStid := (x.stid + 1) % 65536 } }) true ∧
  Answers .cmdSnapExport { op := 0x0913, roles := Hosts, len := Long 32, ten := fun r u => r.role = 1 → (u.region (u8At r.pay 0)).owner = r.x.tenant + 1 }
    (fun r u => u8At r.pay 0 < 8 ∧ (∀ c ∈ streamBad r.pay, c.1 = false) ∧ bit (u8At r.pay 3) 0 = false ∧ (u.region (u8At r.pay 0)).cstate = .held ∧
      u16At r.pay 26 ≠ 0 ∧ u16At r.pay 24 + u16At r.pay 26 ≤ min (u.region (u8At r.pay 0)).written (u.region (u8At r.pay 0)).nblk ∧ Clear r 28 4 ∧
      u.por.streams.length < 64 ∧ RoomFor u (u.newStream r 5 (some (u8At r.pay 0, 0))))
    (fun r u a t => a.status = 0 ∧ (t.region (u8At r.pay 0)).cstate = .reading ∧
      t.por.streams = insertStream (u.newStream r 5 (some (u8At r.pay 0, 0))) u.por.streams ∧
      ∀ c : Nat, c ≠ u8At r.pay 0 → t.region c = u.region c) true ∧
  Sets .cmdStreamClose { op := 0x0911, roles := Hosts, len := Long 4, gcp1 := true
                         ten := fun r u => r.role = 1 → ∀ x ∈ u.por.streams, x.stid = r.index → x.ten = r.x.tenant }
    (fun r u => (u.mapStream r.index (fun x => { x with draining := true })).reapStreams)
    (fun r u => (∃ x ∈ u.por.streams, x.stid = r.index) ∧ r.arg = 0) ∧
  Reads .cmdStreamStatus { op := 0x0912, roles := Users, len := Long 4, idle := true }
    (fun r u =>
      let l := u.por.streams.filter (fun x => (r.role != 1 || x.ten == r.x.tenant) && decide (r.index ≤ x.stid))
      let want := if r.arg = 0 then l else l.take r.arg
      let n := min want.length 43
      b16 n ++ b16 (((want.drop n).head?.map (·.stid)).getD 0xFFFF) ++ ((want.take n).map u.streamEntry).flatten ++
        b32 (u.eth 0).rxdrop ++ b32 (u.eth 1).rxdrop)

/-- 09 R221, R223, R224, R226, R227, R230; 02 R47; 03 R75; 05 R122; 08 R203; 22 R524: the commands that start or steer maintenance. -/
def Obligations.MaintenanceCommandsAnswer : Prop :=
  Shows .cmdMaintStatus { op := 0x0D00, roles := Users, idle := true } ∧
  Shows .cmdDlStatus { op := 0x0D01, roles := Users, idle := true } ∧
  Starts .cmdAssaySweep { op := 0x0503, roles := Installer } 1 (fun _ _ => True) (fun _ _ => True)
    (fun _ u a t => a = .ok [] ∧ t.arr.assay.sweep = some u.ms) ∧
  Starts .cmdStopeSwap { op := 0x0D02, roles := Installer, len := Long 4 } 2 (fun r _ => r.index < 32 ∧ (r.arg < 36 ∨ r.arg = 0xFF))
    (fun r u => u.fab.stSub = none ∧ pickReserve r.arg u.reserveStopes u.bestStope ≠ none) (fun r u a t => ∃ n,
      pickReserve r.arg u.reserveStopes u.bestStope = some n ∧ a = { status := 1, commit := u.nextBoundary + 3 } ∧
      t.fab.stSub = some { ls := r.index, phys := n, old := vgetD u.fab.lsMap r.index 0, b1 := u.nextBoundary, stage := 0 } ∧
      t.fab.lsMap = u.fab.lsMap ∧ t.ses.accepted = u.ses.accepted ++
        [{ sid := r.x.sid, seq := r.p.seq, opcode := 0x0D02, commit := u.nextBoundary + 3, tenant := r.x.tenant, unit := r.index }]) ∧
  Starts .cmdDeputySwap { op := 0x0D03, roles := Installer, len := Long 4 } 2 (fun r _ => r.index < 16 ∧ (r.arg < 18 ∨ r.arg = 0xFF))
    (fun r u => u.fab.dpSub = none ∧ pickReserve r.arg u.reserveDeputies u.bestDeputy ≠ none) (fun r u a t => ∃ n,
      pickReserve r.arg u.reserveDeputies u.bestDeputy = some n ∧ a = { status := 1, commit := u.nextBoundary + 50 } ∧
      t.fab.dpSub = some { ld := r.index, phys := n, copied := false } ∧ t.fab.ldMap = u.fab.ldMap) ∧
  Starts .cmdDeepTest { op := 0x0D04, roles := Installer, len := Long 4 } 6
    (fun r _ => (r.index < 36 ∨ 0x100 ≤ r.index ∧ r.index < 0x112) ∧ r.arg = 0)
    (fun r u => if r.index < 0x100 then r.index ∈ u.reserveStopes else r.index % 256 ∈ u.reserveDeputies)
    (fun r u a t => a = .ok [] ∧ t.fab.testing = some (r.index / 256, r.index % 256) ∧ t.fab.lsMap = u.fab.lsMap ∧ t.fab.ldMap = u.fab.ldMap) ∧
  Starts .cmdLodeSwap { op := 0x0D05, roles := Installer, len := Long 4 } 5 (fun r u => u.bankMeant r.index ≠ none ∧ r.arg = 0)
    (fun _ u => u.spareBank ≠ none) (fun r u a t => a = .ok [] ∧ ∃ b k, u.spareBank = some b ∧ u.bankMeant r.index = some k ∧
      t.smp.lode.swap = some (k, b, false) ∧ t.smp.lode.bankMap = u.smp.lode.bankMap) ∧
  Starts .cmdLaneReneg { op := 0x0D06, roles := Installer, len := Long 4 } 4 (fun r _ => r.index < 96 ∧ r.arg = 0)
    (fun r u => (u.lane r.index).state = .live) (fun r u a t => a = .ok [] ∧ (t.lane r.index).state = .offer ∧ SameLanes r.index u t) ∧
  Starts .cmdPlanActivate { op := 0x0803, roles := Installer, len := Long 12 } 3
    (fun r u => (u8At r.pay 0 = 1 ∨ u8At r.pay 0 = 2) ∧ (u.slot (u8At r.pay 0)).verified = true ∧ Clear r 1 3 ∧ u64At r.pay 4 ≤ u.ms + 3600000)
    (fun r u => u.fab.swap = none ∧ ∃ q, (u.slot (u8At r.pay 0)).plan = some q ∧ u.kernelsFit q = true ∧ u.overload (some q) u.quotaOf u.loads = none)
    (fun r u a t => a = { status := 1, commit := max (u.nextBoundary + 1) (u64At r.pay 4) } ∧ t.fab.active = u.fab.active ∧
      (t.fab.swap.map (fun x => (x.slot, x.bs, x.phase, x.host))) = some (u8At r.pay 0, max (u.nextBoundary + 1) (u64At r.pay 4), 0, r.x.sid != 0) ∧
      t.fab.standby = (u.slot (u8At r.pay 0)).plan) ∧
  Stages .cmdElemOut { op := 0x0D07, roles := Installer, len := Long 4 }
    (fun r u => { u with fab := { u.fab with elemOut := u.fab.elemOut ++ [(r.index, r.arg)] } })
    (fun r u => (u.elem r.index).fitted = true ∧ r.index < 96 ∧ r.arg ≤ 1) Req.index ∧
  Stages .cmdElemIn { op := 0x0D08, roles := Installer, len := Long 4 }
    (fun r u => { u with fab := { u.fab with elemIn := u.fab.elemIn ++ [r.index] } })
    (fun r u => (u.elem r.index).fitted = true ∧ r.index < 96 ∧ r.arg = 0 ∧
      (r.index ∈ u.fab.outList ∨ (∃ x ∈ u.fab.elemOut, x.1 = r.index) ∨ (u.lane r.index).state = .off)) Req.index ∧
  Answers .cmdMaintCancel { op := 0x0D09, roles := Installer, len := Long 8 }
    (fun r u => Clear r 1 3 ∧ u.fab.devWait = none ∧ (u8At r.pay 0 = 0 ∧ u.fab.mqueue.length = 1 ∧ u32At r.pay 4 = 1 ∨
      u8At r.pay 0 = 1 ∧ u.fab.mqueue = [] ∧ ∃ b, u.fab.acts = [b] ∧ b.actId = u32At r.pay 4 ∧ u.abortable b = true))
    (fun r u a t => a = .ok [] ∧ t.fab.mqueue = [] ∧ t.fab.acts = (if u8At r.pay 0 = 0 then u.fab.acts else [])) true ∧
  Sets .cmdDlClear { op := 0x0D0A, roles := Installer }
    (fun _ u => { u with fab := { u.fab with
      escLs := u.fab.escLs.map (fun e => { e with misses := 0, heldBack := 0 }), escLd := u.fab.escLd.map (fun e => { e with misses := 0, heldBack := 0 })
      escCh := u.fab.escCh.map (fun e => { e with misses := 0, heldBack := 0 }), escAs := u.fab.escAs.map (fun e => { e with misses := 0, heldBack := 0 }) } })

/-- 13 R329, R332, R336–R339, R346–R350; 14 R357, R359, R360, R363, R365–R368: the commands of the charter, the fuses, the tenants, the kernels
and the maker. -/
def Obligations.CharterTenantAndMakerCommandsAnswer : Prop :=
  Shows .cmdCharterStatus { op := 0x0200, roles := Users, may := fun r _ => r.pay.length = 4 → u8At r.pay 0 = 1 → r.role = 2
                            len := fun b => b.length = 0 ∨ b.length = 4, hold := true, idle := true } (fun r _ => r.pay = [] ∨ u8At r.pay 0 = 0 ∧ Clear r 1 3) ∧
  Answers .cmdCharterStatus { op := 0x0200, roles := Users, may := fun r _ => r.pay.length = 4 → u8At r.pay 0 = 1 → r.role = 2
                              len := fun b => b.length = 0 ∨ b.length = 4, hold := true, idle := true }
    (fun r _ => r.pay.length = 4 ∧ u8At r.pay 0 = 1 ∧ Clear r 1 3) (fun _ u a t => a.status = 0 ∧ t.boo = { u.boo with lockViolation := false }) true ∧
  Sets .cmdCharterLoad { op := 0x0201, roles := Installer, len := WriteLength, hold := true }
    (fun r u =>
      let c : CharterCopy := if r.roff = 0 then {} else u.copy u.standby
      { u with boo := { u.boo with
        copies := vupd u.boo.copies u.standby (fun _ => { c with bytes := swrites 0xFF c.bytes r.roff r.rbytes }), standbyOk := false } })
    (fun r u => r.obj = 1 ∧ RangeOf copyBytes r ∧ u.boo.liveCommit = none) ∧
  Answers .cmdCharterVerify { op := 0x0202, roles := Installer, hold := true }
    (fun _ u => u.charterChecks false (u.copy u.standby).image = none)
    (fun _ u a t => a = .ok [] ∧ t = { u with boo := { u.boo with standbyOk := true } }) true ∧
  Leads .cmdCharterVerify { op := 0x0202, roles := Installer, hold := true }
    (fun _ u => u.tallyRoom = true ∧ u.charterChecks false (u.copy u.standby).image ≠ none)
    (fun _ u a t => ∃ c i, u.charterChecks false (u.copy u.standby).image = some (c, i) ∧
      a = { status := charterStatus c, detail := c, item := i } ∧ t.boo.standbyOk = u.boo.standbyOk ∧ t.boo.charter = u.boo.charter ∧
      (c ≠ 9 → t = u) ∧ (c = 9 → t.boo.lockViolation = true)) ∧
  Answers .cmdCharterCommit { op := 0x0203, roles := Installer, len := Long 4, hold := true }
    (fun r u => u8At r.pay 0 = 0 ∧ Clear r 1 3 ∧ u.boo.standbyOk = true ∧ u.boo.liveCommit = none ∧ u.boo.dstate = .run)
    (fun _ u a t => a = .ok [] ∧ t = u.sealStandby) true ∧
  (∀ u : State,
    let b := (u.copy u.standby).image
    u.sealStandby.boo = { u.boo with copies := vupd u.boo.copies u.standby (fun c => { c with sealOf := some (charterGen b, sha384 b) }) } ∧
    u.sealStandby.ten.overlayGen = none ∧ u.sealStandby.ten.overlayTab = [] ∧ u.sealStandby.ten.overlaySec = []) ∧
  Stages .cmdCharterCommit { op := 0x0203, roles := Installer, len := Long 4, hold := true }
    (fun _ u => { u.sealStandby with boo := { u.sealStandby.boo with liveCommit := some (u.copy u.standby).image } })
    (fun r u => u8At r.pay 0 = 1 ∧ Clear r 1 3 ∧ u.boo.standbyOk = true ∧ u.boo.liveCommit = none ∧ u.boo.dstate = .run ∧
      liveOnly u.boo.charter (u.copy u.standby).image = true) (fun _ => 0) ∧
  Reads .cmdCharterRead { op := 0x0204, roles := Users, may := fun r u => r.role = 2 ∨ r.role = 1 ∧ u.operatorRange r = true, len := Long 8
                          hold := true, idle := true }
    (fun r u => ((u.copyMeant r.obj).map (fun c => c.shown r.roff r.rlen)).getD [])
    (fun r u => r.obj < 2 ∧ (u.copyMeant r.obj).isSome = true ∧ RangeOf copyBytes r) ∧
  Shows .cmdFuseRead { op := 0x0205, roles := Anybody, may := fun r u => r.role ≠ 0 ∨ u.boo.dstate = .hold, hold := true, idle := true } ∧
  Leads .cmdFuseWrite { op := 0x8200, roles := Installer, may := fun r _ => r.x.authm = 2 ∧ u8At r.pay 0 ≠ 4, hold := true
                        len := fun b => 4 ≤ b.length ∧ b.length = 4 + u16At b 2 }
    (fun r u => u.tallyRoom = true ∧ 1 ≤ u8At r.pay 0 ∧ u8At r.pay 0 ≤ 3 ∧ Clear r 1 1 ∧ u16At r.pay 2 = fuseLen (u8At r.pay 0) ∧
      (u.boo.fuses.field (u8At r.pay 0)).written = true)
    (fun _ u a t => a = { status := 0x0301, field := 4 } ∧ t.boo = { u.boo with lockViolation := true }) ∧
  Answers .cmdFuseWrite { op := 0x8200, roles := Installer, may := fun r _ => r.x.authm = 2 ∧ u8At r.pay 0 ≠ 4, hold := true
                          len := fun b => 4 ≤ b.length ∧ b.length = 4 + u16At b 2 }
    (fun r u => 1 ≤ u8At r.pay 0 ∧ u8At r.pay 0 ≤ 3 ∧ Clear r 1 1 ∧ u16At r.pay 2 = fuseLen (u8At r.pay 0) ∧
      (u.boo.fuses.field (u8At r.pay 0)).written = false ∧ u.fuseBad (u8At r.pay 0) (fuseNat (u8At r.pay 0) (r.pay.drop 4)) = false ∧
      Config.fuseBack (u8At r.pay 0) (fuseNat (u8At r.pay 0) (r.pay.drop 4)) u.free % 2 ^ fuseBits (u8At r.pay 0) =
        fuseNat (u8At r.pay 0) (r.pay.drop 4))
    (fun r u a t => a.status = 0 ∧ t = { u with
      free := u.free + 1
      boo := { u.boo with fuses := u.boo.fuses.set (u8At r.pay 0) ⟨fuseNat (u8At r.pay 0) (r.pay.drop 4), true⟩ } }) true ∧
  Shows .cmdTenantList { op := 0x0F00, roles := Users, idle := true } ∧
  Stages .cmdTenantAdd { op := 0x0F01, roles := Installer, len := fun b => 8 ≤ b.length ∧ b.length = 8 + 8 * u8At b 4 }
    (fun r u => { u with ten := { u.ten with staged := u.ten.staged ++ [.add r.index (parApply quotaRows (parEntries (r.pay.drop 4)) {})] } })
    (fun r u => r.index < u.boo.fuses.tlimit.val ∧ (u.tenantNext r.index).present = false ∧ Clear r 2 2 ∧ u16At r.pay 6 = r.index ∧
      parBad quotaRows 4 r.pay = none ∧
      let f (n : Nat) := (TenantChange.add r.index (parApply quotaRows (parEntries (r.pay.drop 4)) {})).after n (u.tenantNext n)
      u.sumsHold f = true ∧ u.overload u.fab.active (fun n => (f n).quota) u.loads = none) Req.index ∧
  Stages .cmdTenantRemove { op := 0x0F02, roles := Installer, len := Long 4 }
    (fun r u => { u with ten := { u.ten with staged := u.ten.staged ++ [.remove r.index] } })
    (fun r u => (u.tenantNext r.index).present = true ∧ r.arg = 0) Req.index ∧
  Answers .cmdRoleSecret { op := 0x8F00, roles := Installer, may := fun r _ => r.x.authm = 2, len := Long 36 }
    (fun r u => (u8At r.pay 0 = 1 ∧ (u.tenant (u8At r.pay 1)).present = true ∨ u8At r.pay 0 = 2 ∧ u8At r.pay 1 = 0xFF) ∧ Clear r 2 2)
    (fun r u a t => a = .ok [] ∧ t.ses = u.ses ∧
      t.ten.overlaySec.head? = some (u8At r.pay 0, u8At r.pay 1,
        List.zipWith (fun a b => a ^^^ b) ((r.pay.drop 4).take 32) (hmac256 (r.x.key.getD []) (ascii "GVS1" ++ b32 r.p.seq))) ∧
      t.ten.t = u.ten.t) true (fun r u => u.closeRole (u8At r.pay 0) (u8At r.pay 1)) ∧
  (∀ (role ten : Nat) (s : State), ∀ x ∈ (s.closeRole role ten).ses.open_, ¬ (x.role = role ∧ x.tenant = ten)) ∧
  Shows .cmdKernelList { op := 0x1100, roles := Users, idle := true } ∧
  Answers .cmdKernelLoad { op := 0x1101, roles := Operator, len := WriteLength }
    (fun r u => r.obj < 4 ∧ RangeOf 65536 r ∧ u.kernelBound (r.x.tenant, r.obj) = false ∧ (u.kslot r.x.tenant r.obj).deleting = false ∧ r.x.tenant < 8)
    (fun r u a t => a = .ok [] ∧ (t.kslot r.x.tenant r.obj).image = swrites 0 (u.kslot r.x.tenant r.obj).image r.roff r.rbytes ∧
      (t.kslot r.x.tenant r.obj).ver = (if r.roff = 0 then none else (u.kslot r.x.tenant r.obj).ver) ∧
      (t.kslot r.x.tenant r.obj).copy = (if r.roff = 0 then [] else (u.kslot r.x.tenant r.obj).copy)) true ∧
  Answers .cmdKernelVerify { op := 0x1102, roles := Operator, len := Long 4 }
    (fun r u => r.index < 4 ∧ r.arg = 0 ∧ r.x.tenant < 8 ∧
      let b := kernelBytes (u.kslot r.x.tenant r.index).image
      u.kernelShape r.x.tenant r.index b = true ∧ u8At b 5 = r.x.tenant ∧ u.boo.fuses.instKey.written = true ∧
      sigOk b (kernelSigAt b) u.instKey = true ∧ u.kernelRoom r.x.tenant r.index (kernelHdrOf b) = true)
    (fun r u a t => a = .ok [] ∧
      (t.kslot r.x.tenant r.index).ver = some (kernelHdrOf (kernelBytes (u.kslot r.x.tenant r.index).image)) ∧
      (t.kslot r.x.tenant r.index).image = (u.kslot r.x.tenant r.index).image ∧
      (t.kslot r.x.tenant r.index).copy = (u.kslot r.x.tenant r.index).image) true ∧
  Stages .cmdKernelDelete { op := 0x1103, roles := Operator, len := Long 4 }
    (fun r u => u.mapKslot r.x.tenant r.index (fun x => { x with deleting := true }))
    (fun r u => r.index < 4 ∧ r.arg = 0 ∧ u.kernelBound (r.x.tenant, r.index) = true) Req.index ∧
  Sets .cmdKernelDelete { op := 0x1103, roles := Operator, len := Long 4 } (fun r u => u.deleteKernel 1 r.x.sid 0 (r.x.tenant, r.index))
    (fun r u => r.index < 4 ∧ r.arg = 0 ∧ u.kernelBound (r.x.tenant, r.index) = false) ∧
  Answers .cmdMakerOpen { op := 0x7F00, roles := fun n => n = 3, hold := true } (fun _ u => u.boo.fuses.maker = true ∨ Config.fuseBack 4 1 u.free = 1)
    (fun r _ a t => a = .ok [] ∧ t.boo.dstate = .hold ∧ t.boo.holdCause = 4 ∧ t.boo.fuses.maker = true ∧
      (∀ x, t.session r.x.sid = some x → x.makerOpen = true)) true ∧
  Answers .cmdMakerMark { op := 0x7F02, roles := fun n => n = 3, may := fun r _ => r.x.makerOpen = true, hold := true
                          len := fun b => 4 ≤ b.length ∧ b.length = 4 + u16At b 0 }
    (fun r u => u16At r.pay 0 ≤ 256 ∧ Clear r 2 2 ∧ u.tallyRoom = true)
    (fun r u a t => a = .ok [] ∧ t = u.tally 0x0501 3 r.x.tenant r.x.sid r.pay) ∧
  Answers .cmdMakerClose { op := 0x7F01, roles := fun n => n = 3, may := fun r _ => r.x.makerOpen = true, hold := true }
    (fun r u => u.tallyRoom = true ∧ (u.session r.x.sid).map (fun x => (x.role, x.authed)) = some (3, true))
    (fun r u a t => a = .ok [] ∧ t.session r.x.sid = none ∧ t.pow.delayed = some (1, u.clk.up))

/-- 12 R321, R316: a parameter command answers an empty list with its whole table; a list whose entries name parameters of the table once, each in
its range and together within the rules between them, is in force at once or staged for the next boundary on top of one staged before. -/
def Obligations.ParameterCommandsReadAndSetTheirTables : Prop :=
  let whole : Req → State → Prop := fun r _ => r.scope = 0xFFFF
  SetsTable .cmdNullParams { op := 0x8402, roles := Installer } nullRows whole (fun _ u => u.arr.nullParams)
    (fun _ v u => { u with arr := { u.arr with nullParams := v } }) ∧
  SetsTable .cmdEvinSet { op := 0x1002, roles := Installer } evinRows (fun r _ => r.scope < 8) (fun r u => (u.evin r.scope).par)
    (fun r v u => u.mapEvin r.scope (fun e => { e with par := v })) ∧
  SetsTable .cmdStreamParams { op := 0x8910, roles := Installer } ethRows (fun r _ => r.scope < 2) (fun r u => (u.eth r.scope).par)
    (fun r v u => u.mapEth r.scope (fun e => { e with par := v })) ∧
  ReadsTable .cmdUartSet { op := 0x1000, roles := Installer } uartRows (fun r _ => r.scope < 4) (fun r u => (u.uart r.scope).par) ∧
  Sets .cmdUartSet { op := 0x1000, roles := Installer, len := parLength }
      (fun r u => u.setUart r.scope (parApply uartRows r.pars ((u.uart r.scope).staged.getD (u.uart r.scope).par)) (!(r.scope == 0 && r.p.transport == 5)))
      (fun r u => r.npar ≠ 0 ∧ GoodList uartRows r ∧ r.scope < 4 ∧
        uartRule r.scope (parApply uartRows r.pars ((u.uart r.scope).staged.getD (u.uart r.scope).par)) = none) ∧
  ReadsTable .cmdUartTiming { op := 0x9000, roles := Installer } uartTimingRows (fun r _ => r.scope < 4) (fun r u => (u.uart r.scope).par) ∧
  Sets .cmdUartTiming { op := 0x9000, roles := Installer, len := parLength }
      (fun r u => u.setUart r.scope (parApply uartTimingRows r.pars ((u.uart r.scope).staged.getD (u.uart r.scope).par))
        (!(r.scope == 0 && r.p.transport == 5)))
      (fun r u => r.npar ≠ 0 ∧ GoodList uartTimingRows r ∧ r.scope < 4 ∧
        uartRule r.scope (parApply uartTimingRows r.pars ((u.uart r.scope).staged.getD (u.uart r.scope).par)) = none) ∧
  StagesTable .cmdCoherenceParams { op := 0x8403, roles := Installer } cohRows (fun r _ => r.scope ≤ 2)
    (fun r u => (u.cohOf ((Band.ofCode r.scope).getD .u)).params)
    (fun r u => (u.cohOf ((Band.ofCode r.scope).getD .u)).paramsStaged.getD (u.cohOf ((Band.ofCode r.scope).getD .u)).params)
    (fun r v u => u.mapCoh ((Band.ofCode r.scope).getD .u) (fun c => { c with paramsStaged := some v }))
    (fun v => v.tauIn < v.tauOut ∧ v.phiIn < v.phiOut) Req.scope ∧
  StagesTable .cmdAssayParams { op := 0x8500, roles := Installer } assayRows whole (fun _ u => u.arr.assay.params)
    (fun _ u => u.arr.assay.paramsStaged.getD u.arr.assay.params) (fun _ v u => u.mapAssay (fun a => { a with paramsStaged := some v }))
    (fun v => v.qmin ≤ v.qmax) ∧
  StagesTable .cmdChLoop { op := 0x8600, roles := Hosts, ten := fun r u => r.role = 1 → (u.chan r.scope).owner = r.x.tenant } loopRows
    (fun r _ => r.scope < 384) (fun r u => (u.chan r.scope).loop) (fun r u => (u.chan r.scope).loopStaged.getD (u.chan r.scope).loop)
    (fun r v u => u.mapChan r.scope (fun c => { c with loopStaged := some v })) (fun _ => True) Req.scope ∧
  StagesTable .cmdAcqParams { op := 0x8701, roles := Installer } acqRows whole (fun _ u => u.trk.acq.params)
    (fun _ u => u.trk.acq.paramsStaged.getD u.trk.acq.params) (fun _ v u => u.mapAcq (fun a => { a with paramsStaged := some v })) ∧
  StagesTable .cmdSolParams { op := 0x8900, roles := Installer } solRows whole (fun _ u => u.sol.solP) (fun _ u => u.sol.solPS.getD u.sol.solP)
    (fun _ v u => { u with sol := { u.sol with solPS := some v } }) ∧
  StagesTable .cmdIntegParams { op := 0x8901, roles := Installer } integRows whole (fun _ u => u.sol.integP)
    (fun _ u => u.sol.integPS.getD u.sol.integP) (fun _ v u => { u with sol := { u.sol with integPS := some v } }) ∧
  StagesTable .cmdHoldParams { op := 0x8902, roles := Installer } holdRows whole (fun _ u => u.sol.holdP) (fun _ u => u.sol.holdPS.getD u.sol.holdP)
    (fun _ v u => { u with sol := { u.sol with holdPS := some v } }) ∧
  StagesTable .cmdRtcmParams { op := 0x8903, roles := Installer } rtcmRows whole (fun _ u => u.sol.rtcmP) (fun _ u => u.sol.rtcmPS.getD u.sol.rtcmP)
    (fun _ v u => { u with sol := { u.sol with rtcmPS := some v } }) ∧
  StagesTable .cmdServoParams { op := 0x8A01, roles := Installer } servoRows whole (fun _ u => u.syn.params)
    (fun _ u => u.syn.paramsStaged.getD u.syn.params) (fun _ v u => { u with syn := { u.syn with paramsStaged := some v } }) ∧
  StagesTable .cmdThermalParams { op := 0x8C00, roles := Installer } thermRows whole (fun _ u => u.hea.therm)
    (fun _ u => u.hea.thermStaged.getD u.hea.therm) (fun _ v u => { u with hea := { u.hea with thermStaged := some v } })
    (fun v => v.warn < v.thr1 ∧ v.thr1 < v.thr2 ∧ v.thr2 < v.thr3 ∧ v.thr3 ≤ v.trip - 2 ∧ v.cap2 ≤ v.cap1 ∧ v.cap3 ≤ v.cap2) ∧
  StagesTable .cmdCanaryParams { op := 0x8C01, roles := Installer } canaryRows whole (fun _ u => u.hea.canary)
    (fun _ u => u.hea.canaryStaged.getD u.hea.canary) (fun _ v u => { u with hea := { u.hea with canaryStaged := some v } })
    (fun v => v.eolCrit < v.eolWarn) ∧
  StagesTable .cmdDlParams { op := 0x8D00, roles := Installer } dlRows whole (fun _ u => u.fab.dlParams)
    (fun _ u => u.fab.dlStaged.getD u.fab.dlParams) (fun _ v u => { u with fab := { u.fab with dlStaged := some v } }) ∧
  ReadsTable .cmdTenantQuota { op := 0x0F03, roles := Installer } quotaRows (fun r u => (u.tenantNext r.scope).present = true)
      (fun r u => (u.tenant r.scope).quota) ∧
  Stages .cmdTenantQuota { op := 0x0F03, roles := Installer, len := parLength }
      (fun r u => { u with ten := { u.ten with staged := u.ten.staged ++ [.quota r.scope (parApply quotaRows r.pars (u.tenantNext r.scope).quota)] } })
      (fun r u => r.npar ≠ 0 ∧ GoodList quotaRows r ∧ (u.tenantNext r.scope).present = true ∧
        let f (n : Nat) := (TenantChange.quota r.scope (parApply quotaRows r.pars (u.tenantNext r.scope).quota)).after n (u.tenantNext n)
        u.sumsHold f = true ∧ u.overload u.fab.active (fun n => (f n).quota) u.loads = none) Req.scope ∧
  ReadsTable .cmdKernelBudget { op := 0x9100, roles := Installer } klimRows (fun r u => (u.tenantNext r.scope).present = true)
      (fun r u => (u.tenant r.scope).klim) ∧
  Stages .cmdKernelBudget { op := 0x9100, roles := Installer, len := parLength }
      (fun r u => { u with ten := { u.ten with staged := u.ten.staged ++ [.limits r.scope (parApply klimRows r.pars (u.tenantNext r.scope).klim)] } })
      (fun r u => r.npar ≠ 0 ∧ GoodList klimRows r ∧ (u.tenantNext r.scope).present = true ∧
        let k := parApply klimRows r.pars (u.tenantNext r.scope).klim
        let f (n : Nat) := (TenantChange.limits r.scope k).after n (u.tenantNext n)
        tenSum f (·.klim.kCode) ≤ 16384 ∧ tenSum f (·.klim.kConst) ≤ 4096 ∧ tenSum f (·.klim.kShare) ≤ 100 ∧
        (k.kShare < (u.tenantNext r.scope).klim.kShare → u.chargeAbove r.scope k.kShare = none)) Req.scope

/-! ### Sessions, tally, resets, power -/

/-- 12 R298, R306, R307, R309, R318; 13 R340–R342, R345; 21 R502: sessions close at their timeouts, lockouts end, discarded packets are counted,
undefined opcodes answered; queued tally records go to flash in order, the head after them, and a walk finds the first break. 12 R298: whatever
host command a packet carries, a packet whose magic, CRC, flags or length is wrong has no effect besides one count, in the session it names or,
where it names none, apart; on a transport that is not open it has none. -/
def Obligations.SessionTimersDiscardsAndTheTallyBook : Prop :=
  ((∀ (sid : Nat) (s : State),
      (s.session sid = none → exec (.evSessionIdleTimeout sid) s = .next s ∧ exec (.evAuthTimeout sid) s = .next s) ∧
      (∀ x : Session, s.session sid = some x →
        (s.upMs < x.lastReq + 1000 * x.idleT → exec (.evSessionIdleTimeout sid) s = .next s) ∧
        (x.lastReq + 1000 * x.idleT ≤ s.upMs → Gives (.evSessionIdleTimeout sid) s (fun t => t.session sid = none ∧
          (∀ i : Nat, i ≠ sid → t.session i = s.session i) ∧ (t.ten.tally.queue.getLast?).map (fun r => (r.typ, r.sid)) = some (0x0101, x.sid))) ∧
        (x.authm = 0 ∨ x.authed = true ∨ s.upMs < x.opened + 10000 → exec (.evAuthTimeout sid) s = .next s) ∧
        (x.authm ≠ 0 → x.authed = false → x.opened + 10000 ≤ s.upMs → Gives (.evAuthTimeout sid) s (fun t => t.session sid = none ∧
          ∀ i : Nat, i ≠ sid → t.session i = s.session i)))) ∧
    (∀ (transport : Nat) (source : List Byte) (s : State), Gives (.evLockoutExpiry transport source) s (fun t =>
      t = { s with ses := { s.ses with locked := t.ses.locked } } ∧
      ∀ l : Nat × List Byte × Nat, l ∈ t.ses.locked ↔ l ∈ s.ses.locked ∧
        ¬ (l.1 = (sourceKey transport source).1 ∧ l.2.1 = (sourceKey transport source).2 ∧ l.2.2 ≤ s.upMs))) ∧
    (∀ (transport : Nat) (source bytes : List Byte) (s : State),
      let p := rawPacket transport source bytes
      let op := u16At bytes 6
      (transport < 4 → Gives (.evDiscardedPacket transport source bytes false) s (fun t =>
        (t.eth (transport % 2)).badFrames = (s.eth (transport % 2)).badFrames + 1 ∧ t.ses = s.ses)) ∧
      (s.carries transport = true → bytes.length < 24 → exec (.evDiscardedPacket transport source bytes true) s = .next s.discardStray) ∧
      (24 ≤ bytes.length → opcodeDefined op = true → s.discarded op p = false → exec (.evDiscardedPacket transport source bytes true) s = .next s) ∧
      (24 ≤ bytes.length → s.carries transport = true → p.malformed op = true →
        exec (.evDiscardedPacket transport source bytes true) s = .next (match s.session p.sid with
          | some x => (s.unqueue op p).discardIn x.sid
          | none => (s.unqueue op p).discardStray)) ∧
      (∀ x : Session, 24 ≤ bytes.length → opcodeDefined op = false → Fresh op p x s → x.makerOpen = false →
        exec (.evDiscardedPacket transport source bytes true) s = .next ((s.taken op p x).finish (Req.of op p x s) (.fail 0x0101)))) ∧
    (∀ s : State,
      (s.ten.tally.queue = [] → exec .evTallyFlashWrite s = .next s) ∧
      (∀ (r : TallyRec) (rest : List TallyRec), s.ten.tally.queue = r :: rest → r.typ ≠ 3 ∨ u32At r.body 0 ≤ 128 → Gives .evTallyFlashWrite s (fun t =>
        t.ten.tally.queue = rest ∧ (∃ seg, t.ten.tally.flash = s.ten.tally.flash ++ [(seg, r)] ∧ (r.typ = 3 → seg = u32At r.body 0)) ∧
        t.ten.tally.head.seq = r.seq ∧ t.ten.tally.head.hash = sha256 r.bytes ∧ t.ten.tally.head.exp = s.ten.tally.head.exp ∧ t.ses = s.ses)) ∧
      (s.ten.tally.verify = none → exec .evTallyVerifyResult s = .next s) ∧
      (s.ten.tally.verify ≠ none → Gives .evTallyVerifyResult s (fun t => t.ten.tally.verify = none ∧ t.ten.tally.flash = s.ten.tally.flash ∧
        (t.ten.tally.broken = false ↔
          (∀ (i : Nat) (a b : Nat × TallyRec), s.ten.tally.flash[i]? = some a → s.ten.tally.flash[i + 1]? = some b → b.2.prev = sha256 a.2.bytes) ∧
          ∀ a : Nat × TallyRec, s.ten.tally.flash.head? = some a → a.2.seq = 1 → a.2.prev = List.replicate 32 0))))) ∧
  (∀ (i : Instr) (op : Nat) (p : Packet) (s : State), requestOf i = some (op, p) →
      (s.carries p.transport = false → exec i s = .next (s.unqueue op p)) ∧
      (s.carries p.transport = true → p.malformed op = true → exec i s = .next (match s.session p.sid with
        | some x => (s.unqueue op p).discardIn x.sid
        | none => (s.unqueue op p).discardStray)))

/-! ### Reset, boot, power -/

/-- 18 R442–R447, R450, "What each level clears", 13 R349: each source of a POWER-ON RESET or SYSTEM RESET clears the device, sets its bit of
`RST_CAUSE` and keeps flash, fuses and the backup count; the strap is read at a POWER-ON RESET. A CORE RESET keeps device time, the lanes, the
UARTs and the ports, and a watchdog expiry, 2 s after the watchdog last began to count, leaves a crash record. Only `RESET_N` and a thermal trip
hold the reset until they end. REFIN decides whether SYN-A locks and TCNT counts after a SYSTEM RESET (23 R546). -/
def Obligations.ResetsSetTheirCauseAndClearTheirLevel : Prop :=
  let cleared (ref : Bool) (s t : State) : Prop := t.boo.dstate = .boot ∧ t.boo.restart = false ∧ t.ses = {} ∧ t.cor = {} ∧ t.smp = {} ∧
    (let lock : SynLock := if ref then .locked else .coasting
     t.syn = { refValid := ref, synA := lock, bank := Vector.replicate 4 lock }) ∧
    t.clk = { runs := ref } ∧ t.fab.active = none ∧ t.pow.pst = .run ∧ t.pow.delayed = none ∧ t.boo.fuses = s.boo.fuses ∧ t.boo.copies = s.boo.copies ∧
    t.ten.tally.flash = s.ten.tally.flash ∧ t.bak.count = s.bak.count ∧ t.bak.bram = s.bak.bram
  let restarted (s t : State) : Prop := t.boo.dstate = .boot ∧ t.boo.restart = true ∧ t.ses = {} ∧ t.clk.tick = s.clk.tick ∧
    t.smp.lanes = s.smp.lanes ∧ t.por.uart = s.por.uart ∧ t.fab.active = none ∧
    (∀ n : Fin 32, (t.port n).cfg = (s.port n).cfg ∧ (t.port n).d = (s.port n).d ∧ (t.port n).rtt = (s.port n).rtt ∧ (t.port n).staged = none ∧
      (t.port n).enStaged = none ∧ (t.port n).pstate = (if (s.port n).pstate = .cal then .off else (s.port n).pstate)) ∧
    t.cor.core[18].dmem = s.cor.core[18].dmem.filter (fun x => decide (0x7C000 ≤ x.1)) ∧ t.cor.core[0] = {} ∧ t.bak.count = s.bak.count
  (∀ (x : Strap) (s : State),
    let powered (brown : Nat) (t : State) : Prop := cleared false s t ∧
      t.pow.rstCause = 1 + brown + (if s.pow.pst = .backup ∧ s.bak.pwrReq = true then 2048 else 0) + (if s.bak.lost = true then 4096 else 0) ∧
      (∀ c, x.code = some c → t.boo.strap = c.val ∧ t.boo.strapErr = false) ∧ (x.code = none → t.boo.strap = 3 ∧ t.boo.strapErr = true) ∧
      t.bak.wkpAddr = (if t.boo.strap = 1 ∨ t.boo.strap = 7 then 0x4B else if t.boo.strap = 12 ∨ t.boo.strap = 13 then 0x5C else 0x4A)
    Gives (.evPowerOnReset x) s (powered 0) ∧ Gives (.evBrownOut x) s (powered 2)) ∧
  (∀ s : State,
    (s.pow.pst ≠ .backup → Gives (.evResetN true) s (fun t => cleared s.syn.refValid s t ∧ t.pow.rstCause = s.pow.rstCause ||| 4 ∧ t.pow.resetHeld = true ∧
      t.bak.lastWake = 0)) ∧
    (s.pow.pst = .backup → exec (.evResetN true) s = .next { s with pow := { s.pow with resetHeld := true } }) ∧
    (s.pow.resetHeld = true → exec (.evResetN false) s = .next { s with pow := { s.pow with resetHeld := false, leftReset := s.clk.up } }) ∧
    (s.pow.resetHeld = false → exec (.evResetN false) s = .next s) ∧
    (s.mainUp = true → Gives .evDbgSys s (fun t => cleared s.syn.refValid s t ∧ t.pow.rstCause = s.pow.rstCause ||| 16)) ∧
    (s.mainUp = true → Gives .evDbgCore s (fun t => restarted s t ∧ t.pow.rstCause = s.pow.rstCause ||| 1024 ∧ t.pow.crash = s.pow.crash)) ∧
    (s.clk.up < s.pow.wdFrom + 163680000 → exec .evWatchdog s = .next s) ∧
    (s.mainUp = true → s.pow.pst = .run → s.boo.dstate ≠ .boot → s.pow.wdFrom + 163680000 ≤ s.clk.up → Gives .evWatchdog s (fun t => restarted s t ∧
      t.pow.rstCause = s.pow.rstCause ||| 64 ∧
      t.pow.crash = some ⟨s.cor.core[18].pc, s.cor.core[18].st.toNat, s.cor.core[18].excCause.toNat, s.cor.core[18].excAddr.toNat⟩)) ∧
    (s.pow.pst ≠ .run → exec .evWatchdog s = .next s) ∧
    (s.pow.delayed = none → exec .evResetDelayExpiry s = .next s) ∧
    (∀ due, s.pow.delayed = some (1, due) →
      (s.clk.up < due → exec .evResetDelayExpiry s = .next s) ∧
      (due ≤ s.clk.up → Gives .evResetDelayExpiry s (fun t => cleared s.syn.refValid s t ∧ t.pow.rstCause = s.pow.rstCause ||| 32))) ∧
    (∀ due, s.pow.delayed = some (0, due) → due ≤ s.clk.up →
      Gives .evResetDelayExpiry s (fun t => restarted s t ∧ t.pow.rstCause = s.pow.rstCause ||| 512)) ∧
    (s.sensing = true → s.pow.thermHold = false → s.hea.cross[4].crossed = true →
      Gives .evThermalTrip s (fun t => cleared s.syn.refValid s t ∧ t.pow.rstCause = s.pow.rstCause ||| 8 ∧ t.pow.thermHold = true)) ∧
    (s.hea.cross[4].crossed = false → exec .evThermalTrip s = .next s) ∧
    (s.pow.thermHold = true → s.hea.tj ≤ 4 * s.hea.therm.trip - 60 →
      exec .evThermalTripRelease s = .next { s with pow := { s.pow with thermHold := false, leftReset := s.clk.up } }) ∧
    (4 * s.hea.therm.trip - 60 < s.hea.tj → exec .evThermalTripRelease s = .next s))

/-- 14 R353, R354, R358, R363, 18 R450, 23 R558: a held reset keeps the Overman from booting, TEST_EN's too; a boot without a firmware image waits and tries again every 10 s; without an installer key and a valid `PROV` it
ends in HOLD with cause 1, with no sealed charter copy in HOLD with cause 2. -/
def Obligations.BootFindsFirmwareKeyAndCharter : Prop :=
  ∀ (found : BootFound) (s : State),
    (s.boo.dstate ≠ .boot → exec (.evBoot found) s = .next s ∧ exec (.evFirmwareRetry found) s = .next s) ∧
    (s.held = true ∨ s.pow.testEn = true → exec (.evBoot found) s = .next s ∧ exec (.evFirmwareRetry found) s = .next s) ∧
    (s.boo.fwRetry = none → exec (.evFirmwareRetry found) s = .next s) ∧
    (∀ t0, s.boo.fwRetry = some t0 → exec (.evBoot found) s = .next s ∧ (s.upMs < t0 + 10000 → exec (.evFirmwareRetry found) s = .next s)) ∧
    -- `BOOT` on an Overman that starts, `FIRMWARE_RETRY` 10 s after the last attempt: the same search.
    (let searched (i : Instr) : Prop :=
      ((∀ x ∈ found.fw, x = none) → Gives i s (fun t => t.boo.fwRetry = some t.upMs ∧ t.boo.dstate = .boot ∧ t.ten = s.ten)) ∧
      (∀ img : FwImage, found.fw = [some img, none] → s.boo.restart = false →
        (s.boo.fuses.bfloor.written = false ∨ (img.base.1 ≤ s.boo.fuses.bfloor.val ∧ s.boo.fuses.bfloor.val ≤ img.base.2)) →
        (s.boo.fuses.instKey.written = false → provOk found.prov = false →
          Gives i s (fun t => t.boo.dstate = .hold ∧ t.boo.holdCause = 1 ∧ t.boo.fwVer = (img.1, img.2.1, img.2.2.1))) ∧
        (s.boo.fuses.instKey.written = true → (∀ c : Fin 2, s.boo.copies[c].sealOf = none) →
          Gives i s (fun t => t.boo.dstate = .hold ∧ t.boo.holdCause = 2 ∧ t.boo.fwVer = (img.1, img.2.1, img.2.2.1) ∧
            t.boo.chkA = 0xFE ∧ t.boo.chkB = 0xFE)))
    (s.booting = true → s.boo.fwRetry = none → searched (.evBoot found)) ∧
    (∀ t0, s.booting = true → s.boo.fwRetry = some t0 → t0 + 10000 ≤ s.upMs → searched (.evFirmwareRetry found)))

/-- 18 R452–R461: an entry stops streams and sessions at E, opens its edge window 40 ms later and ends in its target state 6 backup ticks after
that; an edge before the window abandons the entry, one inside it is lost; a wake enabled by `WAKEMASK` brings RUN back, IDLE ends at any; a LAMP
cycle powers its set and arms C7, records its error once C7 is held, wakes when a check fails and otherwise sleeps again 4.5 ms after its tick. -/
def Obligations.PowerEntriesWakesAndLampCycles : Prop :=
  (∀ s : State,
    (s.pow.entry = none → exec .evPowerEntry s = .next s ∧ ∀ ev bev, exec (.evEdgeWindowClose ev bev) s = .next s) ∧
    (∀ e : PowEntry, s.pow.entry = some e →
      (e.phase = 0 → Gives .evPowerEntry s (fun t => t.pow.entry = some { e with phase := 1 } ∧ t.por.streams = [] ∧ t.ses.open_ = [] ∧
        t.sol.holdover = true ∧ t.pow.pst = s.pow.pst)) ∧
      (e.phase = 1 → Gives .evPowerEntry s (fun t => t.pow.retained = true ∧ t.clk.up = max s.clk.up (e.e + 40 * 81840) ∧
        t.pow.entry = some { e with phase := 2, window := some t.clk.up } ∧ t.pow.pst = s.pow.pst)) ∧
      (e.window = none → ∀ ev bev, exec (.evEdgeWindowClose ev bev) s = .next s) ∧
      (∀ w, e.window = some w →
        (e.wake = none → Gives (.evEdgeWindowClose 0 0) s (fun t => t.pow.pst = e.target ∧ t.pow.entry = none ∧ t.clk.up = max s.clk.up (w + 14986) ∧
          t.bak.pwrReq = decide (e.target ≠ PowState.backup))) ∧
        (∀ code index, e.wake = some (code, index) → e.target = .retain →
          Gives (.evEdgeWindowClose 0 0) s (fun t => t.pow.pst = .run ∧ t.pow.entry = none ∧ t.bak.lastWake = code % 16 + 16 * (index % 8)))))) ∧
  (∀ (code index : Nat) (s : State),
    (code = 0 ∨ 7 < code → exec (.evPowerExit code index) s = .next s) ∧
    (1 ≤ code → code ≤ 7 →
      (s.pow.entry = none → s.pow.pst = .run → exec (.evPowerExit code index) s = .next s) ∧
      (s.pow.entry = none → s.pow.pst = .idle → exec (.evPowerExit code index) s =
        .next { s with pow := { s.pow with pst := .run, pending := none, wdFrom := s.clk.up }, bak := { s.bak with lastWake := code + 16 * index } }) ∧
      (s.pow.entry = none → s.pow.pst = .retain → s.pow.exit_ = none →
        (s.pow.wakemask.testBit code = true → Gives (.evPowerExit code index) s (fun t => t.pow.pst = .run ∧ t.pow.retained = false ∧
          t.clk.up = s.clk.up + 245520 ∧ t.bak.lastWake = code % 16 + 16 * (index % 8))) ∧
        (s.pow.wakemask.testBit code = false → exec (.evPowerExit code index) s = .next s)) ∧
      (∀ e : PowEntry, s.pow.entry = some e → s.pow.wakemask.testBit code = true → s.levelWake code index = false → (code = 2 ∨ code = 4) →
        (e.window = none → Gives (.evPowerExit code index) s (fun t => t.pow = { s.pow with entry := none } ∧ t.clk = s.clk ∧
          t.bak = { s.bak with lastWake := code % 16 + 16 * (index % 8) } ∧ (e.phase = 0 ∨ e.target = .backup → t.smp = s.smp))) ∧
        (e.window.isSome = true → exec (.evPowerExit code index) s = .next { s with bak := { s.bak with wkLost := min 0xFFFF (s.bak.wkLost + 1) } })))) ∧
  (∀ s : State,
    let at_ := (s.pow.lampE + 1000 * s.pow.lamp.per * s.pow.lampK) * 81840
    (s.pow.pst ≠ .lamp ∨ s.pow.exit_ ≠ none → exec (.evLampCycle ()) s = .next s) ∧
    (s.pow.pst = .lamp → s.pow.exit_ = none →
      (s.pow.lampBusy = false → Gives (.evLampCycle ()) s (fun t => t.pow = { s.pow with lampBusy := true } ∧
        t.clk.up = s.clk.up + (at_ - s.lampLead - s.clk.tick) + 409200 ∧ (t.region 7).cstate = .armed ∧ (t.region 7).trigAt = some at_ ∧
        (t.region 7).base = (s.region 7).base ∧ (t.region 7).elems = s.pow.lamp.emask ∧ (t.region 7).bands = 2 ^ s.pow.lamp.band ∧
        (t.region 7).nblk = s.pow.lamp.nblk ∧ (t.region 7).cwidth = s.pow.lamp.width)) ∧
      (s.pow.lampBusy = true →
        (∀ v : Nat, s.pow.lampSleepAt = some v → Gives (.evLampCycle ()) s (fun t =>
          t.pow = { s.pow with lampBusy := false, lampSleepAt := none } ∧ t.clk.up = s.clk.up + (v - s.clk.tick))) ∧
        (s.pow.lampSleepAt = none → (s.region 7).cstate ≠ .held → exec (.evLampCycle ()) s = .next s) ∧
        (s.pow.lampSleepAt = none → (s.region 7).cstate = .held →
          let errors := (s.wait (at_ + 204600 - s.clk.tick)).lampErrors
          let row (res : Nat) : LampRec := { ltick := at_ % 2 ^ 48, lerr := quotI (medianInt errors) 10, lndet := errors.length, lres := res }
          Gives (.evLampCycle ()) s (fun t => errors ≠ [] →
            ((medianInt errors).natAbs ≤ 10 * s.pow.lamp.tthr → s.pow.lamp.nmin ≤ errors.length → (∃ x ∈ s.pow.preds, x.cycle = s.pow.lampK + 1) →
              t.pow.pst = .lamp ∧ t.pow.lampK = s.pow.lampK + 1 ∧ t.pow.lampRecs.getLast? = some (row 0) ∧
              t.pow.lampSleepAt = some (at_ + 368280)) ∧
            (10 * s.pow.lamp.tthr < (medianInt errors).natAbs → t.pow.pst = .run ∧
              t.pow.lampRecs.getLast? = some (row 1) ∧ t.bak.lastWake = 5 + 16) ∧
            ((medianInt errors).natAbs ≤ 10 * s.pow.lamp.tthr → errors.length < s.pow.lamp.nmin → t.pow.pst = .run ∧
              t.pow.lampRecs.getLast? = some (row 2) ∧ t.bak.lastWake = 5 + 16 * 2))))))

/-! ### Clocks, seams, backup domain -/

/-- 17 R427, R428, R436, R437, R440: a stope's clock stalls and restarts, a locked generator loses its lock and finds it again, a crossing is
forced after 16 retries, a seam is marked broken and acknowledges again. Each fault is reported as `FLT_SEAM` with its cause at most once per
second, each end with `FAULT_CLEAR`. -/
def Obligations.ClocksAndSeamsFailAndRecover : Prop :=
  let told (s t : State) (src dst cause : Nat) : Prop :=
    ((∀ x ∈ s.clk.seamTold, x.src = src → x.dst = dst → x.cause = cause → x.lastMs + 1000 ≤ s.upMs) →
      ∃ r, t.ses.reports.getLast? = some r ∧ r.ecode = 0x1003 ∧ r.esev = 2 ∧ r.body.take 3 = b8 cause ++ b8 (isid src) ++ b8 (isid dst)) ∧
    ((∃ x ∈ s.clk.seamTold, x.src = src ∧ x.dst = dst ∧ x.cause = cause ∧ s.upMs < x.lastMs + 1000) → t.ses.reports = s.ses.reports)
  let cleared (s t : State) (src dst : Nat) : Prop :=
    let unit := isid src + 256 * isid dst
    (s.toldWithin 1000 0x2004 (65536 * 0x1003 + unit) = false →
      ∃ r, t.ses.reports.getLast? = some r ∧ r.ecode = 0x2004 ∧ r.body = b16 0x1003 ++ b16 unit) ∧
    (s.toldWithin 1000 0x2004 (65536 * 0x1003 + unit) = true → t.ses.reports = s.ses.reports)
  let others (n : Nat) (s t : State) : Prop := ∀ j : Nat, j ≠ n → t.island j = s.island j
  (∀ (st : Fin 36) (s : State),
    ((s.island st.val).istate = .running → Gives (.evStopeStall st) s (fun t => (t.island st.val).istate = .stalled ∧ others st.val s t ∧
      told s t st.val st.val 3)) ∧
    ((s.island st.val).istate ≠ .running → exec (.evStopeStall st) s = .next s) ∧
    ((s.island st.val).istate = .stalled → Gives (.evStallRestart st) s (fun t => (t.island st.val).istate = .running ∧
      (t.island st.val).frep = 620 ∧ (t.island st.val).gen = 600 ∧ others st.val s t ∧ cleared s t st.val st.val)) ∧
    ((s.island st.val).istate ≠ .stalled → exec (.evStallRestart st) s = .next s)) ∧
  (∀ (n : Fin 156) (s : State),
    (36 ≤ n.val → n.val < 56 → (s.island n.val).istate = .running → Gives (.evGeneratorUnlock n) s (fun t =>
      (t.island n.val).istate = .unlocked ∧ others n.val s t ∧ told s t n.val n.val 2)) ∧
    (n.val < 36 ∨ 56 ≤ n.val ∨ (s.island n.val).istate ≠ .running → exec (.evGeneratorUnlock n) s = .next s) ∧
    ((s.island n.val).istate = .unlocked → Gives (.evGeneratorRelock n) s (fun t =>
      (t.island n.val).istate = .running ∧ others n.val s t ∧ cleared s t n.val n.val)) ∧
    ((s.island n.val).istate ≠ .unlocked → exec (.evGeneratorRelock n) s = .next s)) ∧
  (∀ (src dst : Fin 156) (s : State),
    Gives (.evForcedCrossing src dst) s (fun t => (t.island dst.val).retry = min 0xFFFFFFFF ((s.island dst.val).retry + 16) ∧
      (t.island dst.val).forced = min 0xFFFF ((s.island dst.val).forced + 1) ∧ (t.island dst.val).istate = (s.island dst.val).istate ∧
      others dst.val s t ∧ told s t src.val dst.val 1) ∧
    (s.markedBroken src.val dst.val = false →
      Gives (.evSeamTimeout src dst) s (fun t => t.markedBroken src.val dst.val = true ∧
        (t.island src.val).broken = min 0xFFFF ((s.island src.val).broken + 1) ∧ others src.val s t ∧ told s t src.val dst.val 4 ∧
        (36 ≤ src.val → src.val < 54 → t.cor.core[18].intPend = (if s.cor.core[18].lockup = true then s.cor.core[18].intPend
          else s.cor.core[18].intPend ||| 8#16)) ∧
        (src.val < 36 ∨ 54 ≤ src.val → t.cor = s.cor) ∧ ∀ k : Fin 18, t.cor.core[k] = s.cor.core[k]) ∧
      exec (.evSeamAcknowledge src dst) s = .next s) ∧
    (s.markedBroken src.val dst.val = true →
      Gives (.evSeamTimeout src dst) s (fun t => t.markedBroken src.val dst.val = true ∧ (∀ j : Nat, t.island j = s.island j) ∧
        ∀ b ∈ s.clk.brokenSeams, b.src = src.val → b.dst = dst.val → { b with dropped := b.dropped + 1 } ∈ t.clk.brokenSeams) ∧
      Gives (.evSeamAcknowledge src dst) s (fun t => t.markedBroken src.val dst.val = false ∧ cleared s t src.val dst.val ∧
        ∀ b ∈ s.clk.brokenSeams, b.src ≠ src.val ∨ b.dst ≠ dst.val → b ∈ t.clk.brokenSeams)))

/-- 19 R463, R464, R467, R468, R471–R475, R477: the events of the backup domain. -/
def Obligations.TheBackupDomainKeepsItsCount : Prop :=
  (∀ s : State,
    Gives .evBackupPowerOn s (fun t => t.bak.count = 0 ∧ t.bak.tvalid = false ∧ t.bak.trimEn = false ∧ t.bak.halted = false ∧
      t.bak.curve = resetCurve ∧ t.bak.curveStore = s.bak.curveStore ∧ t.bak.lost = true ∧ t.ten.tally.head.crcOk = false ∧
      t.ten.tally.flash = s.ten.tally.flash ∧ t.clk = s.clk) ∧
    (∀ v : Bool, exec (.evBackupSupplySwitch v) s = .next { s with bak := { s.bak with onVbat := v } }) ∧
    (s.bak.halted = true → 65535 ≤ s.bak.hcnt →
      let released := { s.bak with halted := false, tickHalt := false, tickErr := true, count := (s.bak.count + s.bak.hcnt) % 2 ^ 48 }
      exec .evHaltTimeout s = .next { s with bak := released }) ∧
    (s.bak.halted = false ∨ s.bak.hcnt < 65535 → exec .evHaltTimeout s = .next s)) ∧
  (∀ (temp : Int) (s : State),
    let due := (if s.bak.onVbat = true then 16 else 1) * 32768 ≤ s.bak.tempTicks
    let now := if (if s.bak.onVbat = true then 16 else 1) * 32768 ≤ s.bak.tempTicks then temp else s.bak.temp
    let sampled (t : State) : Prop := t.bak.temp = now ∧ (due → t.bak.tempTicks = 0) ∧ (¬due → t.bak.tempTicks = s.bak.tempTicks) ∧
      t.bak.count = s.bak.count ∧ t = { s with bak := t.bak }
    (s.bak.trimTicks < 32768 → Gives (.evTrimUpdate temp) s (fun t => sampled t ∧ t.bak.trimTicks = s.bak.trimTicks ∧ t.bak.trim = s.bak.trim ∧
      t.bak.frac = s.bak.frac ∧ t.bak.payout = s.bak.payout ∧ (¬due → t = s))) ∧
    (32768 ≤ s.bak.trimTicks → s.bak.trimEn = true → Gives (.evTrimUpdate temp) s (fun t => sampled t ∧
      t.bak.trim = s.bak.rAt now ∧ t.bak.padj = 0 ∧ t.bak.trimTicks = s.bak.trimTicks - 32768 ∧ t.bak.frac < 2 ^ 20 ∧
      2 ^ 20 * t.bak.payout + t.bak.frac = 2 ^ 20 * s.bak.payout + s.bak.frac + s.bak.rAt now + s.bak.padj)) ∧
    (32768 ≤ s.bak.trimTicks → s.bak.trimEn = false → Gives (.evTrimUpdate temp) s (fun t => sampled t ∧ t.bak.payout = s.bak.payout ∧
      t.bak.frac = s.bak.frac ∧ t.bak.trimTicks = s.bak.trimTicks - 32768))) ∧
  (∀ s : State,
    (s.bak.pwEn = false → exec .evPeriodicWake s = .next s) ∧
    (s.bak.pwEn = true → s.bak.count / 2 ^ (s.bak.pwE + 7) = s.bak.pwLast → exec .evPeriodicWake s = .next s) ∧
    (s.bak.pwEn = true → s.bak.count / 2 ^ (s.bak.pwE + 7) ≠ s.bak.pwLast → s.pow.entry = none →
      (s.pow.pst = .run → exec .evPeriodicWake s =
        .next { s with bak := { s.bak with pwLast := s.bak.count / 2 ^ (s.bak.pwE + 7), pwFlag := true } }) ∧
      (s.pow.pst = .idle → Gives .evPeriodicWake s (fun t => t.pow.pst = .run ∧ t.bak.lastWake = 3 ∧ t.bak.pwFlag = s.bak.pwFlag)))) ∧
  (∀ (n : Fin 2) (rising : Bool) (s : State), s.pow.pst = .run → s.pow.entry = none →
    let sel := (s.bak.bevCfg / 4 ^ n.val).testBit (if rising then 0 else 1)
    let others (t : State) : Prop := ∀ m : Fin 2, m ≠ n → t.bak.bev[m] = s.bak.bev[m]
    (s.bak.bev[n].level = rising → exec (.evBevEdge n rising) s = .next s) ∧
    (s.bak.bev[n].level ≠ rising →
      (sel = false → Gives (.evBevEdge n rising) s (fun t => t.bak.bev[n] = { s.bak.bev[n] with level := rising } ∧ others t)) ∧
      (sel = true → s.bak.halted = false → s.bak.bev[n].fifo.length < 4 → Gives (.evBevEdge n rising) s (fun t =>
        t.bak.bev[n] = { s.bak.bev[n] with level := rising, fifo := s.bak.bev[n].fifo ++ [⟨s.bak.count, rising, false⟩] } ∧ others t)) ∧
      (sel = true → 4 ≤ s.bak.bev[n].fifo.length → Gives (.evBevEdge n rising) s (fun t =>
        t.bak.bev[n] = { s.bak.bev[n] with level := rising, merge := min 4095 (s.bak.bev[n].merge + 1) } ∧ others t)))) ∧
  (∀ s : State,
    (s.sol.grade.code < Grade.nominal.code ∨ s.upMs < s.bak.alignMs + 16000 ∨ s.awake = false → exec .evCounterAlign s = .next s) ∧
    (Grade.nominal.code ≤ s.sol.grade.code → s.bak.alignMs + 16000 ≤ s.upMs → s.awake = true →
      let res := s.countErr
      (s.bak.tvalid = true → -(2 ^ 23) ≤ res → res < 2 ^ 23 → Gives .evCounterAlign s (fun t => t.bak.padj = res ∧ t.bak.count = s.bak.count ∧
        t.bak.aTick = s.bak.count ∧ t.bak.alignMs = s.upMs ∧ t.clk = s.clk)) ∧
      (s.bak.tvalid = false → Gives .evCounterAlign s (fun t => t.bak.tvalid = true ∧ t.bak.tickHalt = false ∧ t.bak.aTick = t.bak.count ∧
        t.bak.alignMs = s.upMs)))) ∧
  (∀ s : State,
    let fresh (b : BackupState) : State := { s with bak := { b with learn := some { from_ := s.upMs, err := s.countErr } } }
    (s.sol.grade.code < Grade.nominal.code ∨ s.sol.holdover = true ∨ s.bak.tvalid = false →
      exec (.evTrimLearn () () ()) s = .next { s with bak := { s.bak with learn := none } }) ∧
    (Grade.nominal.code ≤ s.sol.grade.code → s.sol.holdover = false → s.bak.tvalid = true →
      (s.bak.learn = none → exec (.evTrimLearn () () ()) s = .next (fresh s.bak)) ∧
      ∀ w, s.bak.learn = some w →
        (s.upMs < w.from_ + 1000000 → exec (.evTrimLearn () () ()) s = .next s) ∧
        (w.from_ + 1000000 ≤ s.upMs →
          (w.temps = [] ∨ (∃ x ∈ w.temps, ∃ y ∈ w.temps, 4 < x - y) → exec (.evTrimLearn () () ()) s = .next (fresh s.bak)) ∧
          (w.temps ≠ [] → (∀ x ∈ w.temps, ∀ y ∈ w.temps, x - y ≤ 4) → s.bak.curve.length = 8 →
            let temp := quotI (w.temps.foldl (· + ·) 0) (w.temps.length : Nat)
            let residual := w.residual s.countErr s.upMs
            Gives (.evTrimLearn () () ()) s (fun t => ∃ i < 8, (∀ j < 8, ((s.bak.curve.getD i (0, 0)).1 - temp).natAbs ≤
                ((s.bak.curve.getD j (0, 0)).1 - temp).natAbs) ∧
              t.bak.curve = s.bak.curve.set i ((s.bak.curve.getD i (0, 0)).1, (s.bak.curve.getD i (0, 0)).2 + quotI residual 2) ∧
              t.bak.residuals = (residual :: s.bak.residuals).take 32 ∧ 50 ≤ t.bak.trimUnc ∧
              t.bak.learn = some { from_ := s.upMs, err := s.countErr } ∧ t = { s with bak := t.bak }))))) ∧
  (∀ (mv : Nat) (s : State),
    let measured : BackupState := { s.bak with vbat := mv / 10 * 10, vbatAt := some s.upMs }
    (s.bak.onVbat = true ∨ (∃ m, s.bak.vbatAt = some m ∧ s.upMs < m + 60000) → exec (.evVbatMeasure mv) s = .next s) ∧
    (s.bak.onVbat = false → (∀ m, s.bak.vbatAt = some m → m + 60000 ≤ s.upMs) →
      (1800 ≤ mv → exec (.evVbatMeasure mv) s = .next { s with bak := measured }) ∧
      (mv < 1800 →
        ((∀ m, s.bak.vbatTold = some m → m + 3600000 ≤ s.upMs) → Gives (.evVbatMeasure mv) s (fun t =>
          t.bak = { measured with vbatTold := some s.upMs } ∧
          ∃ r, t.ses.reports.getLast? = some r ∧ r.ecode = 0x2008 ∧ r.body = b16 (mv / 10 * 10) ++ bz 2)) ∧
        (∀ m, s.bak.vbatTold = some m → s.upMs < m + 3600000 → exec (.evVbatMeasure mv) s = .next { s with bak := measured }))))

/-! ### Local ports, Ethernet, health -/

/-- 20 R482–R494: characters received and sent, dead lines, U0 frames, and the transfers of the SPI host port. -/
def Obligations.UartsAndTheSpiPortMoveTheirBytes : Prop :=
  let rest (n : Nat) (s t : State) : Prop := ∀ m : Nat, m ≠ n → t.uart m = s.uart m
  (∀ (n : Fin 4) (c : UartChar) (s : State),
    let u := s.uart n.val
    let taken := s.mainUp = true ∧ u.par.umode ≠ 0 ∧ u.echo s.clk.up = false ∧ u.par.level c 0 = false ∧ (u.waitMark = false ∨ 16 ≤ c.mark)
    let err := !u.par.parityOk c || !u.par.stopOk c
    let counts (t : State) : Prop := (t.uart n.val).rxchr = (u.rxchr + 1) % 2 ^ 32 ∧ rest n.val s t ∧
      (t.uart n.val).framing = (if u.par.stopOk c = true then u.framing else min 0xFFFF (u.framing + 1)) ∧
      (t.uart n.val).parity = (if u.par.parityOk c = true then u.parity else min 0xFFFF (u.parity + 1)) ∧
      (t.uart n.val).noise = (if u.par.noisy c = true then min 0xFFFF (u.noise + 1) else u.noise)
    (¬taken → exec (.evUartCharacter n c) s = .next s) ∧
    (taken → u.par.ufunc = 3 → u.par.allZero c = false →
      (s.boo.dstate ≠ .boot → u.hold = none →
        (u.rxq.length < 1024 → Gives (.evUartCharacter n c) s (fun t => counts t ∧ (t.uart n.val).rxq = u.rxq ++ [u.par.data c] ∧
          (t.uart n.val).ovr = u.ovr)) ∧
        (1024 ≤ u.rxq.length → Gives (.evUartCharacter n c) s (fun t => counts t ∧ (t.uart n.val).rxq = u.rxq ∧
          (t.uart n.val).ovr = min 0xFFFF (u.ovr + 1)))) ∧
      (s.boo.dstate = .boot →
        (u.hold = none → Gives (.evUartCharacter n c) s (fun t => counts t ∧ (t.uart n.val).hold = some (u.par.data c, err) ∧
          (t.uart n.val).ovr = u.ovr ∧ (t.uart n.val).rxq = u.rxq)) ∧
        (u.hold ≠ none → Gives (.evUartCharacter n c) s (fun t => counts t ∧ (t.uart n.val).hold = u.hold ∧
          (t.uart n.val).ovr = min 0xFFFF (u.ovr + 1) ∧ (t.uart n.val).rxq = u.rxq)))) ∧
    (taken → u.par.ufunc = 3 → u.par.allZero c = true → Gives (.evUartCharacter n c) s (fun t => (t.uart n.val).rxq = u.rxq ∧
      (t.uart n.val).breaks = min 0xFFFF (u.breaks + 1) ∧ (t.uart n.val).rxd = false ∧ (t.uart n.val).waitMark = true ∧
      (t.uart n.val).rxchr = u.rxchr ∧ rest n.val s t))) ∧
  (∀ (c : UartChar) (s : State),
    let u := s.uart 0
    let f := u.frame
    s.mainUp = true → s.boo.dstate ≠ .boot → u.par.umode ≠ 0 → u.par.ufunc = 0 → u.echo s.clk.up = false → u.hold = none → u.waitMark = false →
    f.inside = true → f.bytes ≠ [] → s.clk.up ≤ f.lastUp + 818400 →
    (u.par.level c 0 = false → u.par.allZero c = false → u.par.parityOk c = true → u.par.stopOk c = true → u.par.data c = 0x7E#8 →
      (f.esc = false → f.bad = false → frameGood f.bytes = true → Gives (.evUartCharacter 0 c) s (fun t =>
        t.por.u0in = s.por.u0in ++ [f.bytes.take (f.bytes.length - 4)] ∧ (t.uart 0).frame.bytes = [] ∧ (t.uart 0).frame.inside = true ∧
        (t.uart 0).frmerr = u.frmerr)) ∧
      (f.esc = true ∨ f.bad = true ∨ frameGood f.bytes = false → Gives (.evUartCharacter 0 c) s (fun t => t.por.u0in = s.por.u0in ∧
        (t.uart 0).frmerr = min 0xFFFF (u.frmerr + 1) ∧ (t.uart 0).frame.bytes = []))) ∧
    Gives .evU0GapTimeout s (fun t => (t.uart 0).frame = {} ∧ (t.uart 0).frmerr = min 0xFFFF (u.frmerr + 1) ∧
      t.clk.up = f.lastUp + 818401 ∧ t.por.u0in = s.por.u0in)) ∧
  (∀ (n : Fin 4) (s : State), s.mainUp = true → (s.uart n.val).par.umode ≠ 0 →
    let u := s.uart n.val
    (u.dead = true → exec (.evLineDead n) s = .next s) ∧
    (u.dead = false → Gives (.evLineDead n) s (fun t => (t.uart n.val).dead = true ∧ (t.uart n.val).deads = min 0xFFFF (u.deads + 1) ∧
      (∀ up, u.lowSince = some up → t.clk.up = max s.clk.up (up + u.par.chars 64)) ∧ rest n.val s t ∧
      (s.toldWithin 1000 0x1801 n.val = false → ∃ r, t.ses.reports.getLast? = some r ∧ r.ecode = 0x1801))) ∧
    (u.dead = false → u.lowSince = none → exec (.evLineRecover n) s = .next s) ∧
    (u.dead = true → Gives (.evLineRecover n) s (fun t => (t.uart n.val).dead = false ∧ (t.uart n.val).lowSince = none ∧
      (t.uart n.val).rxd = true ∧ rest n.val s t ∧
      (s.toldWithin 1000 0x2004 (65536 * 0x1801 + n.val) = false →
        ∃ r, t.ses.reports.getLast? = some r ∧ r.ecode = 0x2004 ∧ r.body = b16 0x1801 ++ b16 n.val))) ∧
    (u.dead = false → u.lowSince ≠ none → Gives (.evLineRecover n) s (fun t => (t.uart n.val).lowSince = none ∧ (t.uart n.val).rxd = true ∧
      (t.uart n.val).waitMark = false ∧ rest n.val s t ∧ t.ses = s.ses)) ∧
    (s.boo.dstate = .boot → exec (.evUartTransmit n) s = .next s) ∧
    (s.boo.dstate ≠ .boot → u.par.ufunc = 3 → u.txBusy = false → u.txq ≠ [] →
      (u.par.uduplex = 0 → Gives (.evUartTransmit n) s (fun t => (t.uart n.val).txd = u.txq ∧ (t.uart n.val).txq = [] ∧
        (t.uart n.val).txBusy = true ∧ (t.uart n.val).txEnd = s.clk.up + u.par.chars u.txq.length ∧ rest n.val s t)) ∧
      (u.par.uduplex = 1 → u.lowSince = none → u.markSince + u.par.chars u.par.turnGap ≤ s.clk.up →
        Gives (.evUartTransmit n) s (fun t => (t.uart n.val).txd = u.txq ∧ (t.uart n.val).ude = true ∧
          (t.uart n.val).txEnd = s.clk.up + u.par.sixteenths u.par.deLead + u.par.chars u.txq.length + u.par.sixteenths u.par.deTail)) ∧
      (u.par.uduplex = 1 → s.clk.up < u.markSince + u.par.chars u.par.turnGap →
        Gives (.evUartTransmit n) s (fun t => t.uart n.val = u ∧ rest n.val s t))) ∧
    (s.boo.dstate ≠ .boot → u.par.ufunc = 3 → u.txBusy = true → u.txq = [] → u.txEnd ≤ s.clk.up →
      Gives (.evUartTransmit n) s (fun t => (t.uart n.val).txBusy = false ∧ (t.uart n.val).ude = false ∧
        (t.uart n.val).par = u.staged.getD u.par ∧ rest n.val s t))) ∧
  (∀ s : State, s.mainUp = true → s.pow.pst = .run → s.pow.entry = none →
    let x := s.por.spi
    let q := s.ses.out.find? (fun p => p.transport == 4)
    (∀ p : List Byte, 24 ≤ p.length → p.length ≤ 1448 →
      let b := b16 p.length ++ p ++ b32 (crc32 p)
      let spi (inq : List (List Byte)) (full : Bool) : SpiState := { inq := inq, wrFail := false, wrFull := full, miso := List.replicate b.length 0 }
      (x.inq.length < 4 → exec (.evSpiWr b true) s = .next { s with por := { s.por with spi := spi (x.inq ++ [p]) false } }) ∧
      (4 ≤ x.inq.length → exec (.evSpiWr b true) s = .next { s with por := { s.por with spi := spi x.inq true } }) ∧
      Gives (.evSpiWr b false) s (fun t => t.por.spi.inq = x.inq ∧ t.por.spi.wrFail = true ∧ t.por.spi.wrFull = false)) ∧
    (q = none → exec (.evSpiRd true) s = .next { s with por := { s.por with spi := { x with miso := b16 0 } } }) ∧
    (∀ p, q = some p → ∀ whole : Bool, Gives (.evSpiRd whole) s (fun t =>
      t.por.spi.miso = b16 p.bytes.length ++ p.bytes ++ b32 (crc32 p.bytes) ∧
      t.ses.out = if whole = true then dropFirst (fun p => p.transport == 4) s.ses.out else s.ses.out)) ∧
    Gives .evSpiSt s (fun t => t.por.spi.miso = b8 (bbool q.isSome + 2 * bbool (decide (x.inq.length < 4)) + 4 * bbool x.wrFail + 8 * bbool x.wrFull) ++
      b16 ((q.map (fun p => p.bytes.length)).getD 0) ++ bz 1 ∧ t.por.spi.inq = x.inq ∧ t.ses = s.ses))

/-- 20 R495–R500: the wake port matches its address, answers reads and clears a dead bus; an edge on an event input is stamped, or merged within
100 ns of the last stamp, beyond the rate or into a full FIFO. -/
def Obligations.TheWakePortAndTheEventInputs : Prop :=
  (∀ (addr : BitVec 7) (read : Bool) (s : State), s.bak.wen = true → s.por.wakePort.sdaDead = false → s.pow.entry = none →
    let w := s.por.wakePort
    let port (w : WakePortState) : State := { s with por := { s.por with wakePort := w } }
    (addr.toNat ≠ s.bak.wkpAddr → exec (.evWakePortMatch addr read) s = .next (port { w with ack := false, reading := false, ignoring := true })) ∧
    (addr.toNat = s.bak.wkpAddr → s.pow.pst = .run →
      exec (.evWakePortMatch addr read) s = .next (port { w with ack := true, reading := read, ignoring := false })) ∧
    (addr.toNat = s.bak.wkpAddr → s.pow.pst = .idle → Gives (.evWakePortMatch addr read) s (fun t => t.pow.pst = .run ∧ t.bak.lastWake = 1 ∧
      t.por.wakePort = { w with ack := true, reading := read, ignoring := true }))) ∧
  (∀ (s : State) (addr : BitVec 7) (read : Bool), s.bak.wen = false ∨ s.por.wakePort.sdaDead = true →
    exec (.evWakePortMatch addr read) s = .next s) ∧
  (∀ (count : Nat) (s : State),
    (s.por.wakePort.reading = false → exec (.evWakePortRead count) s = .next s) ∧
    (s.por.wakePort.reading = true → s.por.wakePort.ignoring = false → Gives (.evWakePortRead count) s (fun t =>
      t.por.wakePort.reply = ([s.boo.dstate.code, s.sol.grade.code, bbool s.sol.holdover, s.bak.lastWake].flatMap b8 ++
        List.replicate count 0xFF#8).take count ∧ t.por.wakePort.reading = false))) ∧
  (∀ s : State, s.mainUp = true → s.bak.wen = true →
    let w := s.por.wakePort
    (w.sdaDead = false → ∀ k, 1 ≤ k → k ≤ 9 → exec (.evBusClear (some k)) s =
      .next { s with por := { s.por with wakePort := { w with ack := false, reading := false, clearMs := s.upMs, pulses := k } } }) ∧
    (w.sdaDead = false → Gives (.evBusClear none) s (fun t => t.por.wakePort.sdaDead = true ∧ t.por.wakePort.pulses = 9 ∧
      t.por.wakePort.clearMs = s.upMs)) ∧
    (w.sdaDead = false → exec (.evBusClear (some 0)) s = .next s) ∧
    (w.sdaDead = true → s.upMs < w.clearMs + 1000 → exec (.evBusClear none) s = .next s) ∧
    (w.sdaDead = true → Gives (.evBusClear (some 0)) s (fun t => t.por.wakePort.sdaDead = false ∧
      (s.toldWithin 1000 0x2004 (65536 * 0x1801 + 4) = false →
        ∃ r, t.ses.reports.getLast? = some r ∧ r.ecode = 0x2004 ∧ r.body = b16 0x1801 ++ b16 4))) ∧
    Gives .evSclStuck s (fun t => t.por.wakePort = { w with ack := false, reading := false, ignoring := false })) ∧
  (∀ s : State, s.bak.wen = false → (∀ k, exec (.evBusClear k) s = .next s) ∧ exec .evSclStuck s = .next s) ∧
  (∀ (n : Fin 8) (e : EvEdge) (s : State),
    let x := s.evin n.val
    let at_ := 256 * e.tick + e.frac % 256
    (s.held = true ∨ s.pow.pst = .backup ∨ e.held < x.par.minw → exec (.evEventEdge n e) s = .next s) ∧
    (s.mainUp = true → x.par.minw ≤ e.held →
      (x.par.edge.testBit (if e.rising = true then 0 else 1) = false → Gives (.evEventEdge n e) s (fun t =>
        (t.evin n.val).level = e.rising ∧ (t.evin n.val).fifo = x.fifo ∧ (t.evin n.val).merge = x.merge)) ∧
      (x.par.edge.testBit (if e.rising = true then 0 else 1) = true → s.pow.pst = .run → s.pow.entry = none →
        ((∀ l, x.lastStamp = some l → 2095104 < (at_ - l) * 1000) → (x.sec = e.tick / 81840000 → x.secStamps < x.par.rmax) → 0 < x.par.rmax →
          x.fifo.length < 256 → Gives (.evEventEdge n e) s (fun t =>
            (t.evin n.val).fifo = x.fifo ++ [{ etk := e.tick % 2 ^ 48, efr := e.frac % 256, ein := n.val, eedge := bbool e.rising, emrg := x.emrg }] ∧
            (t.evin n.val).emrg = 0 ∧ (t.evin n.val).lastStamp = some at_ ∧ (t.evin n.val).merge = x.merge ∧
            ∀ m : Nat, m ≠ n.val → t.evin m = s.evin m)) ∧
        ((∀ l, x.lastStamp = some l → 2095104 < (at_ - l) * 1000) → x.sec = e.tick / 81840000 → x.par.rmax ≤ x.secStamps →
          Gives (.evEventEdge n e) s (fun t => (t.evin n.val).fifo = x.fifo ∧ (t.evin n.val).emrg = min 0xFFFF (x.emrg + 1) ∧
            (t.evin n.val).merge = min 0xFFFFFFFF (x.merge + 1) ∧ (t.evin n.val).secMerged = min 0xFFFF (x.secMerged + 1) ∧
            ∀ m : Nat, m ≠ n.val → t.evin m = s.evin m)) ∧
        (∀ l, x.lastStamp = some l → (at_ - l) * 1000 ≤ 2095104 → Gives (.evEventEdge n e) s (fun t =>
            (t.evin n.val).fifo = x.fifo ∧ (t.evin n.val).emrg = min 0xFFFF (x.emrg + 1) ∧ (t.evin n.val).merge = min 0xFFFFFFFF (x.merge + 1) ∧
            ∀ m : Nat, m ≠ n.val → t.evin m = s.evin m)))))

/-- 18 R455, 21 R505, R512, R515, R516: frames received on an Ethernet port, its link, and what leaves it when the wire is free. -/
def Obligations.EthernetPortsReceiveAndSend : Prop :=
  ∀ (k : Fin 2) (s : State),
    let e := s.eth k.val
    let rest (t : State) : Prop := ∀ j : Nat, j ≠ k.val → t.eth j = s.eth j
    (∀ frame fcsOk, s.held = true ∨ fcsOk = false ∨ isMagic (macOf k.val) frame = false → exec (.evMagicFrame ⟨k, frame, fcsOk⟩) s = .next s) ∧
    (∀ dst head tail : List Byte, dst = macOf k.val ∨ dst = List.replicate 6 0xFF#8 → s.held = false → s.pow.entry = none → s.pow.pst = .idle →
      Gives (.evMagicFrame ⟨k, dst ++ head ++ List.replicate 6 0xFF#8 ++ (List.replicate 16 (macOf k.val)).flatten ++ tail, true⟩) s (fun t =>
        t.pow.pst = .run ∧ t.bak.lastWake = 7 + 16 * k.val)) ∧
    (∀ src msg : List Byte, src.length = 6 → ptpMessage k.val (beBytes 6 0x011B19000000 ++ src ++ [0x88#8, 0xF7#8] ++ msg) = some msg) ∧
    (s.mainUp = true →
      (∀ frame fcsOk, e.link = false → exec (.evPtpFrame k frame fcsOk) s = .next s) ∧
      (∀ frame fcsOk, e.link = true → fcsOk = false ∨ 1518 < frame.length → Gives (.evPtpFrame k frame fcsOk) s (fun t =>
        t.eth k.val = { e with badFrames := min 0xFFFFFFFF (e.badFrames + 1) } ∧ rest t ∧ t.por.streams = s.por.streams)) ∧
      (∀ frame, e.link = true → frame.length ≤ 1518 → ptpMessage k.val frame = none → exec (.evPtpFrame k frame true) s = .next s) ∧
      (∀ frame msg, e.link = true → frame.length ≤ 1518 → ptpMessage k.val frame = some msg →
        (e.ptpSec = s.upMs / 1000 → e.par.ptpRate ≤ e.ptpCount → Gives (.evPtpFrame k frame true) s (fun t =>
          t.por.streams = s.por.streams.map (fun x => if x.kind = 6 ∧ x.port = k.val ∧ x.draining = false
            then { x with ndrop := min 0xFFFFFFFF (x.ndrop + 1) } else x))) ∧
        ((e.ptpSec = s.upMs / 1000 → e.ptpCount < e.par.ptpRate) → 0 < e.par.ptpRate → Gives (.evPtpFrame k frame true) s (fun t =>
          (t.eth k.val).ptpSec = s.upMs / 1000 ∧ (t.eth k.val).ptpCount = (if e.ptpSec = s.upMs / 1000 then e.ptpCount else 0) + 1 ∧
          t.por.streams.length = s.por.streams.length ∧
          ∀ (i : Nat) (x : StreamState), s.por.streams[i]? = some x → x.kind = 6 → x.port = k.val → x.draining = false → x.ptp = [] →
            ∃ y, t.por.streams[i]? = some y ∧ y.ptp.length = 1 ∧ y.ndrop = x.ndrop))) ∧
      (∀ quanta : Nat, (e.link = true → e.par.pauseRx = 1 → Gives (.evPauseFrame k quanta) s (fun t =>
          (t.eth k.val).pauseUntil = s.clk.up + (64 * quanta * 8184 + 100 * e.rate - 1) / (100 * e.rate) ∧ rest t ∧ t.por.streams = s.por.streams)) ∧
        (e.link = false ∨ e.par.pauseRx ≠ 1 → exec (.evPauseFrame k quanta) s = .next s)) ∧
      Gives (.evLinkDown k) s (fun t => (t.eth k.val).link = false ∧ rest t ∧
        ∀ x ∈ s.por.streams, x.port ≠ k.val → x ∈ t.por.streams) ∧
      Gives (.evLinkUp k) s (fun t => (t.eth k.val).link = true ∧ rest t ∧
        ∀ x ∈ s.por.streams, x.port ≠ k.val → x ∈ t.por.streams) ∧
      (e.link = false → Gives (.evEgress k) s (fun t => t.eth k.val = e ∧ rest t ∧ t.ses = s.ses)) ∧
      (e.link = true →
        (max s.clk.up e.wireUntil < e.pauseUntil → Gives (.evEgress k) s (fun t => (t.eth k.val).sent = e.sent ∧ t.ses = s.ses ∧
          t.por.streams = s.por.streams)) ∧
        (e.pauseUntil ≤ max s.clk.up e.wireUntil → s.por.streams = [] →
          (∀ o, s.ses.out.find? (fun o => o.transport == k.val || o.transport == k.val + 2) = some o → Gives (.evEgress k) s (fun t =>
            (t.eth k.val).sent = some (.reply o.bytes) ∧ t.clk.up = max s.clk.up e.wireUntil ∧ t.clk.up < (t.eth k.val).wireUntil ∧
            t.ses.out = dropFirst (fun o => o.transport == k.val || o.transport == k.val + 2) s.ses.out)) ∧
          (s.ses.out.find? (fun o => o.transport == k.val || o.transport == k.val + 2) = none →
            Gives (.evEgress k) s (fun t => (t.eth k.val).sent = e.sent ∧ t.ses = s.ses)))))

/-- 22 R519–R523: a unit's measurement enters its wear entry with the index of R520, monitors are read at their intervals only, the third reading
outside its range leaves a unit unmonitored (the range itself is open: log 60), a failing row is spared; R526–R529: the sensors, read each ms, give
Tj, a threshold is crossed after 16 ms, the throttle state follows the crossings at most once in 250 ms and sets the cap of every stope, and the way
back from a derated plan is proposed. -/
def Obligations.CanariesSparesAndThermalControl : Prop :=
  let soon (at_ : Option Nat) (now ms : Nat) : Prop := ∃ m, at_ = some m ∧ now < m + ms
  let due (at_ : Option Nat) (now ms : Nat) : Prop := ∀ m, at_ = some m → m + ms ≤ now
  let others (n : Nat) (s t : State) : Prop := ∀ j : Nat, j ≠ n → t.wearOf j = { s.wearOf j with proposed := (t.wearOf j).proposed }
  let taken (n : Nat) (v : Int) (s t : State) : Prop :=
    (t.wearOf n).margin = v ∧ (t.wearOf n).unmon = decide (3 ≤ (s.wearOf n).badReads) ∧
    (∃ x, (t.wearOf n).history = (x, marginOf n v) :: (s.wearOf n).history)
  let refused (n : Nat) (s t : State) : Prop :=
    (t.wearOf n).margin = (s.wearOf n).margin ∧ (t.wearOf n).history = (s.wearOf n).history ∧
    (t.wearOf n).badReads = (s.wearOf n).badReads + 1 ∧
    (t.wearOf n).unmon = ((s.wearOf n).unmon || decide ((s.wearOf n).badReads = 2))
  (∀ s : State, s.awake = false → (∀ l, exec (.evRingMonitor l) s = .next s) ∧ (∀ u m r, exec (.evSramMarginTest u m r) s = .next s) ∧
    ∀ el eye, exec (.evEyeMonitor el eye) s = .next s) ∧
  (∀ s : State, (soon s.hea.ringAt s.upMs 60000 → ∀ l, exec (.evRingMonitor l) s = .next s) ∧
    (∀ u m r, soon (s.wearOf u).measAt s.upMs 86400000 → exec (.evSramMarginTest u m r) s = .next s) ∧
    ∀ (el : Fin 98) (eye : Nat), soon (s.wearOf (57 + el.val)).measAt s.upMs 1000 → exec (.evEyeMonitor el eye) s = .next s) ∧
  (∀ s : State, s.awake = true → s.lyparil = false → due s.hea.ringAt s.upMs 60000 →
    Gives (.evRingMonitor []) s (fun t => t.hea.ringAt = some s.upMs ∧
      (s.hea.minutes + 1 < 60 → t.hea.minutes = s.hea.minutes + 1 ∧ ∀ n : Nat, n < 314 → (t.wearOf n).ageH = (s.wearOf n).ageH) ∧
      (s.hea.minutes = 59 → t.hea.minutes = 0 ∧ ∀ n : Nat, n < 314 → (t.wearOf n).ageH = min 0xFFFFFFFF ((s.wearOf n).ageH + 1))) ∧
    ∀ r : WearReading, (57 ≤ r.unit → exec (.evRingMonitor [r]) s = exec (.evRingMonitor []) s) ∧
      (r.unit < 57 → Gives (.evRingMonitor [r]) s (fun t => t.hea.ringAt = some s.upMs ∧
        (Config.plausible r.unit r.value = true → taken r.unit r.value s t ∧
          (t.wearOf r.unit).widx = widxOf (Config.firstMargin r.unit) (Config.cornerFreq r.unit r.value)
            (if r.unit < 36 then 1000 * (s.lifeFloor r.unit : Nat) else 840000)) ∧
        (Config.plausible r.unit r.value = false → refused r.unit s t)))) ∧
  (∀ (u : Nat) (m : Int) (s : State), s.awake = true →
    (u < 187 ∨ 314 ≤ u → ∀ r, exec (.evSramMarginTest u m r) s = .next s) ∧
    (187 ≤ u → u < 314 → due (s.wearOf u).measAt s.upMs 86400000 →
      let measured (t : State) : Prop := (Config.plausible u m = true → taken u m s t) ∧ (Config.plausible u m = false → refused u s t) ∧
        others u s t ∧ (t.wearOf u).measAt = some s.upMs
      Gives (.evSramMarginTest u m none) s (fun t => measured t ∧ (t.wearOf u).srows = (s.wearOf u).srows ∧ t.hea.remap = s.hea.remap ∧
        (Config.plausible u m = true → (s.wearOf u).srows < 2 → (t.wearOf u).widx = 1000)) ∧
      (∀ row, 0 < (s.wearOf u).srows → Gives (.evSramMarginTest u m (some row)) s (fun t => measured t ∧
        (t.wearOf u).srows = (s.wearOf u).srows - 1 ∧ t.hea.remap = s.hea.remap ++ [(u, row)] ∧
        ∃ r, t.ten.tally.queue.getLast? = some r ∧ r.typ = 0x0401)) ∧
      (∀ row, (s.wearOf u).srows = 0 → Gives (.evSramMarginTest u m (some row)) s (fun t => measured t ∧ t.hea.remap = s.hea.remap ∧
        (t.wearOf u).srows = 0)))) ∧
  (∀ (el : Fin 98) (eye : Nat) (s : State), s.awake = true →
    let n := 57 + el.val
    due (s.wearOf n).measAt s.upMs 1000 →
    (el.val < 96 → (s.lane el.val).lver ≠ 3 → Gives (.evEyeMonitor el eye) s (fun t =>
      t.wearOf n = { s.wearOf n with unmon := true, measAt := some s.upMs } ∧ ∀ j : Nat, j ≠ n → t.wearOf j = s.wearOf j)) ∧
    (96 ≤ el.val ∨ (s.lane el.val).lver = 3 →
      (eye ≤ 64 → Gives (.evEyeMonitor el eye) s (fun t => others n s t ∧ (el.val < 96 → (t.lane el.val).eye = eye) ∧
        (Config.plausible n eye = true → taken n eye s t) ∧ (Config.plausible n eye = false → refused n s t))) ∧
      (64 < eye → Gives (.evEyeMonitor el eye) s (fun t => refused n s t ∧ others n s t)))) ∧
  (∀ (v : List Int) (s : State),
    (s.sensing = false → exec (.evThermalSample v) s = .next s) ∧
    (soon s.hea.senAt s.clk.up 81840 → exec (.evThermalSample v) s = .next s) ∧
    (s.sensing = true → due s.hea.senAt s.clk.up 81840 → Gives (.evThermalSample v) s (fun t =>
      (∀ n : Fin 40, t.hea.sens[n].reading = v.getD n.val 0 ∧ (t.hea.sens[n].inService = true → v.getD n.val 0 ≤ t.hea.tj)) ∧
      ((∃ n : Fin 40, t.hea.sens[n].inService = true) → ∃ n : Fin 40, t.hea.sens[n].inService = true ∧ t.hea.tj = v.getD n.val 0) ∧
      ∀ k : Fin 5,
        (s.thermalRuns = true ∨ (k.val = 4 ∧ s.pow.thermHold = false) → s.hea.cross[k].above = 16 →
          4 * s.hea.therm.thresholds.getD k.val 0 ≤ t.hea.tj → t.hea.cross[k].crossed = true) ∧
        (t.hea.tj < 4 * s.hea.therm.thresholds.getD k.val 0 → s.hea.cross[k].crossed = false → t.hea.cross[k].crossed = false)))) ∧
  (∀ s : State, s.thermalRuns = true →
    (s.throttleDue = s.hea.throttle → exec .evThrottleChange s = .next s) ∧
    (∀ up, s.hea.lastChange = some up → s.clk.up < up + 20460000 → exec .evThrottleChange s = .next s) ∧
    (s.throttleDue ≠ s.hea.throttle → (∀ up, s.hea.lastChange = some up → up + 20460000 ≤ s.clk.up) → s.fab.active = none → s.fab.swap = none →
      (∀ i : Fin 36, s.clk.isl[i.val].cap = s.hea.cap) →
      Gives .evThrottleChange s (fun t => t.hea.throttle = s.throttleDue ∧ t.hea.lastChange = some s.clk.up ∧
        t.hea.cap = [880, s.hea.therm.cap1, s.hea.therm.cap2, s.hea.therm.cap3].getD s.throttleDue 880 ∧
        ∀ i : Fin 36, t.clk.isl[i.val].cap = t.hea.cap))) ∧
  (∀ s : State,
    (s.hea.swapped = false ∨ s.hea.backSince = none → exec .evThermalReturn s = .next s) ∧
    (∀ up, s.hea.swapped = true → s.hea.backSince = some up →
      (s.upMs < up + 1000 * s.hea.therm.back → exec .evThermalReturn s = .next s) ∧
      (up + 1000 * s.hea.therm.back ≤ s.upMs → s.proposed 5 0 0 = false → Gives .evThermalReturn s (fun t => t.hea.swapped = false ∧
        t.hea.backSince = none ∧ ∃ p : Proposal, t.hea.props = s.hea.props ++ [p] ∧ p.sact = 5 ∧ p.sres = 0xFF ∧ p.scause = 6 ∧ p.sstate = 0))))

/-! ### The whole machine -/

/-- A step takes the command at the front of the queue and runs it on the state with the rest of the queue (the model's queue: log 10). -/
def Obligations.StepRunsTheCommandInFront : Prop :=
  ∀ (c : Instr) (l : List Instr) (s : State), step { s with pending := c :: l } = exec c { s with pending := l }

/-- With an empty queue the block idles for one tick of 81.84 MHz (log 10: the model's choice): the time since power-on goes on by one, the tick
counter with it while its clock runs (23 R546), and nothing outside the clock and the backup domain changes. -/
def Obligations.AnIdleStepLetsOneTickPass : Prop :=
  ∀ s : State, s.pending = [] → ∃ t : State, step s = .next t ∧ t.clk.up = s.clk.up + 1 ∧ t = { s with clk := t.clk, bak := t.bak } ∧
    t.clk = { s.clk with tick := t.clk.tick, up := t.clk.up } ∧
    (s.clk.runs = true → t.clk.tick = s.clk.tick + 1 ∧ t.tcnt = (s.tcnt + 1) % 2 ^ 48) ∧
    (s.clk.runs = false → t.clk.tick = s.clk.tick)

/-- What reset leaves (02 lane states, 06 channel states, 12 R302, 14, 16 R418, 17 R430, 18 R447; the values the spec gives): no command waits,
TCNT counts from 0, every lane is `OFF`, every channel `IDLE`, no plan is active and none is verified, no session is open, no stream exists,
every core stands at address 0 with `st` 0, and the device is in BOOT. -/
def Obligations.ResetLeavesAnEmptyMachine : Prop :=
  State.reset.pending = [] ∧ State.reset.tcnt = 0 ∧ (∀ n : Fin 96, State.reset.smp.lanes[n].state = .off) ∧
  (∀ n : Fin 384, State.reset.trk.ch[n].st = .idle) ∧ State.reset.fab.active = none ∧ State.reset.fab.swap = none ∧
  (∀ k : Fin 3, State.reset.fab.slots[k].verified = false) ∧ State.reset.ses.open_ = [] ∧ State.reset.por.streams = [] ∧
  (∀ k : Fin 19, State.reset.cor.core[k].pc = 0 ∧ State.reset.cor.core[k].st = 0 ∧ State.reset.cor.core[k].lockup = false) ∧
  State.reset.boo.dstate = .boot ∧ State.reset.sol.grade = .none

/-- The cores of reset are sound. -/
def Obligations.ResetCoresAreSound : Prop := SoundCores State.reset

/-- Every step keeps the cores sound: whatever command or event runs, reserved `st` bits read 0 afterwards and the memories stay canonical. -/
def Obligations.EveryStepKeepsTheCoresSound : Prop := ∀ s t : State, SoundCores s → step s = .next t → SoundCores t

/-- The frames: an event or a register access completes in every state and changes nothing outside the parts listed for it; no command whatever
stops the machine, none changes the queue of the commands that wait (the model's queue: log 10). -/
def Obligations.EventsKeepWhatIsNotTheirs : Prop :=
  (∀ (i : Instr) (l : List Part) (s : State), i.parts = some l → Gives i s (fun t => ∀ p : Part, p ∉ l → p.same s t)) ∧
  ∀ (i : Instr) (s : State), Gives i s (fun t => t.pending = s.pending)
end

