-- ==== Sys2Proof/Laws/Commands.lean ====
section
/-! SUPPORT. What the command channel does with a request that reaches its session, once for every command that is served by its spec
(12 R315): which check turns it away, and how its answer goes out. -/

namespace Sys2Proof.Machine

@[simp] theorem unqueue_ses (op : Nat) (p : Packet) (s : State) : (s.unqueue op p).ses = s.ses := by
  simp only [State.unqueue]; repeat' split
  all_goals rfl

@[simp] theorem unqueue_boo (op : Nat) (p : Packet) (s : State) : (s.unqueue op p).boo = s.boo := by
  simp only [State.unqueue]; repeat' split
  all_goals rfl

@[simp] theorem unqueue_pow (op : Nat) (p : Packet) (s : State) : (s.unqueue op p).pow = s.pow := by
  simp only [State.unqueue]; repeat' split
  all_goals rfl

@[simp] theorem unqueue_clk (op : Nat) (p : Packet) (s : State) : (s.unqueue op p).clk = s.clk := by
  simp only [State.unqueue]; repeat' split
  all_goals rfl

@[simp] theorem unqueue_carries (op : Nat) (p : Packet) (s : State) (t : Nat) : (s.unqueue op p).carries t = s.carries t := by
  simp [State.carries, State.held]

@[simp] theorem unqueue_session (op : Nat) (p : Packet) (s : State) (sid : Nat) : (s.unqueue op p).session sid = s.session sid := by
  simp [State.session]

@[simp] theorem mapSession_boo (sid : Nat) (f : Session → Session) (s : State) : (s.mapSession sid f).boo = s.boo := rfl

@[simp] theorem taken_boo (op : Nat) (p : Packet) (x : Session) (s : State) : (s.taken op p x).boo = s.boo := by simp [State.taken]

theorem session_sid {s : State} {sid : Nat} {x : Session} (h : s.session sid = some x) : x.sid = sid := by
  have := List.find?_some h; simpa using this

/-- A request that is new to its session is served in the state in which its session has noted it. -/
theorem receive_fresh {op : Nat} {p : Packet} {x : Session} {s : State} (h : Fresh op p x s) (body : Req → State → Reply × State) :
    s.receive op (op == 1) body p =
      (body (Req.of op p x s) (s.taken op p x)).2.finish (Req.of op p x s) (body (Req.of op p x s) (s.taken op p x)).1 := by
  have h1 := h.carried; have h2 := h.formed; have h3 := h.session; have h4 := h.isNew; have h5 := h.room
  have hu : (s.unqueue op p).upMs = s.upMs := by simp [State.upMs]
  simp only [State.receive, State.inSession, unqueue_carries, h1, Bool.not_true, Bool.false_eq_true, if_false, h2, unqueue_session, h3, h4,
    hu, unqueue_clk, h5, h.major, h.minor, bne_self_eq_false, Bool.or_self]
  rfl

/-- How the spec of a command and a row of the command table agree. -/
structure CmdSpec.Fits (c : CmdSpec) (w : CmdRow) : Prop where
  op : c.opcode = w.op
  notAuth : w.op ≠ 1
  role : ∀ r s, c.role r s = true ↔ w.roles r.role ∧ w.may r s
  ten : ∀ r s, c.tenant r s = true ↔ w.ten r s
  len : ∀ r, c.len r = true ↔ w.len r.pay
  hold : c.hold = w.hold
  idle : c.idle = w.idle
  gcp1 : c.gcp1 = w.gcp1

theorem command_refuses {ctor : Packet → Instr} {w : CmdRow} (c : CmdSpec) (f : c.Fits w) (he : ∀ p s, exec (ctor p) s = s.command c p) :
    Refuses ctor w := by
  intro p x s hf r t no
  have hauth : (w.op == 1) = false := by simpa using f.notAuth
  have key : exec (ctor p) s = .next ((c.serve r t).2.finish r (c.serve r t).1) := by
    rw [he, State.command, f.op, ← receive_fresh hf c.serve, hauth]
  have hgo : ∀ a, c.serve r t = (.fail a, t) → no a := by
    intro a h
    show exec (ctor p) s = _
    rw [key, h]
  have hb : t.boo = s.boo := taken_boo ..
  have hx1 : r.x.gcp1 = x.gcp1 := rfl
  have hpay : ∀ q : Prop, (c.len r = true ↔ q) → (c.len r = false ↔ ¬ q) := by intro q h; rw [← h]; simp
  refine ⟨fun g1 g2 => hgo _ (by simp [CmdSpec.serve, hx1, g1, f.gcp1, g2, stBadOpcode]), fun g => ?_⟩
  have g' : (r.x.gcp1 && !c.gcp1) = false := by
    rw [hx1, f.gcp1]; cases hq : x.gcp1 <;> simp_all
  have hrx : (r.p.role != r.x.role) = (p.role != x.role) := rfl
  have htx : (r.p.tenant != r.x.tenant) = (p.tenant != x.tenant) := rfl
  have hov : r.p.overlong = p.overlong := rfl
  refine ⟨fun hr => hgo _ ?_, fun hr1 hr2 hm => ⟨fun ht => hgo _ ?_, fun ht1 ht2 => ⟨fun hl => hgo _ ?_, fun hl1 hl2 hd1 hd2 => hgo _ ?_⟩⟩⟩
  · have : (r.p.role != r.x.role || !c.role r t) = true := by
      rw [hrx]
      rcases hr with hr | hr
      · simp [hr]
      · have : ¬ (c.role r t = true) := fun hc => hr ((f.role r t).1 hc).1
        simp [this]
    simp [CmdSpec.serve, g', this, stDeniedRole]
  · have h1 : (r.p.role != r.x.role || !c.role r t) = false := by
      rw [hrx, (f.role r t).2 ⟨hr2, hm⟩]; simp [hr1]
    have h2 : (r.p.tenant != r.x.tenant) = true := by rw [htx]; simp [ht]
    simp [CmdSpec.serve, g', h1, h2, stDeniedTenant]
  · have h1 : (r.p.role != r.x.role || !c.role r t) = false := by
      rw [hrx, (f.role r t).2 ⟨hr2, hm⟩]; simp [hr1]
    have h2 : (r.p.tenant != r.x.tenant) = false := by rw [htx]; simp [ht1]
    have h2' : (!c.tenant r t) = false := by rw [(f.ten r t).2 ht2]; rfl
    have h3 : (r.p.overlong || !c.len r) = true := by
      rw [hov]
      rcases hl with hl | hl
      · simp [hl]
      · have : ¬ (c.len r = true) := fun hc => hl ((f.len r).1 hc)
        simp [this]
    simp [CmdSpec.serve, g', h1, h2, h2', h3, stBadLength]
  · have h1 : (r.p.role != r.x.role || !c.role r t) = false := by
      rw [hrx, (f.role r t).2 ⟨hr2, hm⟩]; simp [hr1]
    have h2 : (r.p.tenant != r.x.tenant) = false := by rw [htx]; simp [ht1]
    have h2' : (!c.tenant r t) = false := by rw [(f.ten r t).2 ht2]; rfl
    have h3 : (r.p.overlong || !c.len r) = false := by
      rw [hov, hl1, (f.len r).2 hl2]; rfl
    have h4 : (t.boo.dstate != .run && !c.hold) = true := by
      rw [hb, f.hold, hd2]; simp [hd1]
    simp [CmdSpec.serve, g', h1, h2, h2', h3, h4, stInHold]

theorem command_leads {ctor : Packet → Instr} {w : CmdRow} {when : Req → State → Prop} {P : Req → State → Reply → State → Prop} {rec : Bool}
    {after : Req → State → State} (c : CmdSpec) (f : c.Fits w) (hz : c.after = after) (he : ∀ p s, exec (ctor p) s = s.command c p)
    (hp : ∀ r u, r.opcode = w.op → when r u → c.param r u = none ∧ c.changes r = rec ∧ P r u (c.run r u).1 (c.run r u).2 ∧ (rec = true → (c.run r u).1.good = true)) :
    Leads ctor w when P rec after := by
  intro p x s ha r u hw ht
  have hauth : (w.op == 1) = false := by simpa using f.notAuth
  have key : exec (ctor p) s = .next ((c.serve r (s.taken w.op p x)).2.finish r (c.serve r (s.taken w.op p x)).1) := by
    rw [he, State.command, f.op, ← receive_fresh ha.fresh c.serve, hauth]
  obtain ⟨q1, q2, q3, q4⟩ := hp r u rfl hw
  refine ⟨(c.run r u).1, (c.run r u).2, q3, ?_⟩
  have g' : (r.x.gcp1 && !c.gcp1) = false := by
    have hx1 : r.x.gcp1 = x.gcp1 := rfl
    have := ha.version
    rw [hx1, f.gcp1]; cases hq : x.gcp1 <;> simp_all
  have h1 : (r.p.role != r.x.role || !c.role r (s.taken w.op p x)) = false := by
    have hrx : (r.p.role != r.x.role) = (p.role != x.role) := rfl
    rw [hrx, (f.role r _).2 ⟨ha.listed, ha.may⟩]; simp [ha.role]
  have h2 : (r.p.tenant != r.x.tenant) = false := by
    have htx : (r.p.tenant != r.x.tenant) = (p.tenant != x.tenant) := rfl
    rw [htx]; simp [ha.tenant]
  have h2' : (!c.tenant r (s.taken w.op p x)) = false := by rw [(f.ten r _).2 ha.ten]; rfl
  have h3 : (r.p.overlong || !c.len r) = false := by
    have hov : r.p.overlong = p.overlong := rfl
    rw [hov, ha.exact_, (f.len r).2 ha.len]; rfl
  have h4 : ((s.taken w.op p x).boo.dstate != .run && !c.hold) = false := by
    rw [taken_boo, f.hold]
    rcases ha.hold with h | h <;> simp [h]
  have h5 : (if c.idle then s.taken w.op p x else (s.taken w.op p x).leaveIdle 8 0) = u := by rw [f.idle]; rfl
  have hs : c.serve r (s.taken w.op p x) =
      (if rec = true then ((c.run r u).1, after r (r.record (c.run r u).1 (c.run r u).2)) else c.run r u) := by
    unfold CmdSpec.serve
    simp only [g', h1, h2, h2', h3, h4, Bool.false_eq_true, if_false, h5, q1, q2, hz]
    cases rec with
    | false => simp
    | true => simp [ht rfl, q4 rfl]
  rw [key, hs]
  cases rec <;> rfl

theorem answers_of {ctor : Packet → Instr} {w : CmdRow} {when : Req → State → Prop} {P : Req → State → Reply → State → Prop} {rec : Bool}
    {after : Req → State → State} (c : CmdSpec) (f : c.Fits w) (hz : c.after = after) (he : ∀ p s, exec (ctor p) s = s.command c p)
    (hp : ∀ r u, r.opcode = w.op → when r u → c.param r u = none ∧ c.changes r = rec ∧ P r u (c.run r u).1 (c.run r u).2 ∧ (rec = true → (c.run r u).1.good = true)) :
    Answers ctor w when P rec after := ⟨command_refuses c f he, command_leads c f hz he hp⟩

theorem reads_of {ctor : Packet → Instr} {w : CmdRow} {data : Req → State → List Byte} {when : Req → State → Prop}
    (c : CmdSpec) (f : c.Fits w) (hz : c.after = fun _ s => s) (he : ∀ p s, exec (ctor p) s = s.command c p)
    (hp : ∀ r u, r.opcode = w.op → when r u → c.param r u = none ∧ c.changes r = false ∧ c.run r u = (.ok (data r u), u)) : Reads ctor w data when :=
  answers_of c f hz he (fun r u o h => by obtain ⟨a, b, d⟩ := hp r u o h; simp [a, b, d])

theorem shows_of {ctor : Packet → Instr} {w : CmdRow} {when : Req → State → Prop}
    (c : CmdSpec) (f : c.Fits w) (hz : c.after = fun _ s => s) (he : ∀ p s, exec (ctor p) s = s.command c p)
    (hp : ∀ r u, r.opcode = w.op → when r u → c.param r u = none ∧ c.changes r = false ∧ ∃ d, c.run r u = (.ok d, u)) : Shows ctor w when :=
  answers_of c f hz he (fun r u o h => by obtain ⟨a, b, d, e⟩ := hp r u o h; rw [e]; exact ⟨a, b, ⟨⟨d, rfl⟩, rfl⟩, fun h => by cases h⟩)

theorem sets_of {ctor : Packet → Instr} {w : CmdRow} {g : Req → State → State} {when : Req → State → Prop} {data : Req → State → List Byte}
    {rec : Bool} {after : Req → State → State} (c : CmdSpec) (f : c.Fits w) (hz : c.after = after) (he : ∀ p s, exec (ctor p) s = s.command c p)
    (hp : ∀ r u, r.opcode = w.op → when r u → c.param r u = none ∧ c.changes r = rec ∧ c.run r u = (.ok (data r u), g r u)) : Sets ctor w g when data rec after :=
  answers_of c f hz he (fun r u o h => by obtain ⟨a, b, d⟩ := hp r u o h; simp [a, b, d, Reply.good, Reply.ok])

theorem stages_of {ctor : Packet → Instr} {w : CmdRow} {g : Req → State → State} {when : Req → State → Prop} {unit : Req → Nat}
    (c : CmdSpec) (f : c.Fits w) (hz : c.after = fun _ s => s) (he : ∀ p s, exec (ctor p) s = s.command c p)
    (hp : ∀ r u, r.opcode = w.op → when r u → c.param r u = none ∧ c.changes r = true ∧ c.run r u = (g r u).accept r (unit r) ∧
      (g r u).nextBoundary = u.nextBoundary) : Stages ctor w g when unit :=
  answers_of c f hz he (fun r u o h => by
    obtain ⟨a, b, d, e⟩ := hp r u o h
    simp [a, b, d, State.accept, Reply.accepted, Reply.good, stAccepted, e, o])

theorem firstBad_none (l : List (Bool × Nat)) : firstBad l = none ↔ ∀ x ∈ l, x.1 = false := by
  induction l with
  | nil => simp [firstBad]
  | cons a l ih => obtain ⟨b, f⟩ := a; cases b <;> simp [firstBad, ih]

theorem firstSome_cons {α : Type} (a : Option α) (l : List (Option α)) : firstSome (a :: l) = none ↔ a = none ∧ firstSome l = none := by
  cases a <;> simp [firstSome]

theorem must_none (b : Bool) (k : Nat) : must b k = none ↔ b = true := by cases b <;> simp [must]

end Sys2Proof.Machine
end

