-- ==== Sys2Proof/Laws/Hb.lean ====
section
/-! SUPPORT. What the frame of an HB24 instruction does: putting a core back, the cycle budget, an interrupt that is not taken, and an
instruction that completes, faults or traps on a core that stands ready. -/

namespace Sys2Proof.Machine

@[simp] theorem setCore_core_self (s : State) (k : Fin 19) (c : CoreState) : (s.setCore k c).cor.core[k] = c := by
  simp [State.setCore]

theorem setCore_core_ne (s : State) (k j : Fin 19) (c : CoreState) (h : j ≠ k) : (s.setCore k c).cor.core[j] = s.cor.core[j] := by
  have : k.val ≠ j.val := fun e => h (Fin.ext e.symm)
  simp [State.setCore, Vector.getElem_set_ne, this]

@[simp] theorem setCore_setCore (s : State) (k : Fin 19) (c d : CoreState) : (s.setCore k c).setCore k d = s.setCore k d := by
  simp [State.setCore]

@[simp] theorem setCore_core (s : State) (k : Fin 19) : s.setCore k s.cor.core[k] = s := by
  simp [State.setCore]

@[simp] theorem setCore_free (s : State) (k : Fin 19) (c : CoreState) : (s.setCore k c).free = s.free := rfl

theorem takeIrq_masked (s : State) (k : Fin 19) (h : s.cor.core[k].ie = false) : s.takeIrq k = s := by
  simp [State.takeIrq, h, -Fin.getElem_fin]

theorem line_none (c : CoreState) (h : c.intPend &&& c.intEn = 0) : c.line = none := by
  simp [CoreState.line, h]

theorem takeIrq_closed (s : State) (k : Fin 19) (h : s.cor.core[k].open_ = false) : s.takeIrq k = s := by
  simp [State.takeIrq, h, -Fin.getElem_fin]

theorem takeIrq_quiet (s : State) (k : Fin 19)
    (h : s.cor.core[k].st.getLsbD 0 = false ∨ s.cor.core[k].intPend &&& s.cor.core[k].intEn = 0) : s.takeIrq k = s := by
  rcases h with h | h
  · exact takeIrq_masked s k h
  · simp [State.takeIrq, line_none _ h, -Fin.getElem_fin]

theorem dropRepi (c : CoreState) (h : c.repi = none) : ({ c with repi := none } : CoreState) = c := by
  cases c
  simp_all

/-- On a ready core, an instruction that its function completes leaves what its `Done` says, before the interrupt test. -/
theorem runCore_done {k : Fin 19} {len : Nat} {kind : Kind} {f : State → CoreState → Res} {s s1 : State} {d : Done}
    (h : Ready k len s) (hf : f s s.cor.core[k] = .done s1 d) :
    s.runCore k len kind f =
      match d.trap with
      | some (v, info) => s1.enter k ((d.settle s.cor.core[k]).advance s.cor.core[k] d (s.cor.core[k].pc + len))
          { push := ((d.settle s.cor.core[k]).advance s.cor.core[k] d (s.cor.core[k].pc + len)).pc, vector := v, info := info }
      | none => (s1.setCore k ((d.settle s.cor.core[k]).advance s.cor.core[k] d (s.cor.core[k].pc + len))).takeIrq k := by
  have hl : s.cor.core[k].writeLink (s.cor.core[k].pc + len) = s.cor.core[k] := by simp [CoreState.writeLink, h.noSlot, -Fin.getElem_fin]
  have hfetch : (List.range len).find? (fun i => !fetchOk k s.cor.core[k] (s.cor.core[k].pc + i)) = none := by
    simp only [List.find?_eq_none, List.mem_range]
    intro i hi
    simp [h.fetch i hi, -Fin.getElem_fin]
  have he : ({ s.cor.core[k] with repi := none } : CoreState) = s.cor.core[k] := dropRepi _ h.noRepi
  unfold State.runCore
  dsimp only
  rw [hl, setCore_core, he]
  simp only [h.running, h.awake, h.budget, hfetch, h.noRep, h.noSlot, h.noRepi, hf, Option.isSome_none,
    Bool.false_or, Bool.false_and, Bool.false_eq_true, if_false] <;> rfl

/-- A fault of an instruction on a ready core whose handler is not fresh and whose stack has room: entry with the instruction's address. -/
theorem runCore_fault {k : Fin 19} {len : Nat} {kind : Kind} {f : State → CoreState → Res} {s : State} {v : Nat} {a : Option Word24}
    (h : Ready k len s) (hf : f s s.cor.core[k] = .fault v a none) :
    s.runCore k len kind f = s.fault k s.cor.core[k] (s.cor.core[k].pc + len) s.cor.core[k].pc v a 0 := by
  have hl : s.cor.core[k].writeLink (s.cor.core[k].pc + len) = s.cor.core[k] := by simp [CoreState.writeLink, h.noSlot, -Fin.getElem_fin]
  have hfetch : (List.range len).find? (fun i => !fetchOk k s.cor.core[k] (s.cor.core[k].pc + i)) = none := by
    simp only [List.find?_eq_none, List.mem_range]
    intro i hi
    simp [h.fetch i hi, -Fin.getElem_fin]
  have he : ({ s.cor.core[k] with repi := none } : CoreState) = s.cor.core[k] := dropRepi _ h.noRepi
  unfold State.runCore
  dsimp only
  rw [hl, setCore_core, he]
  simp only [h.running, h.awake, h.budget, hfetch, h.noRep, h.noSlot, h.noRepi, hf, Option.isSome_none,
    Bool.false_or, Bool.false_and, Bool.false_eq_true, if_false, Option.getD_none]

/-- A completed instruction outside slots and repeats, as `CoreState.after` says. -/
theorem settle_after {c : CoreState} {d : Done} (next : Nat) (len : Nat) (hn : next = c.pc + len) (hl : c.load = none)
    (hs : c.slot = none) (hr : c.st.getLsbD 4 = false) (hst : d.stay = false) (hds : d.slot = none)
    (hk : d.c.kcycLim = c.kcycLim) :
    (d.settle c).advance c d next =
      c.after { d.c with load := d.load } len d.cycles (if d.mode then some (modeBits c.st) else none) := by
  subst hn
  simp only [Done.settle, CoreState.advance, CoreState.land, CoreState.spend, CoreState.after, hl, hs, hst, hds, CoreState.rpt, hr,
    hk, Bool.false_eq_true, if_false]
  by_cases hu : c.user = true <;> by_cases hz : c.kcycLim = 0#16 <;> by_cases hn : c.kcycLim.toNat ≤ d.cycles <;> simp [hu, hz, hn]

/-- A committed control transfer, as `CoreState.after` says. -/
theorem settle_slot {c : CoreState} {d : Done} {sl : SlotSt} (next : Nat) (len : Nat) (hn : next = c.pc + len) (hl : c.load = none)
    (hs : c.slot = none) (hst : d.stay = false) (hds : d.slot = some sl) (hdl : d.load = none) (hk : d.c.kcycLim = c.kcycLim) :
    (d.settle c).advance c d next =
      c.after { d.c with load := none, slot := some sl } len d.cycles (if d.mode then some (modeBits c.st) else none) := by
  subst hn
  simp only [Done.settle, CoreState.advance, CoreState.land, CoreState.spend, CoreState.after, hl, hs, hst, hds, hdl, hk,
    Bool.false_eq_true, if_false]
  by_cases hu : c.user = true <;> by_cases hz : c.kcycLim = 0#16 <;> by_cases hn : c.kcycLim.toNat ≤ d.cycles <;> simp [hu, hz, hn]

@[simp] theorem after_st (c0 c : CoreState) (len n : Nat) (sh : Option (BitVec 4)) : (c0.after c len n sh).st = c.st := by
  simp only [CoreState.after]; split <;> try split <;> rfl
  rfl

@[simp] theorem after_intPend (c0 c : CoreState) (len n : Nat) (sh : Option (BitVec 4)) : (c0.after c len n sh).intPend = c.intPend := by
  simp only [CoreState.after]; split <;> try split <;> rfl
  rfl

@[simp] theorem after_intEn (c0 c : CoreState) (len n : Nat) (sh : Option (BitVec 4)) : (c0.after c len n sh).intEn = c.intEn := by
  simp only [CoreState.after]; split <;> try split <;> rfl
  rfl

@[simp] theorem after_slot (c0 c : CoreState) (len n : Nat) (sh : Option (BitVec 4)) : (c0.after c len n sh).slot = c.slot := by
  simp only [CoreState.after]; split <;> try split <;> rfl
  rfl

@[simp] theorem after_modeShadow (c0 c : CoreState) (len n : Nat) (sh : Option (BitVec 4)) : (c0.after c len n sh).modeShadow = sh := by
  simp only [CoreState.after]; split <;> try split <;> rfl
  rfl

@[simp] theorem after_load (c0 c : CoreState) (len n : Nat) (sh : Option (BitVec 4)) : (c0.after c len n sh).load = c.load := by
  simp only [CoreState.after]; split <;> try split <;> rfl
  rfl

@[simp] theorem after_rep (c0 c : CoreState) (len n : Nat) (sh : Option (BitVec 4)) : (c0.after c len n sh).rep = c.rep := by
  simp only [CoreState.after]; split <;> try split <;> rfl
  rfl

@[simp] theorem after_repi (c0 c : CoreState) (len n : Nat) (sh : Option (BitVec 4)) : (c0.after c len n sh).repi = c.repi := by
  simp only [CoreState.after]; split <;> try split <;> rfl
  rfl

/-- A core that leaves `IE` and its interrupt registers as they were takes no interrupt after a quiet instruction. -/
theorem takeIrq_after {s s1 : State} {k : Fin 19} {len : Nat} {c : CoreState} (h : Ready k len s)
    (hst : c.st.getLsbD 0 = s.cor.core[k].st.getLsbD 0) (hp : c.intPend = s.cor.core[k].intPend) (he : c.intEn = s.cor.core[k].intEn) :
    (s1.setCore k c).takeIrq k = s1.setCore k c := by
  apply takeIrq_quiet
  rw [setCore_core_self, hst, hp, he]
  exact h.quiet

/-- An instruction that only changes its core and completes in `n` cycles. -/
theorem runCore_plain {k : Fin 19} {len : Nat} {kind : Kind} {f : State → CoreState → Res} {s : State} {d : Done} (h : Ready k len s)
    (hf : f s s.cor.core[k] = .done s d) (ht : d.trap = none) (hst : d.stay = false) (hds : d.slot = none)
    (hk : d.c.kcycLim = s.cor.core[k].kcycLim) (hs : d.c.st.getLsbD 0 = s.cor.core[k].st.getLsbD 0)
    (hp : d.c.intPend = s.cor.core[k].intPend) (he : d.c.intEn = s.cor.core[k].intEn) :
    s.runCore k len kind f = s.setCore k (s.cor.core[k].after { d.c with load := d.load } len d.cycles
      (if d.mode then some (modeBits s.cor.core[k].st) else none)) := by
  rw [runCore_done h hf]
  simp only [ht]
  rw [settle_after _ len rfl h.noLoad h.noSlot h.noRepeat hst hds hk]
  exact takeIrq_after h (by rw [after_st]; exact hs) (by rw [after_intPend]; exact hp) (by rw [after_intEn]; exact he)

/-- A control transfer of a ready core. -/
theorem runCore_slot {k : Fin 19} {len : Nat} {kind : Kind} {f : State → CoreState → Res} {s : State} {d : Done} {sl : SlotSt}
    (h : Ready k len s) (hf : f s s.cor.core[k] = .done s d) (ht : d.trap = none) (hst : d.stay = false) (hds : d.slot = some sl)
    (hdl : d.load = none) (hk : d.c.kcycLim = s.cor.core[k].kcycLim) :
    s.runCore k len kind f = s.setCore k (s.cor.core[k].after { d.c with load := none, slot := some sl } len d.cycles
      (if d.mode then some (modeBits s.cor.core[k].st) else none)) := by
  rw [runCore_done h hf]
  simp only [ht]
  rw [settle_slot _ len rfl h.noLoad h.noSlot hst hds hdl hk]
  apply takeIrq_closed
  simp [CoreState.open_, -Fin.getElem_fin]

end Sys2Proof.Machine
end

