-- ==== Sys2Proof/Laws/Memory.lean ====
section
/-! SUPPORT. The laws of the sparse memories: a read after a write, the canonical form kept by every operation, and equal contents being
equal lists (log 3). -/

namespace Sys2Proof.Machine

@[simp] theorem sread_nil {α : Type} (d : α) (a : Nat) : sread d [] a = d := rfl

@[simp] theorem length_sreads {α : Type} (d : α) (m : List (Nat × α)) (a n : Nat) : (sreads d m a n).length = n := by
  induction n generalizing a with
  | zero => rfl
  | succ n ih => simp [sreads, ih]

variable {α : Type} [DecidableEq α] {d : α}

@[simp] theorem swf_nil (d : α) : swf d [] = true := rfl

/-- The canonical form after an address, entry by entry. -/
theorem swfFrom_cons {lo : Option Nat} {k : Nat} {v : α} {r : List (Nat × α)} :
    swfFrom d lo ((k, v) :: r) = true ↔ (∀ l, lo = some l → l < k) ∧ v ≠ d ∧ swfFrom d (some k) r = true := by
  cases lo <;> simp [swfFrom, and_assoc]

/-- A canonical memory stays canonical after a smaller address. -/
theorem swfFrom_weaken {lo lo' : Option Nat} {m : List (Nat × α)} (hl : ∀ l, lo' = some l → ∃ k, lo = some k ∧ l ≤ k)
    (h : swfFrom d lo m = true) : swfFrom d lo' m = true := by
  cases m with
  | nil => rfl
  | cons p r =>
    obtain ⟨h1, h2, h3⟩ := swfFrom_cons.1 h
    refine swfFrom_cons.2 ⟨fun l e => ?_, h2, h3⟩
    obtain ⟨k, rfl, hk⟩ := hl l e
    exact Nat.lt_of_le_of_lt hk (h1 k rfl)

/-- An address at or below the bound of a canonical memory is unlisted. -/
theorem sread_below {l a : Nat} {m : List (Nat × α)} (h : swfFrom d (some l) m = true) (ha : a ≤ l) : sread d m a = d := by
  induction m generalizing l with
  | nil => rfl
  | cons p r ih =>
    obtain ⟨h1, -, h3⟩ := swfFrom_cons.1 h
    have hlt : l < p.1 := h1 l rfl
    have hne : a ≠ p.1 := by omega
    simp only [sread, if_neg hne]
    exact ih h3 (by omega)

theorem swfFrom_swrite {lo : Option Nat} {m : List (Nat × α)} {a : Nat} (x : α) (h : swfFrom d lo m = true) (ha : ∀ l, lo = some l → l < a) :
    swfFrom d lo (swrite d m a x) = true := by
  induction m generalizing lo with
  | nil =>
    by_cases hx : x = d
    · simp [swrite, hx, swfFrom]
    · simp only [swrite, if_neg hx]; exact swfFrom_cons.2 ⟨ha, hx, rfl⟩
  | cons p r ih =>
    obtain ⟨h1, h2, h3⟩ := swfFrom_cons.1 h
    simp only [swrite]
    split
    · next hlt =>
      split
      · exact h
      · next hx => exact swfFrom_cons.2 ⟨ha, hx, swfFrom_cons.2 ⟨fun l e => by cases e; exact hlt, h2, h3⟩⟩
    · next hge =>
      split
      · next he =>
        subst he
        split
        · exact swfFrom_weaken (fun l e => ⟨_, rfl, Nat.le_of_lt (ha l e)⟩) h3
        · next hx => exact swfFrom_cons.2 ⟨ha, hx, h3⟩
      · next hne => exact swfFrom_cons.2 ⟨h1, h2, ih h3 (fun l e => by cases e; omega)⟩

/-- A write keeps the canonical form. -/
@[simp] theorem swf_swrite {m : List (Nat × α)} (a : Nat) (x : α) (h : swf d m = true) : swf d (swrite d m a x) = true :=
  swfFrom_swrite x h (fun _ e => nomatch e)

/-- A write of a range keeps the canonical form. -/
@[simp] theorem swf_swrites {m : List (Nat × α)} (a : Nat) (l : List α) (h : swf d m = true) : swf d (swrites d m a l) = true := by
  induction l generalizing m a with
  | nil => exact h
  | cons x l ih => exact ih (a + 1) (swf_swrite a x h)

theorem swfFrom_filter {lo : Option Nat} {m : List (Nat × α)} (f : Nat × α → Bool) (h : swfFrom d lo m = true) :
    swfFrom d lo (m.filter f) = true := by
  induction m generalizing lo with
  | nil => rfl
  | cons p r ih =>
    obtain ⟨h1, h2, h3⟩ := swfFrom_cons.1 h
    rw [List.filter_cons]
    split
    · exact swfFrom_cons.2 ⟨h1, h2, ih h3⟩
    · exact swfFrom_weaken (fun l e => ⟨_, rfl, Nat.le_of_lt (h1 l e)⟩) (ih h3)

/-- A memory cut to some of its addresses keeps the canonical form. -/
@[simp] theorem swf_filter {m : List (Nat × α)} (f : Nat × α → Bool) (h : swf d m = true) : swf d (m.filter f) = true := swfFrom_filter f h

theorem sread_swriteFrom {lo : Option Nat} {m : List (Nat × α)} {a : Nat} (x : α) (b : Nat) (h : swfFrom d lo m = true) :
    sread d (swrite d m a x) b = if b = a then x else sread d m b := by
  induction m generalizing lo with
  | nil =>
    by_cases hx : x = d
    · subst hx; simp [swrite, sread]
    · simp [swrite, hx, sread]
  | cons p r ih =>
    obtain ⟨k, v⟩ := p
    obtain ⟨h1, h2, h3⟩ := swfFrom_cons.1 h
    simp only [swrite]
    split
    · next hlt =>
      split
      · next hx =>
        subst hx
        split
        · next he => subst he; simp only [sread, if_neg (by omega : b ≠ k)]; exact sread_below h3 (by omega)
        · rfl
      · simp only [sread]
    · next hge =>
      split
      · next he =>
        subst he
        split
        · next hx =>
          subst hx
          split
          · next hb => subst hb; exact sread_below h3 (Nat.le_refl _)
          · next hb => simp only [sread, if_neg hb]
        · simp only [sread]; split <;> rfl
      · next hne =>
        simp only [sread]
        split
        · next hb => subst hb; rw [if_neg (by omega)]
        · exact ih h3

/-- Read after write: the written address reads the value, every other address as before. -/
theorem sread_swrite {m : List (Nat × α)} (a : Nat) (x : α) (b : Nat) (h : swf d m = true) :
    sread d (swrite d m a x) b = if b = a then x else sread d m b := sread_swriteFrom x b h

/-- Read after the write of a range. -/
theorem sread_swrites {m : List (Nat × α)} (a : Nat) (l : List α) (b : Nat) (h : swf d m = true) :
    sread d (swrites d m a l) b = if a ≤ b ∧ b < a + l.length then l.getD (b - a) d else sread d m b := by
  induction l generalizing m a with
  | nil => simp [swrites] <;> omega
  | cons x l ih =>
    rw [swrites, ih (a + 1) (swf_swrite a x h), sread_swrite a x b h]
    by_cases hb : b = a
    · subst hb; simp only [List.length_cons]; rw [if_neg (by omega), if_pos (by trivial), if_pos (by omega)]; simp
    · by_cases hin : a + 1 ≤ b ∧ b < a + 1 + l.length
      · have : b - a = (b - (a + 1)) + 1 := by omega
        rw [if_pos hin, if_pos (by simp only [List.length_cons]; omega), this]; rfl
      · rw [if_neg hin, if_neg hb, if_neg (by simp only [List.length_cons]; omega)]

/-- Canonical memories with equal contents are equal data. -/
theorem mem_ext {lo lo' : Option Nat} {m n : List (Nat × α)} (hm : swfFrom d lo m = true) (hn : swfFrom d lo' n = true)
    (h : ∀ a, sread d m a = sread d n a) : m = n := by
  induction m generalizing lo lo' n with
  | nil =>
    cases n with
    | nil => rfl
    | cons p r =>
      have := h p.1
      simp only [sread, if_true] at this
      exact absurd this.symm (swfFrom_cons.1 hn).2.1
  | cons p r ih =>
    cases n with
    | nil =>
      have := h p.1
      simp only [sread, if_true] at this
      exact absurd this (swfFrom_cons.1 hm).2.1
    | cons q t =>
      obtain ⟨k, v⟩ := p
      obtain ⟨j, w⟩ := q
      obtain ⟨-, h2, h3⟩ := swfFrom_cons.1 hm
      obtain ⟨-, g2, g3⟩ := swfFrom_cons.1 hn
      have hkj : k = j := by
        rcases Nat.lt_trichotomy k j with hlt | he | hlt
        · have := h k; simp only [sread, if_true, if_neg (by omega : k ≠ j)] at this
          rw [sread_below g3 (by omega)] at this; exact absurd this h2
        · exact he
        · have := h j; simp only [sread, if_true, if_neg (by omega : j ≠ k)] at this
          rw [sread_below h3 (by omega)] at this; exact absurd this.symm g2
      subst hkj
      have hvw : v = w := by have := h k; simpa only [sread, if_true] using this
      subst hvw
      rw [ih h3 g3 (fun a => ?_)]
      by_cases ha : a = k
      · subst ha; rw [sread_below h3 (Nat.le_refl _), sread_below g3 (Nat.le_refl _)]
      · have := h a; simpa only [sread, if_neg ha] using this

/-- Every memory of reset has the canonical form: none lists anything. -/
theorem reset_memories : swf 0 State.reset.smp.lode.mem = true ∧ swf 0 State.reset.bak.bram = true ∧
    (∀ k : Fin 19, swf 0 State.reset.cor.core[k].dmem = true ∧ swf 0 State.reset.cor.core[k].imem = true) ∧
    (∀ k : Fin 3, swf 0 State.reset.fab.slots[k].image = true) ∧ ∀ c : Fin 2, swf 0xFF State.reset.boo.copies[c].bytes = true := by
  refine ⟨rfl, rfl, ?_, ?_, ?_⟩ <;> decide

end Sys2Proof.Machine
end

