-- ==== Sys2Proof/Laws/PerInstr.lean ====
section
/-! SUPPORT. Statements made per constructor of `Instr`: what a host command says on the wire. -/

namespace Sys2Proof.Laws.Requests

open Sys2Proof Sys2Proof.Machine

/-- A host command carries an opcode that GCP 3 defines (12 R318), and it is well formed exactly when its packet is (12 R295, R296); anything
else is no request. -/
def Statement (i : Instr) : Prop :=
  match requestOf i with
  | some (op, p) => opcodeDefined op = true ∧ i.wf = p.wf
  | none => True

theorem evEpochBoundary : Statement (.evEpochBoundary) := trivial
theorem evHaulageBlockRelease : ∀ a0, Statement (.evHaulageBlockRelease a0) := fun _ => trivial
theorem evCaptureTimeTrigger : ∀ a0, Statement (.evCaptureTimeTrigger a0) := fun _ => trivial
theorem evStrideStart : ∀ a0 a1, Statement (.evStrideStart a0 a1) := fun _ _ => trivial
theorem evD1Deadline : Statement (.evD1Deadline) := trivial
theorem evD2Deadline : Statement (.evD2Deadline) := trivial
theorem evDeputyLoopUpdate : ∀ a0 a1, Statement (.evDeputyLoopUpdate a0 a1) := fun _ _ => trivial
theorem evAssayFold : ∀ a0, Statement (.evAssayFold a0) := fun _ => trivial
theorem evCalGeneration : Statement (.evCalGeneration) := trivial
theorem evQuarantineExpiry : ∀ a0 a1, Statement (.evQuarantineExpiry a0 a1) := fun _ _ => trivial
theorem evCalTableSave : Statement (.evCalTableSave) := trivial
theorem evEphemerisSave : Statement (.evEphemerisSave) := trivial
theorem evSweepEnd : ∀ a0, Statement (.evSweepEnd a0) := fun _ => trivial
theorem evCodeLibraryCheck : ∀ a0, Statement (.evCodeLibraryCheck a0) := fun _ => trivial
theorem evInterferenceSurvey : ∀ a0 a1 a2, Statement (.evInterferenceSurvey a0 a1 a2) := fun _ _ _ => trivial
theorem evPullinTimeout : ∀ a0, Statement (.evPullinTimeout a0) := fun _ => trivial
theorem evCoastTimeout : ∀ a0, Statement (.evCoastTimeout a0) := fun _ => trivial
theorem evSearchComplete : ∀ a0, Statement (.evSearchComplete a0) := fun _ => trivial
theorem evConfirmation : ∀ a0 a1, Statement (.evConfirmation a0 a1) := fun _ _ => trivial
theorem evBackgroundColdSearch : Statement (.evBackgroundColdSearch) := trivial
theorem evSolution : ∀ a0, Statement (.evSolution a0) := fun _ => trivial
theorem evSuspicionExpiry : ∀ a0, Statement (.evSuspicionExpiry a0) := fun _ => trivial
theorem evMeasurementRecord : Statement (.evMeasurementRecord) := trivial
theorem evRtcmEpoch : Statement (.evRtcmEpoch) := trivial
theorem evNmeaGroup : Statement (.evNmeaGroup) := trivial
theorem evUplinkFrame : ∀ a0 a1, Statement (.evUplinkFrame a0 a1) := fun _ _ => trivial
theorem evCapFrame : ∀ a0 a1, Statement (.evCapFrame a0 a1) := fun _ _ => trivial
theorem evAlignmentGained : ∀ a0, Statement (.evAlignmentGained a0) := fun _ => trivial
theorem evAlignmentLost : ∀ a0, Statement (.evAlignmentLost a0) := fun _ => trivial
theorem evFramesMissing : ∀ a0, Statement (.evFramesMissing a0) := fun _ => trivial
theorem evOffer : ∀ a0, Statement (.evOffer a0) := fun _ => trivial
theorem evRateSwitch : ∀ a0, Statement (.evRateSwitch a0) := fun _ => trivial
theorem evLaneStateTimeout : ∀ a0, Statement (.evLaneStateTimeout a0) := fun _ => trivial
theorem evMark : ∀ a0 a1, Statement (.evMark a0 a1) := fun _ _ => trivial
theorem evCtrlRetry : ∀ a0, Statement (.evCtrlRetry a0) := fun _ => trivial
theorem evStandbyTimeout : ∀ a0, Statement (.evStandbyTimeout a0) := fun _ => trivial
theorem evScrubCopyComplete : Statement (.evScrubCopyComplete) := trivial
theorem evBankTestComplete : ∀ a0, Statement (.evBankTestComplete a0) := fun _ => trivial
theorem evDeputyCopyComplete : Statement (.evDeputyCopyComplete) := trivial
theorem evDeepTestComplete : ∀ a0 a1, Statement (.evDeepTestComplete a0 a1) := fun _ _ => trivial
theorem evPlanVerifyResult : Statement (.evPlanVerifyResult) := trivial
theorem evTallyVerifyResult : Statement (.evTallyVerifyResult) := trivial
theorem evPortCalResult : ∀ a0, Statement (.evPortCalResult a0) := fun _ => trivial
theorem evPortStart : ∀ a0, Statement (.evPortStart a0) := fun _ => trivial
theorem evEcho : ∀ a0 a1, Statement (.evEcho a0 a1) := fun _ _ => trivial
theorem evEchoMissing : ∀ a0, Statement (.evEchoMissing a0) := fun _ => trivial
theorem evReturnStuck : ∀ a0 a1, Statement (.evReturnStuck a0 a1) := fun _ _ => trivial
theorem evPathCalibration : ∀ a0 a1, Statement (.evPathCalibration a0 a1) := fun _ _ => trivial
theorem evTodMessage : ∀ a0, Statement (.evTodMessage a0) := fun _ => trivial
theorem evRefLoss : Statement (.evRefLoss) := trivial
theorem evSynUnlock : ∀ a0, Statement (.evSynUnlock a0) := fun _ => trivial
theorem evRefCoastExpiry : Statement (.evRefCoastExpiry) := trivial
theorem evRefRestore : Statement (.evRefRestore) := trivial
theorem evSessionIdleTimeout : ∀ a0, Statement (.evSessionIdleTimeout a0) := fun _ => trivial
theorem evAuthTimeout : ∀ a0, Statement (.evAuthTimeout a0) := fun _ => trivial
theorem evLockoutExpiry : ∀ a0 a1, Statement (.evLockoutExpiry a0 a1) := fun _ _ => trivial
theorem evResetDelayExpiry : Statement (.evResetDelayExpiry) := trivial
theorem evTallyFlashWrite : Statement (.evTallyFlashWrite) := trivial
theorem evPowerOnReset : ∀ a0, Statement (.evPowerOnReset a0) := fun _ => trivial
theorem evBrownOut : ∀ a0, Statement (.evBrownOut a0) := fun _ => trivial
theorem evResetN : ∀ a0, Statement (.evResetN a0) := fun _ => trivial
theorem evDbgSys : Statement (.evDbgSys) := trivial
theorem evDbgCore : Statement (.evDbgCore) := trivial
theorem evWatchdog : Statement (.evWatchdog) := trivial
theorem evThermalTripRelease : Statement (.evThermalTripRelease) := trivial
theorem evBoot : ∀ a0, Statement (.evBoot a0) := fun _ => trivial
theorem evFirmwareRetry : ∀ a0, Statement (.evFirmwareRetry a0) := fun _ => trivial
theorem evPowerEntry : Statement (.evPowerEntry) := trivial
theorem evEdgeWindowClose : ∀ a0 a1, Statement (.evEdgeWindowClose a0 a1) := fun _ _ => trivial
theorem evPowerExit : ∀ a0 a1, Statement (.evPowerExit a0 a1) := fun _ _ => trivial
theorem evLampCycle : ∀ a0, Statement (.evLampCycle a0) := fun _ => trivial
theorem evBlockResetDone : Statement (.evBlockResetDone) := trivial
theorem evStopeStall : ∀ a0, Statement (.evStopeStall a0) := fun _ => trivial
theorem evStallRestart : ∀ a0, Statement (.evStallRestart a0) := fun _ => trivial
theorem evGeneratorUnlock : ∀ a0, Statement (.evGeneratorUnlock a0) := fun _ => trivial
theorem evGeneratorRelock : ∀ a0, Statement (.evGeneratorRelock a0) := fun _ => trivial
theorem evForcedCrossing : ∀ a0 a1, Statement (.evForcedCrossing a0 a1) := fun _ _ => trivial
theorem evSeamTimeout : ∀ a0 a1, Statement (.evSeamTimeout a0 a1) := fun _ _ => trivial
theorem evBackupPowerOn : Statement (.evBackupPowerOn) := trivial
theorem evBackupSupplySwitch : ∀ a0, Statement (.evBackupSupplySwitch a0) := fun _ => trivial
theorem evTrimUpdate : ∀ a0, Statement (.evTrimUpdate a0) := fun _ => trivial
theorem evHaltTimeout : Statement (.evHaltTimeout) := trivial
theorem evPeriodicWake : Statement (.evPeriodicWake) := trivial
theorem evBevEdge : ∀ a0 a1, Statement (.evBevEdge a0 a1) := fun _ _ => trivial
theorem evCounterAlign : Statement (.evCounterAlign) := trivial
theorem evTrimLearn : ∀ a0 a1 a2, Statement (.evTrimLearn a0 a1 a2) := fun _ _ _ => trivial
theorem evVbatMeasure : ∀ a0, Statement (.evVbatMeasure a0) := fun _ => trivial
theorem evUartCharacter : ∀ a0 a1, Statement (.evUartCharacter a0 a1) := fun _ _ => trivial
theorem evLineDead : ∀ a0, Statement (.evLineDead a0) := fun _ => trivial
theorem evLineRecover : ∀ a0, Statement (.evLineRecover a0) := fun _ => trivial
theorem evUartTransmit : ∀ a0, Statement (.evUartTransmit a0) := fun _ => trivial
theorem evU0GapTimeout : Statement (.evU0GapTimeout) := trivial
theorem evSpiWr : ∀ a0 a1, Statement (.evSpiWr a0 a1) := fun _ _ => trivial
theorem evSpiRd : ∀ a0, Statement (.evSpiRd a0) := fun _ => trivial
theorem evSpiSt : Statement (.evSpiSt) := trivial
theorem evWakePortMatch : ∀ a0 a1, Statement (.evWakePortMatch a0 a1) := fun _ _ => trivial
theorem evWakePortRead : ∀ a0, Statement (.evWakePortRead a0) := fun _ => trivial
theorem evBusClear : ∀ a0, Statement (.evBusClear a0) := fun _ => trivial
theorem evSclStuck : Statement (.evSclStuck) := trivial
theorem evEventEdge : ∀ a0 a1, Statement (.evEventEdge a0 a1) := fun _ _ => trivial
theorem evMagicFrame : ∀ a0, Statement (.evMagicFrame a0) := fun _ => trivial
theorem evPtpFrame : ∀ a0 a1 a2, Statement (.evPtpFrame a0 a1 a2) := fun _ _ _ => trivial
theorem evPauseFrame : ∀ a0 a1, Statement (.evPauseFrame a0 a1) := fun _ _ => trivial
theorem evLinkDown : ∀ a0, Statement (.evLinkDown a0) := fun _ => trivial
theorem evLinkUp : ∀ a0, Statement (.evLinkUp a0) := fun _ => trivial
theorem evEgress : ∀ a0, Statement (.evEgress a0) := fun _ => trivial
theorem evRingMonitor : ∀ a0, Statement (.evRingMonitor a0) := fun _ => trivial
theorem evSramMarginTest : ∀ a0 a1 a2, Statement (.evSramMarginTest a0 a1 a2) := fun _ _ _ => trivial
theorem evEyeMonitor : ∀ a0 a1, Statement (.evEyeMonitor a0 a1) := fun _ _ => trivial
theorem evThermalSample : ∀ a0, Statement (.evThermalSample a0) := fun _ => trivial
theorem evThrottleChange : Statement (.evThrottleChange) := trivial
theorem evThermalTrip : Statement (.evThermalTrip) := trivial
theorem evThermalReturn : Statement (.evThermalReturn) := trivial
theorem evInterrupt : ∀ a0 a1, Statement (.evInterrupt a0 a1) := fun _ _ => trivial
theorem evKcycLimExpiry : ∀ a0, Statement (.evKcycLimExpiry a0) := fun _ => trivial
theorem evWaitRelease : ∀ a0, Statement (.evWaitRelease a0) := fun _ => trivial
theorem hbNop : ∀ a0 a1, Statement (.hbNop a0 a1) := fun _ _ => trivial
theorem hbRet : ∀ a0, Statement (.hbRet a0) := fun _ => trivial
theorem hbReti : ∀ a0, Statement (.hbReti a0) := fun _ => trivial
theorem hbWfe : ∀ a0, Statement (.hbWfe a0) := fun _ => trivial
theorem hbBrk : ∀ a0, Statement (.hbBrk a0) := fun _ => trivial
theorem hbSetm : ∀ a0 a1, Statement (.hbSetm a0 a1) := fun _ _ => trivial
theorem hbClrm : ∀ a0 a1, Statement (.hbClrm a0 a1) := fun _ _ => trivial
theorem hbPush : ∀ a0 a1, Statement (.hbPush a0 a1) := fun _ _ => trivial
theorem hbPop : ∀ a0 a1, Statement (.hbPop a0 a1) := fun _ _ => trivial
theorem hbJr : ∀ a0 a1, Statement (.hbJr a0 a1) := fun _ _ => trivial
theorem hbCallr : ∀ a0 a1, Statement (.hbCallr a0 a1) := fun _ _ => trivial
theorem hbJ : ∀ a0 a1, Statement (.hbJ a0 a1) := fun _ _ => trivial
theorem hbCall : ∀ a0 a1, Statement (.hbCall a0 a1) := fun _ _ => trivial
theorem hbMov : ∀ a0 a1 a2, Statement (.hbMov a0 a1 a2) := fun _ _ _ => trivial
theorem hbAdd : ∀ a0 a1, Statement (.hbAdd a0 a1) := fun _ _ => trivial
theorem hbSub : ∀ a0 a1, Statement (.hbSub a0 a1) := fun _ _ => trivial
theorem hbAnd : ∀ a0 a1, Statement (.hbAnd a0 a1) := fun _ _ => trivial
theorem hbOr : ∀ a0 a1, Statement (.hbOr a0 a1) := fun _ _ => trivial
theorem hbXor : ∀ a0 a1, Statement (.hbXor a0 a1) := fun _ _ => trivial
theorem hbNot : ∀ a0 a1 a2, Statement (.hbNot a0 a1 a2) := fun _ _ _ => trivial
theorem hbNeg : ∀ a0 a1 a2, Statement (.hbNeg a0 a1 a2) := fun _ _ _ => trivial
theorem hbShl : ∀ a0 a1, Statement (.hbShl a0 a1) := fun _ _ => trivial
theorem hbShr : ∀ a0 a1, Statement (.hbShr a0 a1) := fun _ _ => trivial
theorem hbSar : ∀ a0 a1, Statement (.hbSar a0 a1) := fun _ _ => trivial
theorem hbAdds : ∀ a0 a1, Statement (.hbAdds a0 a1) := fun _ _ => trivial
theorem hbSubs : ∀ a0 a1, Statement (.hbSubs a0 a1) := fun _ _ => trivial
theorem hbMin : ∀ a0 a1, Statement (.hbMin a0 a1) := fun _ _ => trivial
theorem hbMax : ∀ a0 a1, Statement (.hbMax a0 a1) := fun _ _ => trivial
theorem hbAbs : ∀ a0 a1 a2, Statement (.hbAbs a0 a1 a2) := fun _ _ _ => trivial
theorem hbMul : ∀ a0 a1 a2 a3 a4, Statement (.hbMul a0 a1 a2 a3 a4) := fun _ _ _ _ _ => trivial
theorem hbMulh : ∀ a0 a1 a2 a3 a4, Statement (.hbMulh a0 a1 a2 a3 a4) := fun _ _ _ _ _ => trivial
theorem hbMulhu : ∀ a0 a1 a2 a3 a4, Statement (.hbMulhu a0 a1 a2 a3 a4) := fun _ _ _ _ _ => trivial
theorem hbAddi : ∀ a0 a1 a2, Statement (.hbAddi a0 a1 a2) := fun _ _ _ => trivial
theorem hbMovi : ∀ a0 a1 a2, Statement (.hbMovi a0 a1 a2) := fun _ _ _ => trivial
theorem hbLdi : ∀ a0 a1 a2, Statement (.hbLdi a0 a1 a2) := fun _ _ _ => trivial
theorem hbAndi : ∀ a0 a1 a2, Statement (.hbAndi a0 a1 a2) := fun _ _ _ => trivial
theorem hbOri : ∀ a0 a1 a2, Statement (.hbOri a0 a1 a2) := fun _ _ _ => trivial
theorem hbXori : ∀ a0 a1 a2, Statement (.hbXori a0 a1 a2) := fun _ _ _ => trivial
theorem hbShli : ∀ a0 a1 a2, Statement (.hbShli a0 a1 a2) := fun _ _ _ => trivial
theorem hbShri : ∀ a0 a1 a2, Statement (.hbShri a0 a1 a2) := fun _ _ _ => trivial
theorem hbSari : ∀ a0 a1 a2, Statement (.hbSari a0 a1 a2) := fun _ _ _ => trivial
theorem hbBset : ∀ a0 a1 a2, Statement (.hbBset a0 a1 a2) := fun _ _ _ => trivial
theorem hbBclr : ∀ a0 a1 a2, Statement (.hbBclr a0 a1 a2) := fun _ _ _ => trivial
theorem hbBtgl : ∀ a0 a1 a2, Statement (.hbBtgl a0 a1 a2) := fun _ _ _ => trivial
theorem hbLd : ∀ a0 a1, Statement (.hbLd a0 a1) := fun _ _ => trivial
theorem hbSt : ∀ a0 a1, Statement (.hbSt a0 a1) := fun _ _ => trivial
theorem hbCbEq : ∀ a0 a1, Statement (.hbCbEq a0 a1) := fun _ _ => trivial
theorem hbCbNe : ∀ a0 a1, Statement (.hbCbNe a0 a1) := fun _ _ => trivial
theorem hbCbLt : ∀ a0 a1 a2 a3, Statement (.hbCbLt a0 a1 a2 a3) := fun _ _ _ _ => trivial
theorem hbCbGe : ∀ a0 a1 a2 a3, Statement (.hbCbGe a0 a1 a2 a3) := fun _ _ _ _ => trivial
theorem hbCbLtu : ∀ a0 a1 a2 a3, Statement (.hbCbLtu a0 a1 a2 a3) := fun _ _ _ _ => trivial
theorem hbCbGeu : ∀ a0 a1 a2 a3, Statement (.hbCbGeu a0 a1 a2 a3) := fun _ _ _ _ => trivial
theorem hbCbz : ∀ a0 a1, Statement (.hbCbz a0 a1) := fun _ _ => trivial
theorem hbCbnz : ∀ a0 a1, Statement (.hbCbnz a0 a1) := fun _ _ => trivial
theorem hbMac : ∀ a0 a1 a2 a3, Statement (.hbMac a0 a1 a2 a3) := fun _ _ _ _ => trivial
theorem hbMsu : ∀ a0 a1 a2 a3, Statement (.hbMsu a0 a1 a2 a3) := fun _ _ _ _ => trivial
theorem hbMpy : ∀ a0 a1 a2 a3, Statement (.hbMpy a0 a1 a2 a3) := fun _ _ _ _ => trivial
theorem hbMacr : ∀ a0 a1 a2 a3, Statement (.hbMacr a0 a1 a2 a3) := fun _ _ _ _ => trivial
theorem hbMsur : ∀ a0 a1 a2 a3, Statement (.hbMsur a0 a1 a2 a3) := fun _ _ _ _ => trivial
theorem hbMpyr : ∀ a0 a1 a2 a3, Statement (.hbMpyr a0 a1 a2 a3) := fun _ _ _ _ => trivial
theorem hbMacm : ∀ a0 a1 a2 a3 a4 a5 a6 a7, Statement (.hbMacm a0 a1 a2 a3 a4 a5 a6 a7) := fun _ _ _ _ _ _ _ _ => trivial
theorem hbRep : ∀ a0 a1, Statement (.hbRep a0 a1) := fun _ _ => trivial
theorem hbRepi : ∀ a0 a1, Statement (.hbRepi a0 a1) := fun _ _ => trivial
theorem hbIn : ∀ a0 a1, Statement (.hbIn a0 a1) := fun _ _ => trivial
theorem hbOut : ∀ a0 a1, Statement (.hbOut a0 a1) := fun _ _ => trivial
theorem hbMovs : ∀ a0 a1 a2 a3 a4, Statement (.hbMovs a0 a1 a2 a3 a4) := fun _ _ _ _ _ => trivial
theorem hbClr : ∀ a0 a1 a2, Statement (.hbClr a0 a1 a2) := fun _ _ _ => trivial
theorem hbMova : ∀ a0 a1 a2 a3, Statement (.hbMova a0 a1 a2 a3) := fun _ _ _ _ => trivial
theorem hbAdda : ∀ a0 a1 a2 a3, Statement (.hbAdda a0 a1 a2 a3) := fun _ _ _ _ => trivial
theorem hbSuba : ∀ a0 a1 a2 a3, Statement (.hbSuba a0 a1 a2 a3) := fun _ _ _ _ => trivial
theorem hbNega : ∀ a0 a1 a2 a3, Statement (.hbNega a0 a1 a2 a3) := fun _ _ _ _ => trivial
theorem hbAbsa : ∀ a0 a1 a2 a3, Statement (.hbAbsa a0 a1 a2 a3) := fun _ _ _ _ => trivial
theorem hbShla : ∀ a0 a1 a2 a3, Statement (.hbShla a0 a1 a2 a3) := fun _ _ _ _ => trivial
theorem hbSara : ∀ a0 a1 a2 a3, Statement (.hbSara a0 a1 a2 a3) := fun _ _ _ _ => trivial
theorem hbRnd : ∀ a0 a1 a2, Statement (.hbRnd a0 a1 a2) := fun _ _ _ => trivial
theorem hbSata : ∀ a0 a1 a2, Statement (.hbSata a0 a1 a2) := fun _ _ _ => trivial
theorem hbNorm : ∀ a0 a1 a2, Statement (.hbNorm a0 a1 a2) := fun _ _ _ => trivial
theorem hbExp : ∀ a0 a1 a2 a3, Statement (.hbExp a0 a1 a2 a3) := fun _ _ _ _ => trivial
theorem hbShi : ∀ a0 a1 a2 a3, Statement (.hbShi a0 a1 a2 a3) := fun _ _ _ _ => trivial
theorem hbLda : ∀ a0 a1 a2 a3, Statement (.hbLda a0 a1 a2 a3) := fun _ _ _ _ => trivial
theorem hbLdal : ∀ a0 a1 a2 a3, Statement (.hbLdal a0 a1 a2 a3) := fun _ _ _ _ => trivial
theorem hbScale : ∀ a0 a1 a2, Statement (.hbScale a0 a1 a2) := fun _ _ _ => trivial
theorem hbBmov : ∀ a0 a1 a2 a3 a4 a5 a6, Statement (.hbBmov a0 a1 a2 a3 a4 a5 a6) := fun _ _ _ _ _ _ _ => trivial
theorem hbBexp : ∀ a0 a1 a2 a3 a4, Statement (.hbBexp a0 a1 a2 a3 a4) := fun _ _ _ _ _ => trivial
theorem hbWaitt : ∀ a0 a1 a2, Statement (.hbWaitt a0 a1 a2) := fun _ _ _ => trivial
theorem hbWfet : ∀ a0 a1 a2 a3, Statement (.hbWfet a0 a1 a2 a3) := fun _ _ _ _ => trivial
theorem hbSev : ∀ a0 a1, Statement (.hbSev a0 a1) := fun _ _ => trivial
theorem hbTrap : ∀ a0 a1 a2, Statement (.hbTrap a0 a1 a2) := fun _ _ _ => trivial
theorem regTcntLo : ∀ a0, Statement (.regTcntLo a0) := fun _ => trivial
theorem regBndLo : ∀ a0, Statement (.regBndLo a0) := fun _ => trivial
theorem regIntPend : ∀ a0 a1, Statement (.regIntPend a0 a1) := fun _ _ => trivial
theorem regCommit : ∀ a0 a1 a2, Statement (.regCommit a0 a1 a2) := fun _ _ _ => trivial
theorem regBlockReset : ∀ a0, Statement (.regBlockReset a0) := fun _ => trivial
theorem regBkCntLo : Statement (.regBkCntLo) := trivial
theorem regTickHalt : Statement (.regTickHalt) := trivial
theorem regTickRelease : Statement (.regTickRelease) := trivial
theorem regBkDst : ∀ a0, Statement (.regBkDst a0) := fun _ => trivial
theorem regBkPadj : ∀ a0, Statement (.regBkPadj a0) := fun _ => trivial
theorem regBkStat : ∀ a0, Statement (.regBkStat a0) := fun _ => trivial
theorem regBevTsLo : ∀ a0, Statement (.regBevTsLo a0) := fun _ => trivial
theorem regBevMerge : Statement (.regBevMerge) := trivial
theorem regRegisterWrite : ∀ a0 a1 a2, Statement (.regRegisterWrite a0 a1 a2) := fun _ _ _ => trivial
theorem cmdHello (p : Packet) : Statement (.cmdHello p) := ⟨by decide, rfl⟩
theorem cmdAuth (p : Packet) : Statement (.cmdAuth p) := ⟨by decide, rfl⟩
theorem cmdBye (p : Packet) : Statement (.cmdBye p) := ⟨by decide, rfl⟩
theorem cmdPing (p : Packet) : Statement (.cmdPing p) := ⟨by decide, rfl⟩
theorem cmdSessList (p : Packet) : Statement (.cmdSessList p) := ⟨by decide, rfl⟩
theorem cmdEvtSubscribe (p : Packet) : Statement (.cmdEvtSubscribe p) := ⟨by decide, rfl⟩
theorem cmdEvtRead (p : Packet) : Statement (.cmdEvtRead p) := ⟨by decide, rfl⟩
theorem cmdSessParams (p : Packet) : Statement (.cmdSessParams p) := ⟨by decide, rfl⟩
theorem cmdDevInfo (p : Packet) : Statement (.cmdDevInfo p) := ⟨by decide, rfl⟩
theorem cmdDevState (p : Packet) : Statement (.cmdDevState p) := ⟨by decide, rfl⟩
theorem cmdDevReset (p : Packet) : Statement (.cmdDevReset p) := ⟨by decide, rfl⟩
theorem cmdDevPower (p : Packet) : Statement (.cmdDevPower p) := ⟨by decide, rfl⟩
theorem cmdRstClear (p : Packet) : Statement (.cmdRstClear p) := ⟨by decide, rfl⟩
theorem cmdDevFeatures (p : Packet) : Statement (.cmdDevFeatures p) := ⟨by decide, rfl⟩
theorem cmdCharterStatus (p : Packet) : Statement (.cmdCharterStatus p) := ⟨by decide, rfl⟩
theorem cmdCharterLoad (p : Packet) : Statement (.cmdCharterLoad p) := ⟨by decide, rfl⟩
theorem cmdCharterVerify (p : Packet) : Statement (.cmdCharterVerify p) := ⟨by decide, rfl⟩
theorem cmdCharterCommit (p : Packet) : Statement (.cmdCharterCommit p) := ⟨by decide, rfl⟩
theorem cmdCharterRead (p : Packet) : Statement (.cmdCharterRead p) := ⟨by decide, rfl⟩
theorem cmdFuseRead (p : Packet) : Statement (.cmdFuseRead p) := ⟨by decide, rfl⟩
theorem cmdFuseWrite (p : Packet) : Statement (.cmdFuseWrite p) := ⟨by decide, rfl⟩
theorem cmdSiteList (p : Packet) : Statement (.cmdSiteList p) := ⟨by decide, rfl⟩
theorem cmdElemList (p : Packet) : Statement (.cmdElemList p) := ⟨by decide, rfl⟩
theorem cmdLaneStatus (p : Packet) : Statement (.cmdLaneStatus p) := ⟨by decide, rfl⟩
theorem cmdLaneClear (p : Packet) : Statement (.cmdLaneClear p) := ⟨by decide, rfl⟩
theorem cmdLodeArm (p : Packet) : Statement (.cmdLodeArm p) := ⟨by decide, rfl⟩
theorem cmdLodeTrig (p : Packet) : Statement (.cmdLodeTrig p) := ⟨by decide, rfl⟩
theorem cmdLodeDisarm (p : Packet) : Statement (.cmdLodeDisarm p) := ⟨by decide, rfl⟩
theorem cmdLodeStatus (p : Packet) : Statement (.cmdLodeStatus p) := ⟨by decide, rfl⟩
theorem cmdAditSet (p : Packet) : Statement (.cmdAditSet p) := ⟨by decide, rfl⟩
theorem cmdNotchSet (p : Packet) : Statement (.cmdNotchSet p) := ⟨by decide, rfl⟩
theorem cmdBeamList (p : Packet) : Statement (.cmdBeamList p) := ⟨by decide, rfl⟩
theorem cmdBandCoherence (p : Packet) : Statement (.cmdBandCoherence p) := ⟨by decide, rfl⟩
theorem cmdNullList (p : Packet) : Statement (.cmdNullList p) := ⟨by decide, rfl⟩
theorem cmdBeamPolicy (p : Packet) : Statement (.cmdBeamPolicy p) := ⟨by decide, rfl⟩
theorem cmdSiteMask (p : Packet) : Statement (.cmdSiteMask p) := ⟨by decide, rfl⟩
theorem cmdBeamDefine (p : Packet) : Statement (.cmdBeamDefine p) := ⟨by decide, rfl⟩
theorem cmdBeamWeights (p : Packet) : Statement (.cmdBeamWeights p) := ⟨by decide, rfl⟩
theorem cmdNullParams (p : Packet) : Statement (.cmdNullParams p) := ⟨by decide, rfl⟩
theorem cmdCoherenceParams (p : Packet) : Statement (.cmdCoherenceParams p) := ⟨by decide, rfl⟩
theorem cmdAssayStatus (p : Packet) : Statement (.cmdAssayStatus p) := ⟨by decide, rfl⟩
theorem cmdCalRead (p : Packet) : Statement (.cmdCalRead p) := ⟨by decide, rfl⟩
theorem cmdQuarList (p : Packet) : Statement (.cmdQuarList p) := ⟨by decide, rfl⟩
theorem cmdAssaySweep (p : Packet) : Statement (.cmdAssaySweep p) := ⟨by decide, rfl⟩
theorem cmdElemRequal (p : Packet) : Statement (.cmdElemRequal p) := ⟨by decide, rfl⟩
theorem cmdCalAccept (p : Packet) : Statement (.cmdCalAccept p) := ⟨by decide, rfl⟩
theorem cmdCalSave (p : Packet) : Statement (.cmdCalSave p) := ⟨by decide, rfl⟩
theorem cmdAssayParams (p : Packet) : Statement (.cmdAssayParams p) := ⟨by decide, rfl⟩
theorem cmdAssaySignals (p : Packet) : Statement (.cmdAssaySignals p) := ⟨by decide, rfl⟩
theorem cmdCalSeed (p : Packet) : Statement (.cmdCalSeed p) := ⟨by decide, rfl⟩
theorem cmdChList (p : Packet) : Statement (.cmdChList p) := ⟨by decide, rfl⟩
theorem cmdChStatus (p : Packet) : Statement (.cmdChStatus p) := ⟨by decide, rfl⟩
theorem cmdChPin (p : Packet) : Statement (.cmdChPin p) := ⟨by decide, rfl⟩
theorem cmdChRelease (p : Packet) : Statement (.cmdChRelease p) := ⟨by decide, rfl⟩
theorem cmdSigPolicy (p : Packet) : Statement (.cmdSigPolicy p) := ⟨by decide, rfl⟩
theorem cmdChLoop (p : Packet) : Statement (.cmdChLoop p) := ⟨by decide, rfl⟩
theorem cmdChArms (p : Packet) : Statement (.cmdChArms p) := ⟨by decide, rfl⟩
theorem cmdChKernel (p : Packet) : Statement (.cmdChKernel p) := ⟨by decide, rfl⟩
theorem cmdAcqStatus (p : Packet) : Statement (.cmdAcqStatus p) := ⟨by decide, rfl⟩
theorem cmdAcqResults (p : Packet) : Statement (.cmdAcqResults p) := ⟨by decide, rfl⟩
theorem cmdAcqStart (p : Packet) : Statement (.cmdAcqStart p) := ⟨by decide, rfl⟩
theorem cmdAcqAssist (p : Packet) : Statement (.cmdAcqAssist p) := ⟨by decide, rfl⟩
theorem cmdAcqSectors (p : Packet) : Statement (.cmdAcqSectors p) := ⟨by decide, rfl⟩
theorem cmdAcqParams (p : Packet) : Statement (.cmdAcqParams p) := ⟨by decide, rfl⟩
theorem cmdAcqSearch (p : Packet) : Statement (.cmdAcqSearch p) := ⟨by decide, rfl⟩
theorem cmdPlanStatus (p : Packet) : Statement (.cmdPlanStatus p) := ⟨by decide, rfl⟩
theorem cmdPlanLoad (p : Packet) : Statement (.cmdPlanLoad p) := ⟨by decide, rfl⟩
theorem cmdPlanVerify (p : Packet) : Statement (.cmdPlanVerify p) := ⟨by decide, rfl⟩
theorem cmdPlanActivate (p : Packet) : Statement (.cmdPlanActivate p) := ⟨by decide, rfl⟩
theorem cmdPlanDiscard (p : Packet) : Statement (.cmdPlanDiscard p) := ⟨by decide, rfl⟩
theorem cmdPlanRead (p : Packet) : Statement (.cmdPlanRead p) := ⟨by decide, rfl⟩
theorem cmdPlanDerated (p : Packet) : Statement (.cmdPlanDerated p) := ⟨by decide, rfl⟩
theorem cmdPlanModel (p : Packet) : Statement (.cmdPlanModel p) := ⟨by decide, rfl⟩
theorem cmdMeasStatus (p : Packet) : Statement (.cmdMeasStatus p) := ⟨by decide, rfl⟩
theorem cmdSolStatus (p : Packet) : Statement (.cmdSolStatus p) := ⟨by decide, rfl⟩
theorem cmdIntegStatus (p : Packet) : Statement (.cmdIntegStatus p) := ⟨by decide, rfl⟩
theorem cmdSurveyStart (p : Packet) : Statement (.cmdSurveyStart p) := ⟨by decide, rfl⟩
theorem cmdHoldForce (p : Packet) : Statement (.cmdHoldForce p) := ⟨by decide, rfl⟩
theorem cmdSatExclude (p : Packet) : Statement (.cmdSatExclude p) := ⟨by decide, rfl⟩
theorem cmdSolParams (p : Packet) : Statement (.cmdSolParams p) := ⟨by decide, rfl⟩
theorem cmdIntegParams (p : Packet) : Statement (.cmdIntegParams p) := ⟨by decide, rfl⟩
theorem cmdHoldParams (p : Packet) : Statement (.cmdHoldParams p) := ⟨by decide, rfl⟩
theorem cmdRtcmParams (p : Packet) : Statement (.cmdRtcmParams p) := ⟨by decide, rfl⟩
theorem cmdStreamOpen (p : Packet) : Statement (.cmdStreamOpen p) := ⟨by decide, rfl⟩
theorem cmdStreamClose (p : Packet) : Statement (.cmdStreamClose p) := ⟨by decide, rfl⟩
theorem cmdStreamStatus (p : Packet) : Statement (.cmdStreamStatus p) := ⟨by decide, rfl⟩
theorem cmdSnapExport (p : Packet) : Statement (.cmdSnapExport p) := ⟨by decide, rfl⟩
theorem cmdStreamParams (p : Packet) : Statement (.cmdStreamParams p) := ⟨by decide, rfl⟩
theorem cmdSynStatus (p : Packet) : Statement (.cmdSynStatus p) := ⟨by decide, rfl⟩
theorem cmdPortStatus (p : Packet) : Statement (.cmdPortStatus p) := ⟨by decide, rfl⟩
theorem cmdPortSet (p : Packet) : Statement (.cmdPortSet p) := ⟨by decide, rfl⟩
theorem cmdPortEnable (p : Packet) : Statement (.cmdPortEnable p) := ⟨by decide, rfl⟩
theorem cmdPortCable (p : Packet) : Statement (.cmdPortCable p) := ⟨by decide, rfl⟩
theorem cmdPortCal (p : Packet) : Statement (.cmdPortCal p) := ⟨by decide, rfl⟩
theorem cmdSynDither (p : Packet) : Statement (.cmdSynDither p) := ⟨by decide, rfl⟩
theorem cmdServoParams (p : Packet) : Statement (.cmdServoParams p) := ⟨by decide, rfl⟩
theorem cmdTimeStatus (p : Packet) : Statement (.cmdTimeStatus p) := ⟨by decide, rfl⟩
theorem cmdTickSet (p : Packet) : Statement (.cmdTickSet p) := ⟨by decide, rfl⟩
theorem cmdTickDst (p : Packet) : Statement (.cmdTickDst p) := ⟨by decide, rfl⟩
theorem cmdWakeSet (p : Packet) : Statement (.cmdWakeSet p) := ⟨by decide, rfl⟩
theorem cmdBramRead (p : Packet) : Statement (.cmdBramRead p) := ⟨by decide, rfl⟩
theorem cmdBramWrite (p : Packet) : Statement (.cmdBramWrite p) := ⟨by decide, rfl⟩
theorem cmdChargerSet (p : Packet) : Statement (.cmdChargerSet p) := ⟨by decide, rfl⟩
theorem cmdTrimCurve (p : Packet) : Statement (.cmdTrimCurve p) := ⟨by decide, rfl⟩
theorem cmdHealthStatus (p : Packet) : Statement (.cmdHealthStatus p) := ⟨by decide, rfl⟩
theorem cmdThermalStatus (p : Packet) : Statement (.cmdThermalStatus p) := ⟨by decide, rfl⟩
theorem cmdWearList (p : Packet) : Statement (.cmdWearList p) := ⟨by decide, rfl⟩
theorem cmdSpareList (p : Packet) : Statement (.cmdSpareList p) := ⟨by decide, rfl⟩
theorem cmdThermalParams (p : Packet) : Statement (.cmdThermalParams p) := ⟨by decide, rfl⟩
theorem cmdCanaryParams (p : Packet) : Statement (.cmdCanaryParams p) := ⟨by decide, rfl⟩
theorem cmdMaintStatus (p : Packet) : Statement (.cmdMaintStatus p) := ⟨by decide, rfl⟩
theorem cmdDlStatus (p : Packet) : Statement (.cmdDlStatus p) := ⟨by decide, rfl⟩
theorem cmdStopeSwap (p : Packet) : Statement (.cmdStopeSwap p) := ⟨by decide, rfl⟩
theorem cmdDeputySwap (p : Packet) : Statement (.cmdDeputySwap p) := ⟨by decide, rfl⟩
theorem cmdDeepTest (p : Packet) : Statement (.cmdDeepTest p) := ⟨by decide, rfl⟩
theorem cmdLodeSwap (p : Packet) : Statement (.cmdLodeSwap p) := ⟨by decide, rfl⟩
theorem cmdLaneReneg (p : Packet) : Statement (.cmdLaneReneg p) := ⟨by decide, rfl⟩
theorem cmdElemOut (p : Packet) : Statement (.cmdElemOut p) := ⟨by decide, rfl⟩
theorem cmdElemIn (p : Packet) : Statement (.cmdElemIn p) := ⟨by decide, rfl⟩
theorem cmdMaintCancel (p : Packet) : Statement (.cmdMaintCancel p) := ⟨by decide, rfl⟩
theorem cmdDlClear (p : Packet) : Statement (.cmdDlClear p) := ⟨by decide, rfl⟩
theorem cmdDlParams (p : Packet) : Statement (.cmdDlParams p) := ⟨by decide, rfl⟩
theorem cmdTallyStatus (p : Packet) : Statement (.cmdTallyStatus p) := ⟨by decide, rfl⟩
theorem cmdTallyRead (p : Packet) : Statement (.cmdTallyRead p) := ⟨by decide, rfl⟩
theorem cmdTallyExport (p : Packet) : Statement (.cmdTallyExport p) := ⟨by decide, rfl⟩
theorem cmdTallyVerify (p : Packet) : Statement (.cmdTallyVerify p) := ⟨by decide, rfl⟩
theorem cmdTenantList (p : Packet) : Statement (.cmdTenantList p) := ⟨by decide, rfl⟩
theorem cmdTenantAdd (p : Packet) : Statement (.cmdTenantAdd p) := ⟨by decide, rfl⟩
theorem cmdTenantRemove (p : Packet) : Statement (.cmdTenantRemove p) := ⟨by decide, rfl⟩
theorem cmdTenantQuota (p : Packet) : Statement (.cmdTenantQuota p) := ⟨by decide, rfl⟩
theorem cmdRoleSecret (p : Packet) : Statement (.cmdRoleSecret p) := ⟨by decide, rfl⟩
theorem cmdUartSet (p : Packet) : Statement (.cmdUartSet p) := ⟨by decide, rfl⟩
theorem cmdUartStatus (p : Packet) : Statement (.cmdUartStatus p) := ⟨by decide, rfl⟩
theorem cmdEvinSet (p : Packet) : Statement (.cmdEvinSet p) := ⟨by decide, rfl⟩
theorem cmdEvinStatus (p : Packet) : Statement (.cmdEvinStatus p) := ⟨by decide, rfl⟩
theorem cmdWakeportSet (p : Packet) : Statement (.cmdWakeportSet p) := ⟨by decide, rfl⟩
theorem cmdLineClear (p : Packet) : Statement (.cmdLineClear p) := ⟨by decide, rfl⟩
theorem cmdUartTiming (p : Packet) : Statement (.cmdUartTiming p) := ⟨by decide, rfl⟩
theorem cmdKernelList (p : Packet) : Statement (.cmdKernelList p) := ⟨by decide, rfl⟩
theorem cmdKernelLoad (p : Packet) : Statement (.cmdKernelLoad p) := ⟨by decide, rfl⟩
theorem cmdKernelVerify (p : Packet) : Statement (.cmdKernelVerify p) := ⟨by decide, rfl⟩
theorem cmdKernelDelete (p : Packet) : Statement (.cmdKernelDelete p) := ⟨by decide, rfl⟩
theorem cmdKernelBudget (p : Packet) : Statement (.cmdKernelBudget p) := ⟨by decide, rfl⟩
theorem cmdMakerOpen (p : Packet) : Statement (.cmdMakerOpen p) := ⟨by decide, rfl⟩
theorem cmdMakerClose (p : Packet) : Statement (.cmdMakerClose p) := ⟨by decide, rfl⟩
theorem cmdMakerMark (p : Packet) : Statement (.cmdMakerMark p) := ⟨by decide, rfl⟩
theorem evDiscardedPacket : ∀ a0 a1 a2 a3, Statement (.evDiscardedPacket a0 a1 a2 a3) := fun _ _ _ _ => trivial
theorem evPortEdge : ∀ a0, Statement (.evPortEdge a0) := fun _ => trivial
theorem evSeamAcknowledge : ∀ a0 a1, Statement (.evSeamAcknowledge a0 a1) := fun _ _ => trivial
theorem evSynRelock : ∀ a0, Statement (.evSynRelock a0) := fun _ => trivial
theorem regBkCaptLo : Statement (.regBkCaptLo) := trivial

end Sys2Proof.Laws.Requests
end

