-- ==== Sys2Proof/Laws/State.lean ====
section
/-! SUPPORT. What the elementary updates of State leave alone, one lemma per update with one equation per part, and what the readers
answer after them. -/

namespace Sys2Proof.Machine

/-! ### Vectors -/

theorem vgetD_vupdN {α : Type} {n : Nat} (v : Vector α n) (i j : Nat) (f : α → α) (d : α) (h : i < n) :
    vgetD (vupdN v i f) j d = if j = i then f (vgetD v i d) else vgetD v j d := by
  simp only [vgetD, vupdN, dif_pos h]
  split
  · next hj =>
    split
    · next he => subst he; simp
    · next he => rw [Vector.getElem_set_ne _ _ (fun e => he e.symm)]
  · next hj => rw [if_neg (by omega)]

@[simp] theorem vupdN_id {α : Type} {n : Nat} (v : Vector α n) (i : Nat) : vupdN v i id = v := by
  unfold vupdN; split <;> simp

theorem vupdN_outside {α : Type} {n : Nat} (v : Vector α n) (i : Nat) (f : α → α) (h : n ≤ i) : vupdN v i f = v := by
  rw [vupdN, dif_neg (by omega)]

/-! ### What each update keeps -/

@[simp] theorem setCore_keeps (s : State) (k : Fin 19) (c : CoreState) :
    (s.setCore k c).smp = s.smp ∧ (s.setCore k c).arr = s.arr ∧ (s.setCore k c).trk = s.trk ∧ (s.setCore k c).fab = s.fab ∧
    (s.setCore k c).sol = s.sol ∧ (s.setCore k c).syn = s.syn ∧ (s.setCore k c).ses = s.ses ∧ (s.setCore k c).ten = s.ten ∧
    (s.setCore k c).boo = s.boo ∧ (s.setCore k c).clk = s.clk ∧ (s.setCore k c).pow = s.pow ∧ (s.setCore k c).bak = s.bak ∧
    (s.setCore k c).por = s.por ∧ (s.setCore k c).hea = s.hea ∧ (s.setCore k c).pending = s.pending ∧ (s.setCore k c).free = s.free := by
  unfold State.setCore; refine ⟨rfl, rfl, rfl, rfl, rfl, rfl, rfl, rfl, rfl, rfl, rfl, rfl, rfl, rfl, rfl, rfl⟩

@[simp] theorem mapLane_keeps (n : Nat) (f : LaneState → LaneState) (s : State) :
    (s.mapLane n f).arr = s.arr ∧ (s.mapLane n f).trk = s.trk ∧ (s.mapLane n f).fab = s.fab ∧ (s.mapLane n f).sol = s.sol ∧
    (s.mapLane n f).syn = s.syn ∧ (s.mapLane n f).ses = s.ses ∧ (s.mapLane n f).ten = s.ten ∧ (s.mapLane n f).boo = s.boo ∧
    (s.mapLane n f).cor = s.cor ∧ (s.mapLane n f).clk = s.clk ∧ (s.mapLane n f).pow = s.pow ∧ (s.mapLane n f).bak = s.bak ∧
    (s.mapLane n f).por = s.por ∧ (s.mapLane n f).hea = s.hea ∧ (s.mapLane n f).pending = s.pending ∧ (s.mapLane n f).free = s.free := by
  unfold State.mapLane; refine ⟨rfl, rfl, rfl, rfl, rfl, rfl, rfl, rfl, rfl, rfl, rfl, rfl, rfl, rfl, rfl, rfl⟩

@[simp] theorem mapAdit_keeps (n : Nat) (f : AditState → AditState) (s : State) :
    (s.mapAdit n f).arr = s.arr ∧ (s.mapAdit n f).trk = s.trk ∧ (s.mapAdit n f).fab = s.fab ∧ (s.mapAdit n f).sol = s.sol ∧
    (s.mapAdit n f).syn = s.syn ∧ (s.mapAdit n f).ses = s.ses ∧ (s.mapAdit n f).ten = s.ten ∧ (s.mapAdit n f).boo = s.boo ∧
    (s.mapAdit n f).cor = s.cor ∧ (s.mapAdit n f).clk = s.clk ∧ (s.mapAdit n f).pow = s.pow ∧ (s.mapAdit n f).bak = s.bak ∧
    (s.mapAdit n f).por = s.por ∧ (s.mapAdit n f).hea = s.hea ∧ (s.mapAdit n f).pending = s.pending ∧ (s.mapAdit n f).free = s.free := by
  unfold State.mapAdit; refine ⟨rfl, rfl, rfl, rfl, rfl, rfl, rfl, rfl, rfl, rfl, rfl, rfl, rfl, rfl, rfl, rfl⟩

@[simp] theorem mapRegion_keeps (c : Nat) (f : Region → Region) (s : State) :
    (s.mapRegion c f).arr = s.arr ∧ (s.mapRegion c f).trk = s.trk ∧ (s.mapRegion c f).fab = s.fab ∧ (s.mapRegion c f).sol = s.sol ∧
    (s.mapRegion c f).syn = s.syn ∧ (s.mapRegion c f).ses = s.ses ∧ (s.mapRegion c f).ten = s.ten ∧ (s.mapRegion c f).boo = s.boo ∧
    (s.mapRegion c f).cor = s.cor ∧ (s.mapRegion c f).clk = s.clk ∧ (s.mapRegion c f).pow = s.pow ∧ (s.mapRegion c f).bak = s.bak ∧
    (s.mapRegion c f).por = s.por ∧ (s.mapRegion c f).hea = s.hea ∧ (s.mapRegion c f).pending = s.pending ∧
    (s.mapRegion c f).free = s.free := by
  unfold State.mapRegion; refine ⟨rfl, rfl, rfl, rfl, rfl, rfl, rfl, rfl, rfl, rfl, rfl, rfl, rfl, rfl, rfl, rfl⟩

@[simp] theorem mapBeam_keeps (n : Nat) (f : BeamState → BeamState) (s : State) :
    (s.mapBeam n f).smp = s.smp ∧ (s.mapBeam n f).trk = s.trk ∧ (s.mapBeam n f).fab = s.fab ∧ (s.mapBeam n f).sol = s.sol ∧
    (s.mapBeam n f).syn = s.syn ∧ (s.mapBeam n f).ses = s.ses ∧ (s.mapBeam n f).ten = s.ten ∧ (s.mapBeam n f).boo = s.boo ∧
    (s.mapBeam n f).cor = s.cor ∧ (s.mapBeam n f).clk = s.clk ∧ (s.mapBeam n f).pow = s.pow ∧ (s.mapBeam n f).bak = s.bak ∧
    (s.mapBeam n f).por = s.por ∧ (s.mapBeam n f).hea = s.hea ∧ (s.mapBeam n f).pending = s.pending ∧ (s.mapBeam n f).free = s.free := by
  unfold State.mapBeam; refine ⟨rfl, rfl, rfl, rfl, rfl, rfl, rfl, rfl, rfl, rfl, rfl, rfl, rfl, rfl, rfl, rfl⟩

@[simp] theorem mapBeams_keeps (f : BeamState → BeamState) (s : State) :
    (s.mapBeams f).smp = s.smp ∧ (s.mapBeams f).trk = s.trk ∧ (s.mapBeams f).fab = s.fab ∧ (s.mapBeams f).sol = s.sol ∧
    (s.mapBeams f).syn = s.syn ∧ (s.mapBeams f).ses = s.ses ∧ (s.mapBeams f).ten = s.ten ∧ (s.mapBeams f).boo = s.boo ∧
    (s.mapBeams f).cor = s.cor ∧ (s.mapBeams f).clk = s.clk ∧ (s.mapBeams f).pow = s.pow ∧ (s.mapBeams f).bak = s.bak ∧
    (s.mapBeams f).por = s.por ∧ (s.mapBeams f).hea = s.hea ∧ (s.mapBeams f).pending = s.pending ∧ (s.mapBeams f).free = s.free := by
  unfold State.mapBeams; refine ⟨rfl, rfl, rfl, rfl, rfl, rfl, rfl, rfl, rfl, rfl, rfl, rfl, rfl, rfl, rfl, rfl⟩

@[simp] theorem mapCoh_keeps (b : Band) (f : BandCoh → BandCoh) (s : State) :
    (s.mapCoh b f).smp = s.smp ∧ (s.mapCoh b f).trk = s.trk ∧ (s.mapCoh b f).fab = s.fab ∧ (s.mapCoh b f).sol = s.sol ∧
    (s.mapCoh b f).syn = s.syn ∧ (s.mapCoh b f).ses = s.ses ∧ (s.mapCoh b f).ten = s.ten ∧ (s.mapCoh b f).boo = s.boo ∧
    (s.mapCoh b f).cor = s.cor ∧ (s.mapCoh b f).clk = s.clk ∧ (s.mapCoh b f).pow = s.pow ∧ (s.mapCoh b f).bak = s.bak ∧
    (s.mapCoh b f).por = s.por ∧ (s.mapCoh b f).hea = s.hea ∧ (s.mapCoh b f).pending = s.pending ∧ (s.mapCoh b f).free = s.free := by
  unfold State.mapCoh; refine ⟨rfl, rfl, rfl, rfl, rfl, rfl, rfl, rfl, rfl, rfl, rfl, rfl, rfl, rfl, rfl, rfl⟩

@[simp] theorem mapNull_keeps (site : Nat) (b : Band) (f : NullSite → NullSite) (s : State) :
    (s.mapNull site b f).smp = s.smp ∧ (s.mapNull site b f).trk = s.trk ∧ (s.mapNull site b f).fab = s.fab ∧
    (s.mapNull site b f).sol = s.sol ∧ (s.mapNull site b f).syn = s.syn ∧ (s.mapNull site b f).ses = s.ses ∧
    (s.mapNull site b f).ten = s.ten ∧ (s.mapNull site b f).boo = s.boo ∧ (s.mapNull site b f).cor = s.cor ∧
    (s.mapNull site b f).clk = s.clk ∧ (s.mapNull site b f).pow = s.pow ∧ (s.mapNull site b f).bak = s.bak ∧
    (s.mapNull site b f).por = s.por ∧ (s.mapNull site b f).hea = s.hea ∧ (s.mapNull site b f).pending = s.pending ∧
    (s.mapNull site b f).free = s.free := by
  unfold State.mapNull; refine ⟨rfl, rfl, rfl, rfl, rfl, rfl, rfl, rfl, rfl, rfl, rfl, rfl, rfl, rfl, rfl, rfl⟩

@[simp] theorem mapAssay_keeps (f : AssayState → AssayState) (s : State) :
    (s.mapAssay f).smp = s.smp ∧ (s.mapAssay f).trk = s.trk ∧ (s.mapAssay f).fab = s.fab ∧ (s.mapAssay f).sol = s.sol ∧
    (s.mapAssay f).syn = s.syn ∧ (s.mapAssay f).ses = s.ses ∧ (s.mapAssay f).ten = s.ten ∧ (s.mapAssay f).boo = s.boo ∧
    (s.mapAssay f).cor = s.cor ∧ (s.mapAssay f).clk = s.clk ∧ (s.mapAssay f).pow = s.pow ∧ (s.mapAssay f).bak = s.bak ∧
    (s.mapAssay f).por = s.por ∧ (s.mapAssay f).hea = s.hea ∧ (s.mapAssay f).pending = s.pending ∧ (s.mapAssay f).free = s.free := by
  unfold State.mapAssay; refine ⟨rfl, rfl, rfl, rfl, rfl, rfl, rfl, rfl, rfl, rfl, rfl, rfl, rfl, rfl, rfl, rfl⟩

@[simp] theorem mapChan_keeps (n : Nat) (f : ChanState → ChanState) (s : State) :
    (s.mapChan n f).smp = s.smp ∧ (s.mapChan n f).arr = s.arr ∧ (s.mapChan n f).fab = s.fab ∧ (s.mapChan n f).sol = s.sol ∧
    (s.mapChan n f).syn = s.syn ∧ (s.mapChan n f).ses = s.ses ∧ (s.mapChan n f).ten = s.ten ∧ (s.mapChan n f).boo = s.boo ∧
    (s.mapChan n f).cor = s.cor ∧ (s.mapChan n f).clk = s.clk ∧ (s.mapChan n f).pow = s.pow ∧ (s.mapChan n f).bak = s.bak ∧
    (s.mapChan n f).por = s.por ∧ (s.mapChan n f).hea = s.hea ∧ (s.mapChan n f).pending = s.pending ∧ (s.mapChan n f).free = s.free := by
  unfold State.mapChan; refine ⟨rfl, rfl, rfl, rfl, rfl, rfl, rfl, rfl, rfl, rfl, rfl, rfl, rfl, rfl, rfl, rfl⟩

@[simp] theorem mapAcq_keeps (f : AcqState → AcqState) (s : State) :
    (s.mapAcq f).smp = s.smp ∧ (s.mapAcq f).arr = s.arr ∧ (s.mapAcq f).fab = s.fab ∧ (s.mapAcq f).sol = s.sol ∧ (s.mapAcq f).syn = s.syn ∧
    (s.mapAcq f).ses = s.ses ∧ (s.mapAcq f).ten = s.ten ∧ (s.mapAcq f).boo = s.boo ∧ (s.mapAcq f).cor = s.cor ∧ (s.mapAcq f).clk = s.clk ∧
    (s.mapAcq f).pow = s.pow ∧ (s.mapAcq f).bak = s.bak ∧ (s.mapAcq f).por = s.por ∧ (s.mapAcq f).hea = s.hea ∧
    (s.mapAcq f).pending = s.pending ∧ (s.mapAcq f).free = s.free := by
  unfold State.mapAcq; refine ⟨rfl, rfl, rfl, rfl, rfl, rfl, rfl, rfl, rfl, rfl, rfl, rfl, rfl, rfl, rfl, rfl⟩

@[simp] theorem mapSlot_keeps (k : Nat) (f : PlanSlotSt → PlanSlotSt) (s : State) :
    (s.mapSlot k f).smp = s.smp ∧ (s.mapSlot k f).arr = s.arr ∧ (s.mapSlot k f).trk = s.trk ∧ (s.mapSlot k f).sol = s.sol ∧
    (s.mapSlot k f).syn = s.syn ∧ (s.mapSlot k f).ses = s.ses ∧ (s.mapSlot k f).ten = s.ten ∧ (s.mapSlot k f).boo = s.boo ∧
    (s.mapSlot k f).cor = s.cor ∧ (s.mapSlot k f).clk = s.clk ∧ (s.mapSlot k f).pow = s.pow ∧ (s.mapSlot k f).bak = s.bak ∧
    (s.mapSlot k f).por = s.por ∧ (s.mapSlot k f).hea = s.hea ∧ (s.mapSlot k f).pending = s.pending ∧ (s.mapSlot k f).free = s.free := by
  unfold State.mapSlot; refine ⟨rfl, rfl, rfl, rfl, rfl, rfl, rfl, rfl, rfl, rfl, rfl, rfl, rfl, rfl, rfl, rfl⟩

@[simp] theorem mapRun_keeps (ls : Nat) (f : StopeRun → StopeRun) (s : State) :
    (s.mapRun ls f).smp = s.smp ∧ (s.mapRun ls f).arr = s.arr ∧ (s.mapRun ls f).trk = s.trk ∧ (s.mapRun ls f).sol = s.sol ∧
    (s.mapRun ls f).syn = s.syn ∧ (s.mapRun ls f).ses = s.ses ∧ (s.mapRun ls f).ten = s.ten ∧ (s.mapRun ls f).boo = s.boo ∧
    (s.mapRun ls f).cor = s.cor ∧ (s.mapRun ls f).clk = s.clk ∧ (s.mapRun ls f).pow = s.pow ∧ (s.mapRun ls f).bak = s.bak ∧
    (s.mapRun ls f).por = s.por ∧ (s.mapRun ls f).hea = s.hea ∧ (s.mapRun ls f).pending = s.pending ∧ (s.mapRun ls f).free = s.free := by
  unfold State.mapRun; refine ⟨rfl, rfl, rfl, rfl, rfl, rfl, rfl, rfl, rfl, rfl, rfl, rfl, rfl, rfl, rfl, rfl⟩

@[simp] theorem mapEscLs_keeps (ls : Nat) (f : Esc → Esc) (s : State) :
    (s.mapEscLs ls f).smp = s.smp ∧ (s.mapEscLs ls f).arr = s.arr ∧ (s.mapEscLs ls f).trk = s.trk ∧ (s.mapEscLs ls f).sol = s.sol ∧
    (s.mapEscLs ls f).syn = s.syn ∧ (s.mapEscLs ls f).ses = s.ses ∧ (s.mapEscLs ls f).ten = s.ten ∧ (s.mapEscLs ls f).boo = s.boo ∧
    (s.mapEscLs ls f).cor = s.cor ∧ (s.mapEscLs ls f).clk = s.clk ∧ (s.mapEscLs ls f).pow = s.pow ∧ (s.mapEscLs ls f).bak = s.bak ∧
    (s.mapEscLs ls f).por = s.por ∧ (s.mapEscLs ls f).hea = s.hea ∧ (s.mapEscLs ls f).pending = s.pending ∧
    (s.mapEscLs ls f).free = s.free := by
  unfold State.mapEscLs; refine ⟨rfl, rfl, rfl, rfl, rfl, rfl, rfl, rfl, rfl, rfl, rfl, rfl, rfl, rfl, rfl, rfl⟩

@[simp] theorem mapEscLd_keeps (ld : Nat) (f : Esc → Esc) (s : State) :
    (s.mapEscLd ld f).smp = s.smp ∧ (s.mapEscLd ld f).arr = s.arr ∧ (s.mapEscLd ld f).trk = s.trk ∧ (s.mapEscLd ld f).sol = s.sol ∧
    (s.mapEscLd ld f).syn = s.syn ∧ (s.mapEscLd ld f).ses = s.ses ∧ (s.mapEscLd ld f).ten = s.ten ∧ (s.mapEscLd ld f).boo = s.boo ∧
    (s.mapEscLd ld f).cor = s.cor ∧ (s.mapEscLd ld f).clk = s.clk ∧ (s.mapEscLd ld f).pow = s.pow ∧ (s.mapEscLd ld f).bak = s.bak ∧
    (s.mapEscLd ld f).por = s.por ∧ (s.mapEscLd ld f).hea = s.hea ∧ (s.mapEscLd ld f).pending = s.pending ∧
    (s.mapEscLd ld f).free = s.free := by
  unfold State.mapEscLd; refine ⟨rfl, rfl, rfl, rfl, rfl, rfl, rfl, rfl, rfl, rfl, rfl, rfl, rfl, rfl, rfl, rfl⟩

@[simp] theorem mapEscCh_keeps (n : Nat) (f : Esc → Esc) (s : State) :
    (s.mapEscCh n f).smp = s.smp ∧ (s.mapEscCh n f).arr = s.arr ∧ (s.mapEscCh n f).trk = s.trk ∧ (s.mapEscCh n f).sol = s.sol ∧
    (s.mapEscCh n f).syn = s.syn ∧ (s.mapEscCh n f).ses = s.ses ∧ (s.mapEscCh n f).ten = s.ten ∧ (s.mapEscCh n f).boo = s.boo ∧
    (s.mapEscCh n f).cor = s.cor ∧ (s.mapEscCh n f).clk = s.clk ∧ (s.mapEscCh n f).pow = s.pow ∧ (s.mapEscCh n f).bak = s.bak ∧
    (s.mapEscCh n f).por = s.por ∧ (s.mapEscCh n f).hea = s.hea ∧ (s.mapEscCh n f).pending = s.pending ∧
    (s.mapEscCh n f).free = s.free := by
  unfold State.mapEscCh; refine ⟨rfl, rfl, rfl, rfl, rfl, rfl, rfl, rfl, rfl, rfl, rfl, rfl, rfl, rfl, rfl, rfl⟩

@[simp] theorem mapEscAs_keeps (n : Nat) (f : Esc → Esc) (s : State) :
    (s.mapEscAs n f).smp = s.smp ∧ (s.mapEscAs n f).arr = s.arr ∧ (s.mapEscAs n f).trk = s.trk ∧ (s.mapEscAs n f).sol = s.sol ∧
    (s.mapEscAs n f).syn = s.syn ∧ (s.mapEscAs n f).ses = s.ses ∧ (s.mapEscAs n f).ten = s.ten ∧ (s.mapEscAs n f).boo = s.boo ∧
    (s.mapEscAs n f).cor = s.cor ∧ (s.mapEscAs n f).clk = s.clk ∧ (s.mapEscAs n f).pow = s.pow ∧ (s.mapEscAs n f).bak = s.bak ∧
    (s.mapEscAs n f).por = s.por ∧ (s.mapEscAs n f).hea = s.hea ∧ (s.mapEscAs n f).pending = s.pending ∧
    (s.mapEscAs n f).free = s.free := by
  unfold State.mapEscAs; refine ⟨rfl, rfl, rfl, rfl, rfl, rfl, rfl, rfl, rfl, rfl, rfl, rfl, rfl, rfl, rfl, rfl⟩

@[simp] theorem mapPort_keeps (n : Nat) (f : PortState → PortState) (s : State) :
    (s.mapPort n f).smp = s.smp ∧ (s.mapPort n f).arr = s.arr ∧ (s.mapPort n f).trk = s.trk ∧ (s.mapPort n f).fab = s.fab ∧
    (s.mapPort n f).sol = s.sol ∧ (s.mapPort n f).ses = s.ses ∧ (s.mapPort n f).ten = s.ten ∧ (s.mapPort n f).boo = s.boo ∧
    (s.mapPort n f).cor = s.cor ∧ (s.mapPort n f).clk = s.clk ∧ (s.mapPort n f).pow = s.pow ∧ (s.mapPort n f).bak = s.bak ∧
    (s.mapPort n f).por = s.por ∧ (s.mapPort n f).hea = s.hea ∧ (s.mapPort n f).pending = s.pending ∧ (s.mapPort n f).free = s.free := by
  unfold State.mapPort; refine ⟨rfl, rfl, rfl, rfl, rfl, rfl, rfl, rfl, rfl, rfl, rfl, rfl, rfl, rfl, rfl, rfl⟩

@[simp] theorem mapSession_keeps (sid : Nat) (f : Session → Session) (s : State) :
    (s.mapSession sid f).smp = s.smp ∧ (s.mapSession sid f).arr = s.arr ∧ (s.mapSession sid f).trk = s.trk ∧
    (s.mapSession sid f).fab = s.fab ∧ (s.mapSession sid f).sol = s.sol ∧ (s.mapSession sid f).syn = s.syn ∧
    (s.mapSession sid f).ten = s.ten ∧ (s.mapSession sid f).boo = s.boo ∧ (s.mapSession sid f).cor = s.cor ∧
    (s.mapSession sid f).clk = s.clk ∧ (s.mapSession sid f).pow = s.pow ∧ (s.mapSession sid f).bak = s.bak ∧
    (s.mapSession sid f).por = s.por ∧ (s.mapSession sid f).hea = s.hea ∧ (s.mapSession sid f).pending = s.pending ∧
    (s.mapSession sid f).free = s.free := by
  unfold State.mapSession; refine ⟨rfl, rfl, rfl, rfl, rfl, rfl, rfl, rfl, rfl, rfl, rfl, rfl, rfl, rfl, rfl, rfl⟩

@[simp] theorem mapTenant_keeps (t : Nat) (f : Tenant → Tenant) (s : State) :
    (s.mapTenant t f).smp = s.smp ∧ (s.mapTenant t f).arr = s.arr ∧ (s.mapTenant t f).trk = s.trk ∧ (s.mapTenant t f).fab = s.fab ∧
    (s.mapTenant t f).sol = s.sol ∧ (s.mapTenant t f).syn = s.syn ∧ (s.mapTenant t f).ses = s.ses ∧ (s.mapTenant t f).boo = s.boo ∧
    (s.mapTenant t f).cor = s.cor ∧ (s.mapTenant t f).clk = s.clk ∧ (s.mapTenant t f).pow = s.pow ∧ (s.mapTenant t f).bak = s.bak ∧
    (s.mapTenant t f).por = s.por ∧ (s.mapTenant t f).hea = s.hea ∧ (s.mapTenant t f).pending = s.pending ∧
    (s.mapTenant t f).free = s.free := by
  unfold State.mapTenant; refine ⟨rfl, rfl, rfl, rfl, rfl, rfl, rfl, rfl, rfl, rfl, rfl, rfl, rfl, rfl, rfl, rfl⟩

@[simp] theorem mapIsland_keeps (n : Nat) (f : IslandState → IslandState) (s : State) :
    (s.mapIsland n f).smp = s.smp ∧ (s.mapIsland n f).arr = s.arr ∧ (s.mapIsland n f).trk = s.trk ∧ (s.mapIsland n f).fab = s.fab ∧
    (s.mapIsland n f).sol = s.sol ∧ (s.mapIsland n f).syn = s.syn ∧ (s.mapIsland n f).ses = s.ses ∧ (s.mapIsland n f).ten = s.ten ∧
    (s.mapIsland n f).boo = s.boo ∧ (s.mapIsland n f).cor = s.cor ∧ (s.mapIsland n f).pow = s.pow ∧ (s.mapIsland n f).bak = s.bak ∧
    (s.mapIsland n f).por = s.por ∧ (s.mapIsland n f).hea = s.hea ∧ (s.mapIsland n f).pending = s.pending ∧
    (s.mapIsland n f).free = s.free := by
  unfold State.mapIsland; refine ⟨rfl, rfl, rfl, rfl, rfl, rfl, rfl, rfl, rfl, rfl, rfl, rfl, rfl, rfl, rfl, rfl⟩

@[simp] theorem mapUart_keeps (n : Nat) (f : UartState → UartState) (s : State) :
    (s.mapUart n f).smp = s.smp ∧ (s.mapUart n f).arr = s.arr ∧ (s.mapUart n f).trk = s.trk ∧ (s.mapUart n f).fab = s.fab ∧
    (s.mapUart n f).sol = s.sol ∧ (s.mapUart n f).syn = s.syn ∧ (s.mapUart n f).ses = s.ses ∧ (s.mapUart n f).ten = s.ten ∧
    (s.mapUart n f).boo = s.boo ∧ (s.mapUart n f).cor = s.cor ∧ (s.mapUart n f).clk = s.clk ∧ (s.mapUart n f).pow = s.pow ∧
    (s.mapUart n f).bak = s.bak ∧ (s.mapUart n f).hea = s.hea ∧ (s.mapUart n f).pending = s.pending ∧ (s.mapUart n f).free = s.free := by
  unfold State.mapUart; refine ⟨rfl, rfl, rfl, rfl, rfl, rfl, rfl, rfl, rfl, rfl, rfl, rfl, rfl, rfl, rfl, rfl⟩

@[simp] theorem mapEvin_keeps (n : Nat) (f : EvinState → EvinState) (s : State) :
    (s.mapEvin n f).smp = s.smp ∧ (s.mapEvin n f).arr = s.arr ∧ (s.mapEvin n f).trk = s.trk ∧ (s.mapEvin n f).fab = s.fab ∧
    (s.mapEvin n f).sol = s.sol ∧ (s.mapEvin n f).syn = s.syn ∧ (s.mapEvin n f).ses = s.ses ∧ (s.mapEvin n f).ten = s.ten ∧
    (s.mapEvin n f).boo = s.boo ∧ (s.mapEvin n f).cor = s.cor ∧ (s.mapEvin n f).clk = s.clk ∧ (s.mapEvin n f).pow = s.pow ∧
    (s.mapEvin n f).bak = s.bak ∧ (s.mapEvin n f).hea = s.hea ∧ (s.mapEvin n f).pending = s.pending ∧ (s.mapEvin n f).free = s.free := by
  unfold State.mapEvin; refine ⟨rfl, rfl, rfl, rfl, rfl, rfl, rfl, rfl, rfl, rfl, rfl, rfl, rfl, rfl, rfl, rfl⟩

@[simp] theorem mapEth_keeps (port : Nat) (f : EthState → EthState) (s : State) :
    (s.mapEth port f).smp = s.smp ∧ (s.mapEth port f).arr = s.arr ∧ (s.mapEth port f).trk = s.trk ∧ (s.mapEth port f).fab = s.fab ∧
    (s.mapEth port f).sol = s.sol ∧ (s.mapEth port f).syn = s.syn ∧ (s.mapEth port f).ses = s.ses ∧ (s.mapEth port f).ten = s.ten ∧
    (s.mapEth port f).boo = s.boo ∧ (s.mapEth port f).cor = s.cor ∧ (s.mapEth port f).clk = s.clk ∧ (s.mapEth port f).pow = s.pow ∧
    (s.mapEth port f).bak = s.bak ∧ (s.mapEth port f).hea = s.hea ∧ (s.mapEth port f).pending = s.pending ∧
    (s.mapEth port f).free = s.free := by
  unfold State.mapEth; refine ⟨rfl, rfl, rfl, rfl, rfl, rfl, rfl, rfl, rfl, rfl, rfl, rfl, rfl, rfl, rfl, rfl⟩

@[simp] theorem mapStream_keeps (stid : Nat) (f : StreamState → StreamState) (s : State) :
    (s.mapStream stid f).smp = s.smp ∧ (s.mapStream stid f).arr = s.arr ∧ (s.mapStream stid f).trk = s.trk ∧
    (s.mapStream stid f).fab = s.fab ∧ (s.mapStream stid f).sol = s.sol ∧ (s.mapStream stid f).syn = s.syn ∧
    (s.mapStream stid f).ses = s.ses ∧ (s.mapStream stid f).ten = s.ten ∧ (s.mapStream stid f).boo = s.boo ∧
    (s.mapStream stid f).cor = s.cor ∧ (s.mapStream stid f).clk = s.clk ∧ (s.mapStream stid f).pow = s.pow ∧
    (s.mapStream stid f).bak = s.bak ∧ (s.mapStream stid f).hea = s.hea ∧ (s.mapStream stid f).pending = s.pending ∧
    (s.mapStream stid f).free = s.free := by
  unfold State.mapStream; refine ⟨rfl, rfl, rfl, rfl, rfl, rfl, rfl, rfl, rfl, rfl, rfl, rfl, rfl, rfl, rfl, rfl⟩

@[simp] theorem mapWakePort_keeps (f : WakePortState → WakePortState) (s : State) :
    (s.mapWakePort f).smp = s.smp ∧ (s.mapWakePort f).arr = s.arr ∧ (s.mapWakePort f).trk = s.trk ∧ (s.mapWakePort f).fab = s.fab ∧
    (s.mapWakePort f).sol = s.sol ∧ (s.mapWakePort f).syn = s.syn ∧ (s.mapWakePort f).ses = s.ses ∧ (s.mapWakePort f).ten = s.ten ∧
    (s.mapWakePort f).boo = s.boo ∧ (s.mapWakePort f).cor = s.cor ∧ (s.mapWakePort f).clk = s.clk ∧ (s.mapWakePort f).pow = s.pow ∧
    (s.mapWakePort f).bak = s.bak ∧ (s.mapWakePort f).hea = s.hea ∧ (s.mapWakePort f).pending = s.pending ∧
    (s.mapWakePort f).free = s.free := by
  unfold State.mapWakePort; refine ⟨rfl, rfl, rfl, rfl, rfl, rfl, rfl, rfl, rfl, rfl, rfl, rfl, rfl, rfl, rfl, rfl⟩

@[simp] theorem mapWear_keeps (n : Nat) (f : WearEntry → WearEntry) (s : State) :
    (s.mapWear n f).smp = s.smp ∧ (s.mapWear n f).arr = s.arr ∧ (s.mapWear n f).trk = s.trk ∧ (s.mapWear n f).fab = s.fab ∧
    (s.mapWear n f).sol = s.sol ∧ (s.mapWear n f).syn = s.syn ∧ (s.mapWear n f).ses = s.ses ∧ (s.mapWear n f).ten = s.ten ∧
    (s.mapWear n f).boo = s.boo ∧ (s.mapWear n f).cor = s.cor ∧ (s.mapWear n f).clk = s.clk ∧ (s.mapWear n f).pow = s.pow ∧
    (s.mapWear n f).bak = s.bak ∧ (s.mapWear n f).por = s.por ∧ (s.mapWear n f).pending = s.pending ∧ (s.mapWear n f).free = s.free := by
  unfold State.mapWear; refine ⟨rfl, rfl, rfl, rfl, rfl, rfl, rfl, rfl, rfl, rfl, rfl, rfl, rfl, rfl, rfl, rfl⟩

@[simp] theorem wait_keeps (n : Nat) (s : State) :
    (s.wait n).smp = s.smp ∧ (s.wait n).arr = s.arr ∧ (s.wait n).trk = s.trk ∧ (s.wait n).fab = s.fab ∧ (s.wait n).sol = s.sol ∧
    (s.wait n).syn = s.syn ∧ (s.wait n).ses = s.ses ∧ (s.wait n).ten = s.ten ∧ (s.wait n).boo = s.boo ∧ (s.wait n).cor = s.cor ∧
    (s.wait n).pow = s.pow ∧ (s.wait n).por = s.por ∧ (s.wait n).hea = s.hea ∧ (s.wait n).pending = s.pending ∧
    (s.wait n).free = s.free := by
  unfold State.wait; refine ⟨rfl, rfl, rfl, rfl, rfl, rfl, rfl, rfl, rfl, rfl, rfl, rfl, rfl, rfl, rfl⟩

@[simp] theorem takeNat_keeps (s : State) :
    (s.takeNat).2.smp = s.smp ∧ (s.takeNat).2.arr = s.arr ∧ (s.takeNat).2.trk = s.trk ∧ (s.takeNat).2.fab = s.fab ∧
    (s.takeNat).2.sol = s.sol ∧ (s.takeNat).2.syn = s.syn ∧ (s.takeNat).2.ses = s.ses ∧ (s.takeNat).2.ten = s.ten ∧
    (s.takeNat).2.boo = s.boo ∧ (s.takeNat).2.cor = s.cor ∧ (s.takeNat).2.clk = s.clk ∧ (s.takeNat).2.pow = s.pow ∧
    (s.takeNat).2.bak = s.bak ∧ (s.takeNat).2.por = s.por ∧ (s.takeNat).2.hea = s.hea ∧ (s.takeNat).2.pending = s.pending := by
  unfold State.takeNat; refine ⟨rfl, rfl, rfl, rfl, rfl, rfl, rfl, rfl, rfl, rfl, rfl, rfl, rfl, rfl, rfl, rfl⟩

@[simp] theorem takeInt_keeps (s : State) :
    (s.takeInt).2.smp = s.smp ∧ (s.takeInt).2.arr = s.arr ∧ (s.takeInt).2.trk = s.trk ∧ (s.takeInt).2.fab = s.fab ∧
    (s.takeInt).2.sol = s.sol ∧ (s.takeInt).2.syn = s.syn ∧ (s.takeInt).2.ses = s.ses ∧ (s.takeInt).2.ten = s.ten ∧
    (s.takeInt).2.boo = s.boo ∧ (s.takeInt).2.cor = s.cor ∧ (s.takeInt).2.clk = s.clk ∧ (s.takeInt).2.pow = s.pow ∧
    (s.takeInt).2.bak = s.bak ∧ (s.takeInt).2.por = s.por ∧ (s.takeInt).2.hea = s.hea ∧ (s.takeInt).2.pending = s.pending := by
  unfold State.takeInt; refine ⟨rfl, rfl, rfl, rfl, rfl, rfl, rfl, rfl, rfl, rfl, rfl, rfl, rfl, rfl, rfl, rfl⟩

@[simp] theorem takeWord_keeps (s : State) :
    (s.takeWord).2.smp = s.smp ∧ (s.takeWord).2.arr = s.arr ∧ (s.takeWord).2.trk = s.trk ∧ (s.takeWord).2.fab = s.fab ∧
    (s.takeWord).2.sol = s.sol ∧ (s.takeWord).2.syn = s.syn ∧ (s.takeWord).2.ses = s.ses ∧ (s.takeWord).2.ten = s.ten ∧
    (s.takeWord).2.boo = s.boo ∧ (s.takeWord).2.cor = s.cor ∧ (s.takeWord).2.clk = s.clk ∧ (s.takeWord).2.pow = s.pow ∧
    (s.takeWord).2.bak = s.bak ∧ (s.takeWord).2.por = s.por ∧ (s.takeWord).2.hea = s.hea ∧ (s.takeWord).2.pending = s.pending := by
  unfold State.takeWord; refine ⟨rfl, rfl, rfl, rfl, rfl, rfl, rfl, rfl, rfl, rfl, rfl, rfl, rfl, rfl, rfl, rfl⟩

@[simp] theorem takeBytes_keeps (n : Nat) (s : State) :
    (s.takeBytes n).2.smp = s.smp ∧ (s.takeBytes n).2.arr = s.arr ∧ (s.takeBytes n).2.trk = s.trk ∧ (s.takeBytes n).2.fab = s.fab ∧
    (s.takeBytes n).2.sol = s.sol ∧ (s.takeBytes n).2.syn = s.syn ∧ (s.takeBytes n).2.ses = s.ses ∧ (s.takeBytes n).2.ten = s.ten ∧
    (s.takeBytes n).2.boo = s.boo ∧ (s.takeBytes n).2.cor = s.cor ∧ (s.takeBytes n).2.clk = s.clk ∧ (s.takeBytes n).2.pow = s.pow ∧
    (s.takeBytes n).2.bak = s.bak ∧ (s.takeBytes n).2.por = s.por ∧ (s.takeBytes n).2.hea = s.hea ∧
    (s.takeBytes n).2.pending = s.pending := by
  unfold State.takeBytes; refine ⟨rfl, rfl, rfl, rfl, rfl, rfl, rfl, rfl, rfl, rfl, rfl, rfl, rfl, rfl, rfl, rfl⟩

@[simp] theorem tally_keeps (typ role ten sid : Nat) (body : List Byte) (s : State) :
    (s.tally typ role ten sid body).smp = s.smp ∧ (s.tally typ role ten sid body).arr = s.arr ∧
    (s.tally typ role ten sid body).trk = s.trk ∧ (s.tally typ role ten sid body).fab = s.fab ∧
    (s.tally typ role ten sid body).sol = s.sol ∧ (s.tally typ role ten sid body).syn = s.syn ∧
    (s.tally typ role ten sid body).ses = s.ses ∧ (s.tally typ role ten sid body).boo = s.boo ∧
    (s.tally typ role ten sid body).cor = s.cor ∧ (s.tally typ role ten sid body).clk = s.clk ∧
    (s.tally typ role ten sid body).pow = s.pow ∧ (s.tally typ role ten sid body).bak = s.bak ∧
    (s.tally typ role ten sid body).por = s.por ∧ (s.tally typ role ten sid body).hea = s.hea ∧
    (s.tally typ role ten sid body).pending = s.pending ∧ (s.tally typ role ten sid body).free = s.free := by
  unfold State.tally; refine ⟨rfl, rfl, rfl, rfl, rfl, rfl, rfl, rfl, rfl, rfl, rfl, rfl, rfl, rfl, rfl, rfl⟩

@[simp] theorem reportNow_keeps (code sev ten : Nat) (body : List Byte) (s : State) :
    (s.reportNow code sev ten body).smp = s.smp ∧ (s.reportNow code sev ten body).arr = s.arr ∧
    (s.reportNow code sev ten body).trk = s.trk ∧ (s.reportNow code sev ten body).fab = s.fab ∧
    (s.reportNow code sev ten body).sol = s.sol ∧ (s.reportNow code sev ten body).syn = s.syn ∧
    (s.reportNow code sev ten body).ten = s.ten ∧ (s.reportNow code sev ten body).boo = s.boo ∧
    (s.reportNow code sev ten body).cor = s.cor ∧ (s.reportNow code sev ten body).clk = s.clk ∧
    (s.reportNow code sev ten body).pow = s.pow ∧ (s.reportNow code sev ten body).bak = s.bak ∧
    (s.reportNow code sev ten body).por = s.por ∧ (s.reportNow code sev ten body).hea = s.hea ∧
    (s.reportNow code sev ten body).pending = s.pending ∧ (s.reportNow code sev ten body).free = s.free := by
  unfold State.reportNow; refine ⟨rfl, rfl, rfl, rfl, rfl, rfl, rfl, rfl, rfl, rfl, rfl, rfl, rfl, rfl, rfl, rfl⟩

@[simp] theorem noteTold_keeps (code unit : Nat) (s : State) :
    (s.noteTold code unit).smp = s.smp ∧ (s.noteTold code unit).arr = s.arr ∧ (s.noteTold code unit).trk = s.trk ∧
    (s.noteTold code unit).fab = s.fab ∧ (s.noteTold code unit).sol = s.sol ∧ (s.noteTold code unit).syn = s.syn ∧
    (s.noteTold code unit).ten = s.ten ∧ (s.noteTold code unit).boo = s.boo ∧ (s.noteTold code unit).cor = s.cor ∧
    (s.noteTold code unit).clk = s.clk ∧ (s.noteTold code unit).pow = s.pow ∧ (s.noteTold code unit).bak = s.bak ∧
    (s.noteTold code unit).por = s.por ∧ (s.noteTold code unit).hea = s.hea ∧ (s.noteTold code unit).pending = s.pending ∧
    (s.noteTold code unit).free = s.free := by
  unfold State.noteTold; refine ⟨rfl, rfl, rfl, rfl, rfl, rfl, rfl, rfl, rfl, rfl, rfl, rfl, rfl, rfl, rfl, rfl⟩

@[simp] theorem accept_keeps (r : Req) (unit : Nat) (s : State) :
    (s.accept r unit).2.smp = s.smp ∧ (s.accept r unit).2.arr = s.arr ∧ (s.accept r unit).2.trk = s.trk ∧ (s.accept r unit).2.fab = s.fab ∧
    (s.accept r unit).2.sol = s.sol ∧ (s.accept r unit).2.syn = s.syn ∧ (s.accept r unit).2.ten = s.ten ∧ (s.accept r unit).2.boo = s.boo ∧
    (s.accept r unit).2.cor = s.cor ∧ (s.accept r unit).2.clk = s.clk ∧ (s.accept r unit).2.pow = s.pow ∧ (s.accept r unit).2.bak = s.bak ∧
    (s.accept r unit).2.por = s.por ∧ (s.accept r unit).2.hea = s.hea ∧ (s.accept r unit).2.pending = s.pending ∧
    (s.accept r unit).2.free = s.free := by
  unfold State.accept; refine ⟨rfl, rfl, rfl, rfl, rfl, rfl, rfl, rfl, rfl, rfl, rfl, rfl, rfl, rfl, rfl, rfl⟩

@[simp] theorem send_keeps (p : OutPkt) (s : State) :
    (s.send p).smp = s.smp ∧ (s.send p).arr = s.arr ∧ (s.send p).trk = s.trk ∧ (s.send p).fab = s.fab ∧ (s.send p).sol = s.sol ∧
    (s.send p).syn = s.syn ∧ (s.send p).ten = s.ten ∧ (s.send p).boo = s.boo ∧ (s.send p).cor = s.cor ∧ (s.send p).clk = s.clk ∧
    (s.send p).pow = s.pow ∧ (s.send p).bak = s.bak ∧ (s.send p).por = s.por ∧ (s.send p).hea = s.hea ∧ (s.send p).pending = s.pending ∧
    (s.send p).free = s.free := by
  unfold State.send; refine ⟨rfl, rfl, rfl, rfl, rfl, rfl, rfl, rfl, rfl, rfl, rfl, rfl, rfl, rfl, rfl, rfl⟩

@[simp] theorem discardStray_keeps (s : State) :
    (s.discardStray).smp = s.smp ∧ (s.discardStray).arr = s.arr ∧ (s.discardStray).trk = s.trk ∧ (s.discardStray).fab = s.fab ∧
    (s.discardStray).sol = s.sol ∧ (s.discardStray).syn = s.syn ∧ (s.discardStray).ten = s.ten ∧ (s.discardStray).boo = s.boo ∧
    (s.discardStray).cor = s.cor ∧ (s.discardStray).clk = s.clk ∧ (s.discardStray).pow = s.pow ∧ (s.discardStray).bak = s.bak ∧
    (s.discardStray).por = s.por ∧ (s.discardStray).hea = s.hea ∧ (s.discardStray).pending = s.pending ∧
    (s.discardStray).free = s.free := by
  unfold State.discardStray; refine ⟨rfl, rfl, rfl, rfl, rfl, rfl, rfl, rfl, rfl, rfl, rfl, rfl, rfl, rfl, rfl, rfl⟩

@[simp] theorem noteAccepted_keeps (r : Req) (commit unit : Nat) (s : State) :
    (s.noteAccepted r commit unit).smp = s.smp ∧ (s.noteAccepted r commit unit).arr = s.arr ∧ (s.noteAccepted r commit unit).trk = s.trk ∧
    (s.noteAccepted r commit unit).fab = s.fab ∧ (s.noteAccepted r commit unit).sol = s.sol ∧ (s.noteAccepted r commit unit).syn = s.syn ∧
    (s.noteAccepted r commit unit).ten = s.ten ∧ (s.noteAccepted r commit unit).boo = s.boo ∧ (s.noteAccepted r commit unit).cor = s.cor ∧
    (s.noteAccepted r commit unit).clk = s.clk ∧ (s.noteAccepted r commit unit).pow = s.pow ∧ (s.noteAccepted r commit unit).bak = s.bak ∧
    (s.noteAccepted r commit unit).por = s.por ∧ (s.noteAccepted r commit unit).hea = s.hea ∧
    (s.noteAccepted r commit unit).pending = s.pending ∧ (s.noteAccepted r commit unit).free = s.free := by
  unfold State.noteAccepted; refine ⟨rfl, rfl, rfl, rfl, rfl, rfl, rfl, rfl, rfl, rfl, rfl, rfl, rfl, rfl, rfl, rfl⟩

@[simp] theorem noteFailure_keeps (transport : Nat) (source : List Byte) (s : State) :
    (s.noteFailure transport source).smp = s.smp ∧ (s.noteFailure transport source).arr = s.arr ∧ (s.noteFailure transport source).trk = s.trk ∧ (s.noteFailure transport source).fab = s.fab ∧
    (s.noteFailure transport source).sol = s.sol ∧ (s.noteFailure transport source).syn = s.syn ∧ (s.noteFailure transport source).ten = s.ten ∧ (s.noteFailure transport source).boo = s.boo ∧
    (s.noteFailure transport source).cor = s.cor ∧ (s.noteFailure transport source).clk = s.clk ∧ (s.noteFailure transport source).pow = s.pow ∧ (s.noteFailure transport source).bak = s.bak ∧
    (s.noteFailure transport source).por = s.por ∧ (s.noteFailure transport source).hea = s.hea ∧ (s.noteFailure transport source).pending = s.pending ∧
    (s.noteFailure transport source).free = s.free := by
  unfold State.noteFailure; refine ⟨rfl, rfl, rfl, rfl, rfl, rfl, rfl, rfl, rfl, rfl, rfl, rfl, rfl, rfl, rfl, rfl⟩

@[simp] theorem overmanLine3_keeps (s : State) :
    (s.overmanLine3).smp = s.smp ∧ (s.overmanLine3).arr = s.arr ∧ (s.overmanLine3).trk = s.trk ∧ (s.overmanLine3).fab = s.fab ∧
    (s.overmanLine3).sol = s.sol ∧ (s.overmanLine3).syn = s.syn ∧ (s.overmanLine3).ses = s.ses ∧ (s.overmanLine3).ten = s.ten ∧
    (s.overmanLine3).boo = s.boo ∧ (s.overmanLine3).clk = s.clk ∧ (s.overmanLine3).pow = s.pow ∧ (s.overmanLine3).bak = s.bak ∧
    (s.overmanLine3).por = s.por ∧ (s.overmanLine3).hea = s.hea ∧ (s.overmanLine3).pending = s.pending ∧
    (s.overmanLine3).free = s.free := by
  unfold State.overmanLine3; refine ⟨rfl, rfl, rfl, rfl, rfl, rfl, rfl, rfl, rfl, rfl, rfl, rfl, rfl, rfl, rfl, rfl⟩

@[simp] theorem transmit_keeps (n : Nat) (w : DWord) (s : State) :
    (s.transmit n w).arr = s.arr ∧ (s.transmit n w).trk = s.trk ∧ (s.transmit n w).fab = s.fab ∧ (s.transmit n w).sol = s.sol ∧
    (s.transmit n w).syn = s.syn ∧ (s.transmit n w).ses = s.ses ∧ (s.transmit n w).ten = s.ten ∧ (s.transmit n w).boo = s.boo ∧
    (s.transmit n w).cor = s.cor ∧ (s.transmit n w).clk = s.clk ∧ (s.transmit n w).pow = s.pow ∧ (s.transmit n w).bak = s.bak ∧
    (s.transmit n w).por = s.por ∧ (s.transmit n w).hea = s.hea ∧ (s.transmit n w).pending = s.pending ∧
    (s.transmit n w).free = s.free := by
  unfold State.transmit; refine ⟨rfl, rfl, rfl, rfl, rfl, rfl, rfl, rfl, rfl, rfl, rfl, rfl, rfl, rfl, rfl, rfl⟩

/-! ### Readers after updates -/

@[simp] theorem lane_mapLane (n j : Nat) (f) (s : State) (h : n < 96) :
    (s.mapLane n f).lane j = if j = n then f (s.lane n) else s.lane j := by
  rw [State.mapLane, State.lane, vgetD_vupdN _ _ _ _ _ h]; rfl

@[simp] theorem adit_mapAdit (n j : Nat) (f) (s : State) (h : n < 96) :
    (s.mapAdit n f).adit j = if j = n then f (s.adit n) else s.adit j := by
  rw [State.mapAdit, State.adit, vgetD_vupdN _ _ _ _ _ h]; rfl

@[simp] theorem region_mapRegion (n j : Nat) (f) (s : State) (h : n < 8) :
    (s.mapRegion n f).region j = if j = n then f (s.region n) else s.region j := by
  rw [State.mapRegion, State.region, vgetD_vupdN _ _ _ _ _ h]; rfl

@[simp] theorem beam_mapBeam (n j : Nat) (f) (s : State) (h : n < 256) :
    (s.mapBeam n f).beam j = if j = n then f (s.beam n) else s.beam j := by
  rw [State.mapBeam, State.beam, vgetD_vupdN _ _ _ _ _ h]; rfl

@[simp] theorem chan_mapChan (n j : Nat) (f) (s : State) (h : n < 384) :
    (s.mapChan n f).chan j = if j = n then f (s.chan n) else s.chan j := by
  rw [State.mapChan, State.chan, vgetD_vupdN _ _ _ _ _ h]; rfl

@[simp] theorem slot_mapSlot (n j : Nat) (f) (s : State) (h : n < 3) :
    (s.mapSlot n f).slot j = if j = n then f (s.slot n) else s.slot j := by
  rw [State.mapSlot, State.slot, vgetD_vupdN _ _ _ _ _ h]; rfl

@[simp] theorem runOf_mapRun (n j : Nat) (f) (s : State) (h : n < 32) :
    (s.mapRun n f).runOf j = if j = n then f (s.runOf n) else s.runOf j := by
  rw [State.mapRun, State.runOf, vgetD_vupdN _ _ _ _ _ h]; rfl

@[simp] theorem port_mapPort (n j : Nat) (f) (s : State) (h : n < 32) :
    (s.mapPort n f).port j = if j = n then f (s.port n) else s.port j := by
  rw [State.mapPort, State.port, vgetD_vupdN _ _ _ _ _ h]; rfl

@[simp] theorem tenant_mapTenant (n j : Nat) (f) (s : State) (h : n < 8) :
    (s.mapTenant n f).tenant j = if j = n then f (s.tenant n) else s.tenant j := by
  rw [State.mapTenant, State.tenant, vgetD_vupdN _ _ _ _ _ h]; rfl

@[simp] theorem island_mapIsland (n j : Nat) (f) (s : State) (h : n < 156) :
    (s.mapIsland n f).island j = if j = n then f (s.island n) else s.island j := by
  rw [State.mapIsland, State.island, vgetD_vupdN _ _ _ _ _ h]; rfl

@[simp] theorem uart_mapUart (n j : Nat) (f) (s : State) (h : n < 4) :
    (s.mapUart n f).uart j = if j = n then f (s.uart n) else s.uart j := by
  rw [State.mapUart, State.uart, vgetD_vupdN _ _ _ _ _ h]; rfl

@[simp] theorem evin_mapEvin (n j : Nat) (f) (s : State) (h : n < 8) :
    (s.mapEvin n f).evin j = if j = n then f (s.evin n) else s.evin j := by
  rw [State.mapEvin, State.evin, vgetD_vupdN _ _ _ _ _ h]; rfl

@[simp] theorem eth_mapEth (n j : Nat) (f) (s : State) (h : n < 2) :
    (s.mapEth n f).eth j = if j = n then f (s.eth n) else s.eth j := by
  rw [State.mapEth, State.eth, vgetD_vupdN _ _ _ _ _ h]; rfl

@[simp] theorem wearOf_mapWear (n j : Nat) (f) (s : State) (h : n < 314) :
    (s.mapWear n f).wearOf j = if j = n then f (s.wearOf n) else s.wearOf j := by
  rw [State.mapWear, State.wearOf, vgetD_vupdN _ _ _ _ _ h]; rfl

/-- A session's entry after an update of it. -/
theorem session_mapSession (sid j : Nat) (f : Session → Session) (s : State) (hf : ∀ x, (f x).sid = x.sid) :
    (s.mapSession sid f).session j = if j = sid then (s.session sid).map f else s.session j := by
  simp only [State.session, State.mapSession]
  generalize s.ses.open_ = l
  induction l with
  | nil => simp
  | cons x l ih =>
    rw [List.map_cons]
    by_cases hx : x.sid = sid
    · by_cases hj : j = sid
      · subst hj; simp [hx, hf]
      · have : x.sid ≠ j := fun e => hj (e.symm.trans hx)
        have hs : ¬ sid = j := fun e => hj e.symm
        simp [hx, hf, hj, hs] at ih ⊢; exact ih
    · by_cases hj : j = sid
      · subst hj; simp [hx] at ih ⊢; exact ih
      · by_cases he : x.sid = j
        · simp [hj, he]
        · simp [hx, hj, he] at ih ⊢; exact ih

/-- A report takes the next place in the list of reports and its number in every session that sees it. -/
theorem reportNow_reports (code sev ten : Nat) (body : List Byte) (s : State) (h : s.ses.reports.length < 1024) :
    (s.reportNow code sev ten body).ses.reports = s.ses.reports ++
      [{ ecode := code, esev := sev, eten := ten, eseq := s.ses.eseq, etick := s.tcnt, body := body }] ∧
    (s.reportNow code sev ten body).ses.eseq = (s.ses.eseq + 1) % 2 ^ 32 := by
  refine ⟨?_, rfl⟩
  simp only [State.reportNow, List.length_append, List.length_singleton]
  rw [show s.ses.reports.length + 1 - 1024 = 0 by omega, List.drop_zero]

/-- A report limited to one per second for a code and unit is the report, or nothing. -/
theorem report_cases (code sev ten unit : Nat) (body : List Byte) (s : State) :
    s.toldWithin 1000 code unit = true ∧ s.report code sev ten unit body = s ∨
    s.toldWithin 1000 code unit = false ∧ s.report code sev ten unit body = (s.reportNow code sev ten body).noteTold code unit := by
  unfold State.report
  cases s.toldWithin 1000 code unit <;> simp

/-- Time passes: TCNT counts once SYN-A has locked (23 R546), the time since reset counts always. -/
theorem wait_clk (n : Nat) (s : State) :
    (s.wait n).clk = { s.clk with tick := if s.clk.runs then s.clk.tick + n else s.clk.tick, up := s.clk.up + n } := rfl

/-- Before SYN-A has locked no time that passes moves TCNT (23 R546). -/
theorem wait_tick_held (n : Nat) (s : State) (h : s.clk.runs = false) : (s.wait n).clk.tick = s.clk.tick := by
  simp [wait_clk, h]

/-- Once SYN-A has locked TCNT counts every tick that passes. -/
theorem wait_tick (n : Nat) (s : State) (h : s.clk.runs = true) : (s.wait n).clk.tick = s.clk.tick + n := by
  simp [wait_clk, h]

/-- Waiting for a moment of the epoch that has passed changes nothing of device time. -/
theorem waitTo_clk (off : Nat) (s : State) (h : off ≤ s.clk.tick % epochTicks) : (s.waitTo off).clk = s.clk := by
  rw [State.waitTo, wait_clk, Nat.sub_eq_zero_of_le h]
  simp only [Nat.add_zero, ite_self]

/-- A boundary stands at a whole millisecond. -/
theorem waitTo_boundary (s : State) (hr : s.clk.runs = true) : (s.waitTo epochTicks).clk.tick = epochTicks * (s.ms + 1) := by
  rw [State.waitTo, wait_tick _ _ hr, State.ms]
  have h1 := Nat.mod_lt s.clk.tick (show 0 < epochTicks by decide)
  have h2 := Nat.div_add_mod s.clk.tick epochTicks
  rw [Nat.mul_add, Nat.mul_one]; omega

/-- Nothing passes in no time for the backup counter. -/
@[simp] theorem edges_zero (tcnt : Nat) (b : BackupState) : b.edges 0 tcnt = b := rfl

/-- A tally record formed while its segment has room is the last of the queue and chained to the record before. -/
theorem tally_queue (typ role ten sid : Nat) (body : List Byte) (s : State)
    (h : s.ten.tally.full (64 + (pad8 body).length) = false) :
    (s.tally typ role ten sid body).ten.tally.queue = s.ten.tally.queue ++
      [s.ten.tally.next typ role ten sid (if s.timeKnown then s.ms else 0) s.bak.count (pad8 body)] := by
  simp [State.tally, h, TallyState.push]

end Sys2Proof.Machine
end

