-- ==== Sys2Proof/Tests/Slice0.lean ====
section
/-! SUPPORT. Smoke tests: ill-formed terms that `Instr.wf` refuses, check values of the hash and CRC functions from their standards, worked
values of the spec, and for every statement with hypotheses a state and operands that meet them (`wit_<Statement>`). -/

namespace Sys2Proof.Tests

set_option Elab.async false
open Sys2Proof Sys2Proof.Machine

/-! ### Well-formedness -/

/-- A source address of 18 bytes. -/
def src : List Byte := List.replicate 18 0

/-- A request on the SPI port with a good `HCRC`. -/
def pkt (op role ten : Nat) (pay : List Byte) : Packet :=
  let p : Packet := { transport := 4, source := src, magic := 0x5647, vmaj := 3, vmin := 1, flags := 0, seq := 5, tenant := ten, role := role,
                      plen := pay.length, sid := 7, hcrc := 0, payload := pay, tag := [], extra := 0 }
  { p with hcrc := crc16 ((p.header op).take 20) }

theorem test_wf_accepts : ([Instr.cmdPing (pkt 3 2 0xFF [1]), .hbAdd 0 (.three 1 2 3 0), .hbLd 0 (.post 1 2 4), .hbCbz 0 (.long 1 5 0),
    .hbRep 0 (.imm 5 0 0), .hbIn 0 (.abs 1 16 0), .hbSev 0 (.imm 1 0), .hbNop 0 .plain, .evUplinkFrame 0 ⟨[], 0⟩,
    .evUartCharacter 0 ⟨List.replicate 10 0#3, 16⟩, .evEventEdge 0 { tick := 5, frac := 3, rising := true, held := 9 },
    .evLockoutExpiry 5 src, .evDiscardedPacket 5 src [] true, .hbMovs 0 0x13 1 2 0] : List Instr).all Instr.wf = true := by decide +kernel

theorem test_wf_packet_fields :
    let p := pkt 3 2 0xFF [1]
    ([{ p with transport := 6 }, { p with source := [] }, { p with magic := 65536 }, { p with vmaj := 256 }, { p with vmin := 256 },
      { p with flags := 65536 }, { p with seq := 2 ^ 32 }, { p with tenant := 256 }, { p with role := 256 }, { p with plen := 65536 },
      { p with sid := 2 ^ 32 }, { p with hcrc := 65536 }, { p with payload := List.replicate 1409 0 }, { p with tag := [0] }] :
      List Packet).all (fun q => !(Instr.cmdPing q).wf) = true := by decide +kernel

theorem test_wf_encodings :
    ([.hbAdd 0 (.three 1 2 3 1), .hbLd 0 (.post 1 2 3), .hbSt 0 (.post 1 2 3), .hbCbz 0 (.long 1 5 1), .hbRep 0 (.imm 5 0 1),
      .hbRepi 0 (.reg 5 0 1), .hbIn 0 (.abs 1 16 1), .hbOut 0 (.abs 1 16 1), .hbSev 0 (.imm 1 1), .hbSev 0 (.reg 1 1),
      .hbNop 0 (.undefined false), .hbMul 0 1 2 3 1, .hbMacm 0 0 0 0 1 0 0 1, .hbMovs 0 0x14 1 2 0, .hbMovs 0 0x13 2 2 0,
      .hbMovs 0 0x13 1 2 1, .hbClr 0 0 1, .hbMova 0 0 1 1, .hbNorm 0 0 1, .hbLda 0 0 1 1, .hbBmov 0 0 1 0 0 1 none, .hbBexp 0 0 0 1 none,
      .hbWaitt 0 0 1, .hbWfet 0 0 0 1, .hbTrap 0 0 1] : List Instr).all (fun i => !i.wf) = true := by decide +kernel

theorem test_wf_events :
    ([.evUplinkFrame 0 ⟨[.block 1 [0]], 0⟩, .evCapFrame 0 ⟨[.block 1 [0]], 0⟩, .evUartCharacter 0 ⟨[0], 16⟩,
      .evEventEdge 0 { tick := 2 ^ 48, frac := 3, rising := true, held := 9 }, .evEventEdge 0 { tick := 5, frac := 256, rising := true, held := 9 },
      .evLockoutExpiry 6 src, .evLockoutExpiry 0 [], .evDiscardedPacket 6 src [] true, .evDiscardedPacket 0 [] [] true,
      .evBoot { fw := [] }] : List Instr).all (fun i => !i.wf) = true := by decide +kernel

/-! ### Check values of standards -/

/-- "123456789". -/
def digits : List Byte := [0x31, 0x32, 0x33, 0x34, 0x35, 0x36, 0x37, 0x38, 0x39]

/-- IEEE 802.3 CRC-32 (02 R33): the check value of the standard. -/
theorem test_crc32 : crc32 digits = 0xCBF43926 := by decide +kernel

/-- CRC-16 with polynomial 0x1021 and initial value 0xFFFF (12 R297): its published check value. -/
theorem test_crc16 : crc16 digits = 0x29B1 := by decide +kernel

/-- FIPS 180-4: SHA-256 of "abc" begins BA7816BF. -/
theorem test_sha256 : (sha256 [0x61, 0x62, 0x63]).take 4 = [0xBA, 0x78, 0x16, 0xBF] := by decide +kernel

/-! ### HB24 cores -/

/-- A core of reset stands ready. -/
theorem ready_reset (k : Fin 19) : Ready k 2 State.reset := by
  have h : State.reset.cor.core[k] = {} := by
    simp [State.reset]
  constructor <;> try rw [h]
  all_goals try rfl
  · intro i hi
    have : i = 0 ∨ i = 1 := by omega
    rcases this with rfl | rfl <;> revert k <;> decide +kernel
  · exact .inl rfl

/-- Core 0 with its stack pointer at 0x100, `3` in x0 and `lc` 3. -/
def hbCore : CoreState := { ({} : CoreState).putG 15 0x100 with lc := 3 }

/-- Reset with that core. -/
def hb : State := State.reset.setCore 0 (hbCore.putG 0 3)

/-- Core 0 of `hb` in user mode, its windows open to all of its memories. -/
def hbUser : State := State.reset.setCore 0 { hbCore with
  st := 2, uw := #v[0, 0xFFFF, 0, 0xBFFF, 0, 0, 0, 0xBFFF, 0, 0] }

/-- What `Ready` asks, as a test. -/
def readyB (k : Fin 19) (s : State) : Bool :=
  let c := s.cor.core[k]
  !c.lockup && c.wait.isNone && !c.kexp && c.rep.isNone && c.repi.isNone && c.slot.isNone && c.load.isNone && !c.st.getLsbD 4 &&
  fetchOk k c c.pc && fetchOk k c (c.pc + 1) && (!c.st.getLsbD 0 || c.intPend &&& c.intEn == 0)

theorem ready_of {k : Fin 19} {s : State} (h : readyB k s = true) : Ready k 2 s := by
  simp only [readyB, Bool.and_eq_true, Bool.not_eq_true', Option.isNone_iff_eq_none] at h
  obtain ⟨⟨⟨⟨⟨⟨⟨⟨⟨⟨a, b⟩, c⟩, d⟩, e⟩, f⟩, g⟩, i⟩, j⟩, l⟩, m⟩ := h
  refine ⟨a, b, c, d, e, f, g, i, fun n hn => ?_, ?_⟩
  · have : n = 0 ∨ n = 1 := by omega
    rcases this with rfl | rfl
    · exact j
    · exact l
  · simp only [Bool.or_eq_true, Bool.not_eq_true', beq_iff_eq] at m; exact m

theorem ready_short {k : Fin 19} {s : State} (h : Ready k 2 s) : Ready k 1 s :=
  { h with fetch := fun i hi => h.fetch i (by omega) }

theorem ready_hb : Ready 0 2 hb := ready_of (by decide +kernel)
theorem ready_hbUser : Ready 0 2 hbUser := ready_of (by decide +kernel)

/-- The core that a command leaves. -/
def coreAfter (k : Fin 19) (i : Instr) (s : State) : CoreState :=
  match exec i s with
  | .next t => t.cor.core[k]
  | _ => {}

theorem wit_RegisterResultsOfPlainOperations : Ready 0 2 hb ∧ Ready 18 2 State.reset := ⟨ready_hb, ready_reset 18⟩

theorem wit_IntegerResultsWrapSaturateAndCompare : Ready 0 2 hb ∧ Beyond24 ((0x7FFFFF#24).toInt + (1#24).toInt) ∧
    ¬ Beyond24 ((0x7FFFFF#24).toInt + (0#24).toInt) := ⟨ready_hb, by decide +kernel, by decide +kernel⟩

theorem wit_AccumulatorResultsAndNormalisation : Ready 0 2 hb ∧ ∃ s : State, Ready 0 2 s ∧ s.cor.core[0].ac[0] ≠ 0 :=
  ⟨ready_hb, State.reset.setCore 0 { ({} : CoreState) with ac := #v[5, 0, 0, 0] }, ready_of (by decide +kernel), by decide +kernel⟩

/-- Linear, circular of length 5 in a buffer of 8 words at base 1 and word 2, bit-reversed of width 0, and reserved modifiers. -/
theorem wit_AddressesAndPostModifiers :
    let c : CoreState := { hbCore.putG 10 10 with m := #v[0x000003, 0x400005#24 ||| 0x010000#24, 0x800000, 0xC00000] }
    let pt := c.g[10]
    c.m[0].extractLsb' 22 2 = 0 ∧ c.m[1].extractLsb' 22 2 = 1 ∧ (c.m[1].extractLsb' 0 16).toNat = 5 ∧ 5 ≤ 2 ^ 3 ∧ 2 ^ (3 - 1) < 5 ∧
    pt.toNat = 1 * 2 ^ 3 + 2 ∧ c.m[2].extractLsb' 22 2 = 2 ∧ c.m[2].extractLsb' 0 5 = 0 ∧ c.m[3].extractLsb' 22 2 = 3 ∧
    memForm c (.post 1 2 5) = some (1, 10, some (10, 11)) := by decide +kernel

theorem wit_LoadsTakeTheirWordWhichLandsLater : Ready 0 2 hb ∧
    memForm hb.cor.core[0] (.off 3 7 0xFFFF) = some (3, 0xFF, none) ∧ dataOk 0 hb.cor.core[0] false 0xFF = true ∧
    dataOk 0 hb.cor.core[0] false hb.cor.core[0].g[15].toNat = true ∧ dataOk 0 hb.cor.core[0] false 0xBFFF = true ∧
    dataOk 0 hb.cor.core[0] false 0xC000 = false := ⟨ready_hb, by decide +kernel⟩

theorem wit_StoresChangeOneWord : Ready 0 2 hb ∧ hb.cor.core[0].memOk = true ∧
    memForm hb.cor.core[0] (.off 3 7 0xFFFF) = some (3, 0xFF, none) ∧ dataOk 0 hb.cor.core[0] true 0xFF = true ∧
    dataOk 0 hb.cor.core[0] true (hb.cor.core[0].g[15] - 1).toNat = true := ⟨ready_hb, by decide +kernel⟩

theorem wit_MultiplyAccumulateFromMemory : Ready 0 2 hb ∧ postMod hb.cor.core[0] 1 (hb.cor.core[0].g[9]) = some 1 ∧
    postMod hb.cor.core[0] 1 1 = some 2 ∧ dataOk 0 hb.cor.core[0] false (hb.cor.core[0].g[9]).toNat = true := ⟨ready_hb, by decide +kernel⟩

theorem wit_ControlTransfersCommitTheirTarget : Ready 0 2 hb ∧ hb.cor.core[0].user = false ∧
    dataOk 0 hb.cor.core[0] true (hb.cor.core[0].g[15] - 1).toNat = true ∧ dataOk 0 hb.cor.core[0] false (hb.cor.core[0].g[15]).toNat = true ∧
    dataOk 0 hb.cor.core[0] false (hb.cor.core[0].g[15] + 1).toNat = true := ⟨ready_hb, by decide +kernel⟩

theorem wit_DelaySlotExecutesBeforeTheOutcome : Ready 0 1 hb := ready_short ready_hb

theorem wit_RepeatsRunTheirCount : Ready 0 2 hb ∧ hb.cor.core[0].user = false ∧ hb.cor.core[0].modeShadow = none ∧ (511#9 : BitVec 9) ≠ 0 ∧
    (1023#16).toNat ≤ 1023 ∧ 0 < 1 := ⟨ready_hb, by decide +kernel⟩

theorem wit_BlockInstructionsMoveWordByWord : Ready 0 2 hb ∧ hb.cor.core[0].lc ≠ 0 ∧ postMod hb.cor.core[0] 1 (hb.cor.core[0].g[9]) = some 1 ∧
    dataOk 0 hb.cor.core[0] true 0 = true ∧ Ready 0 2 State.reset ∧ State.reset.cor.core[0].lc = 0 ∧
    (∃ c1, blockRun (bmovWord 0 0 1 1 1) hb.cor.core[0].lc.toNat hb.cor.core[0] = .ok c1) ∧
    (∃ u, exec (.hbBmov 0 0 1 1 1 0 (some 2)) hb = .next u) ∧ 2 < hb.cor.core[0].lc.toNat :=
  ⟨ready_hb, by decide +kernel, by decide +kernel, by decide +kernel, ready_reset 0, by decide +kernel, ⟨_, rfl⟩, ⟨_, rfl⟩, by decide +kernel⟩

theorem wit_ModeBitsChangeWithAShadow : Ready 0 1 hb ∧ hb.cor.core[0].user = false ∧ Ready 0 1 hbUser ∧ hbUser.cor.core[0].user = true ∧
    (0xC#4 &&& 3) = 0 := ⟨ready_short ready_hb, by decide +kernel, ready_short ready_hbUser, by decide +kernel⟩

theorem wit_SpecialRegistersMoveBothWays : Ready 0 2 hb ∧ Ready 0 2 hbUser := ⟨ready_hb, ready_hbUser⟩

theorem wit_TrapsEnterTheirVector : Ready 0 2 hb ∧ StackRoom 0 hb.cor.core[0] := ⟨ready_hb, by unfold StackRoom; decide +kernel⟩

theorem wit_FaultsOfEncodingPrivilegeAndAccess : Ready 0 2 hb ∧ hb.cor.core[0].fresh = false ∧ StackRoom 0 hb.cor.core[0] ∧
    memForm hb.cor.core[0] (.post 1 2 3) = none ∧ Ready 0 2 hbUser ∧ hbUser.cor.core[0].user = true ∧ StackRoom 0 hbUser.cor.core[0] ∧
    memForm (hb.cor.core[0].putG 8 0xC000) (.post 1 0 0) = some (1, 0xC000, some (8, 0xC000)) ∧ dataOk 0 hb.cor.core[0] true 0xC000 = false ∧
    (Ready 0 2 State.reset ∧ ¬ StackRoom 0 State.reset.cor.core[0] ∧ ∃ t, exec (.hbPop 0 15) State.reset = .next t) :=
  ⟨ready_hb, by decide +kernel, by unfold StackRoom; decide +kernel, by decide +kernel, ready_hbUser, by decide +kernel,
    by unfold StackRoom; decide +kernel, by decide +kernel, by decide +kernel, ready_reset 0, by unfold StackRoom; decide +kernel, ⟨_, rfl⟩⟩

/-- The core waits for an event, or for a time, with its latch set. -/
theorem wit_EventsAndWaits : Ready 0 2 hb ∧ hb.cor.core[0].user = false ∧ hb.cor.core[0].latch = false ∧ hb.reached 0 = true ∧
    hb.reached 1 = false ∧ hb.clk.brokenSeams = [] ∧ hb.cor.core[0].st.getLsbD 0 = false ∧
    (let s := hb.setCore 0 { hbCore with latch := true, wait := some .event }
     s.cor.core[0].wait = some .event ∧ s.cor.core[0].latch = true ∧ s.cor.core[0].lockup = false) :=
  ⟨ready_hb, by decide +kernel⟩

theorem wit_InAndOutReachTheIoRegisters : Ready 0 2 hb ∧ hb.clk.brokenSeams = [] ∧ hb.cor.core[0].user = false ∧
    hb.cor.core[0].st.getLsbD 0 = false := ⟨ready_hb, by decide +kernel⟩

theorem wit_InterruptsAndTheSpentBudget :
    let c : CoreState := { hbCore with st := 1, intEn := 5 }
    c.st.getLsbD 0 = true ∧ c.slot = none ∧ c.load = none ∧ c.modeShadow = none ∧ c.kexp = false ∧ c.lockup = false ∧
    ((c.intPend ||| (4#16 &&& 0x000F#16)) &&& c.intEn).getLsbD 2 = true ∧
    (∀ j : Fin 16, j.val < 2 → ((c.intPend ||| (4#16 &&& 0x000F#16)) &&& c.intEn).getLsbD j.val = false) ∧
    (c.g[15] - 2).toNat < dataSize 0 ∧ ({ hbCore with kexp := true } : CoreState).fresh = false := by decide +kernel

/-- 15 R378: the largest value plus 1 wraps and sets `DOV` (bit 12 of st) for a destination among the x registers. -/
theorem test_add_wraps :
    let c := coreAfter 0 (.hbAddi 0 0 (.short 1)) (State.reset.setCore 0 (({} : CoreState).putG 0 0x7FFFFF))
    c.g[0] = 0x800000 ∧ c.st = 0x001000 := by decide +kernel

/-- The same in a p register leaves `DOV`. -/
theorem test_add_pointer :
    let c := coreAfter 0 (.hbAddi 0 8 (.short 1)) (State.reset.setCore 0 (({} : CoreState).putG 8 0x7FFFFF))
    c.g[8] = 0x800000 ∧ c.st = 0 := by decide +kernel

/-- 16 R400: with `RNDM` 1, hi(a) is 1 for a = 2^23 and 0 for a = −2^23. -/
theorem test_shi_rounds :
    let at_ (v : Acc) : State := State.reset.setCore 0 { ({} : CoreState) with st := 8, ac := #v[v, 0, 0, 0] }
    (coreAfter 0 (.hbShi 0 1 0 0) (at_ 0x800000)).g[1] = 1 ∧ (coreAfter 0 (.hbShi 0 1 0 0) (at_ (-0x800000))).g[1] = 0 := by decide +kernel

/-- 15 R378: a shift by 24 gives 0, and all sign bits for `SAR`. -/
theorem test_shift_by_24 :
    let s := State.reset.setCore 0 ((({} : CoreState).putG 0 0x800001).putG 1 24)
    (coreAfter 0 (.hbShr 0 (.two 0 1)) s).g[0] = 0 ∧ (coreAfter 0 (.hbSar 0 (.two 0 1)) s).g[0] = 0xFFFFFF := by decide +kernel

/-- 15 R376: an undefined word raises the illegal-instruction exception: vector 1 at parcel 4, its own address pushed. -/
theorem test_illegal :
    let c := coreAfter 0 (.hbNop 0 (.undefined false)) hb
    c.pc = 4 ∧ c.excCause = 1 ∧ c.g[15] = 0xFE ∧ sread 0 c.dmem 0xFF = 0 := by decide +kernel

/-- 15 R383: `IN` in user mode raises the privilege exception, vector 2. -/
theorem test_privilege : (coreAfter 0 (.hbIn 0 (.abs 1 16 0)) hbUser).excCause = 2 := by decide +kernel

/-! ### The fabric in RUN -/

/-- A plan of one stope with strides of 93 groups, one deputy and one channel slot. -/
def plan1 : Plan :=
  { nlst := 1, nldep := 1, ncs := 1, chans := [{ cnum := 0, lst := 0, ldep := 0, lslot := 0, cnarm := 3, cown := 0xFF }]
    stopes := [{ lst := 0, sg := 93, sfloor := 620, bandin := 1, er := 8, tmplid := 0, fftlen := 0, nbeat := 1 }] }

/-- RUN with that plan active; channel 0 pulls in and its entry of the epoch's bank is valid; one installer's session is open. -/
def run : State :=
  let s := State.reset
  let e : ChEntry := { valid := true }
  { s with
    boo := { s.boo with dstate := .run }
    clk := { s.clk with runs := true }
    syn := { s.syn with refValid := true }
    fab := { s.fab with active := some plan1 }
    trk := { s.trk with ch := s.trk.ch.set 0 { s.trk.ch[0] with
      sigid := 0x0101, st := .pullin, bound := true, narm := 3, cage := 2000, entry := #v[e, e], before := { s.trk.ch[0].before with on := true } } } }

theorem wit_CoreRegistersReadLatchAndTakeWrites : run.chanAt 0 0 = some 0 ∧ run.clk.tick % 81840 ≤ 61380 ∧
    (run.wait 61380).clk.tick % 81840 = 61380 ∧ (run.wait 61380).chanAt 0 0 = some 0 ∧ 61380 < (run.wait 61381).clk.tick % 81840 ∧
    (1#24).getLsbD 0 = true := by decide +kernel

theorem wit_BlockResets : run.pow.brstRun = none ∧ run.pow.pst ≠ .idle ∧ run.blockIdle 7 64 = true ∧ run.blockIdle 7 0 = false ∧
    ({ run with pow := { run.pow with brstRun := some 256 } } : State).pow.brstRun = some (256 + (0 : Fin 18).val) := by decide +kernel

theorem wit_BackupRegisterAccesses : run.bak.tickHalt = false ∧ -(2 ^ 46) ≤ run.bak.local_ ∧ run.bak.local_ < 2 ^ 46 ∧
    (let b := { run.bak with bev := run.bak.bev.set 0 { run.bak.bev[0] with fifo := [⟨7, true, false⟩] } }
     b.bev[0].fifo = [⟨7, true, false⟩]) := by decide +kernel

theorem noQueue_run : NoQueue run := by unfold NoQueue; decide +kernel

/-! ### Lanes, haulage, lode -/

/-- Lane 0 in a state. -/
def lane0 (l : LaneState) : State := run.mapLane 0 (fun _ => l)

/-- A frame of version 1 or a `CAP` frame with a good CRC: two header words and a payload. -/
def frame (w0 : Nat) (pay : List Byte) : List Byte :=
  let b := leBytes 8 w0 ++ leBytes 8 0 ++ pay
  b ++ b32 (crc32 b) ++ bz 4

/-- The items of a frame at rate 0 on the line (02 R28). -/
def onLine (b : List Byte) : RawFrame := { items := frameStart 0 ++ b.map (.char false) ++ frameEnd 0, arrival := 0 }

/-- What `Arrives` asks, as a test. -/
def arrivesB (l : LaneState) (f : RawFrame) (b : List Byte) : Bool :=
  l.slipAt.isNone && frameBytes l.rate f.items == some b && decide (24 ≤ b.length) && frameCrcOk b && l.accepts b

theorem arrives_of {l : LaneState} {f : RawFrame} {b : List Byte} (h : arrivesB l f b = true) : Arrives l f b := by
  simp only [arrivesB, Bool.and_eq_true, Option.isNone_iff_eq_none, beq_iff_eq, decide_eq_true_eq] at h
  obtain ⟨⟨⟨⟨a, b⟩, c⟩, d⟩, e⟩ := h
  exact ⟨a, b, c, d, e⟩

/-- Capability frames with a common version and without one. -/
def capFrame : List Byte := frame (2 ^ 61) ([1, 3, 1, 1, 7] ++ bz 27)
def capApart : List Byte := frame (2 ^ 61) ([4, 9, 1, 1, 7] ++ bz 27)

set_option maxRecDepth 100000 in
theorem wit_LaneBringUpStepByStep : NoQueue run ∧ run.clk.runs = true ∧ (lane0 { state := .dark }).lane 0 = { state := .dark } ∧
    (let l : LaneState := { state := .offer }
     l.ctrl = none ∧ l.offerAt = none ∧ l.marks = [] ∧ Arrives l (onLine capFrame) capFrame ∧ Arrives l (onLine capApart) capApart) ∧
    (headerOf capFrame).ftype = 1 ∧ (headerOf capApart).ftype = 1 ∧ commonVersion (capOf (capFrame.drop 16)) = some 3 ∧
    (combos (run.elem 0) (capOf (capFrame.drop 16)) 3).head? = some (0, 0) ∧ commonVersion (capOf (capApart.drop 16)) = none ∧
    (lane0 { state := .switch, rate := 0, tryRate := 0 }).clk.tick ≤ 0 + 16368 ∧
    0 + 16368 ≤ ((lane0 { state := .switch, rate := 0, tryRate := 0 }).wait 16368).clk.tick :=
  ⟨by unfold NoQueue; decide +kernel, by decide +kernel, by decide +kernel,
   ⟨rfl, rfl, rfl, arrives_of (by decide +kernel), arrives_of (by decide +kernel)⟩, by decide +kernel⟩

theorem wit_LaneTimersAndRetries : NoQueue run ∧ run.clk.runs = true ∧
    (let w : CtrlWait := { word := ⟨3, 0⟩, dseq := 1, sends := 4, sentAt := 0 }
     let s := lane0 { state := .select, tries := 1, ctrl := some w }
     let t := s.wait 163680
     (t.lane 0).ctrl = some w ∧ w.sentAt + 4092 ≤ t.clk.tick ∧ 4 ≤ w.sends ∧ ({ w with sends := 1 } : CtrlWait).sends < 4 ∧
     (t.lane 0).dqueue = [] ∧ (t.lane 0).tries < 4 ∧ (t.lane 0).since + 163680 ≤ t.clk.tick) ∧
    ((lane0 { state := .sync, tries := 4 }).lane 0).tries = 4 ∧ ((lane0 { state := .range }).lane 0).state = .range ∧
    (let t := (lane0 { state := .standby }).wait 1636800
     t.pow.pst = .run ∧ (t.lane 0).state = .standby ∧ (t.lane 0).since + 1636800 ≤ t.clk.tick) := by unfold NoQueue; decide +kernel

theorem wit_LaneLossesAreCountedWithTheirCause : NoQueue run ∧ ((lane0 { state := .live }).lane 0).state = .live ∧
    0 + 1320 ≤ ((lane0 { state := .live }).wait 1320).clk.tick ∧ ((lane0 { state := .live }).wait 1319).clk.tick < 0 + 1320 := by
  unfold NoQueue; decide +kernel

/-- A lane of version 1 that is `LIVE` after frame 3 of index 1000. -/
def liveLane : LaneState := { state := .live, lver := 1, lastFrame := some (3, 1000) }

/-- Its next frame, one whose index slips, one whose CRC fails. -/
def nextFrame : List Byte := frame (1165 + 4 * 2 ^ 48) (bz 168)
def slipFrame : List Byte := frame (1166 + 4 * 2 ^ 48) (bz 168)
def badFrame : List Byte := nextFrame.take 184 ++ bz 8

set_option maxRecDepth 100000 in
theorem wit_UplinkFramesOfALiveLane :
    NoQueue (lane0 liveLane) ∧ (lane0 liveLane).lane 0 = liveLane ∧ liveLane.ctrl = none ∧ liveLane.marks = [] ∧ liveLane.slipAt = none ∧
    liveLane.crcWin = [] ∧ frameBytes 0 [.char false 0] = none ∧ Arrives liveLane (onLine nextFrame) nextFrame ∧
    Arrives liveLane (onLine slipFrame) slipFrame ∧ (headerOf nextFrame).ftype = 0 ∧ (headerOf slipFrame).ftype = 0 ∧
    (lane0 liveLane).clk.tick < liveLane.lastValid + 1320 ∧ liveLane.lastValid + 1320 ≤ ((lane0 liveLane).wait 1320).clk.tick ∧
    (headerOf nextFrame).fseq = (3 + 1) % 256 ∧ (headerOf nextFrame).sidx = (1000 + 165) % 2 ^ 48 ∧
    (headerOf slipFrame).sidx ≠ (1000 + 165 * (((headerOf slipFrame).fseq + 256 - 3 - 1) % 256 + 1)) % 2 ^ 48 ∧
    (frameBytes 0 (onLine badFrame).items = some badFrame ∧ frameCrcOk badFrame = false) ∧
    (let short := frame 0 (bz 32)
     frameBytes 0 (onLine short).items = some short ∧ 24 ≤ short.length ∧ frameCrcOk short = true ∧ liveLane.accepts short = false) :=
  ⟨by unfold NoQueue; decide +kernel, by decide +kernel, rfl, rfl, rfl, rfl, by decide +kernel, arrives_of (by decide +kernel),
   arrives_of (by decide +kernel), by decide +kernel⟩

theorem wit_HaulageBlocksCarryEveryStream : run.fabricUp = true ∧ (run.lane 5).state ≠ .live := by decide +kernel

/-- The moment named, the one before it, and one half the counter's range before it. -/
theorem wit_CapturesAndBankSwaps :
    (let s := (run.mapRegion 0 (fun r => { r with ctrig := 1, ttime := 100, cstate := .armed })).wait 100
     let past := (s.tcnt + 2 ^ 48 - (s.region 0).ttime % 2 ^ 48) % 2 ^ 48
     (s.region 0).ctrig = 1 ∧ past = 0 ∧ (s.region 0).trigAt = none) ∧
    (let s := (run.mapRegion 0 (fun r => { r with ctrig := 1, ttime := 100, cstate := .armed })).wait 99
     2 ^ 47 ≤ (s.tcnt + 2 ^ 48 - (s.region 0).ttime % 2 ^ 48) % 2 ^ 48) ∧
    NoQueue run ∧ (64 : Fin 68) ≠ 0 ∧ run.copyDone = false ∧ (run.wait (81840 * 1000)).copyDone = true ∧
    ({ run.smp.lode with swap := some (0, 64, false) } : LodeState).swap = some ((0 : Fin 68).val, (64 : Fin 68).val, false) := by
  unfold NoQueue; decide +kernel

/-! ### Stopes, deadlines, completions -/

theorem wit_StridesRunInTurn : run.fabricUp = true ∧ run.fab.swap = none ∧ run.fab.active = some plan1 ∧
    plan1.stopes[(0 : Fin 32).val]? = plan1.stopes.head? ∧ plan1.stopes[0]?.isSome = true ∧ State.reset.fab.active = none := by decide +kernel

theorem wit_DeadlinesVoidWhatIsLate : run.fabricUp = true ∧ run.fab.swap = none ∧ run.fab.d1At ≠ some run.ms ∧ run.fab.d2At ≠ some run.ms ∧
    (∃ c ∈ plan1.chans, c.lst < plan1.nlst ∧ c.ldep < plan1.nldep ∧ c.cnum < 384 ∧ (run.chan c.cnum).landed ≠ some run.ms ∧
      (run.chan c.cnum).setNow.on = true ∧ (vgetD (run.chan c.cnum).entry (run.ms % 2) {}).valid = true ∧ (run.chan c.cnum).staged = none) := by
  refine ⟨by decide +kernel, by decide +kernel, by decide +kernel, by decide +kernel, _, List.mem_singleton.2 rfl, ?_⟩
  decide +kernel

theorem wit_CopiesTestsAndChecksComplete :
    let s := { run with fab := { run.fab with testing := some (1, 17), acts := [{ code := 6, actId := 1, startMs := 0, arg := 0, arg2 := 0 }] } }
    let t := s.wait (81840 * 1000)
    NoQueue t ∧ t.fab.acts.find? (fun a => a.code == 6) = t.fab.acts.head? ∧ t.fab.testing = some (1, (17 : Fin 18).val) ∧
    0 + 1000 ≤ t.ms ∧ s.ms < 0 + 1000 ∧ run.fab.dpSub = none ∧
    (let u : DepSub := { ld := 0, phys := 17, copied := false }
     let r := { run with fab := { run.fab with dpSub := some u } }
     r.fab.dpSub = some u ∧ vgetD r.fab.ldMap u.ld 99 ≠ u.phys) ∧
    ({ run.boo with planVerify := some (7, 5, 1) } : BootState).planVerify = some (7, 5, (1 : Fin 3).val) ∧
    (run.planChecks (imageOf (run.slot 1).image)).isSome = true := by unfold NoQueue; decide +kernel

/-! ### Assay, channels, acquisition, solution -/

/-- `run` in ms 11 with some observations held and the epochs before ms 1 (or 0) folded. -/
def folding (held : List HeldObs) (to_ : Nat) : State :=
  run.mapAssay (fun a => { a with held := held, foldedTo := some to_ }) |>.wait (81840 * 1000 * run.arr.assay.params.ahold)

/-- Without observations, and with one of the epoch that has become due. -/
theorem wit_AssayFoldsPublishesAndSaves :
    (let s := folding [] 0
     let limit := s.ms - 1000 * s.arr.assay.params.ahold + 1
     s.fabricUp = true ∧ 1000 * s.arr.assay.params.ahold ≤ s.ms ∧ s.arr.assay.foldedTo = some 0 ∧ 0 < limit) ∧
    (let h : HeldObs := { sigid := 0x0105, glok := 0, ch := 0, band := .u, car := 0, epoch := 0, gen := 0, sign := some 1, signSeq := 0
                          extra := false, data := [(0, 5, 0)] }
     let s := folding [h] 0
     let limit := s.ms - 1000 * s.arr.assay.params.ahold + 1
     let due := s.arr.assay.held.filter (fun (h : HeldObs) => decide (h.epoch < limit))
     due ≠ [] ∧ (∀ x ∈ due, x.epoch + 1 = limit ∧ x.sign.isSome = true ∧ x.extra = false) ∧ s.arr.assay.foldedTo = some (limit - 1) ∧
     s.frozen (s.siteOf 0) .u = false ∧ obsOf due 0 .u ≠ []) ∧
    run.ms < 1000 * run.arr.assay.params.ahold ∧ run.arr.assay.pendingGen = [] ∧
    run.arr.assay.sinceGen < run.arr.assay.params.agen ∧
    ({ run.arr.assay with sinceGen := run.arr.assay.params.agen } : AssayState).params.agen ≤ run.arr.assay.params.agen ∧
    run.upMs < run.arr.assay.lastSave + 600000 ∧ run.arr.assay.lastSave + 600000 ≤ (run.wait (81840 * 600000)).upMs := by decide +kernel

theorem wit_QuarantineSweepAndSurvey :
    (let s := (run.mapEb 0 .u (fun e => { e with ebstate := 1 })).mapWork 0 .u (fun w => { w with qclock := 1000 * run.arr.assay.params.qmax + 1 })
     (s.eb 0 .u).ebstate = 1 ∧ (s.work 0 .u).rejected = false ∧ 1000 * s.arr.assay.params.qmax < (s.work 0 .u).qclock ∧
     (s.admitConds 0 .u).all (·) = false) ∧
    (let s := run.mapAssay (fun a => { a with sweep := some 0 })
     s.arr.assay.sweep = some 0 ∧ s.ms < 0 + 1000 * s.arr.assay.params.sweepT ∧
     0 + 1000 * s.arr.assay.params.sweepT ≤ (s.wait (81840 * (1000 * s.arr.assay.params.sweepT))).ms) ∧
    NoQueue run ∧ (run.nullSite 0 .u).due = 0 := by unfold NoQueue; decide +kernel

theorem wit_ChannelTimeoutsAndTheCodeLibrary : (run.chan 0).st = .pullin ∧ 2000 ≤ (run.chan 0).cage ∧
    (let s := run.mapChan 0 (fun c => { c with st := .coast })
     (s.chan 0).st = .coast ∧ (s.chan 0).loop.coastT ≤ (s.chan 0).cage) ∧ run.ms < run.trk.libChecked + 10000 ∧ run.awake = true ∧
    run.trk.libChecked + 10000 ≤ (run.wait (81840 * 10000)).ms ∧ upset run.trk.library [] = [] := by decide +kernel

theorem wit_DeputyLoopUpdateCommitsTheFilter :
    let e := vgetD (run.chan 0).entry (run.ms % 2) {}
    run.fabricUp = true ∧ run.fab.active ≠ none ∧ run.clk.tick % 81840 ≤ 24552 ∧ vgetD run.fab.ldMap 0 0 = 0 ∧
    run.cor.core[0].lockup = false ∧ run.cor.core[0].memOk = true ∧
    (∀ i : Fin 32, run.chanAt 0 i.val = if i = 0 then some 0 else none) ∧
    (typeOf (run.chan 0).sigid).isSome = true ∧ (run.chan 0).st = .pullin ∧ (run.chan 0).setNow.on = true ∧ (run.chan 0).before.on = true ∧
    e.valid = true ∧ e.void = false ∧ e.nodump = false ∧ (run.chan 0).voided = false ∧ (run.chan 0).kernelOld = none := by decide +kernel

/-- A GPS L1 C/A search of class 3 that has searched its only cell, and the confirming search of a candidate. -/
theorem wit_SearchesConfirmationsAndSaves :
    let x : Search := { cls := 3, sigid := 0x0105, mode := 1 }
    let j : SearchJob := { x := x, slot := 0, ls := 0, live := true, src := 0, first := 0, since := 0, perMs := 1, total := 1, done := 1, input := [[]] }
    let c : Candidate := { sigid := 0x0105, glok := 0, mode := 1, beam := { site := 0, sect := 0 }, tref := 0, code := 0, dopp := 0, cn0 := 2400
                           margin := 100, suspect := false, strong := 0, atMs := 0, id := 7 }
    let k : SearchJob := { j with slot := 1, x := { x with cand := some 7 } }
    let s := run.mapAcq (fun a => { a with jobs := [j, k], cands := [c] })
    s.trk.acq.jobs.find? (fun k => k.complete && k.x.cand.isNone) = some j ∧ j.live = true ∧ s.detections j = [] ∧
    s.trk.acq.jobs.find? (fun k => k.complete && k.x.cand.isSome) = some k ∧
    s.trk.acq.cands.find? (fun y => k.x.cand == some y.id) = some c ∧ s.detections k = [] ∧
    (∀ j ∈ run.trk.acq.jobs, j.complete = false) ∧
    s.boo.dstate = .run ∧ s.ms < s.trk.acq.lastBg + 1000 * s.trk.acq.params.bgPeriod ∧
    s.trk.acq.lastBg + 1000 * s.trk.acq.params.bgPeriod ≤ (s.wait (81840 * 1000 * s.trk.acq.params.bgPeriod)).ms ∧
    s.upMs < s.trk.acq.lastSave + 600000 ∧ s.trk.acq.lastSave + 600000 ≤ (s.wait (81840 * 600000)).upMs := by decide +kernel

theorem wit_BoundariesSolutionsAndRecords : run.mainUp = true ∧ run.awake = true ∧ run.clk.runs = true ∧ State.reset.clk.runs = false ∧
    (let s := { run with boo := { run.boo with dstate := .hold } }
     s.mainUp = true ∧ s.clk.runs = true ∧ s.boo.dstate ≠ .run) ∧
    (let s := { run with pow := { run.pow with pst := .retain } }
     s.held = false ∧ s.clk.runs = true) ∧
    run.sol.susp[0]? = none ∧
    (let x : Suspicion := { cause := 1, sys := 0, sat := some 5, band := none, last := 0, first := 0 }
     ({ run.sol with susp := [x] } : SolState).susp[0]? = some x) ∧
    run.ms % run.sol.solP.solInt = 0 ∧ run.sol.solAt ≠ some run.ms ∧ run.sol.holdover = true ∧
    ({ run.sol with holdover := false } : SolState).holdover = false ∧
    run.sol.measAt ≠ some run.ms ∧ run.ms % run.sol.rtcmP.int = 0 ∧
    (run.wait (81840 * 1000)).ms % run.sol.rtcmP.int = 0 ∧ run.sol.lastRtcm ≠ (run.wait (81840 * 1000)).ms ∧
    (let s := run.wait (81840 * 1020)
     s.ms / 1000 ≠ s.sol.lastNmea ∧ 20 ≤ s.ms % 1000 ∧ s.ms % 1000 < 30 ∧ s.awake = true) := by decide +kernel

/-! ### Timing ports -/

/-- A port that starts at second 0, one that runs and measures, one in a calibration burst with 16 echoes, one that sends time of day, and a
reference that is lost. -/
theorem wit_PortsStartMeasureAndCoast :
    (let x := (run.mapPort 0 (fun y => { y with startAt := some 0, pstate := .starting })).port 0
     x.startAt = some 0 ∧ x.pstate = .starting ∧
     0 * 10 ^ 12 + run.scaleOff x.cfg ≤ (run.wait 81840000).edgePs x + 12219) ∧
    (let t := run.mapPort 0 (fun y => { y with pstate := .running, rtt := some 1000, cfg := { y.cfg with pmode := 1, rmode := 1 } })
     let s := { t with syn := { t.syn with bank := t.syn.bank.set 0 .locked } }
     let x := s.port 0
     x.pstate = .running ∧ x.cfg.pmode = 1 ∧ x.level = false ∧ x.lastEdge = none ∧ x.dStep = none ∧ x.burst = none ∧ x.cfg.rmode = 1 ∧
     s.bankCoasts 0 = false ∧ x.lastEcho ≠ some s.ms ∧ s.unwrap x.cfg 1000 = some ((1000 : Nat) : Int) ∧ x.echoFault = false ∧ x.rtt = some 1000 ∧
     ((1000 : Nat) : Int) - (1000 : Nat) = 0 ∧ x.missRun + 1 < s.syn.params.echoLoss ∧
     (({ x with burst := some [] } : PortState).burst = some [] ∧ ([] : List Nat).length < 256)) ∧
    (let x := (run.mapPort 0 (fun y => { y with pstate := .running, level := true, cfg := { y.cfg with pmode := 1 } })).port 0
     x.offAt ≤ (run.wait 81840000).edgePs x + 12219 ∧ x.stopTo = none) ∧
    (let x := (run.mapPort 0 (fun y => { y with pstate := .running, cfg := { y.cfg with pmode := 3 } })).port 0
     let s := run.wait 163680000
     x.cfg.pmode = 3 ∧ x.lastEdge = none ∧ s.todSecond x * 10 ^ 12 + s.scaleOff x.cfg + 10 ^ 9 * x.cfg.todoff ≤ s.edgePs x + 10 ^ 12) ∧
    (let l := List.replicate 16 1000
     16 ≤ (within run.syn.params.echoWin (medianNat l) l).length ∧ (within run.syn.params.echoWin (medianNat []) []).length < 16) ∧
    run.syn.pathAt = none ∧ run.syn.refLostAt = none ∧ run.syn.refValid = true ∧ State.reset.syn.refValid = false ∧
    ({ run.syn with refLostAt := some 0 } : SynState).refLostAt = some 0 ∧ (List.replicate 32 (0 : Int)).length = 32 ∧
    0 + run.syn.params.refCoast ≤ (run.wait (81840 * run.syn.params.refCoast)).upMs := by decide +kernel

/-! ### Commands -/

/-- The open session of a role. -/
def session (role ten : Nat) : Session :=
  { sid := 7, role := role, tenant := ten, authm := 0, transport := 4, source := src, vmaj := 3, vmin := 1, hnonce := [], dnonce := []
    hname := [], ephKey := 0, lastSeq := 1, lastReq := 0, opened := 0 }

/-- A state with one session. -/
def withSession (x : Session) (s : State) : State := { s with ses := { s.ses with open_ := [x] } }

/-- The status of the reply that a command leaves last, 0xFFFF without one. -/
def statusOf (i : Instr) (s : State) : Nat :=
  match exec i s with
  | .next t => ((t.ses.out.getLast?).map (fun o => u16At o.payload 0)).getD 0xFFFF
  | _ => 0xFFFF

/-- The status of the reply to a request of a role in a state: constructor, opcode, payload. -/
def answer (s : State) (role ten : Nat) (c : (Packet → Instr) × Nat × List Byte) : Nat :=
  statusOf (c.1 (pkt c.2.1 role ten c.2.2)) (withSession (session role ten) s)

/-- The installer's requests all end in `OK` or `ACCEPTED`. -/
def good (s : State) (l : List ((Packet → Instr) × Nat × List Byte)) : Bool := l.all (fun c => answer s 2 0xFF c ≤ 1)

/-- Payload shapes: an index, a parameter list, an item list. -/
def idx (i a : Nat) : List Byte := b16 i ++ b16 a
def par (scope : Nat) (l : List (Nat × Nat)) : List Byte :=
  b8 l.length ++ bz 1 ++ b16 scope ++ (l.map (fun x => b16 x.1 ++ bz 2 ++ b32 x.2)).flatten
def items (l : List (Nat × Nat)) : List Byte := b16 l.length ++ bz 2 ++ (l.map (fun x => b16 x.1 ++ b16 x.2)).flatten

/-- A port's configuration block: PULSE at 1 kHz. -/
def portBlock : List Byte :=
  [1, 0, 0, 0] ++ b32 1000 ++ b32 100 ++ b32 10000000 ++ bz 8 ++ b16 100 ++ b16 64 ++ [0, 0xFF, 0, 0] ++ bz 16

/-- `run` with a beam slot of the host in its plan. -/
def hostBeam : State :=
  { run with fab := { run.fab with active := some { plan1 with
    beams := [{ bnum := 0, lst := 0, bband := 0, ecap := 8, bkinds := 15, bown := 0, boutw := 0 }] } } }

/-- An admission told by a Bool that the kernel evaluates. -/
theorem fresh_of {a : Admission} (h : (match a with | .fresh => true | _ => false) = true) : a = .fresh := by
  cases a <;> simp_all

/-- Every part of an admitted request, for the `PING` of an installer's session. -/
theorem wit_admitted : Admitted { op := 3, roles := Anybody, len := fun b => b.length ≤ 64, hold := true, idle := true, gcp1 := true }
    (pkt 3 2 0xFF [1, 2]) (session 2 0xFF) (withSession (session 2 0xFF) run) :=
  { fresh := { carried := by decide +kernel, formed := by decide +kernel, session := by decide +kernel
               isNew := fresh_of (by decide +kernel), room := by decide +kernel, major := rfl, minor := rfl }
    version := (fun h => nomatch h), role := rfl, listed := trivial, may := trivial, tenant := rfl, ten := trivial
    exact_ := by decide +kernel, len := by decide +kernel, hold := .inr rfl }

/-- An address that is locked out, a version range without a common one, and requests that each reach their effect. -/
theorem wit_SessionCommandsAnswer :
    good run [(.cmdPing, 3, [1, 2]), (.cmdSessList, 4, []), (.cmdEvtSubscribe, 5, [3, 0, 0, 0, 0xFF, 0, 0, 0x80]), (.cmdEvtRead, 6, bz 4),
      (.cmdSessParams, 0x8000, par 0xFFFF []), (.cmdBye, 2, [])] = true ∧
    answer run 2 0xFF (.cmdEvtSubscribe, 5, [4, 0, 0, 0, 0, 0, 0, 0]) = 0x0103 ∧
    run.carries 4 = true ∧ run.lockedOut 4 src = false ∧ (session 1 0).authed = false := by decide +kernel

/-- A version range with no version in common, and a temperature 15 °C under the trip. -/
theorem wit_noVersion : negotiate 2 3 = none ∧ 4 * run.hea.therm.trip - 60 < 4 * run.hea.therm.trip := by
  refine ⟨?_, by omega⟩
  have h : ¬ (768 ≤ min 3 (768 + Config.gcpMinor) ∧ 2 ≤ min 3 (768 + Config.gcpMinor)) := by omega
  simp only [negotiate, ver, show 256 * 3 = 768 from rfl, Nat.add_zero]
  rw [if_neg h]
  exact if_neg (by omega)

theorem wit_DeviceCommandsAnswer :
    good run [(.cmdDevInfo, 0x100, []), (.cmdDevState, 0x101, []), (.cmdDevReset, 0x102, [1, 0, 0, 0] ++ b32 10), (.cmdRstClear, 0x104, b16 1),
      (.cmdDevFeatures, 0x8100, []), (.cmdDevPower, 0x103, [1, 0, 0, 0]), (.cmdHealthStatus, 0xC00, idx 155 0), (.cmdThermalStatus, 0xC01, []),
      (.cmdWearList, 0xC02, idx 313 0), (.cmdSpareList, 0xC03, []), (.cmdTimeStatus, 0xB00, []), (.cmdTickSet, 0xB01, bz 16),
      (.cmdTickDst, 0xB02, [2, 0, 0, 0]), (.cmdWakeSet, 0xB03, [1, 24, 0, 0]), (.cmdBramRead, 0xB04, [1, 0, 4, 0, 0, 0, 0, 0]),
      (.cmdBramWrite, 0xB05, [1, 0, 2, 0, 0, 0, 0, 0, 1, 2]), (.cmdChargerSet, 0x8B00, [10, 0, 0, 0])] = true ∧
    good run [(.cmdTrimCurve, 0x8B01, [8, 0, 0, 0] ++ ((List.range 8).map (fun i => b16 (100 * i) ++ bz 6)).flatten ++ bz 4),
      (.cmdUartStatus, 0x1001, idx 1 0), (.cmdEvinStatus, 0x1003, idx 7 0), (.cmdWakeportSet, 0x1004, [1, 0, 0, 0]),
      (.cmdLineClear, 0x1005, idx 3 0), (.cmdTallyStatus, 0xE00, []), (.cmdTallyRead, 0xE01, [127, 0, 16, 0, 0, 0, 0, 0]),
      (.cmdTallyExport, 0xE02, bz 8), (.cmdTallyExport, 0xE02, [1, 0, 0, 0, 1, 0, 0, 0]), (.cmdTallyVerify, 0xE03, [])] = true := by
  decide +kernel

theorem wit_ArrayAndChannelCommandsAnswer :
    good run [(.cmdSiteList, 0x300, idx 11 0), (.cmdElemList, 0x301, idx 95 0), (.cmdLaneStatus, 0x302, idx 95 0), (.cmdLaneClear, 0x303, idx 95 0),
      (.cmdLodeArm, 0x304, idx 6 0 ++ [6, 0, 1, 1, 1, 0] ++ bz 2 ++ leBytes 12 1 ++ b32 0 ++ b16 4 ++ bz 10), (.cmdLodeTrig, 0x305, idx 7 0),
      (.cmdLodeDisarm, 0x306, idx 6 0), (.cmdLodeStatus, 0x307, idx 7 0), (.cmdAditSet, 0x8300, idx 95 0 ++ bz 24 ++ [0x18, 0, 0, 1] ++ bz 4),
      (.cmdNotchSet, 0x8301, [2, 3, 1, 7] ++ b32 0), (.cmdBeamList, 0x400, idx 255 0), (.cmdBandCoherence, 0x401, []), (.cmdNullList, 0x402, []),
      (.cmdBeamPolicy, 0x403, idx 2 2)] = true ∧
    good run [(.cmdAssayStatus, 0x500, []), (.cmdCalRead, 0x501, [0, 0, 16, 0, 0, 0, 0, 0]), (.cmdQuarList, 0x502, []), (.cmdCalSave, 0x506, []),
      (.cmdAssaySignals, 0x8501, items [(0x0105, 0), (0x0106, 1)]), (.cmdChList, 0x600, idx 383 0), (.cmdChStatus, 0x601, idx 0 0),
      (.cmdChPin, 0x602, items [(0x0105, 0)]), (.cmdChRelease, 0x603, idx 383 0), (.cmdSigPolicy, 0x604, bz 32)] = true ∧
    good hostBeam [(.cmdBeamDefine, 0x8400, bz 28), (.cmdBeamWeights, 0x8401, bz 220)] = true ∧
    good (run.mapEb 0 .u (fun e => { e with ebstate := 1 })) [(.cmdElemRequal, 0x504, idx 0 0)] = true ∧
    good (run.mapAssay (fun a => { a with conflict := a.conflict.set 0 true })) [(.cmdCalAccept, 0x505, idx 0 0)] = true ∧
    answer (run.mapChan 0 (fun c => { c with owner := 0 })) 1 0 (.cmdChKernel, 0x8602, items [(0, 0xFF)]) = 1 := by decide +kernel

theorem wit_AcquisitionPlanAndOutputCommandsAnswer :
    good run [(.cmdAcqStatus, 0x700, []), (.cmdAcqResults, 0x701, bz 8), (.cmdAcqStart, 0x702, [0x7F, 1, 0, 0]),
      (.cmdAcqAssist, 0x703, bz 12 ++ b32 1 ++ bz 32), (.cmdPlanStatus, 0x800, []), (.cmdPlanLoad, 0x801, [1, 0, 2, 0, 0, 0, 0, 0, 1, 2]),
      (.cmdPlanVerify, 0x802, idx 2 0), (.cmdPlanDiscard, 0x804, idx 2 0), (.cmdPlanRead, 0x805, [0, 0, 4, 0, 0, 0, 0, 0]),
      (.cmdPlanDerated, 0x8800, idx 2 0), (.cmdMeasStatus, 0x900, []), (.cmdSolStatus, 0x901, []), (.cmdIntegStatus, 0x902, []),
      (.cmdSurveyStart, 0x903, []), (.cmdHoldForce, 0x904, [1, 0, 0, 0]), (.cmdSatExclude, 0x905, items [(0x0105, 0)])] = true ∧
    good run [(.cmdSynStatus, 0xA00, []), (.cmdPortStatus, 0xA01, idx 31 0), (.cmdPortSet, 0xA02, idx 31 0 ++ portBlock),
      (.cmdPortEnable, 0xA03, items [(31, 1)]), (.cmdPortCable, 0xA04, idx 31 0 ++ portBlock), (.cmdPortCal, 0xA05, idx 31 0),
      (.cmdPortCal, 0xA05, idx 31 2), (.cmdSynDither, 0x8A00, bz 4), (.cmdStreamStatus, 0x912, bz 4), (.cmdStreamOpen, 0x910, bz 32)] = true ∧
    good { run with por := { run.por with streams := [{ stid := 3, kind := 0, port := 0, ten := 255, cls := 0, wep := 0, strans := 0, sflags := 0
                                                        dport := 0, vlan := 0, daddr := [], sarg := 0 }] } } [(.cmdStreamClose, 0x911, idx 3 0)] = true ∧
    good (run.mapRegion 0 (fun r => { r with cstate := .held, nblk := 4, written := 4 })) [(.cmdSnapExport, 0x913, bz 26 ++ b16 4 ++ bz 4)] = true ∧
    good (run.mapSlot 0 (fun _ => { verified := true, plan := some plan1 })) [(.cmdPlanModel, 0x8801, [0, 1, 0, 0, 0, 0] ++ b16 1000)] = true := by
  decide +kernel

theorem wit_MaintenanceCommandsAnswer :
    good run [(.cmdMaintStatus, 0xD00, []), (.cmdDlStatus, 0xD01, []), (.cmdAssaySweep, 0x503, []), (.cmdStopeSwap, 0xD02, idx 31 35),
      (.cmdDeputySwap, 0xD03, idx 15 17), (.cmdDeepTest, 0xD04, idx 0x111 0), (.cmdLodeSwap, 0xD05, idx 0 0), (.cmdDlClear, 0xD0A, [])] = true ∧
    good (run.mapLane 95 (fun l => { l with state := .live })) [(.cmdLaneReneg, 0xD06, idx 95 0)] = true ∧
    good (run.mapSlot 1 (fun _ => { verified := true, plan := some plan1 })) [(.cmdPlanActivate, 0x803, [1, 0, 0, 0] ++ bz 8)] = true ∧
    (let s := { run with fab := { run.fab with acts := [{ code := 6, actId := 9, startMs := 0, arg := 0, arg2 := 0 }] } }
     s.conflict 6 ≠ none ∧ answer s 2 0xFF (.cmdDeepTest, 0xD04, idx 35 0) = 0x0302 ∧
     good s [(.cmdMaintCancel, 0xD09, [1, 0, 0, 0] ++ b32 9)] = true) := by decide +kernel

theorem wit_CharterTenantAndMakerCommandsAnswer :
    good run [(.cmdCharterStatus, 0x200, []), (.cmdCharterStatus, 0x200, [1, 0, 0, 0]), (.cmdCharterLoad, 0x201, [1, 0, 2, 0, 0, 0, 0, 0, 1, 2]),
      (.cmdCharterRead, 0x204, [1, 0, 2, 0, 0, 0, 0, 0]), (.cmdFuseRead, 0x205, []), (.cmdTenantList, 0xF00, []),
      (.cmdTenantAdd, 0xF01, idx 7 0 ++ [0, 0] ++ b16 7), (.cmdKernelList, 0x1100, [])] = true ∧
    good { run with boo := { run.boo with standbyOk := true } } [(.cmdCharterCommit, 0x203, bz 4)] = true ∧
    good (run.mapTenant 0 (fun t => { t with present := true })) [(.cmdTenantRemove, 0xF02, idx 0 0)] = true ∧
    answer run 1 0 (.cmdKernelLoad, 0x1101, [3, 0, 2, 0, 0, 0, 0, 0, 1, 2]) = 0 ∧ answer run 1 0 (.cmdKernelDelete, 0x1103, idx 3 0) = 0 ∧
    ({ run with boo := { run.boo with fuses := { run.boo.fuses with maker := true } } } : State).boo.fuses.maker = true ∧
    (let s := withSession { session 3 0xFF with makerOpen := true } run
     statusOf (.cmdMakerMark (pkt 0x7F02 3 0xFF (bz 4))) s = 0 ∧ statusOf (.cmdMakerClose (pkt 0x7F01 3 0xFF [])) s = 0) := by decide +kernel

/-- Each table answers an empty list, and one of a deferred kind stages a parameter in its range and refuses one beyond it. -/
theorem wit_ParameterCommandsReadAndSetTheirTables :
    good (run.mapTenant 0 (fun t => { t with present := true }))
      [(.cmdNullParams, 0x8402, par 0xFFFF []), (.cmdEvinSet, 0x1002, par 7 []), (.cmdStreamParams, 0x8910, par 1 []), (.cmdUartSet, 0x1000, par 3 []),
       (.cmdUartTiming, 0x9000, par 3 []), (.cmdCoherenceParams, 0x8403, par 2 []), (.cmdAssayParams, 0x8500, par 0xFFFF []),
       (.cmdChLoop, 0x8600, par 383 []), (.cmdAcqParams, 0x8701, par 0xFFFF []), (.cmdSolParams, 0x8900, par 0xFFFF []),
       (.cmdIntegParams, 0x8901, par 0xFFFF []), (.cmdHoldParams, 0x8902, par 0xFFFF []), (.cmdRtcmParams, 0x8903, par 0xFFFF []),
       (.cmdServoParams, 0x8A01, par 0xFFFF []), (.cmdThermalParams, 0x8C00, par 0xFFFF []), (.cmdCanaryParams, 0x8C01, par 0xFFFF []),
       (.cmdDlParams, 0x8D00, par 0xFFFF []), (.cmdTenantQuota, 0xF03, par 0 []), (.cmdKernelBudget, 0x9100, par 0 [])] = true ∧
    answer run 2 0xFF (.cmdNullParams, 0x8402, par 0xFFFF [(0, 64)]) = 0 ∧ answer run 2 0xFF (.cmdNullParams, 0x8402, par 0xFFFF [(0, 65)]) = 0x0103 := by
  decide +kernel

/-! ### Timers, tally, resets -/

/-- The session's idle limit, one millisecond before it, and a packet that is too short or whose CRC is wrong. -/
theorem wit_SessionTimersDiscardsAndTheTallyBook :
    (let s := withSession { session 2 0xFF with authm := 1 } run
     s.session 7 = some { session 2 0xFF with authm := 1 } ∧ (s.wait (81840 * 119999)).upMs < 0 + 1000 * 120 ∧
     0 + 1000 * 120 ≤ (s.wait (81840 * 120000)).upMs ∧ 0 + 10000 ≤ (s.wait (81840 * 10000)).upMs) ∧
    ({ pkt 3 2 0xFF [] with magic := 0 } : Packet).malformed 3 = true ∧ (pkt 3 2 0xFF []).malformed 3 = false ∧
    requestOf (.cmdPing (pkt 3 2 0xFF [])) = some (3, pkt 3 2 0xFF []) ∧ run.carries 4 = true ∧ (bz 5).length < 24 ∧
    opcodeDefined 3 = true ∧ opcodeDefined 0x7EFF = false ∧ run.ten.tally.queue = [] ∧ run.ten.tally.verify = none ∧
    ((run.tally 0x0101 2 0xFF 7 []).ten.tally.queue.map (·.typ)) = [3, 0x0101] := by decide +kernel

theorem wit_ResetsSetTheirCauseAndClearTheirLevel :
    run.pow.pst ≠ .backup ∧ run.mainUp = true ∧ run.boo.dstate ≠ .boot ∧ run.pow.delayed = none ∧
    ({ run.pow with delayed := some (1, 5) } : PowerState).delayed = some (1, 5) ∧ run.clk.up < 5 ∧ 5 ≤ (run.wait 5).clk.up ∧
    run.sensing = true ∧ run.pow.thermHold = false ∧ run.hea.cross[4].crossed = false ∧
    ({ run with hea := { run.hea with cross := run.hea.cross.set 4 { run.hea.cross[4] with crossed := true } } } : State).sensing = true := by decide +kernel

/-- An empty firmware area, and one image. -/
theorem wit_BootFindsFirmwareKeyAndCharter :
    State.reset.booting = true ∧ State.reset.boo.fwRetry = none ∧ State.reset.boo.restart = false ∧
    State.reset.boo.fuses.bfloor.written = false ∧ State.reset.boo.fuses.instKey.written = false ∧ provOk ({ fw := [none, none] } : BootFound).prov = false ∧
    (∀ c : Fin 2, State.reset.boo.copies[c].sealOf = none) ∧ (∀ x ∈ ([none, none] : List (Option FwImage)), x = none) := by
  refine ⟨by decide +kernel, by decide +kernel, by decide +kernel, by decide +kernel, by decide +kernel, by decide +kernel, by decide +kernel, ?_⟩
  simp

theorem wit_PowerEntriesWakesAndLampCycles :
    run.pow.entry = none ∧ run.pow.pst = .run ∧ run.pow.exit_ = none ∧
    (let e : PowEntry := { target := .retain, phase := 2, window := some 0, wake := some (1, 0) }
     e.phase = 2 ∧ e.window = some 0 ∧ e.wake = some (1, 0) ∧ e.target = .retain) ∧
    ({ run.pow with wakemask := 6 } : PowerState).wakemask.testBit 1 = true ∧ ({ run.pow with wakemask := 6 } : PowerState).wakemask.testBit 4 = false ∧
    run.levelWake 2 0 = false ∧
    (let s := { run with pow := { run.pow with pst := .lamp, lampBusy := true } }
     s.pow.exit_ = none ∧ s.pow.lampSleepAt = none ∧ (s.region 7).cstate ≠ .held ∧ ((s.mapRegion 7 (fun r => { r with cstate := .held })).region 7).cstate = .held ∧
     ({ s.pow with lampSleepAt := some 9 } : PowerState).lampSleepAt = some 9) := by decide +kernel

/-! ### Clocks, backup domain, local ports, health -/

theorem wit_ClocksAndSeamsFailAndRecover :
    (run.island 35).istate = .running ∧ (run.island 36).istate = .running ∧ (run.island 55).istate = .running ∧
    (run.mapIsland 35 (fun i => { i with istate := .stalled })).island 35 = { run.island 35 with istate := .stalled } ∧
    run.markedBroken 36 0 = false ∧
    (let s := { run with clk := { run.clk with brokenSeams := [{ src := 36, dst := 0, dropped := 0 }] } }
     s.markedBroken 36 0 = true) ∧ run.clk.seamTold = [] := by decide +kernel

theorem wit_TheBackupDomainKeepsItsCount :
    run.bak.halted = false ∧ run.bak.trimTicks < 32768 ∧ 32768 ≤ ({ run.bak with trimTicks := 32768 } : BackupState).trimTicks ∧
    run.bak.trimEn = false ∧ run.bak.pwEn = false ∧
    ({ run.bak with pwEn := true } : BackupState).count / 2 ^ (run.bak.pwE + 7) = run.bak.pwLast ∧
    run.bak.bev[0].level = false ∧ run.bak.bev[0].fifo.length < 4 ∧ run.sol.grade.code < Grade.nominal.code ∧
    (let s := { run with sol := { run.sol with grade := .nominal, holdover := false } }.wait (81840 * 16000)
     Grade.nominal.code ≤ s.sol.grade.code ∧ s.bak.alignMs + 16000 ≤ s.upMs ∧ s.awake = true ∧ s.sol.holdover = false) ∧
    (let w : LearnWin := { from_ := 0, err := 0, temps := [100, 101] }
     let s := { run with
       sol := { run.sol with grade := .nominal, holdover := false }, bak := { run.bak with tvalid := true, learn := some w } }.wait (81840 * 1000000)
     Grade.nominal.code ≤ s.sol.grade.code ∧ s.sol.holdover = false ∧ s.bak.tvalid = true ∧ s.bak.learn = some w ∧
     w.from_ + 1000000 ≤ s.upMs ∧ w.temps ≠ [] ∧ (∀ x ∈ w.temps, ∀ y ∈ w.temps, x - y ≤ 4) ∧ s.bak.curve.length = 8 ∧
     (∃ x ∈ [100, 105], ∃ y ∈ [100, 105], (4 : Int) < x - y)) ∧
    run.bak.onVbat = false ∧ run.bak.vbatAt = none ∧ run.bak.vbatTold = none := by decide +kernel

/-- A character of 8 data bits in the order on the line, each bit's three samples alike: a start bit, the data, a stop bit. -/
def uartChar (b : Nat) : UartChar :=
  { bits := [0] ++ (List.range 8).map (fun i => if b.testBit i then 7 else 0) ++ [7], mark := 16 }

/-- A UART of function 3 with a character and a break, U0 at the end of a frame with a good CRC, and an SPI packet. -/
theorem wit_UartsAndTheSpiPortMoveTheirBytes :
    run.mainUp = true ∧ run.boo.dstate ≠ .boot ∧ State.reset.boo.dstate = .boot ∧
    (let u := (run.mapUart 1 (fun u => { u with par := { u.par with umode := 1, ufunc := 3, ubits := 8, uecho := 0 } })).uart 1
     u.par.umode ≠ 0 ∧ u.par.ufunc = 3 ∧ u.echo run.clk.up = false ∧ u.waitMark = false ∧ u.hold = none ∧ u.rxq.length < 1024 ∧ u.dead = false ∧
     u.txBusy = false ∧ u.par.level (uartChar 0x41) 0 = false ∧ u.par.allZero (uartChar 0x41) = false ∧ u.par.data (uartChar 0x41) = 0x41 ∧
     u.par.stopOk (uartChar 0x41) = true ∧ u.par.allZero ⟨List.replicate 10 0, 16⟩ = true ∧ u.par.level ⟨List.replicate 10 0, 16⟩ 0 = false) ∧
    (let f : FrameAsm := { inside := true, bytes := bz 24 ++ b32 (crc32 (bz 24)) }
     let u := (run.mapUart 0 (fun u => { u with par := { u.par with umode := 1, ufunc := 0, uecho := 0 }, frame := f })).uart 0
     u.par.umode ≠ 0 ∧ u.par.ufunc = 0 ∧ u.echo run.clk.up = false ∧ u.hold = none ∧ u.waitMark = false ∧ f.inside = true ∧ f.bytes ≠ [] ∧
     run.clk.up ≤ f.lastUp + 818400 ∧ u.par.level (uartChar 0x7E) 0 = false ∧ u.par.allZero (uartChar 0x7E) = false ∧
     u.par.parityOk (uartChar 0x7E) = true ∧ u.par.stopOk (uartChar 0x7E) = true ∧ u.par.data (uartChar 0x7E) = 0x7E ∧
     f.esc = false ∧ f.bad = false ∧ frameGood f.bytes = true) ∧
    frameGood (bz 28) = false ∧ run.por.spi.inq.length < 4 ∧ run.ses.out.find? (fun p => p.transport == 4) = none ∧
    24 ≤ (bz 24).length ∧ (bz 24).length ≤ 1448 := by
  decide +kernel

/-- Exactly 100 ns after the last stamp an edge merges, a fraction later it is stamped. -/
theorem wit_TheWakePortAndTheEventInputs :
    run.por.wakePort.sdaDead = false ∧ ({ run.bak with wen := true } : BackupState).wen = true ∧ run.pow.entry = none ∧ run.held = false ∧
    (run.evin 0).par.minw ≤ 1000 ∧ (run.evin 0).lastStamp = none ∧ (run.evin 0).fifo.length < 256 ∧ 0 < (run.evin 0).par.rmax ∧
    ((run.evin 0).par.edge.testBit 0 = true ∨ (run.evin 0).par.edge.testBit 0 = false) ∧ (2095 : Nat) * 1000 ≤ 2095104 ∧ 2095104 < 2096 * 1000 := by
  decide +kernel

theorem wit_EthernetPortsReceiveAndSend :
    run.held = false ∧ run.pow.entry = none ∧ ({ run.pow with pst := .idle } : PowerState).pst = .idle ∧ (run.eth 0).link = false ∧
    ((run.mapEth 0 (fun e => { e with link := true })).eth 0).link = true ∧ 0 < (run.eth 0).par.ptpRate ∧
    ptpMessage 0 (bz 60) = none ∧
    (run.eth 0).pauseUntil ≤ max run.clk.up (run.eth 0).wireUntil ∧ run.por.streams = [] := by decide +kernel

/-- A frame to the PTP group with EtherType 0x88F7 (21 R505). -/
theorem wit_PtpFrame : ptpMessage 0 (beBytes 6 0x011B19000000 ++ bz 6 ++ [0x88, 0xF7] ++ [1, 2]) = some [1, 2] := by
  have e : (beBytes 6 0x011B19000000 ++ bz 6 ++ [0x88, 0xF7] ++ [1, 2] : List Byte).take 6 = beBytes 6 0x011B19000000 := by decide +kernel
  simp only [ptpMessage, e, beq_self_eq_true, Bool.or_true, Bool.true_or]
  decide +kernel

theorem wit_CanariesSparesAndThermalControl :
    run.awake = true ∧ run.lyparil = false ∧ State.reset.awake = false ∧ run.hea.ringAt = none ∧ (run.wearOf 187).measAt = none ∧
    (∃ m, ({ run.hea with ringAt := some run.upMs } : HealthState).ringAt = some m ∧ run.upMs < m + 60000) ∧ run.hea.minutes + 1 < 60 ∧
    ({ run.hea with minutes := 59 } : HealthState).minutes = 59 ∧
    0 < (run.wearOf 187).srows ∧ ((run.mapWear 187 (fun w => { w with srows := 0 })).wearOf 187).srows = 0 ∧ (run.lane 0).lver ≠ 3 ∧
    ((run.mapLane 0 (fun l => { l with lver := 3 })).lane 0).lver = 3 ∧ run.sensing = true ∧ run.hea.senAt = none ∧ run.thermalRuns = true ∧
    State.reset.thermalRuns = false ∧ run.throttleDue = run.hea.throttle ∧ run.hea.swapped = false ∧ run.proposed 5 0 0 = false := by decide +kernel

/-! ### The whole machine -/

theorem wit_AnIdleStepLetsOneTickPass : State.reset.pending = [] ∧ State.reset.clk.runs = false ∧ run.pending = [] ∧ run.clk.runs = true := by decide +kernel

theorem wit_EveryStepKeepsTheCoresSound : SoundCores State.reset ∧ ∃ t, step State.reset = .next t := by
  refine ⟨?_, _, rfl⟩
  unfold SoundCores; decide +kernel

theorem wit_EventsKeepWhatIsNotTheirs : Instr.parts .evRefLoss ≠ none ∧ ∃ t, exec .evRefLoss State.reset = .next t :=
  ⟨by decide +kernel, _, rfl⟩

/-- 17 R430: TCNT counts modulo 2^48. -/
theorem test_tcnt_wraps : ({ State.reset with clk := { State.reset.clk with tick := 2 ^ 48 - 1 } } : State).tcnt = 2 ^ 48 - 1 ∧
    (match step { State.reset with clk := { State.reset.clk with tick := 2 ^ 48 - 1, runs := true } } with | .next t => t.tcnt | _ => 1) = 0 := by
  decide +kernel

/-- A queued command leaves the queue and answers. -/
theorem test_step_takes_the_front :
    (match step { run with pending := [.evRefLoss, .evRefRestore] } with | .next t => t.pending | _ => []) = [.evRefRestore] := by
  decide +kernel

end Sys2Proof.Tests
end

section
/-! PROOFS. Captures and lode banks (03 R69, R70, R73–R75, 22 R523): what spared rows, proposals and the end of an activity leave of the sample
path, what the copy of a bank may change in the lode, and the statement of the time trigger and the bank swap. -/

namespace Sys2Proof.Proofs.AditsAndLode

open Sys2Proof Sys2Proof.Machine

/-! ### Vectors read at an index below their length -/

theorem getElem_vupdN {α : Type} {n : Nat} (v : Vector α n) (i j : Fin n) (f : α → α) :
    (vupdN v i.val f)[j] = if j = i then f v[i] else v[j] := by
  rw [vupdN, dif_pos i.isLt]
  split
  · next h => subst h; exact Vector.getElem_set_self ..
  · next h => exact Vector.getElem_set_ne _ _ (fun e => h (Fin.ext e.symm))

/-! ### What leaves the sample path alone -/

@[simp] theorem report_smp (code sev ten unit : Nat) (body : List Byte) (s : State) :
    (s.report code sev ten unit body).smp = s.smp := by
  rcases report_cases code sev ten unit body s with ⟨-, h⟩ | ⟨-, h⟩ <;> simp [h]

@[simp] theorem report_fab (code sev ten unit : Nat) (body : List Byte) (s : State) :
    (s.report code sev ten unit body).fab = s.fab := by
  rcases report_cases code sev ten unit body s with ⟨-, h⟩ | ⟨-, h⟩ <;> simp [h]

@[simp] theorem canary_smp (cause n : Nat) (s : State) : (s.canary cause n).smp = s.smp := report_smp ..

@[simp] theorem canary_fab (cause n : Nat) (s : State) : (s.canary cause n).fab = s.fab := report_fab ..

@[simp] theorem noteTest_smp (cls idx res : Nat) (s : State) : (s.noteTest cls idx res).smp = s.smp := rfl

@[simp] theorem noteTest_fab (cls idx res : Nat) (s : State) : (s.noteTest cls idx res).fab = s.fab := rfl

@[simp] theorem settle_smp (sact sindex st : Nat) (s : State) : (s.settle sact sindex st).smp = s.smp := rfl

@[simp] theorem settle_fab (sact sindex st : Nat) (s : State) : (s.settle sact sindex st).fab = s.fab := rfl

/-- A proposal touches the list of proposals, the wear entries, the queue of remedies and the reports only (22 R525). -/
@[simp] theorem proposeAs_smp (sact sclass sindex sres scause : Nat) (s : State) :
    (s.proposeAs sact sclass sindex sres scause).smp = s.smp := by
  unfold State.proposeAs
  split
  · rfl
  · simp only [reportNow_keeps]
    split <;> rfl

@[simp] theorem proposeStope_smp (ls scause : Nat) (s : State) : (s.proposeStope ls scause).smp = s.smp := by
  unfold State.proposeStope
  split
  · exact proposeAs_smp ..
  · split
    · exact proposeAs_smp ..
    · rfl

@[simp] theorem remedyFor_smp (n cause : Nat) (s : State) : (s.remedyFor n cause).smp = s.smp := by
  simp only [State.remedyFor]
  split
  · split <;> simp
  · split <;> simp
  · split <;> simp [State.proposeDeputy]
  · split <;> simp [State.proposeDeputy]
  · split <;> simp [State.proposeBank]
  · rfl

@[simp] theorem spareRow_smp (n row : Nat) (s : State) : (s.spareRow n row).smp = s.smp := by
  simp only [State.spareRow]
  split
  · rfl
  · split <;> simp [State.sparingRecord]

@[simp] theorem rowError_smp (s : State) (w : Nat) : (s.rowError w).smp = s.smp := by
  simp only [State.rowError]
  split <;> simp

@[simp] theorem foldl_rowError_smp (l : List Nat) (s : State) : (l.foldl State.rowError s).smp = s.smp := by
  induction l generalizing s with
  | nil => rfl
  | cons w l ih => rw [List.foldl_cons, ih, rowError_smp]

/-- Reading words may count corrected errors and mark uncorrectable words; of the sample path it changes nothing else (03 R74). -/
theorem readWords_smp (l : List Nat) (s : State) : ∃ (bad : List Nat) (n : Nat),
    (s.readWords l).2.smp = { s.smp with lode := { s.smp.lode with badWords := bad, corrected := n } } := by
  unfold State.readWords
  split
  · exact ⟨_, _, rfl⟩
  · exact ⟨_, _, foldl_rowError_smp ..⟩

/-! ### The end of an activity while no request waits -/

theorem noQueue_of_fab {s t : State} (hq : NoQueue s) (h : t.fab = s.fab) : NoQueue t := by
  rw [NoQueue, h]
  exact hq

/-- With no request waiting the queue's walk starts nothing (09 R227). -/
theorem walkQueue_of_noQueue {s : State} (h : NoQueue s) : s.walkQueue = s := by
  obtain ⟨hq, hd⟩ := h
  rw [State.walkQueue, hd]
  simp only [hq, List.foldl_nil]
  rw [← hq]

theorem endAct_smp {s : State} (h : NoQueue s) (f : Activity → Bool) (outcome : Nat) : (s.endAct f outcome).smp = s.smp := by
  unfold State.endAct
  split
  · rfl
  · rw [walkQueue_of_noQueue (by simpa [NoQueue, State.maintRecord] using h)]
    simp [State.maintRecord]

/-! ### The rows -/

theorem trigger_first {r : Region} (hst : r.cstate = .armed ∨ r.cstate = .filling) (hno : r.trigAt = none) (tick : Nat) :
    (r.trigger tick).2 = { r with trigAt := some tick } := by
  simp [Region.trigger, hst, hno]

/-- Ticks by which TCNT has passed the region's `TTIME`, modulo 2^48; half that range or more means that it lies ahead (03 R69). -/
def ticksPast (c : Fin 8) (s : State) : Nat := (s.tcnt + 2 ^ 48 - (s.region c.val).ttime % 2 ^ 48) % 2 ^ 48

theorem exec_captureTimeTrigger (c : Fin 8) (s : State) : exec (.evCaptureTimeTrigger c) s =
    .next (if (s.region c.val).ctrig = 1 ∧ ticksPast c s < 2 ^ 47 then
      s.mapRegion c.val (fun r => (r.trigger (s.clk.tick - ticksPast c s)).2) else s) := rfl

/-- A time trigger whose moment has come is the region's first trigger, at that moment; the other regions stay (03 R69, R70).
That a moment up to 2^47 ticks past triggers as well is the model's choice (log 48). -/
theorem captureTimeTrigger_due (c : Fin 8) (s : State) (hk : (s.region c.val).ctrig = 1) (hp : ticksPast c s < 2 ^ 47)
    (hst : (s.region c.val).cstate = .armed ∨ (s.region c.val).cstate = .filling) (hno : (s.region c.val).trigAt = none) :
    Gives (.evCaptureTimeTrigger c) s (fun t =>
      t.region c.val = { s.region c.val with trigAt := some (s.clk.tick - ticksPast c s) } ∧
      ∀ j : Nat, j ≠ c.val → t.region j = s.region j) := by
  refine ⟨_, by rw [exec_captureTimeTrigger, if_pos ⟨hk, hp⟩], ?_, fun j hj => ?_⟩
  · rw [region_mapRegion _ _ _ _ c.isLt, if_pos rfl, trigger_first hst hno]
  · rw [region_mapRegion _ _ _ _ c.isLt, if_neg hj]

/-- A time trigger whose moment lies ahead is not due (03 R69). -/
theorem captureTimeTrigger_early (c : Fin 8) (s : State) (hp : 2 ^ 47 ≤ ticksPast c s) :
    exec (.evCaptureTimeTrigger c) s = .next s := by
  rw [exec_captureTimeTrigger, if_neg (fun h => Nat.not_lt.2 hp h.2)]

/-- While the free windows have not carried the copy the bank map stays (03 R73). -/
theorem scrubCopyComplete_waits {phys spare : Nat} {s : State} (hs : s.smp.lode.swap = some (phys, spare, false))
    (hc : s.copyDone = false) : exec .evScrubCopyComplete s = .next s := by
  show execEvScrubCopyComplete s = _
  simp [execEvScrubCopyComplete, hs, hc]

/-- Once the free windows have carried the copy, the spare serves where the bank served and the bank is under test (03 R73, R75). -/
theorem scrubCopyComplete_switches {phys spare : Nat} {s : State} (hs : s.smp.lode.swap = some (phys, spare, false))
    (hc : s.copyDone = true) : Gives .evScrubCopyComplete s (fun t =>
      t.smp.lode.bankMap = s.smp.lode.bankMap.map (fun b => if b = phys then spare else b) ∧
      t.smp.lode.use = vupdN (vupdN s.smp.lode.use phys (fun _ => .testing)) spare (fun _ => .service) ∧
      t.smp.lode.swap = some (phys, spare, true) ∧ t.smp.lode.mem = s.smp.lode.mem) := by
  obtain ⟨bad, n, hr⟩ := readWords_smp (s.smp.lode.bankWords phys) s
  refine ⟨_, rfl, ?_⟩
  simp [hs, hc, hr]

/-- The test of the released bank ends the swap, and nothing of the bank map moves (03 R75). -/
theorem bankTestComplete_ends {phys spare : Nat} {s : State} (hq : NoQueue s) (pass : Bool)
    (hs : s.smp.lode.swap = some (phys, spare, true)) : Gives (.evBankTestComplete pass) s (fun t =>
      t.smp.lode.swap = none ∧ t.smp.lode.use = vupdN s.smp.lode.use phys (fun _ => if pass then .spare else .retired) ∧
      t.smp.lode.bankMap = s.smp.lode.bankMap) := by
  refine ⟨_, rfl, ?_⟩
  simp only [hs]
  rw [endAct_smp (noQueue_of_fab hq ?_)]
  · cases pass <;> simp
  · cases pass <;> simp

/-- Settles O27: the region's first trigger is its time trigger, the copy changes nothing of the lode but its error counts before the map is
switched, and the end of the activity moves no queue while no request waits. -/
theorem capturesAndBankSwaps : Obligations.CapturesAndBankSwaps := by
  unfold Obligations.CapturesAndBankSwaps
  refine ⟨?_, fun phys spare s hq hne => ⟨?_, ?_, ?_⟩⟩
  · intro c s r past hk
    exact ⟨captureTimeTrigger_due c s hk, captureTimeTrigger_early c s⟩
  · intro hs hc
    exact scrubCopyComplete_waits hs hc
  · intro hs hc
    obtain ⟨t, ht, hmap, huse, hswap, hmem⟩ := scrubCopyComplete_switches hs hc
    refine ⟨t, ht, fun b => ?_, ?_, ?_, hswap, hmem⟩
    · simp [hmap]
    · rw [huse, getElem_vupdN, if_neg hne, getElem_vupdN, if_pos rfl]
    · rw [huse, getElem_vupdN, if_pos rfl]
  · intro pass hs
    obtain ⟨t, ht, hswap, huse, hmap⟩ := bankTestComplete_ends hq pass hs
    refine ⟨t, ht, hswap, ?_, hmap⟩
    rw [huse, getElem_vupdN, if_pos rfl]

end Sys2Proof.Proofs.AditsAndLode
end

section
/-! PROOFS. Quarantine expiry, the end of a sweep and the interference survey (05 R114, R122, 04 R92, R94): what an update of one element-band,
site or band leaves of the others, how the nulls of a band are shared out, and the statement of the three events. -/

namespace Sys2Proof.Proofs.Beams

open Sys2Proof Sys2Proof.Machine Sys2Proof.Proofs.AditsAndLode

/-! ### Values per band -/

@[simp] theorem get_upd {α : Type} (p : PerBand α) (b c : Band) (f : α → α) :
    (p.upd b f).get c = if c = b then f (p.get b) else p.get c := by
  cases b <;> cases c <;> rfl

/-- An update in one band of one entry, read back at an entry and a band. -/
theorem get_vgetD_vupdN {α : Type} {n : Nat} (v : Vector (PerBand α) n) (i j : Nat) (b c : Band) (f : α → α) (d : PerBand α) (h : i < n) :
    (vgetD (vupdN v i (fun p => p.upd b f)) j d).get c = if j = i ∧ c = b then f ((vgetD v i d).get b) else (vgetD v j d).get c := by
  rw [vgetD_vupdN _ _ _ _ _ h]
  by_cases hj : j = i
  · subst hj; simp
  · simp [hj]

@[simp] theorem eb_mapEb (n j : Nat) (b c : Band) (f : EbEntry → EbEntry) (s : State) (h : n < 96) :
    (s.mapEb n b f).eb j c = if j = n ∧ c = b then f (s.eb n b) else s.eb j c := get_vgetD_vupdN _ _ _ _ _ _ _ h

@[simp] theorem work_mapWork (n j : Nat) (b c : Band) (f : EbWork → EbWork) (s : State) (h : n < 96) :
    (s.mapWork n b f).work j c = if j = n ∧ c = b then f (s.work n b) else s.work j c := get_vgetD_vupdN _ _ _ _ _ _ _ h

@[simp] theorem eb_mapWork (n j : Nat) (b c : Band) (f : EbWork → EbWork) (s : State) : (s.mapWork n b f).eb j c = s.eb j c := rfl

@[simp] theorem work_mapEb (n j : Nat) (b c : Band) (f : EbEntry → EbEntry) (s : State) : (s.mapEb n b f).work j c = s.work j c := rfl

/-! ### Reports -/

@[simp] theorem report_arr (code sev ten unit : Nat) (body : List Byte) (s : State) :
    (s.report code sev ten unit body).arr = s.arr := by
  rcases report_cases code sev ten unit body s with ⟨-, h⟩ | ⟨-, h⟩ <;> simp [h]

@[simp] theorem eb_report (code sev ten unit : Nat) (body : List Byte) (s : State) (n : Nat) (b : Band) :
    (s.report code sev ten unit body).eb n b = s.eb n b := by simp [State.eb]

@[simp] theorem work_report (code sev ten unit : Nat) (body : List Byte) (s : State) (n : Nat) (b : Band) :
    (s.report code sev ten unit body).work n b = s.work n b := by simp [State.work]

@[simp] theorem nullSite_report (code sev ten unit : Nat) (body : List Byte) (s : State) (i : Nat) (b : Band) :
    (s.report code sev ten unit body).nullSite i b = s.nullSite i b := by simp [State.nullSite]

/-! ### The quarantine -/

/-- An element-band in quarantine, not yet rejected, that `QMAX` leaves unadmitted (05 R114). -/
def QuarantineDue (n : Nat) (b : Band) (s : State) : Prop :=
  (s.eb n b).ebstate = 1 ∧ !(s.work n b).rejected ∧ 1000 * s.arr.assay.params.qmax < (s.work n b).qclock ∧ !(s.admitConds n b).all (·)

theorem quarantineExpiry_early {el : Fin 96} {b : Band} {s : State} (h : ¬ QuarantineDue el.val b s) :
    exec (.evQuarantineExpiry el b) s = .next s :=
  congrArg Host.Outcome.next (if_neg h)

/-- The rejection notes its cause in the table and leaves every other element alone (05 R114). -/
theorem quarantineExpiry_rejects {el : Fin 96} {b : Band} {s : State} (h : QuarantineDue el.val b s) :
    Gives (.evQuarantineExpiry el b) s (fun t => (t.work el.val b).rejected = true ∧ (t.eb el.val b).ebstate = 1 ∧
      (t.eb el.val b).cause = s.rejectCause el.val b ∧ ∀ (m : Nat) (c : Band), m ≠ el.val → t.eb m c = s.eb m c) := by
  refine ⟨_, congrArg Host.Outcome.next (if_pos h), ?_, ?_, ?_, fun m c hm => ?_⟩
  · simp
  · simpa using h.1
  · simp
  · simp [hm]

/-! ### The sweep -/

@[simp] theorem leaveGroup_assay (i : Nat) (s : State) : (s.leaveGroup i).arr.assay = s.arr.assay := rfl

@[simp] theorem leaveGroup_fab (i : Nat) (s : State) : (s.leaveGroup i).fab = s.fab := rfl

/-- A site told to leave group 0 is told so in every band, and no other site is (04 R87). -/
theorem leave_leaveGroup (i j : Nat) (b : Band) (s : State) (h : i < 12) :
    vgetD ((s.leaveGroup i).cohOf b).leave j false = if j = i then true else vgetD (s.cohOf b).leave j false := by
  rw [← vgetD_vupdN _ _ _ (fun _ => true) _ h]
  cases b <;> rfl

@[simp] theorem foldl_leaveGroup_assay (l : List SweepSite) (s : State) :
    (l.foldl (fun t f => t.leaveGroup f.site) s).arr.assay = s.arr.assay := by
  induction l generalizing s with
  | nil => rfl
  | cons f l ih => rw [List.foldl_cons, ih, leaveGroup_assay]

@[simp] theorem foldl_leaveGroup_fab (l : List SweepSite) (s : State) :
    (l.foldl (fun t f => t.leaveGroup f.site) s).fab = s.fab := by
  induction l generalizing s with
  | nil => rfl
  | cons f l ih => rw [List.foldl_cons, ih, leaveGroup_fab]

theorem leave_foldl_leaveGroup (l : List SweepSite) (s : State) (j : Nat) (b : Band) (hl : ∀ f ∈ l, f.site < 12)
    (hj : (∃ f ∈ l, f.site = j) ∨ vgetD (s.cohOf b).leave j false = true) :
    vgetD ((l.foldl (fun t f => t.leaveGroup f.site) s).cohOf b).leave j false = true := by
  induction l generalizing s with
  | nil => simpa using hj
  | cons g l ih =>
    refine ih _ (fun f hf => hl f (List.mem_cons_of_mem _ hf)) ?_
    rw [leave_leaveGroup _ _ _ _ (hl g List.mem_cons_self)]
    by_cases hg : j = g.site
    · simp [hg]
    · simpa [hg, Ne.symm hg] using hj

/-- The sweep solves for sites of the array only. -/
theorem site_lt_of_mem_sweepFresh {s : State} {f : SweepSite} (h : f ∈ s.sweepFresh) : f.site < 12 := by
  obtain ⟨i, hi, rfl⟩ := List.mem_map.1 h
  exact List.mem_range.1 (List.mem_filter.1 hi).1

theorem endAct_arr {s : State} (h : NoQueue s) (f : Activity → Bool) (outcome : Nat) : (s.endAct f outcome).arr = s.arr := by
  unfold State.endAct
  split
  · rfl
  · rw [walkQueue_of_noQueue (by simpa [NoQueue, State.maintRecord] using h)]
    simp [State.maintRecord]

/-- A site without a conflict whose fresh solution waits has cause 3 (05 R119; that a conflict comes first is the model's choice, logs 20 and 53). -/
theorem scause_of_mem_sweepDiff {s : State} {f : SweepSite} (hf : f ∈ s.arr.assay.sweepDiff)
    (hc : vgetD s.arr.assay.conflict f.site false = false) :
    s.scause f.site = 3 := by
  have hany : s.arr.assay.sweepDiff.any (fun d => d.site == f.site) = true := List.any_eq_true.2 ⟨f, hf, by simp⟩
  simp [State.scause, hc, hany]

theorem sweepEnd_idle {s : State} (h : s.arr.assay.sweep = none) : exec (.evSweepEnd ()) s = .next s := by
  show execEvSweepEnd () s = _
  simp [execEvSweepEnd, h]

theorem sweepEnd_early {s : State} {t0 : Nat} (h : s.arr.assay.sweep = some t0) (ht : s.ms < t0 + 1000 * s.arr.assay.params.sweepT) :
    exec (.evSweepEnd ()) s = .next s := by
  show execEvSweepEnd () s = _
  simp [execEvSweepEnd, h, ht]

/-- The fresh solutions of a sweep that differ from the running table (05 R122). -/
def differing (s : State) : List SweepSite := s.sweepFresh.filter (fun f => (s.siteEntry f.site).differs f)

/-- The end of a sweep ends its activity, notes what differs and leaves the running table and its conflicts; the sites that differ leave group 0
(05 R122). -/
theorem sweepEnd_compares {s : State} {t0 : Nat} (hq : NoQueue s) (h : s.arr.assay.sweep = some t0)
    (ht : t0 + 1000 * s.arr.assay.params.sweepT ≤ s.ms) : Gives (.evSweepEnd ()) s (fun t =>
      t.arr.assay.sweep = none ∧ t.arr.assay.table = s.arr.assay.table ∧ t.arr.assay.conflict = s.arr.assay.conflict ∧
      (∀ f ∈ differing s, f ∈ t.arr.assay.sweepDiff) ∧
      ∀ f ∈ differing s, ∀ b : Band, vgetD (t.cohOf b).leave f.site false = true) := by
  refine ⟨_, rfl, ?_⟩
  simp only [h, if_neg (Nat.not_lt.2 ht), State.cohOf]
  rw [endAct_arr (noQueue_of_fab hq (by simp))]
  refine ⟨rfl, ?_, ?_, fun f hf => ?_, fun f hf b => ?_⟩
  · simp [State.mapAssay]
  · simp [State.mapAssay]
  · exact List.mem_append_right _ hf
  · exact leave_foldl_leaveGroup _ s f.site b (fun g hg => site_lt_of_mem_sweepFresh (List.mem_filter.1 hg).1) (.inl ⟨f, hf, rfl⟩)

/-! ### The interference state -/

@[simp] theorem nullSite_mapNull (i j : Nat) (b c : Band) (f : NullSite → NullSite) (s : State) (h : i < 12) :
    (s.mapNull i b f).nullSite j c = if j = i ∧ c = b then f (s.nullSite i b) else s.nullSite j c := get_vgetD_vupdN _ _ _ _ _ _ _ h

@[simp] theorem nullSite_owe (b c : Band) (macs i : Nat) (s : State) : (s.owe b macs).nullSite i c = s.nullSite i c := rfl

@[simp] theorem divide_due (k : Nat) (x : NullSite) : (x.divide k).due = x.due := rfl

theorem divide_nulls_length_le (k : Nat) (x : NullSite) : (x.divide k).nulls.length ≤ k := List.length_take_le ..

/-- Two states whose interference states differ by the calibration holds of one band only (05 R121). -/
structure HoldsOnly (b : Band) (s t : State) : Prop where
  nulls : ∀ j, (t.nullSite j b).nulls = (s.nullSite j b).nulls
  due : ∀ j, (t.nullSite j b).due = (s.nullSite j b).due
  others : ∀ j c, c ≠ b → t.nullSite j c = s.nullSite j c

theorem HoldsOnly.refl (b : Band) (s : State) : HoldsOnly b s s := ⟨fun _ => rfl, fun _ => rfl, fun _ _ _ => rfl⟩

theorem HoldsOnly.trans {b : Band} {s t u : State} (h : HoldsOnly b s t) (g : HoldsOnly b t u) : HoldsOnly b s u :=
  ⟨fun j => (g.nulls j).trans (h.nulls j), fun j => (g.due j).trans (h.due j), fun j c hc => (g.others j c hc).trans (h.others j c hc)⟩

/-- `FLT_JAM` reports and may hold a site's calibration; it moves no null and no survey (04 R97, 05 R121). -/
theorem holdsOnly_jam (i : Nat) (b : Band) (s : State) (h : i < 12) : HoldsOnly b s (s.jam i b) := by
  simp only [State.jam]
  split
  · constructor
    · intro j; rw [nullSite_mapNull _ _ _ _ _ _ h]; split <;> simp_all
    · intro j; rw [nullSite_mapNull _ _ _ _ _ _ h]; split <;> simp_all
    · intro j c hc; simp [h, hc]
  · constructor <;> simp

/-! ### Sharing out the nulls of a band -/

theorem sum_map_le_sum_map {f g : Nat → Nat} {l : List Nat} (h : ∀ i ∈ l, f i ≤ g i) : (l.map f).sum ≤ (l.map g).sum := by
  induction l with
  | nil => exact Nat.le_refl 0
  | cons i l ih =>
    rw [List.map_cons, List.map_cons, List.sum_cons, List.sum_cons]
    exact Nat.add_le_add (h i List.mem_cons_self) (ih (fun j hj => h j (List.mem_cons_of_mem _ hj)))

/-- Counts of nulls by site that keep the sites' limits and the band's (04 R94). -/
structure WithinLimits (room : Nat → Nat) (limit : Nat) (k : List Nat) : Prop where
  sites : k.length = 12
  site : ∀ i, k.getD i 0 ≤ room i
  band : k.sum ≤ limit

theorem sum_set_getD_succ_le (l : List Nat) (i : Nat) : (l.set i (l.getD i 0 + 1)).sum ≤ l.sum + 1 := by
  induction l generalizing i with
  | nil => simp
  | cons x l ih =>
    cases i with
    | zero => simp; omega
    | succ i => simpa [Nat.add_assoc] using ih i

theorem getD_set_le (l : List Nat) (i j v : Nat) : (l.set i v).getD j 0 ≤ if j = i then v else l.getD j 0 := by
  simp only [List.getD_eq_getElem?_getD, List.getElem?_set]
  by_cases hj : j = i
  · subst hj; by_cases hl : j < l.length <;> simp [hl]
  · simp [hj, Ne.symm hj]

theorem getD_replicate_zero (n i : Nat) : (List.replicate n 0).getD i 0 = 0 := by
  rw [List.getD_eq_getElem?_getD, List.getElem?_replicate]
  split <;> rfl

/-- One more null for a site that has room, in a band that has room, keeps the limits. -/
theorem WithinLimits.add {room : Nat → Nat} {limit : Nat} {k : List Nat} (h : WithinLimits room limit k) {i : Nat}
    (hi : k.getD i 0 < room i) (hk : k.sum < limit) : WithinLimits room limit (k.set i (k.getD i 0 + 1)) where
  sites := by rw [List.length_set]; exact h.sites
  site j := by
    refine Nat.le_trans (getD_set_le k i j _) ?_
    split
    · next hj => rw [hj]; exact hi
    · exact h.site j
  band := Nat.le_trans (sum_set_getD_succ_le k i) hk

/-- The shares of a band keep the limits of R94. -/
theorem withinLimits_shares (s : State) (b : Band) : WithinLimits (fun i => s.siteRoom i b) s.arr.nullParams.limit (s.shares b) := by
  have hzero : WithinLimits (fun i => s.siteRoom i b) s.arr.nullParams.limit (List.replicate 12 0) :=
    ⟨rfl, fun i => by rw [getD_replicate_zero]; exact Nat.zero_le _, by simp⟩
  refine List.foldlRecOn _ _ hzero (fun k hk x _ => ?_)
  split
  · next hx => exact hk.add hx.1 (List.sum_eq_foldl_nat ▸ hx.2)
  · exact hk

/-- Dividing the nulls of one band by counts `k` at a list of different sites, read back at a site and a band. -/
theorem nullSite_foldl_divide (k : Nat → Nat) (b c : Band) (j : Nat) (l : List Nat) (s : State) (hn : l.Nodup) (hl : ∀ i ∈ l, i < 12) :
    (l.foldl (fun t i => t.mapNull i b (NullSite.divide (k i))) s).nullSite j c =
      if j ∈ l ∧ c = b then (s.nullSite j c).divide (k j) else s.nullSite j c := by
  induction l generalizing s with
  | nil => simp
  | cons i l ih =>
    obtain ⟨hi, hn⟩ := List.nodup_cons.1 hn
    rw [List.foldl_cons, ih _ hn (fun x hx => hl x (List.mem_cons_of_mem _ hx)), nullSite_mapNull _ _ _ _ _ _ (hl i List.mem_cons_self)]
    by_cases hj : j = i
    · subst hj; by_cases hc : c = b <;> simp [hi, hc]
    · simp [hj]

theorem nullSite_allot (j : Nat) (b c : Band) (s : State) : (s.allot b).nullSite j c =
    if j < 12 ∧ c = b then (s.nullSite j c).divide ((s.shares b).getD j 0) else s.nullSite j c := by
  rw [State.allot, nullSite_foldl_divide _ _ _ _ _ _ List.nodup_range (fun i hi => List.mem_range.1 hi)]
  simp only [List.mem_range]

theorem allot_nulls_length_le {j : Nat} (b : Band) (s : State) (h : j < 12) :
    ((s.allot b).nullSite j b).nulls.length ≤ (s.shares b).getD j 0 := by
  rw [nullSite_allot, if_pos ⟨h, rfl⟩]
  exact divide_nulls_length_le ..

theorem allot_due (j : Nat) (b : Band) (s : State) : ((s.allot b).nullSite j b).due = (s.nullSite j b).due := by
  rw [nullSite_allot]; split <;> rfl

theorem allot_site_le {j : Nat} (b : Band) (s : State) (h : j < 12) : ((s.allot b).nullSite j b).nulls.length ≤ 8 :=
  calc _ ≤ (s.shares b).getD j 0 := allot_nulls_length_le b s h
    _ ≤ s.siteRoom j b := (withinLimits_shares s b).site j
    _ ≤ 8 := Nat.min_le_left ..

/-- The nulls of a band are at most `NULL_LIMIT` (04 R94). -/
theorem allot_band_le (b : Band) (s : State) :
    ((List.range 12).map (fun i => ((s.allot b).nullSite i b).nulls.length)).sum ≤ s.arr.nullParams.limit := by
  have hs := withinLimits_shares s b
  have each : (List.range 12).map (fun i => (s.shares b).getD i 0) = s.shares b :=
    List.ext_getElem (by simp [hs.sites]) (fun i _ hi => by simp [hi])
  calc _ ≤ ((List.range 12).map (fun i => (s.shares b).getD i 0)).sum :=
        sum_map_le_sum_map (fun i hi => allot_nulls_length_le b s (List.mem_range.1 hi))
    _ = (s.shares b).sum := by rw [each]
    _ ≤ s.arr.nullParams.limit := hs.band

/-! ### The survey -/

/-- A site and band after a survey and before its nulls are shared out: the signatures `l`, and the next survey after `NREF` epochs (04 R92). -/
def resurveyed (site : Nat) (b : Band) (l : List NullEntry) (s : State) : State :=
  s.mapNull site b (fun y => { y with nulls := l, spare := [], due := s.arr.nullParams.nref })

theorem nullSite_resurveyed {site : Nat} (h : site < 12) (j : Nat) (b c : Band) (l : List NullEntry) (s : State) :
    (resurveyed site b l s).nullSite j c = if j = site ∧ c = b then
      { s.nullSite site b with nulls := l, spare := [], due := s.arr.nullParams.nref } else s.nullSite j c := nullSite_mapNull _ _ _ _ _ _ h

/-- A survey shares out the band's nulls anew with the signatures it found; its reports add calibration holds only (04 R92–R94, R97). -/
theorem survey_holdsOnly (site : Nat) (b : Band) (s : State) :
    ∃ (macs : Nat) (l : List NullEntry), HoldsOnly b ((resurveyed site b l (s.owe b macs)).allot b) (s.survey site b) := by
  refine ⟨_, _, List.foldlRecOn _ _ (HoldsOnly.refl b _) (fun t ht i hi => ?_)⟩
  dsimp only
  split
  · exact ht.trans (holdsOnly_jam i b t (List.mem_range.1 hi))
  · exact ht

theorem interferenceSurvey_early {site : Fin 12} {b : Band} {s : State} (h : (s.nullSite site.val b).due ≠ 0) :
    exec (.evInterferenceSurvey site b ()) s = .next s :=
  congrArg Host.Outcome.next (if_neg h)

/-- A survey that is due falls due again after `NREF` epochs and keeps the limits of the site and of the band; other bands stay, and so do the
other sites' dates (04 R92, R94). -/
theorem interferenceSurvey_due {site : Fin 12} {b : Band} {s : State} (h : (s.nullSite site.val b).due = 0) :
    Gives (.evInterferenceSurvey site b ()) s (fun t =>
      (t.nullSite site.val b).due = s.arr.nullParams.nref ∧ (t.nullSite site.val b).nulls.length ≤ 8 ∧
      ((List.range 12).map (fun i => (t.nullSite i b).nulls.length)).sum ≤ s.arr.nullParams.limit ∧
      (∀ (j : Nat) (c : Band), c ≠ b → t.nullSite j c = s.nullSite j c) ∧
      ∀ j : Nat, j ≠ site.val → (t.nullSite j b).due = (s.nullSite j b).due) := by
  obtain ⟨macs, l, hs⟩ := survey_holdsOnly site.val b s
  refine ⟨_, congrArg Host.Outcome.next (if_pos h), ?_, ?_, ?_, fun j c hc => ?_, fun j hj => ?_⟩
  · rw [hs.due, allot_due, nullSite_resurveyed site.isLt, if_pos ⟨rfl, rfl⟩]; rfl
  · rw [hs.nulls]; exact allot_site_le b _ site.isLt
  · simp only [hs.nulls]; exact allot_band_le b _
  · rw [hs.others j c hc, nullSite_allot, if_neg (fun e => hc e.2), nullSite_resurveyed site.isLt, if_neg (fun e => hc e.2), nullSite_owe]
  · rw [hs.due, allot_due, nullSite_resurveyed site.isLt, if_neg (fun e => hj e.1), nullSite_owe]

/-! ### The statement -/

/-- Settles O32: a rejection touches one element-band, the end of a sweep moves no queue while no request waits, and a survey leaves every site
its share of the band's nulls, which keeps the limits of R94. -/
theorem quarantineSweepAndSurvey : Obligations.QuarantineSweepAndSurvey := by
  unfold Obligations.QuarantineSweepAndSurvey
  refine ⟨?_, fun t0 s hq hs => ⟨sweepEnd_early hs, fun ht => ?_⟩, fun s hs => sweepEnd_idle hs,
    fun site b s => ⟨interferenceSurvey_early, fun h => ?_⟩⟩
  · intro el b s n hst hrej
    refine ⟨fun hc => quarantineExpiry_early ?_, fun hc ha => quarantineExpiry_rejects ⟨hst, ?_, hc, ?_⟩⟩
    · rintro ⟨-, -, hlate, -⟩
      exact absurd hlate (Nat.not_lt.2 hc)
    · simp [n, hrej]
    · simp [n, ha]
  · obtain ⟨t, he, hend, htab, hconf, hdiff, hleave⟩ := sweepEnd_compares hq hs ht
    refine ⟨t, he, hend, htab, fun f hf hd => ?_⟩
    have hmem : f ∈ differing s := List.mem_filter.2 ⟨hf, hd⟩
    refine ⟨hdiff f hmem, fun hc => ?_, hleave f hmem⟩
    exact scause_of_mem_sweepDiff (hdiff f hmem) (by rw [hconf]; exact hc)
  · simpa only [List.sum_eq_foldl_nat] using interferenceSurvey_due h

end Sys2Proof.Proofs.Beams
end

section
/-! PROOFS. The assay fold (05 R105, R106, R111) does not take what the estimator gives. `State.refer old s` refers `s` and reads from `old` only
the phases before the epoch, but `State.foldEpoch` passes the folded state as `old` and the state before the fold as `s`: the result is the state
before the fold with its reference set, and the fold of the element-bands and the sites is lost. The lemmas say what the reference leaves of a
state; then come an epoch whose observations are discarded and the two states that refute the statement. -/

namespace Sys2Proof.Proofs.Assay

open Sys2Proof Sys2Proof.Machine Sys2Proof.Proofs.Beams

/-- What no step of a fold changes, the fold does not change. -/
theorem foldl_keeps {σ α β : Type} (P : σ → β) {f : σ → α → σ} {l : List α} (h : ∀ t, ∀ x ∈ l, P (f t x) = P t) (s : σ) :
    P (l.foldl f s) = P s :=
  List.foldlRecOn (motive := fun t => P t = P s) l f rfl (fun t ht x hx => (h t x hx).trans ht)

/-! ### What the reference leaves of a state -/

/-- The estimator's state and the gain of an element-band: two things that the estimator gives and the reference of R106 does not move. -/
def estAndGain (n : Nat) (b : Band) (s : State) : List Int × Int := (s.arr.assay.est, (s.eb n b).gain)

section
variable (n : Nat) (b : Band)

/-- An update of an entry that leaves its gain leaves every gain. -/
theorem estAndGain_mapEb {f : EbEntry → EbEntry} (hf : ∀ e, (f e).gain = e.gain) (i : Nat) (c : Band) (s : State) :
    estAndGain n b (s.mapEb i c f) = estAndGain n b s := by
  refine Prod.ext rfl ?_
  show ((s.mapEb i c f).eb n b).gain = (s.eb n b).gain
  by_cases hi : i < 96
  · rw [eb_mapEb _ _ _ _ _ _ hi]
    split
    · next h => rw [hf, h.1, h.2]
    · rfl
  · simp only [State.eb, State.mapEb, State.mapAssay, vupdN_outside _ _ _ (Nat.not_lt.1 hi)]

theorem estAndGain_shiftDelays (site : Nat) (c : Band) (d : Int) (s : State) :
    estAndGain n b (s.shiftDelays site c d) = estAndGain n b s := by
  unfold State.shiftDelays
  split
  · rfl
  · refine foldl_keeps (estAndGain n b) (fun t i _ => ?_) s
    split
    · exact estAndGain_mapEb n b (f := fun e => { e with dly := e.dly - d }) (fun _ => rfl) i c t
    · rfl

theorem estAndGain_zeroSum (site : Nat) (c : Band) (s : State) :
    estAndGain n b (s.zeroSum false c site) = estAndGain n b s := by
  rw [← estAndGain_shiftDelays n b site c (s.meanDelay site c) s]
  unfold State.zeroSum
  dsimp only
  split <;> rfl

theorem estAndGain_keepPhases (old : State) (c : Band) (s : State) :
    estAndGain n b (State.keepPhases old s c) = estAndGain n b s := by
  unfold State.keepPhases
  dsimp only
  split
  · rfl
  · split
    · rfl
    · refine foldl_keeps (estAndGain n b) (fun t i _ => ?_) s
      exact estAndGain_mapEb n b (f := fun e => { e with ph := bitsOf 16 (e.ph - _) }) (fun _ => rfl) i c t

/-- The reference moves delays, phases and clock offsets of the state that it refers. -/
theorem estAndGain_refer (old s : State) : estAndGain n b (State.refer old s) = estAndGain n b s := by
  have sites : ∀ (c : Band) (t : State), estAndGain n b ((List.range 12).foldl (State.zeroSum false c) t) = estAndGain n b t := fun c =>
    foldl_keeps (estAndGain n b) (fun t i _ => estAndGain_zeroSum n b i c t)
  rw [State.refer, foldl_keeps (estAndGain n b) (fun t c _ => estAndGain_keepPhases n b old c t),
    foldl_keeps (estAndGain n b) (fun t c _ => sites c t)]

theorem estAndGain_foldSweep (due : List HeldObs) (s : State) : estAndGain n b (s.foldSweep due) = estAndGain n b s := by
  unfold State.foldSweep
  split
  · rfl
  · dsimp only
    split <;> rfl

end

/-! ### An epoch with observations -/

/-- The epochs before this millisecond have been held for `AHOLD` (05 R105). -/
def foldLimit (s : State) : Nat := s.ms - 1000 * s.arr.assay.params.ahold + 1

/-- The held observations of those epochs. -/
def dueObs (s : State) : List HeldObs := s.arr.assay.held.filter (fun h => decide (h.epoch < foldLimit s))

/-- The fabric runs, and exactly the epoch whose turn it is has observations due, each with its sign and none of the sweep's own. -/
structure OneEpochDue (s : State) : Prop where
  started : 1000 * s.arr.assay.params.ahold ≤ s.ms
  up : s.fabricUp = true
  some_ : dueObs s ≠ []
  all : ∀ h ∈ dueObs s, h.epoch + 1 = foldLimit s ∧ h.sign.isSome = true ∧ h.extra = false
  turn : s.arr.assay.foldedTo = some (foldLimit s - 1)

/-- A list of one value, however often, has this one distinct element. -/
theorem nub_of_forall_eq {α : Type} [DecidableEq α] {e : α} {l : List α} (hl : l ≠ []) (h : ∀ x ∈ l, x = e) : nub l = [e] := by
  induction l with
  | nil => exact absurd rfl hl
  | cons x l ih =>
    obtain ⟨rfl, hr⟩ := List.forall_mem_cons.1 h
    by_cases hn : l = []
    · subst hn; rfl
    · rw [nub, ih hn hr]; simp

/-- The epochs before `limit` count as folded. -/
def foldedUpTo (limit : Nat) (s : State) : State := s.mapAssay (fun a => { a with foldedTo := some limit })

/-- The fold of the element-bands and sites of one epoch, before the reference (05 R111). -/
def folded (due : List HeldObs) (s : State) : State :=
  let est := Config.estimator s.arr.assay.est s.arr.assay.table due
  (List.range 12).foldl (State.foldSite est due 1) (allEbs.foldl (State.foldEb est due 1) (s.mapAssay (fun a => { a with est := est })))

/-- Observations of one epoch, all with their sign and none of the sweep's own: the reference is set in the state before their fold, and the fold
stands where `State.refer` expects the state before the epoch. -/
theorem foldEpoch_refers {due : List HeldObs} {s : State} {e : Nat} (hdue : due ≠ [])
    (hall : ∀ h ∈ due, h.epoch = e ∧ h.sign.isSome = true ∧ h.extra = false) (hto : s.arr.assay.foldedTo = some e) :
    s.foldEpoch due e = foldedUpTo (e + 1) ((State.refer (folded due s) s).foldSweep due) := by
  have hf : due.filter (fun h => h.epoch == e && h.sign.isSome) = due :=
    List.filter_eq_self.2 (fun h hh => by simp [(hall h hh).1, (hall h hh).2.1])
  have hx : due.filter (fun h => !h.extra) = due := List.filter_eq_self.2 (fun h hh => by simp [(hall h hh).2.2])
  have he : due.isEmpty = false := by simpa using hdue
  have hs : s.holdEpochs (e - s.arr.assay.foldedTo.getD e) = s := by simp [hto, State.holdEpochs]
  simp only [State.foldEpoch, hs, hf, hx, he, Bool.false_eq_true, if_false]
  rfl

/-- The state without the observations that are due. -/
def takeDue (s : State) : State := s.mapAssay (fun a => { a with held := a.held.filter (fun h => !decide (h.epoch < foldLimit s)) })

/-- The end of a fold: the epochs after the last one observed are held, and every epoch before the limit counts as folded. -/
def endFold (limit : Nat) (s : State) : State := foldedUpTo limit (s.holdEpochs (limit - s.arr.assay.foldedTo.getD limit)).dropAmbs

/-- After the last epoch nothing is left to hold. -/
theorem estAndGain_endFold (limit : Nat) (s : State) (n : Nat) (b : Band) :
    estAndGain n b (endFold limit (foldedUpTo limit s)) = estAndGain n b s := by
  have hto : (foldedUpTo limit s).arr.assay.foldedTo.getD limit = limit := rfl
  rw [endFold, hto, Nat.sub_self]
  rfl

/-- Where one epoch is due, the fold is that epoch's. -/
theorem assayFold_eq {s : State} (h : OneEpochDue s) : exec (.evAssayFold ()) s =
    .next (endFold (foldLimit s) ((takeDue s).foldEpoch (dueObs s) (foldLimit s - 1))) := by
  have hepochs : nub ((dueObs s).map (·.epoch)) = [foldLimit s - 1] := by
    refine nub_of_forall_eq (by simpa using h.some_) (fun e he => ?_)
    obtain ⟨x, hx, rfl⟩ := List.mem_map.1 he
    exact Nat.eq_sub_of_add_eq (h.all x hx).1
  have hlate : ¬ (s.ms < 1000 * s.arr.assay.params.ahold ∨ (!s.fabricUp) = true) := by simp [h.up, Nat.not_lt.2 h.started]
  have hrun : exec (.evAssayFold ()) s = .next (endFold (foldLimit s)
      ((sortBy (fun x => x) (nub ((dueObs s).map (·.epoch)))).foldl (State.foldEpoch (dueObs s)) (takeDue s))) :=
    congrArg Host.Outcome.next (if_neg hlate)
  rw [hrun, hepochs, show sortBy (fun x => x) [foldLimit s - 1] = [foldLimit s - 1] from rfl, List.foldl_cons, List.foldl_nil]

/-- Where one epoch is due, the fold leaves the estimator's state and every gain as they were, whatever the observations say. -/
theorem assayFold_discards {s t : State} (h : OneEpochDue s) (he : exec (.evAssayFold ()) s = .next t) (n : Nat) (b : Band) :
    estAndGain n b t = estAndGain n b s := by
  have hfold := foldEpoch_refers (s := takeDue s) h.some_
    (fun x hx => ⟨Nat.eq_sub_of_add_eq (h.all x hx).1, (h.all x hx).2⟩) h.turn
  have hsucc : foldLimit s - 1 + 1 = foldLimit s := Nat.sub_add_cancel (Nat.le_add_left ..)
  rw [assayFold_eq h, hfold, hsucc] at he
  let referred := State.refer (folded (dueObs s) (takeDue s)) (takeDue s)
  calc estAndGain n b t
      = estAndGain n b (endFold (foldLimit s) (foldedUpTo (foldLimit s) (referred.foldSweep (dueObs s)))) :=
        congrArg (estAndGain n b) (Host.Outcome.next.inj he).symm
    _ = estAndGain n b (referred.foldSweep (dueObs s)) := estAndGain_endFold ..
    _ = estAndGain n b referred := estAndGain_foldSweep ..
    _ = estAndGain n b (takeDue s) := estAndGain_refer ..

/-- With `assayFold_discards` the statement makes the estimator's gain in the state before the fold the one that the table holds, for every observed
element-band. -/
theorem gain_of_statement (h : Obligations.AssayFoldsPublishesAndSaves) {s : State} (hd : OneEpochDue s) {n : Fin 96} {b : Band}
    (hf : s.frozen (s.siteOf n.val) b = false) (ho : obsOf (dueObs s) n.val b ≠ []) :
    (Config.estimate s.arr.assay.est (.gain n.val b)).1 = (s.eb n.val b).gain := by
  obtain ⟨hfold, -⟩ := h
  obtain ⟨t, he, -, hest, -, hvals, -⟩ := ((hfold s).2 hd.started hd.up).2 hd.some_ hd.all hd.turn
  obtain ⟨hsame, hgain⟩ := Prod.mk.inj (assayFold_discards hd he n.val b)
  rw [← hgain, (hvals n b hf ho).1, ← hest, hsame]

/-! ### The counterexample -/

/-- An observation of E0 in band U in ms 0. -/
def obsOfE0 : HeldObs :=
  { sigid := 0x0105, glok := 0, ch := 0, band := .u, car := 0, epoch := 0, gen := 0, sign := some 1, signSeq := 0, extra := false, data := [(0, 5, 0)] }

/-- A state in RUN at 2 s that holds this observation, with the gain `g` in every entry of band U of the table. -/
def withGain (g : Int) : State :=
  { boo := { dstate := .run }, clk := { runs := true, tick := 2000 * epochTicks }
    arr := { assay := { held := [obsOfE0], foldedTo := some 0, table := { ebs := Vector.replicate 96 ⟨{ gain := g }, {}, {}⟩ } } } }

theorem foldLimit_withGain (g : Int) : foldLimit (withGain g) = 1 := by
  show 2000 * epochTicks / epochTicks - 2000 + 1 = 1
  decide

theorem dueObs_withGain (g : Int) : dueObs (withGain g) = [obsOfE0] := by
  rw [dueObs, foldLimit_withGain]; rfl

theorem est_withGain (g : Int) : (withGain g).arr.assay.est = [] := rfl

theorem eb_withGain (g : Int) : (withGain g).eb 0 .u = { gain := g } := by
  simp [State.eb, withGain, vgetD, PerBand.get]

theorem oneEpochDue_withGain (g : Int) : OneEpochDue (withGain g) where
  started := by
    show 2000 ≤ 2000 * epochTicks / epochTicks
    decide
  up := rfl
  some_ := by simp [dueObs_withGain]
  all := by simp [dueObs_withGain, foldLimit_withGain, obsOfE0]
  turn := by rw [foldLimit_withGain]; rfl

theorem frozen_withGain (g : Int) : (withGain g).frozen ((withGain g).siteOf 0) .u = false := by
  generalize (withGain g).siteOf 0 = i
  simp only [State.frozen, State.nullSite, withGain, vgetD, Vector.getElem_ofFn]
  split <;> rfl

/-- Refutes O31: where observations are due, `foldEpoch` passes the folded state to `State.refer` as the state before the epoch, so that the estimator's
state and every gain stay. Of two states whose tables differ in a gain the statement would have the estimator give both gains for one state. -/
theorem not_assayFoldsPublishesAndSaves : ¬ Obligations.AssayFoldsPublishesAndSaves := by
  intro h
  have gain (g : Int) : (Config.estimate [] (.gain 0 .u)).1 = g := by
    have hobs : obsOf (dueObs (withGain g)) 0 .u ≠ [] := by rw [dueObs_withGain]; decide
    simpa [eb_withGain, est_withGain] using gain_of_statement h (oneEpochDue_withGain g) (n := 0) (frozen_withGain g) hobs
  exact absurd ((gain 0).symm.trans (gain 100)) (by decide)

end Sys2Proof.Proofs.Assay
end

section
/-! PROOFS. Channel timeouts and the check of the code library (06 R128, R146, channel states): what a timeout does to its channel, and what a failed
check leaves of every channel. -/

namespace Sys2Proof.Proofs.Channels

open Sys2Proof Sys2Proof.Machine

/-! ### Reports -/

@[simp] theorem report_trk (code sev ten unit : Nat) (body : List Byte) (s : State) :
    (s.report code sev ten unit body).trk = s.trk := by
  rcases report_cases code sev ten unit body s with ⟨-, h⟩ | ⟨-, h⟩ <;> simp [h]

/-! ### Timeouts -/

/-- A change of a channel that the device has sets the channel's place. -/
theorem mapChan_eq_set (ch : Fin 384) (f : ChanState → ChanState) (s : State) :
    s.mapChan ch.val f = { s with trk := { s.trk with ch := s.trk.ch.set ch (f (s.chan ch.val)) } } := by
  simp only [State.mapChan, State.chan, vupdN, vgetD, dif_pos ch.isLt]

/-- A channel of this state has been in it for its time. -/
def TimedOut (st : ChState) (limit : Nat) (c : ChanState) : Prop := c.st = st ∧ limit ≤ c.cage

theorem pullinTimeout_lost {ch : Fin 384} {s : State} (h : TimedOut .pullin 2000 (s.chan ch.val)) :
    exec (.evPullinTimeout ch) s = .next (s.mapChan ch.val (ChanState.enter .lost)) :=
  congrArg Host.Outcome.next (if_pos h)

theorem pullinTimeout_early {ch : Fin 384} {s : State} (h : ¬ TimedOut .pullin 2000 (s.chan ch.val)) :
    exec (.evPullinTimeout ch) s = .next s :=
  congrArg Host.Outcome.next (if_neg h)

theorem coastTimeout_lost {ch : Fin 384} {s : State} (h : TimedOut .coast (s.chan ch.val).loop.coastT (s.chan ch.val)) :
    exec (.evCoastTimeout ch) s = .next (s.mapChan ch.val (ChanState.enter .lost)) :=
  congrArg Host.Outcome.next (if_pos h)

theorem coastTimeout_early {ch : Fin 384} {s : State} (h : ¬ TimedOut .coast (s.chan ch.val).loop.coastT (s.chan ch.val)) :
    exec (.evCoastTimeout ch) s = .next s :=
  congrArg Host.Outcome.next (if_neg h)

theorem not_timedOut {st : ChState} {limit : Nat} {c : ChanState} (h : c.cage < limit) : ¬ TimedOut st limit c :=
  fun ⟨_, hl⟩ => Nat.not_le.2 h hl

/-! ### The code library -/

/-- The loaded copy with the errors that it has taken since the last command, before its check. -/
def takeErrors (flips : List (Nat × Byte)) (s : State) : State := { s with trk := { s.trk with library := upset s.trk.library flips } }

/-- The copy passes its check. -/
def passCheck (s : State) : State := { s with trk := { s.trk with libChecked := s.ms } }

/-- A failed copy is the image's again, and the channel-epochs that drew on it are void (06 R128). -/
def reloadLibrary (s : State) : State :=
  { s with trk := { s.trk with library := [], libChecked := s.ms, ch := s.trk.ch.map ChanState.libraryFailed } }

/-- 10 s have passed since the last check, and the Overman runs. -/
def CheckDue (s : State) : Prop := s.trk.libChecked + 10000 ≤ s.ms ∧ s.awake = true

section
variable {flips : List (Nat × Byte)} {s : State}

theorem codeLibraryCheck_early (h : s.ms < s.trk.libChecked + 10000 ∨ s.awake = false) :
    exec (.evCodeLibraryCheck flips) s = .next (takeErrors flips s) :=
  congrArg Host.Outcome.next (if_pos h)

theorem checkDue_iff : CheckDue s ↔ ¬ (s.ms < s.trk.libChecked + 10000 ∨ s.awake = false) := by simp [CheckDue]

theorem codeLibraryCheck_passed (h : CheckDue s) (hc : libraryCrc (upset s.trk.library flips) = libraryCrc []) :
    exec (.evCodeLibraryCheck flips) s = .next (passCheck (takeErrors flips s)) :=
  congrArg Host.Outcome.next ((if_neg (checkDue_iff.1 h)).trans (if_pos hc))

theorem codeLibraryCheck_failed (h : CheckDue s) (hc : libraryCrc (upset s.trk.library flips) ≠ libraryCrc []) :
    exec (.evCodeLibraryCheck flips) s = .next ((reloadLibrary s).report 0x1501 2 0xFF 0xFFFF (Config.encodeFields 0x1501 [2])) :=
  congrArg Host.Outcome.next ((if_neg (checkDue_iff.1 h)).trans (if_neg hc))

end

theorem libraryFailed_of_not_drew {c : ChanState} (h : c.drewLibrary = false) : c.libraryFailed = c := by
  simp [ChanState.libraryFailed, h]

/-- Both result entries of a channel that drew on the failed copy are void and hold no result. -/
theorem libraryFailed_of_drew {c : ChanState} (h : c.drewLibrary = true) :
    c.libraryFailed.voided = true ∧ ∀ b : Fin 2, c.libraryFailed.entry[b].void = true ∧ c.libraryFailed.entry[b].valid = false := by
  simp [ChanState.libraryFailed, h]

theorem reloadLibrary_ch (s : State) (ch : Fin 384) : (reloadLibrary s).trk.ch[ch] = (s.trk.ch[ch]).libraryFailed := by
  simp [reloadLibrary]

/-! ### The statement -/

/-- Settles O33: the timeouts by the age of the channel's state, the library check by its time and the CRC of the copy. -/
theorem channelTimeoutsAndTheCodeLibrary : Obligations.ChannelTimeoutsAndTheCodeLibrary := by
  unfold Obligations.ChannelTimeoutsAndTheCodeLibrary
  refine ⟨fun ch s => ⟨fun hst hage => ?_, fun _ hage => pullinTimeout_early (not_timedOut hage), fun hst hage => ?_,
    fun _ hage => coastTimeout_early (not_timedOut hage)⟩, fun flips s => ⟨codeLibraryCheck_early, fun hms hup =>
    ⟨codeLibraryCheck_passed ⟨hms, hup⟩, fun hc => ⟨_, codeLibraryCheck_failed ⟨hms, hup⟩ hc, ?_⟩⟩⟩⟩
  · rw [pullinTimeout_lost ⟨hst, hage⟩, mapChan_eq_set]
    rfl
  · rw [coastTimeout_lost ⟨hst, hage⟩, mapChan_eq_set]
    rfl
  · simp only [report_trk, reloadLibrary_ch]
    exact ⟨rfl, rfl, fun ch => ⟨libraryFailed_of_not_drew, libraryFailed_of_drew⟩⟩

end Sys2Proof.Proofs.Channels
end

section
/-! PROOFS. The deputy's loop update (16 R418, 06 R138–R141). The runtime's work on a channel is split in what the loop reads and writes of it, its
`LoopPart`, and the rest: taking symbols and messages, storing the record and committing the update leave the first alone. The lemmas follow the
work: a dump joins the sums, the record and the filters take it, the record is stored, the rates are committed; then comes the walk over the slots. -/

namespace Sys2Proof.Proofs.DeputyLoop

open Sys2Proof Sys2Proof.Machine Sys2Proof.Proofs.AditsAndLode Sys2Proof.Proofs.Assay Sys2Proof.Proofs.Channels

/-! ### What the loop reads and writes of a channel -/

/-- A channel's record, loop state, state, kernel of the epoch just closed, and place at the deputies. -/
structure LoopPart where
  disc : DiscRec
  loops : LoopState
  st : ChState
  kernelOld : Option (Nat × Nat)
  bound : Bool
  dep : Nat
  slot : Nat

/-- The part of a channel that the loop works on. -/
def loopPart (c : ChanState) : LoopPart :=
  { disc := c.disc, loops := c.loops, st := c.st, kernelOld := c.kernelOld, bound := c.bound, dep := c.dep, slot := c.slot }

/-- Time, fabric, cores, one channel's loop part and all other channels: what the work on that channel's symbols and update registers leaves alone. -/
structure LoopView (n : Nat) where
  clk : ClockState
  fab : FabricState
  cor : CoresState
  own : LoopPart
  others : { j : Nat // j ≠ n } → ChanState

/-- The view of a state from a channel. -/
def loopView (n : Nat) (s : State) : LoopView n :=
  { clk := s.clk, fab := s.fab, cor := s.cor, own := loopPart (s.chan n), others := fun j => s.chan j }

section
variable {n : Nat}

/-- States with one view have every other channel in common. -/
theorem chan_of_loopView {s t : State} (h : loopView n t = loopView n s) {j : Nat} (hj : j ≠ n) : t.chan j = s.chan j :=
  congrFun (congrArg LoopView.others h) ⟨j, hj⟩

theorem loopPart_of_loopView {s t : State} (h : loopView n t = loopView n s) : loopPart (t.chan n) = loopPart (s.chan n) :=
  congrArg LoopView.own h

/-- A change that leaves the channel's loop part leaves the view. -/
theorem loopView_mapChan (hn : n < 384) {f : ChanState → ChanState} (hf : ∀ c, loopPart (f c) = loopPart c) (s : State) :
    loopView n (s.mapChan n f) = loopView n s := by
  simp only [loopView, mapChan_keeps, chan_mapChan _ _ _ _ hn, if_true, hf, LoopView.mk.injEq, true_and]
  exact funext fun j => if_neg j.property

/-- A change of other parts than time, fabric, cores and channels leaves the view. -/
theorem loopView_congr {s t : State} (hclk : t.clk = s.clk) (hfab : t.fab = s.fab) (hcor : t.cor = s.cor) (hch : t.trk.ch = s.trk.ch) :
    loopView n t = loopView n s := by
  simp only [loopView, State.chan, hclk, hfab, hcor, hch]

/-! ### Symbols and messages (06 R148, R149) -/

theorem report_clk (code sev ten unit : Nat) (body : List Byte) (s : State) : (s.report code sev ten unit body).clk = s.clk := by
  rcases report_cases code sev ten unit body s with ⟨-, h⟩ | ⟨-, h⟩ <;> simp [h]

theorem report_cor (code sev ten unit : Nat) (body : List Byte) (s : State) : (s.report code sev ten unit body).cor = s.cor := by
  rcases report_cases code sev ten unit body s with ⟨-, h⟩ | ⟨-, h⟩ <;> simp [h]

theorem loopView_report (code sev ten unit : Nat) (body : List Byte) (s : State) :
    loopView n (s.report code sev ten unit body) = loopView n s :=
  loopView_congr (report_clk ..) (report_fab ..) (report_cor ..) (by rw [report_trk])

/-- A suspicion joins the list of suspicions, drops held observations and is reported (10 R249). -/
theorem loopView_addSuspicion (x : Suspicion) (f : SpoofFig) (s : State) : loopView n (s.addSuspicion x f) = loopView n s := by
  unfold State.addSuspicion
  split
  · rfl
  · exact loopView_report ..

theorem loopView_osnmaItem (i : NavItem) (s : State) : loopView n (s.osnmaItem i) = loopView n s := by
  cases i with
  | osnma st =>
    simp only [State.osnmaItem]
    split
    · exact loopView_addSuspicion ..
    · rfl
  | tagFail sat => exact loopView_addSuspicion ..
  | _ => rfl

/-- A message gives the Overman what it decodes, and the channel its slot or its frame. -/
theorem loopView_navItem (hn : n < 384) (s : State) (i : NavItem) : loopView n (s.navItem n i) = loopView n s := by
  have osnma (j : NavItem) : loopView n (if s.osnmaRuns then s.osnmaItem j else s) = loopView n s := by
    split
    · exact loopView_osnmaItem ..
    · rfl
  cases i with
  | eph | alm | utc => rfl
  | slot g => exact loopView_mapChan hn (fun c => by split <;> rfl) s
  | frame tow => exact loopView_mapChan hn (fun c => by split <;> rfl) s
  | osnma | auth | tagFail | authUtc => exact osnma _

theorem loopView_symbol (hn : n < 384) (v : Int) (seq : Nat) (s : State) : loopView n (s.symbol n v seq) = loopView n s := by
  have kept (l : List (Int × Nat)) : loopView n (s.mapChan n (fun c => { c with symbols := l })) = loopView n s :=
    loopView_mapChan (f := fun c => { c with symbols := l }) hn (fun _ => rfl) s
  unfold State.symbol
  dsimp only
  split
  · exact (foldl_keeps (loopView n) (fun t i _ => loopView_navItem hn t i) _).trans (kept _)
  · exact kept _

theorem loopPart_polarity (costas : Bool) (comp : Nat) (c : ChanState) : loopPart (c.polarity costas comp) = loopPart c := by
  unfold ChanState.polarity
  split <;> rfl

end

/-! ### A dump in `PULLIN` (06 R140, R141) -/

/-- What the work on a dump has left of a channel: the dump heads the averages, the record is that of the sums held, at the rates in force in the
channel before, and the filters have given rates. -/
structure DumpWorked (t : SigType) (e : ChEntry) (c : ChanState) (p : LoopPart) : Prop where
  figs : p.loops.figs = ({ prompt := e.armSum 0, noise := e.noise c.before.arms } :: c.loops.figs).take 100
  cn0 : p.disc.cn0 = p.loops.cn0
  lock : p.disc.lock = p.loops.lock e.dumpseq
  dph : p.disc.dph = phaseError (c.before.costas t) e.dumpseq p.loops.sum
  crate : p.disc.crateIn = c.nco.crate
  krate : p.disc.krateIn = c.nco.krate
  filtered : p.loops.out.isSome = true
  running : p.st ≠ .coast
  kernelOld : p.kernelOld = c.kernelOld
  bound : p.bound = c.bound
  dep : p.dep = c.dep
  slot : p.slot = c.slot

/-- The channel after the demodulator, the coherent sum and the averages have taken a dump. -/
def takeDump (t : SigType) (e : ChEntry) (c : ChanState) : ChanState :=
  let ds := dataSig c.sigid t
  let c1 := { c with demod := match dataArm t c.before.arms with | some i => c.demod.take ds.1 (e.armSum i) e.dumpseq | none => c.demod }
  { c1 with
    demod := { c1.demod with sign := some (if (e.armSum 0).1 < 0 then -1 else 1, e.dumpseq) }
    bitsync := c1.demod.edge.isSome
    loops := (if c1.voids = 0 then c1.loops else c1.loops.gap).take (c1.ncoh t) (c.before.costas t && c1.demod.begins ds.2 e.dumpseq)
      { prompt := e.armSum 0, noise := e.noise c.before.arms } }

/-- The channel as its record finds it: after secondary sync and the multipath fit. -/
def beforeRecord (t : SigType) (e : ChEntry) (c : ChanState) : ChanState := ((takeDump t e c).findSecondary t e).1.multipath c.before e

/-- The state after the record and the filters, before the symbols. -/
def recordDump (n : Nat) (t : SigType) (e : ChEntry) (s : State) : State :=
  let s1 := s.mapChan n (fun _ => beforeRecord t e (s.chan n))
  s1.mapChan n (fun c => (({ c with disc := s1.record n t e }).afterDump e.empty).filtered t)

/-- A dump joins the averages, also after a gap. -/
theorem takeDump_figs (t : SigType) (e : ChEntry) (c : ChanState) :
    (takeDump t e c).loops.figs = ({ prompt := e.armSum 0, noise := e.noise c.before.arms } :: c.loops.figs).take 100 := by
  show List.take 100 (_ :: LoopState.figs (if c.voids = 0 then c.loops else c.loops.gap)) = _
  split <;> rfl

/-- Secondary sync sets its flag only. -/
theorem findSecondary_sets (t : SigType) (e : ChEntry) (c : ChanState) :
    (c.findSecondary t e).1 = c ∨ (c.findSecondary t e).1 = { c with secsync := true } := by
  unfold ChanState.findSecondary
  split
  · exact .inl rfl
  · split
    · exact .inl rfl
    · exact .inr rfl

/-- The multipath fit writes its own sums and its part of the record. -/
theorem multipath_sets (x : ChSet) (e : ChEntry) (c : ChanState) : ∃ sums dumps dly amp, c.multipath x e =
    { c with loops := { c.loops with mpSums := sums, mpDumps := dumps }, disc := { c.disc with mpdly := dly, mpamp := amp } } := by
  unfold ChanState.multipath
  split
  · exact ⟨_, _, _, _, rfl⟩
  · dsimp only
    split
    · exact ⟨_, _, _, _, rfl⟩
    · exact ⟨_, _, _, _, rfl⟩

/-- Up to its record a dump changes demodulation, sync flags, loop state and record of the channel. -/
theorem beforeRecord_sets (t : SigType) (e : ChEntry) (c : ChanState) : ∃ demod bitsync secsync loops disc,
    beforeRecord t e c = { c with demod := demod, bitsync := bitsync, secsync := secsync, loops := loops, disc := disc } ∧
    loops.figs = ({ prompt := e.armSum 0, noise := e.noise c.before.arms } :: c.loops.figs).take 100 := by
  obtain ⟨sums, dumps, dly, amp, hm⟩ := multipath_sets c.before e ((takeDump t e c).findSecondary t e).1
  rw [beforeRecord, hm]
  rcases findSecondary_sets t e (takeDump t e c) with h | h
  · rw [h]
    exact ⟨_, _, _, _, _, rfl, takeDump_figs t e c⟩
  · rw [h]
    exact ⟨_, _, _, _, _, rfl, takeDump_figs t e c⟩

/-- The channel states table moves nothing of the loop part but the state; out of `PULLIN` it leads to `TRACK` only. -/
theorem afterDump_pullin {c : ChanState} (h : c.st = .pullin) (empty : Bool) :
    ∃ st, st ≠ .coast ∧ loopPart (c.afterDump empty) = { loopPart c with st := st } := by
  unfold ChanState.afterDump
  simp only [h]
  split
  · exact ⟨.track, by decide, rfl⟩
  · exact ⟨.pullin, by decide, by simp [loopPart, h]⟩

/-- The filters write their own states and their output. -/
theorem filtered_loopPart (t : SigType) (c : ChanState) : ∃ carrier code out,
    loopPart (c.filtered t) = { loopPart c with loops := { c.loops with carrier := carrier, code := code, out := some out } } :=
  ⟨_, _, _, rfl⟩

/-- From the record to the filters' output, a dump in `PULLIN` changes the state and what the filters write. -/
theorem filtered_afterDump_pullin {c : ChanState} (h : c.st = .pullin) (empty : Bool) (t : SigType) : ∃ st carrier code out, st ≠ .coast ∧
    loopPart ((c.afterDump empty).filtered t) =
      { loopPart c with st := st, loops := { c.loops with carrier := carrier, code := code, out := some out } } := by
  obtain ⟨st, hne, ha⟩ := afterDump_pullin h empty
  obtain ⟨carrier, code, out, hf⟩ := filtered_loopPart t (c.afterDump empty)
  have hloops : (c.afterDump empty).loops = c.loops := congrArg LoopPart.loops ha
  exact ⟨st, carrier, code, out, hne, by rw [hf, ha, hloops]⟩

section
variable {n : Nat} {t : SigType} {e : ChEntry} {s : State}

/-- The record of a dump in `PULLIN` holds the figures of the sums and averages that the dump has joined. -/
theorem dumpWorked_recordDump (hn : n < 384) (hst : (s.chan n).st = .pullin) :
    DumpWorked t e (s.chan n) (loopPart ((recordDump n t e s).chan n)) := by
  obtain ⟨demod, bitsync, secsync, loops, disc, hb, hfigs⟩ := beforeRecord_sets t e (s.chan n)
  let s1 := s.mapChan n (fun _ => beforeRecord t e (s.chan n))
  have h1 : s1.chan n = beforeRecord t e (s.chan n) := by simp [s1, hn]
  have h2 : (recordDump n t e s).chan n = (({ s1.chan n with disc := s1.record n t e }).afterDump e.empty).filtered t := by
    simp [recordDump, s1, hn]
  obtain ⟨st, carrier, code, out, hne, hf⟩ :=
    filtered_afterDump_pullin (c := { s1.chan n with disc := s1.record n t e }) (by simp [h1, hb, hst]) e.empty t
  have hp : loopPart ((recordDump n t e s).chan n) = { loopPart (s1.chan n) with
      disc := s1.record n t e, loops := { (s1.chan n).loops with carrier := carrier, code := code, out := some out }, st := st } :=
    (congrArg loopPart h2).trans hf
  have hc : s1.chan n = _ := h1.trans hb
  rw [hp]
  exact {
    figs := by rw [hc]; exact hfigs
    cn0 := rfl
    lock := rfl
    dph := by
      show phaseError ((s1.chan n).before.costas t) e.dumpseq (s1.chan n).loops.sum = _
      rw [hc]
    crate := by show (s1.chan n).nco.crate = _; rw [hc]
    krate := by show (s1.chan n).nco.krate = _; rw [hc]
    filtered := rfl
    running := hne
    kernelOld := by rw [hc]; rfl
    bound := by rw [hc]; rfl
    dep := by rw [hc]; rfl
    slot := by rw [hc]; rfl }

/-- The symbols and messages of the dump, and the carrier's polarity, leave what the record and the filters have written. -/
theorem loopView_workDump (hn : n < 384) : loopView n (s.workDump n t e).1 = loopView n (recordDump n t e s) := by
  unfold State.workDump
  dsimp only
  rw [loopView_mapChan hn (loopPart_polarity _ _)]
  split
  · exact loopView_symbol hn _ _ _
  · rfl

end

/-! ### The record is stored and the rates are committed (06 R139, 16 R418) -/

/-- The update of a channel as `COMMIT` stages it in time. -/
def committed (o : LoopOut) (sec : Option Nat) (c : ChanState) : ChanState :=
  let u := { c.upd with
    uCrate := o.crate % 2 ^ 48, uKrate := o.krate % 2 ^ 48, uCstep := o.cstep.getD c.upd.uCstep, uKstep := o.kstep.getD c.upd.uKstep
    uSec := (sec.map (· % 2 ^ 14)).getD c.upd.uSec }
  let ctrl := (w24 (1 + 2 * bbool o.cstep.isSome + 4 * bbool o.kstep.isSome + 16 * bbool sec.isSome)).toNat % 32
  { c with staged := some (u.take ctrl), upd := { u with uCtrl := 0, pending := true, late := false } }

theorem mapChan_mapChan (n : Nat) (f g : ChanState → ChanState) (s : State) : (s.mapChan n f).mapChan n g = s.mapChan n (g ∘ f) := by
  by_cases h : n < 384 <;> simp [State.mapChan, vupdN, h]

/-- The runtime's control word always carries `COMMIT`. -/
theorem bit_commit (x y z : Bool) : bit ((w24 (1 + 2 * bbool x + 4 * bbool y + 16 * bbool z)).toNat % 32) 0 = true := by
  revert x y z
  decide

theorem writeCtrl_commits {s : State} {v : Word24} (hd : s.clk.tick % epochTicks ≤ d2Ticks) (hv : bit (v.toNat % 32) 0 = true) (n : Nat) :
    s.writeCtrl n v = s.mapChan n (fun c =>
      { c with staged := some (c.upd.take (v.toNat % 32)), upd := { c.upd with uCtrl := 0, pending := true, late := false } }) :=
  (if_pos hv).trans (if_pos hd)

/-- By D2 the loop's output is staged. -/
theorem commitLoop_inTime {s : State} (hd : s.clk.tick % epochTicks ≤ d2Ticks) (n : Nat) (o : LoopOut) (sec : Option Nat) :
    s.commitLoop n o sec = s.mapChan n (committed o sec) := by
  unfold State.commitLoop
  dsimp only
  rw [writeCtrl_commits (s := s.mapChan n _) hd (bit_commit ..), mapChan_mapChan]
  rfl

/-- The record of channel `n` stands in the data memory of a core, at the place of a local slot. -/
def storeRecord (core : Fin 19) (slot n : Nat) (s : State) : State :=
  s.setCore core { s.cor.core[core] with
    dmem := swrites 0 s.cor.core[core].dmem (0x4000 + 0x10 * slot) (s.chan n).disc.words }

/-- In `TRACK` the rates that are written are kept for `COAST` (06 R146). -/
def keepRates (n : Nat) (o : LoopOut) (s : State) : State :=
  if (s.chan n).st = .track then s.mapChan n (fun c => { c with trackRates := some (o.crate, o.krate) }) else s

theorem loopView_keepRates {n : Nat} (hn : n < 384) (o : LoopOut) (s : State) : loopView n (keepRates n o s) = loopView n s := by
  unfold keepRates
  split
  · exact loopView_mapChan (f := fun c => { c with trackRates := some (o.crate, o.krate) }) hn (fun _ => rfl) s
  · rfl

theorem kernelOut_of_none {n : Nat} {s : State} (h : (s.chan n).kernelOld = none) (ld slot : Nat) (core : Fin 19) (t : SigType) (std : LoopOut) :
    s.kernelOut ld n slot core t std = (std, s) := by
  simp [State.kernelOut, h]

/-- The rates that a slot's work ends with: the last ones of `TRACK` while the channel coasts (06 R146), and the loop's otherwise. -/
def ratesToWrite (n : Nat) (r : LoopOut × State) : LoopOut :=
  match (r.2.chan n).st, (r.2.chan n).trackRates with
  | .coast, some x => { crate := x.1, krate := x.2 }
  | _, _ => r.1

theorem ratesToWrite_of_not_coast {n : Nat} {r : LoopOut × State} (h : (r.2.chan n).st ≠ .coast) : ratesToWrite n r = r.1 := by
  unfold ratesToWrite
  split
  · next hst _ => exact absurd hst h
  · rfl

/-- The end of a slot's work, once the kernel has answered. -/
def writeRates (n : Nat) (sec : Option Nat) (r : LoopOut × State) : State :=
  (keepRates n (ratesToWrite n r) r.2).commitLoop n (ratesToWrite n r) sec

/-- The local slot of a core holds channel `n`, in `PULLIN` without a kernel, whose entry `e` brings a dump of type `t` before D2. -/
structure HoldsDump (core : Fin 19) (slot n : Nat) (t : SigType) (e : ChEntry) (s : State) : Prop where
  lt : n < 384
  held : s.chanAt core.val slot = some n
  entry : vgetD (s.chan n).entry s.readBank {} = e
  type_ : typeOf (s.chan n).sigid = some t
  now : (s.chan n).setNow.on = true
  before : (s.chan n).before.on = true
  valid : e.valid = true
  sound : e.void = false
  dump : e.nodump = false
  pullin : (s.chan n).st = .pullin
  notVoided : (s.chan n).voided = false
  noKernel : (s.chan n).kernelOld = none
  inTime : s.clk.tick % epochTicks ≤ d2Ticks

/-- The state after the runtime's work on that slot. -/
def slotWorked (core : Fin 19) (slot n : Nat) (t : SigType) (e : ChEntry) (s : State) : State :=
  let w := s.workDump n t e
  let o := (w.1.chan n).heldOut
  (keepRates n o (storeRecord core slot n w.1)).mapChan n (committed o w.2)

section
variable {core : Fin 19} {slot n : Nat} {t : SigType} {e : ChEntry} {s : State}

/-- What the dump's work leaves of the channel, the symbols and messages included. -/
theorem dumpWorked_workDump (h : HoldsDump core slot n t e s) : DumpWorked t e (s.chan n) (loopPart ((s.workDump n t e).1.chan n)) := by
  rw [loopPart_of_loopView (loopView_workDump h.lt)]
  exact dumpWorked_recordDump h.lt h.pullin

/-- A slot with a dump is worked from the entry to the commit (16 R418). -/
theorem loopSlot_works (h : HoldsDump core slot n t e s) (ld : Nat) :
    let w := s.workDump n t e
    s.loopSlot ld core slot = writeRates n w.2 ((storeRecord core slot n w.1).kernelOut ld n slot core t (w.1.chan n).heldOut) := by
  unfold State.loopSlot
  simp only [h.held, h.entry, h.type_, h.now, h.before, h.valid, h.sound, h.dump, h.notVoided, Bool.not_true, Bool.or_false, Bool.false_eq_true,
    if_false, Nat.not_lt.2 h.inTime]
  rfl

/-- A dump's work leaves time, fabric, cores and the other channels. -/
theorem workDump_keeps (hn : n < 384) : (s.workDump n t e).1.clk = s.clk ∧ (s.workDump n t e).1.fab = s.fab ∧ (s.workDump n t e).1.cor = s.cor ∧
    ∀ j ≠ n, (s.workDump n t e).1.chan j = s.chan j := by
  have h := loopView_workDump (t := t) (e := e) (s := s) hn
  refine ⟨congrArg LoopView.clk h, congrArg LoopView.fab h, congrArg LoopView.cor h, fun j hj => ?_⟩
  rw [chan_of_loopView h hj]
  simp [recordDump, hn, hj]

theorem loopSlot_worked (h : HoldsDump core slot n t e s) (ld : Nat) : s.loopSlot ld core slot = slotWorked core slot n t e s := by
  have hw := dumpWorked_workDump h
  obtain ⟨hclk, -⟩ := workDump_keeps (t := t) (e := e) (s := s) h.lt
  let s1 := storeRecord core slot n (s.workDump n t e).1
  have hd (o : LoopOut) : (keepRates n o s1).clk.tick % epochTicks ≤ d2Ticks := by
    rw [show (keepRates n o s1).clk = s1.clk from congrArg LoopView.clk (loopView_keepRates h.lt ..), show s1.clk = s.clk from hclk]
    exact h.inTime
  rw [loopSlot_works h, kernelOut_of_none (s := s1) (hw.kernelOld.trans h.noKernel), writeRates,
    ratesToWrite_of_not_coast (r := (_, s1)) hw.running]
  exact commitLoop_inTime (hd _) ..

/-- What follows the storing of the record changes nothing that the loop reads or writes. -/
theorem loopView_slotWorked (hn : n < 384) : loopView n (slotWorked core slot n t e s) = loopView n (storeRecord core slot n (s.workDump n t e).1) :=
  (loopView_mapChan (f := committed _ _) hn (fun _ => rfl) _).trans (loopView_keepRates hn ..)

theorem slotWorked_keeps (hn : n < 384) : (slotWorked core slot n t e s).clk = s.clk ∧ (slotWorked core slot n t e s).fab = s.fab ∧
    ∀ j ≠ n, (slotWorked core slot n t e s).chan j = s.chan j := by
  obtain ⟨hclk, hfab, -, hothers⟩ := workDump_keeps (t := t) (e := e) (s := s) hn
  have h := loopView_slotWorked (core := core) (slot := slot) (t := t) (e := e) (s := s) hn
  exact ⟨(congrArg LoopView.clk h).trans hclk, (congrArg LoopView.fab h).trans hfab,
    fun j hj => (chan_of_loopView h hj).trans (hothers j hj)⟩

theorem dumpWorked_slotWorked (h : HoldsDump core slot n t e s) :
    DumpWorked t e (s.chan n) (loopPart ((slotWorked core slot n t e s).chan n)) := by
  rw [loopPart_of_loopView (loopView_slotWorked h.lt)]
  exact dumpWorked_workDump h

/-- The update is pending in time, at the rates of the filters. -/
theorem slotWorked_commits (h : HoldsDump core slot n t e s) :
    let d := (slotWorked core slot n t e s).chan n
    d.upd.pending = true ∧ d.upd.late = false ∧
    d.staged.map (fun u => (u.crate, u.krate)) = d.loops.out.map (fun r => (r.1 % 2 ^ 48, r.2 % 2 ^ 48)) := by
  let w := s.workDump n t e
  have hc : (slotWorked core slot n t e s).chan n =
      committed (w.1.chan n).heldOut w.2 ((keepRates n (w.1.chan n).heldOut (storeRecord core slot n w.1)).chan n) := by
    simp [slotWorked, h.lt, w]
  have hloops : ((slotWorked core slot n t e s).chan n).loops = (w.1.chan n).loops :=
    congrArg LoopPart.loops (loopPart_of_loopView (loopView_slotWorked h.lt))
  obtain ⟨r, hr⟩ : ∃ r, (w.1.chan n).loops.out = some r := Option.isSome_iff_exists.1 (dumpWorked_workDump h).filtered
  refine ⟨by rw [hc]; rfl, by rw [hc]; rfl, ?_⟩
  rw [hloops, hr, hc]
  simp [committed, UpdRegs.take, ChanState.heldOut, hr]

/-- The record's words stand at the slot's place in data memory. -/
theorem sread_slotWorked (h : HoldsDump core slot n t e s) (hm : s.cor.core[core].memOk = true) (j : Fin 16) :
    sread 0 (slotWorked core slot n t e s).cor.core[core].dmem (0x4000 + 16 * slot + j.val) =
      ((slotWorked core slot n t e s).chan n).disc.words.getD j.val 0 := by
  let w := s.workDump n t e
  have hv := loopView_slotWorked (core := core) (slot := slot) (t := t) (e := e) (s := s) h.lt
  have hcor : (slotWorked core slot n t e s).cor = (storeRecord core slot n w.1).cor := congrArg LoopView.cor hv
  have hdisc : ((slotWorked core slot n t e s).chan n).disc = (w.1.chan n).disc := congrArg LoopPart.disc (loopPart_of_loopView hv)
  obtain ⟨-, -, hcor0, -⟩ := workDump_keeps (t := t) (e := e) (s := s) h.lt
  have hwf : swf 0 (w.1.cor.core[core]).dmem = true := by
    rw [show w.1.cor = s.cor from hcor0]
    exact (Bool.and_eq_true_iff.1 hm).1
  have hlen : (w.1.chan n).disc.words.length = 16 := rfl
  rw [hcor, hdisc, storeRecord, setCore_core_self]
  dsimp only
  rw [sread_swrites _ _ _ hwf, hlen, if_pos (by omega), Nat.add_sub_cancel_left]

end

/-! ### The walk over the slots -/

/-- Which channel a slot holds rests on the fabric's map and the channels' places. -/
theorem chanAt_congr {s t : State} (hfab : t.fab = s.fab)
    (hplace : ∀ j, (t.chan j).bound = (s.chan j).bound ∧ (t.chan j).dep = (s.chan j).dep ∧ (t.chan j).slot = (s.chan j).slot) (k i : Nat) :
    t.chanAt k i = s.chanAt k i := by
  unfold State.chanAt
  congr 1
  funext j
  obtain ⟨hb, hd, hs⟩ := hplace j
  show ((t.chan j).bound && (t.chan j).slot == i && vgetD t.fab.ldMap (t.chan j).dep 99 == k) = _
  rw [hb, hd, hs, hfab]
  rfl

/-- The work on a slot moves no channel to another slot. -/
theorem chanAt_slotWorked {core : Fin 19} {slot n : Nat} {t : SigType} {e : ChEntry} {s : State} (h : HoldsDump core slot n t e s) (k i : Nat) :
    (slotWorked core slot n t e s).chanAt k i = s.chanAt k i := by
  obtain ⟨-, hfab, hothers⟩ := slotWorked_keeps (core := core) (slot := slot) (t := t) (e := e) (s := s) h.lt
  have hd := dumpWorked_slotWorked h
  refine chanAt_congr hfab (fun j => ?_) k i
  by_cases hj : j = n
  · subst hj
    exact ⟨hd.bound, hd.dep, hd.slot⟩
  · rw [hothers j hj]
    exact ⟨rfl, rfl, rfl⟩

theorem loopSlot_empty {core : Fin 19} {slot : Nat} {s : State} (h : s.chanAt core.val slot = none) (ld : Nat) : s.loopSlot ld core slot = s := by
  simp [State.loopSlot, h]

/-- Slots without a channel leave no work. -/
theorem foldl_loopSlot_empty {core : Fin 19} {s : State} (ld : Nat) {l : List Nat} (h : ∀ i ∈ l, s.chanAt core.val i = none) :
    l.foldl (State.loopSlot ld core) s = s := by
  induction l with
  | nil => rfl
  | cons i l ih =>
    obtain ⟨hi, hl⟩ := List.forall_mem_cons.1 h
    rw [List.foldl_cons, loopSlot_empty hi, ih hl]

/-- A walk over distinct slots, of which one holds a channel, is the work on that slot. -/
theorem foldl_loopSlot {core : Fin 19} {slot n : Nat} {t : SigType} {e : ChEntry} {s : State} (h : HoldsDump core slot n t e s) (ld : Nat)
    {l : List Nat} (hl : l.Nodup) (hmem : slot ∈ l) (hempty : ∀ i ∈ l, i ≠ slot → s.chanAt core.val i = none) :
    l.foldl (State.loopSlot ld core) s = slotWorked core slot n t e s := by
  obtain ⟨before, after, rfl⟩ := List.append_of_mem hmem
  obtain ⟨-, hafter, hne⟩ := List.nodup_append.1 hl
  have hb : ∀ i ∈ before, s.chanAt core.val i = none := fun i hi => hempty i (by simp [hi]) (hne i hi slot (by simp))
  have ha : ∀ i ∈ after, (slotWorked core slot n t e s).chanAt core.val i = none := fun i hi => by
    rw [chanAt_slotWorked h]
    exact hempty i (by simp [hi]) (fun hi' => (List.nodup_cons.1 hafter).1 (hi' ▸ hi))
  rw [List.foldl_append, foldl_loopSlot_empty ld hb, List.foldl_cons, loopSlot_worked h, foldl_loopSlot_empty ld ha]

/-! ### The statement -/

/-- The D1 moment of the epoch, while device time counts and D1 has not passed. -/
theorem waitTo_d1_tick {s : State} (hr : s.clk.runs = true) (h : s.clk.tick % epochTicks ≤ d1Ticks) :
    (s.waitTo d1Ticks).clk.tick = epochTicks * s.ms + d1Ticks := by
  rw [State.waitTo, wait_tick _ _ hr, State.ms]
  have := Nat.div_add_mod s.clk.tick epochTicks
  omega

/-- The deputy's reductions have been passed to the Overman by D2. -/
def passReductions (ld : Nat) (s : State) : State :=
  if s.clk.tick % epochTicks ≤ d2Ticks then { s with fab := { s.fab with reduced := vupdN s.fab.reduced ld (fun _ => true) } } else s

/-- A deputy that runs walks its 32 slots at D1 (16 R418). -/
theorem deputyLoopUpdate_walks {ld : Fin 16} {phys : Fin 18} {s : State} (hup : s.fabricUp = true) (hact : s.fab.active ≠ none)
    (hmap : vgetD s.fab.ldMap ld.val 0 = phys.val) (hrun : (s.cor.core[(⟨phys.val, by omega⟩ : Fin 19)]).lockup = false) :
    exec (.evDeputyLoopUpdate ld ()) s =
      .next (passReductions ld ((List.range 32).foldl (State.loopSlot ld ⟨phys.val, by omega⟩) (s.waitTo d1Ticks))) := by
  have hp : vgetD (s.waitTo d1Ticks).fab.ldMap ld.val 0 < 18 := hmap ▸ phys.isLt
  obtain rfl : phys = ⟨_, hp⟩ := Fin.ext hmap.symm
  have hidle : ¬ ((!s.fabricUp) = true ∨ s.fab.active = none) := by simp [hup, hact]
  have hrun : ¬ ((s.waitTo d1Ticks).cor.core[(⟨vgetD (s.waitTo d1Ticks).fab.ldMap ld.val 0, by omega⟩ : Fin 19)]).lockup = true :=
    Bool.eq_false_iff.1 hrun
  show execEvDeputyLoopUpdate ld () s = _
  unfold execEvDeputyLoopUpdate
  dsimp only [passReductions]
  rw [if_neg hidle, dif_pos hp, if_neg hrun]

/-- Settles O34: at D1 the walk over the slots is the work on the one slot that holds a channel, which forms the record, stores it and stages the
filter's rates before D2. The averages, the coherent sum and `LOCK` are the model's choice (log 50). -/
theorem deputyLoopUpdateCommitsTheFilter : Obligations.DeputyLoopUpdateCommitsTheFilter := by
  unfold Obligations.DeputyLoopUpdateCommitsTheFilter
  intro ld phys slot ch ty s c e core hup hact hd1 hmap hlock hmem hslots htype hst hnow hbefore hvalid hvoid hdump hvoided hkernel
  have hr : s.clk.runs = true := (Bool.and_eq_true_iff.1 hup).2
  have htick := waitTo_d1_tick hr hd1
  let w := s.waitTo d1Ticks
  have hoff : w.clk.tick % epochTicks = d1Ticks := by
    rw [htick, Nat.mul_add_mod]
    rfl
  have hms : w.ms = s.ms := by
    rw [State.ms, htick, Nat.mul_add_div (by decide)]
    rfl
  have hbank : w.readBank = s.ms % 2 := by simp [State.readBank, hoff, hms]
  have hold : HoldsDump core slot.val ch.val ty e w := {
    lt := ch.isLt
    held := (hslots slot).trans (if_pos rfl)
    entry := by rw [hbank]; rfl
    type_ := htype
    now := hnow
    before := hbefore
    valid := hvalid
    sound := hvoid
    dump := hdump
    pullin := hst
    notVoided := hvoided
    noKernel := hkernel
    inTime := by rw [hoff]; decide }
  have hempty : ∀ i ∈ List.range 32, i ≠ slot.val → w.chanAt core.val i = none := fun i hi hne =>
    (hslots ⟨i, List.mem_range.1 hi⟩).trans (if_neg (fun h => hne (congrArg Fin.val h)))
  have hwalk := foldl_loopSlot hold ld.val List.nodup_range (List.mem_range.2 slot.isLt) hempty
  obtain ⟨hclk, -, hothers⟩ := slotWorked_keeps (core := core) (slot := slot.val) (t := ty) (e := e) (s := w) ch.isLt
  have hpass : (slotWorked core slot.val ch.val ty e w).clk.tick % epochTicks ≤ d2Ticks := by
    rw [hclk]
    exact hold.inTime
  have hwork := dumpWorked_slotWorked hold
  obtain ⟨hpending, hlate, hstaged⟩ := slotWorked_commits hold
  refine ⟨_, deputyLoopUpdate_walks hup hact hmap hlock, ?_⟩
  rw [hwalk, passReductions, if_pos hpass]
  exact ⟨(congrArg ClockState.tick hclk).trans htick, (getElem_vupdN _ ld ld _).trans (if_pos rfl), hothers, hwork.figs, hwork.cn0, hwork.lock,
    hwork.dph, hwork.crate, hwork.krate, hpending, hlate, hstaged, sread_slotWorked hold hmem⟩

end Sys2Proof.Proofs.DeputyLoop
end

section
/-! PROOFS. Searches, confirmations, the background search and the saved ephemerides (07 R162, R163, R165–R171): what a search's end may change of the
acquisition state, what one detection leads to while nothing tracks its signal, and what a background search may do to the queue. -/

namespace Sys2Proof.Proofs.Acquisition

open Sys2Proof Sys2Proof.Machine Sys2Proof.Proofs.Assay Sys2Proof.Proofs.Channels

/-! ### Queueing -/

theorem mem_insertBy {α : Type} (key : α → Nat) (x y : α) (l : List α) : y ∈ insertBy key x l ↔ y = x ∨ y ∈ l := by
  induction l with
  | nil => simp [insertBy]
  | cons z l ih =>
    rw [insertBy]
    split
    · simp
    · rw [List.mem_cons, ih, List.mem_cons, or_left_comm]

theorem mem_sortBy {α : Type} (key : α → Nat) (y : α) (l : List α) : y ∈ sortBy key l ↔ y ∈ l := by
  induction l with
  | nil => rfl
  | cons x l ih => rw [sortBy, List.foldr_cons, mem_insertBy, ← sortBy, ih, List.mem_cons]

/-- Queueing a search changes the queue only. -/
theorem search_acq (x : Search) (s : State) : (s.search x).trk.acq = { s.trk.acq with queue := enqueue x s.trk.acq.queue } := rfl

theorem searchOnce_acq (x : Search) (s : State) : ∃ q, (s.searchOnce x).trk.acq = { s.trk.acq with queue := q } := by
  unfold State.searchOnce
  split
  · exact ⟨_, rfl⟩
  · exact ⟨_, search_acq x s⟩

/-- The searches of a satellite's other components go to the queue (07 R160). -/
theorem components_acq (d : Detection) (s : State) : ∃ q, (s.components d).trk.acq = { s.trk.acq with queue := q } := by
  unfold State.components
  refine List.foldlRecOn (motive := fun t : State => ∃ q, t.trk.acq = { s.trk.acq with queue := q }) _ _ ⟨_, rfl⟩ ?_
  rintro t ⟨q, hq⟩ g -
  split
  · next a b _ _ =>
    obtain ⟨q', hq'⟩ := searchOnce_acq (t.componentSearch d a b g) t
    exact ⟨q', by rw [hq', hq]⟩
  · exact ⟨q, hq⟩

/-! ### Results, candidates, suspicions -/

@[simp] theorem spoof_trk (x : Suspicion) (f : SpoofFig) (s : State) : (s.spoof x f).trk = s.trk := report_trk ..

@[simp] theorem addSuspicion_trk (x : Suspicion) (f : SpoofFig) (s : State) : (s.addSuspicion x f).trk = s.trk := by
  unfold State.addSuspicion
  split
  · rfl
  · rw [spoof_trk]
    rfl

/-- A duplicate leaves its result; its report and its suspicion are no matter of acquisition (07 R169). -/
theorem duplicate_acq (n : Nat) (d : Detection) (mode : Nat) (suspect : Bool) (s : State) :
    (s.duplicate n d mode suspect).trk.acq = (s.result d mode false suspect true).trk.acq := by
  unfold State.duplicate
  dsimp only
  split <;> simp

/-- The newest of the 256 results kept is the one just entered, under the next `ACQID` (07 R170). -/
theorem exists_mem_result (d : Detection) (mode : Nat) (confirmed suspect dup : Bool) (s : State) :
    ∃ r ∈ (s.result d mode confirmed suspect dup).trk.acq.results, r.sigid = d.sigid ∧ r.glok = d.glok ∧ r.code = d.code ∧ r.amode = mode ∧
      r.confirmed = confirmed ∧ r.acqid = s.trk.acq.nextId := by
  simp only [State.result, State.mapAcq]
  rw [List.drop_append_of_le_length (by rw [List.length_append, List.length_singleton]; omega)]
  exact ⟨_, List.mem_append_right _ List.mem_cons_self, rfl, rfl, rfl, rfl, rfl, rfl⟩

/-- A result that was to be refreshed expires; nothing else changes (07 R171). -/
theorem expire_eq (id : Option Nat) (s : State) : s.expire id =
    s.mapAcq (fun a => { a with results := a.results.map (fun r => if id = some r.acqid then { r with expired := true } else r) }) := by
  cases id with
  | none => simp [State.expire, State.mapAcq]
  | some n => simp only [State.expire, beq_iff_eq, Option.some.injEq, @eq_comm Nat n]

/-! What the end of a search leaves to the next one: the jobs at work and the candidates. -/

@[simp] theorem result_keeps (d : Detection) (mode : Nat) (confirmed suspect dup : Bool) (s : State) :
    (s.result d mode confirmed suspect dup).trk.acq.jobs = s.trk.acq.jobs ∧
    (s.result d mode confirmed suspect dup).trk.acq.cands = s.trk.acq.cands := by
  simp [State.result, State.mapAcq]

@[simp] theorem components_keeps (d : Detection) (s : State) :
    (s.components d).trk.acq.jobs = s.trk.acq.jobs ∧ (s.components d).trk.acq.cands = s.trk.acq.cands := by
  obtain ⟨q, hq⟩ := components_acq d s
  simp [hq]

@[simp] theorem duplicate_keeps (n : Nat) (d : Detection) (mode : Nat) (suspect : Bool) (s : State) :
    (s.duplicate n d mode suspect).trk.acq.jobs = s.trk.acq.jobs ∧ (s.duplicate n d mode suspect).trk.acq.cands = s.trk.acq.cands := by
  simp [duplicate_acq]

@[simp] theorem expire_keeps (id : Option Nat) (s : State) :
    (s.expire id).trk.acq.jobs = s.trk.acq.jobs ∧ (s.expire id).trk.acq.cands = s.trk.acq.cands := by
  rw [expire_eq]
  exact ⟨rfl, rfl⟩

@[simp] theorem candidate_jobs (x : Search) (d : Detection) (st : Option Nat) (s : State) :
    (s.candidate x d st).trk.acq.jobs = s.trk.acq.jobs := rfl

/-- No detection of a search puts a job to work or ends one. -/
@[simp] theorem detected_jobs (x : Search) (all : List Detection) (s : State) (d : Detection) :
    (s.detected x all d).trk.acq.jobs = s.trk.acq.jobs := by
  simp only [State.detected]
  split
  · rfl
  · split
    · simp
    · split
      · simp
      · split <;> simp

theorem searched_jobs (x : Search) (found : List Detection) (s : State) : (s.searched x found).trk.acq.jobs = s.trk.acq.jobs := by
  unfold State.searched
  split
  · simp
  · exact foldl_keeps (fun t => t.trk.acq.jobs) (fun t d _ => detected_jobs x found t d) s

/-- The candidate leaves the list (07 R168). -/
def dropCand (c : Candidate) (s : State) : State := s.mapAcq (fun a => { a with cands := a.cands.filter (fun x => x.id != c.id) })

theorem confirmed_eq (c : Candidate) (found : List Detection) (s : State) : s.confirmed c found =
    match (found.filter (fun d => !c.suspect || decide (c.strong ≤ d.cn0 + 64 * s.trk.acq.params.xcGuard))).head? with
    | none => (dropCand c s).expire c.refreshes
    | some d =>
      if (dropCand c s).agrees d then dropCand c s
      else
        match (dropCand c s).duplicates d with
        | some n => (dropCand c s).duplicate n d c.mode c.suspect
        | none => ((dropCand c s).result d c.mode true c.suspect false).components d := rfl

/-- A confirmation, whatever it finds, ends no job and drops its candidate only. -/
theorem confirmed_keeps (c : Candidate) (found : List Detection) (s : State) :
    (s.confirmed c found).trk.acq.jobs = s.trk.acq.jobs ∧
    (s.confirmed c found).trk.acq.cands = s.trk.acq.cands.filter (fun x => x.id != c.id) := by
  have hdrop : (dropCand c s).trk.acq.jobs = s.trk.acq.jobs ∧
    (dropCand c s).trk.acq.cands = s.trk.acq.cands.filter (fun x => x.id != c.id) := ⟨rfl, rfl⟩
  rw [confirmed_eq]
  split
  · simp [hdrop]
  · split
    · exact hdrop
    · split <;> simp [hdrop]

/-! ### A detection of a signal that nothing tracks -/

section
variable {s : State} {d : Detection} (htr : s.trackers d.sigid d.glok = [])
include htr

theorem agrees_of_untracked : s.agrees d = false := by simp [State.agrees, htr]

theorem duplicates_of_untracked : s.duplicates d = none := by simp [State.duplicates, htr]

/-- A hot detection is a result at once, any other awaits its confirmation (07 R167, R168). -/
theorem searched_untracked (x : Search) (hst : s.stronger [d] d = none) :
    s.searched x [d] = if x.mode = 2 then (s.result d 2 false false false).components d else s.candidate x d none := by
  show s.detected x [d] d = _
  simp [State.detected, agrees_of_untracked htr, duplicates_of_untracked htr, hst]

/-- A detection of the confirming search confirms a candidate that is no cross-correlation suspect (07 R167, R168). -/
theorem confirmed_untracked {c : Candidate} (hc : c.suspect = false) :
    s.confirmed c [d] = ((dropCand c s).result d c.mode true false false).components d := by
  have ha : (dropCand c s).agrees d = false := agrees_of_untracked (s := dropCand c s) htr
  have hd : (dropCand c s).duplicates d = none := duplicates_of_untracked (s := dropCand c s) htr
  simp [confirmed_eq, hc, ha, hd]

end

theorem exists_mem_components_result (d : Detection) (mode : Nat) (confirmed : Bool) (s : State) :
    ∃ r ∈ ((s.result d mode confirmed false false).components d).trk.acq.results, r.sigid = d.sigid ∧ r.glok = d.glok ∧ r.code = d.code ∧
      r.amode = mode ∧ r.confirmed = confirmed ∧ r.acqid = s.trk.acq.nextId := by
  obtain ⟨q, hq⟩ := components_acq d (s.result d mode confirmed false false)
  simpa only [hq] using exists_mem_result d mode confirmed false false s

/-! ### The end of a search on live input -/

/-- The job leaves its search slot. -/
def leaveSlot (j : SearchJob) (s : State) : State := s.mapAcq (fun a => { a with jobs := a.jobs.filter (fun k => k.slot != j.slot) })

/-- Live input is no words of the lode: the job leaves its slot, and nothing else happens. -/
theorem endJob_live {j : SearchJob} (h : j.live = true) (s : State) : s.endJob j = (leaveSlot j s, s.detections j) := by
  simp [State.endJob, State.jobWords, State.readWords, leaveSlot, h]

section
variable {s : State} {j : SearchJob}

theorem searchComplete_early (h : ∀ j ∈ s.trk.acq.jobs, j.complete = false ∨ j.x.cand.isSome = true) :
    exec (.evSearchComplete ()) s = .next s := by
  have hnone : s.trk.acq.jobs.find? (fun j => j.complete && j.x.cand.isNone) = none := by
    refine List.find?_eq_none.2 (fun j hj => ?_)
    rcases h j hj with h | h
    · simp [h]
    · simp [← Option.not_isSome, h]
  show execEvSearchComplete () s = _
  rw [execEvSearchComplete, hnone]

theorem confirmation_early (h : ∀ j ∈ s.trk.acq.jobs, j.complete = false ∨ j.x.cand = none) :
    exec (.evConfirmation () ()) s = .next s := by
  have hnone : s.trk.acq.jobs.find? (fun j => j.complete && j.x.cand.isSome) = none := by
    refine List.find?_eq_none.2 (fun j hj => ?_)
    rcases h j hj with h | h <;> simp [h]
  show execEvConfirmation () () s = _
  rw [execEvConfirmation, hnone]

theorem searchComplete_due (hj : s.trk.acq.jobs.find? (fun k => k.complete && k.x.cand.isNone) = some j) (hl : j.live = true) :
    exec (.evSearchComplete ()) s = .next ((leaveSlot j s).searched j.x (s.detections j)) := by
  show execEvSearchComplete () s = _
  simp only [execEvSearchComplete, hj, endJob_live hl]

theorem confirmation_due {c : Candidate} (hj : s.trk.acq.jobs.find? (fun k => k.complete && k.x.cand.isSome) = some j) (hl : j.live = true)
    (hc : s.trk.acq.cands.find? (fun x => j.x.cand == some x.id) = some c) :
    exec (.evConfirmation () ()) s = .next ((leaveSlot j s).confirmed c (s.detections j)) := by
  show execEvConfirmation () () s = _
  simp only [execEvConfirmation, hj, hc]
  rw [endJob_live hl]

end

/-! ### The background search -/

/-- A search of class 5 that refreshes no result and no host has asked for. -/
def Background (x : Search) : Prop := x.cls = 5 ∧ x.refreshes = none ∧ x.host = false

theorem background_coldSearch (s : State) (t : Nat) (sats : List (Nat × Int)) : Background (s.coldSearch 5 t sats) := ⟨rfl, rfl, rfl⟩

theorem background_systemSearches {s : State} {t : Nat} {x : Search} (h : x ∈ s.systemSearches 5 (some 0) t) : Background x := by
  unfold State.systemSearches at h
  split at h
  · cases h
  · obtain rfl := List.mem_singleton.1 h
    exact background_coldSearch ..

/-- A background search joins a queued search of its signal without changing it, or makes it one of class 5. -/
theorem mem_enqueue_background {x y : Search} {q : List Search} (hx : Background x) (h : y ∈ enqueue x q) : y ∈ q ∨ y.cls = 5 := by
  obtain ⟨hcls, href, hhost⟩ := hx
  unfold enqueue at h
  split at h
  · rw [mem_sortBy, List.mem_append, List.mem_singleton] at h
    exact h.imp_right (fun e : y = x => e ▸ hcls)
  · next z hz =>
    have hzq := List.mem_of_find?_eq_some hz
    dsimp only at h
    split at h
    · next hle =>
      obtain ⟨w, hw, rfl⟩ := List.mem_map.1 h
      left
      split
      · simpa [href, hhost, Nat.min_eq_right hle] using hzq
      · exact hw
    · next hlt =>
      rw [mem_sortBy, List.mem_append, List.mem_singleton] at h
      refine h.imp (fun hf => (List.mem_filter.1 hf).1) (fun e => ?_)
      rw [e]
      show min x.cls z.cls = 5
      omega

/-- The background searches of every type of the cold set, in their order (07 R160, R163). -/
def backgroundSearches (s : State) : List Search := (coldTypes.map (s.systemSearches 5 (some 0))).flatten

theorem background_of_mem {s : State} {x : Search} (h : x ∈ backgroundSearches s) : Background x := by
  obtain ⟨l, hl, hx⟩ := List.mem_flatten.1 h
  obtain ⟨t, -, rfl⟩ := List.mem_map.1 hl
  exact background_systemSearches hx

theorem mem_queue_foldl_background {l : List Search} {s : State} (hl : ∀ x ∈ l, Background x) :
    ∀ x ∈ (l.foldl (fun t x => t.search x) s).trk.acq.queue, x ∈ s.trk.acq.queue ∨ x.cls = 5 := by
  refine List.foldlRecOn (motive := fun t : State => ∀ x ∈ t.trk.acq.queue, x ∈ s.trk.acq.queue ∨ x.cls = 5) l _ (fun x hx => .inl hx) ?_
  intro t ih y hy x hx
  rcases mem_enqueue_background (hl y hy) hx with h | h
  · exact ih x h
  · exact .inr h

theorem backgroundColdSearch_due {s : State} (hr : s.boo.dstate = .run) (h : s.trk.acq.lastBg + 1000 * s.trk.acq.params.bgPeriod ≤ s.ms) :
    exec .evBackgroundColdSearch s =
      .next (((backgroundSearches s).foldl (fun t x => t.search x) s).mapAcq (fun a => { a with lastBg := s.ms })) :=
  congrArg Host.Outcome.next (if_pos ⟨hr, h⟩)

theorem backgroundColdSearch_early {s : State} (h : s.ms < s.trk.acq.lastBg + 1000 * s.trk.acq.params.bgPeriod) :
    exec .evBackgroundColdSearch s = .next s :=
  congrArg Host.Outcome.next (if_neg (fun hd => Nat.not_le.2 h hd.2))

theorem ephemerisSave_due {s : State} (hr : s.boo.dstate = .run) (h : s.trk.acq.lastSave + 600000 ≤ s.upMs) :
    exec .evEphemerisSave s = .next (s.mapAcq (fun a => { a with ephFlash := a.eph, almFlash := a.alm, lastSave := s.upMs })) :=
  congrArg Host.Outcome.next (if_pos ⟨hr, h⟩)

theorem ephemerisSave_early {s : State} (h : s.upMs < s.trk.acq.lastSave + 600000) : exec .evEphemerisSave s = .next s :=
  congrArg Host.Outcome.next (if_neg (fun hd => Nat.not_le.2 h hd.2))

/-! ### The statement -/

/-- Settles O35: a live search's end takes its job out of its slot and reads nothing, no detection touches the jobs, and what one detection leads to is
decided by the mode alone while nothing tracks its signal. What a search detects is the model's choice (log 49). -/
theorem searchesConfirmationsAndSaves : Obligations.SearchesConfirmationsAndSaves := by
  unfold Obligations.SearchesConfirmationsAndSaves
  refine ⟨fun s => searchComplete_early, fun s => confirmation_early, ?search, ?confirm, fun s hr => ⟨fun h => ?background,
    backgroundColdSearch_early, ephemerisSave_due hr, ephemerisSave_early⟩⟩
  case search =>
    intro j s hj hl
    refine ⟨_, searchComplete_due hj hl, searched_jobs .., fun h0 => ?_, fun d hd hst htr => ?_⟩
    · rw [h0]
      exact expire_eq ..
    · rw [hd, searched_untracked (s := leaveSlot j s) htr j.x hst]
      refine ⟨fun hm => ?_, fun hm => ?_⟩
      · rw [if_neg hm]
        exact ⟨rfl, _, rfl, rfl, rfl, rfl, rfl, rfl, rfl, rfl, rfl⟩
      · rw [if_pos hm]
        obtain ⟨r, hr, hsig, hglok, hcode, hmode, hconf, hid⟩ := exists_mem_components_result d 2 false (leaveSlot j s)
        exact ⟨(components_keeps ..).2, r, hr, hsig, hglok, hcode, hmode, hconf, hid⟩
  case confirm =>
    intro j c s hj hl hc
    obtain ⟨hjobs, hcands⟩ := confirmed_keeps c (s.detections j) (leaveSlot j s)
    refine ⟨_, confirmation_due hj hl hc, hjobs, hcands, fun h0 => ?_, fun d hd hsus htr => ?_⟩
    · rw [h0]
      exact expire_eq ..
    · rw [hd, confirmed_untracked (s := leaveSlot j s) htr hsus]
      obtain ⟨r, hr, hsig, hglok, hcode, -, hconf, hid⟩ := exists_mem_components_result d c.mode true (dropCand c (leaveSlot j s))
      exact ⟨r, hr, hsig, hglok, hconf, hcode, hid⟩
  case background =>
    refine ⟨_, backgroundColdSearch_due hr h, rfl, ?_, mem_queue_foldl_background (fun _ => background_of_mem)⟩
    exact foldl_keeps (f := fun t x => State.search x t) (fun t : State => t.trk.acq.results) (fun _ _ _ => rfl) s

end Sys2Proof.Proofs.Acquisition
end

section
/-! PROOFS. How the checks of a command's spec read as the conditions of a row of the command table (12 R315, R319, R320): roles, lengths, and the
field checks of lists and byte ranges. -/

namespace Sys2Proof.Proofs.CommandRows

open Sys2Proof Sys2Proof.Machine

section
variable (r : Req) (s : State)

/-! ### Roles -/

theorem roleAny_iff : roleAny r s = true ↔ Users r.role ∧ True := by simp [roleAny, Users]

theorem roleInstaller_iff : roleInstaller r s = true ↔ Installer r.role ∧ True := by simp [roleInstaller, Installer]

theorem roleInstOp_iff : roleInstOp r s = true ↔ Hosts r.role ∧ True := by simp [roleInstOp, Hosts]

/-! ### Lengths -/

theorem lenIs_iff (n : Nat) : lenIs n r = true ↔ Long n r.pay := beq_iff_eq

theorem lenIs_zero_iff : lenIs 0 r = true ↔ r.pay = [] := (lenIs_iff r 0).trans List.length_eq_zero_iff

theorem lenList_iff : lenList r = true ↔ ListLength r.pay := beq_iff_eq

theorem lenWrite_iff : lenWrite r = true ↔ WriteLength r.pay := by simp [lenWrite, WriteLength, Req.rlen]

/-- A payload of a head of four bytes and counted entries. -/
theorem lenCounted_iff (b : List Byte) (n : Nat) : (decide (4 ≤ b.length) && b.length == n) = true ↔ 4 ≤ b.length ∧ b.length = n := by simp

/-! ### Field checks -/

/-- Reserved bytes that are 0 fail no check. -/
theorem not_zeroAt {r : Req} {off n : Nat} (h : Clear r off n) : (!zeroAt r.pay off n) = false := congrArg Bool.not h

/-- A byte range command refuses an object out of its reach, then a range at fault. -/
theorem rangeCheck_none {r : Req} {ok : Bool} {size : Nat} (hobj : ok = true) (h : RangeOf size r) :
    firstSome [must ok 0, rangeBad size r] = none := by
  obtain ⟨hclear, hlen, hend⟩ := h
  have hrange : rangeBad size r = none := (firstBad_none _).2 (by simp [not_zeroAt hclear, hlen, hend])
  rw [hobj, hrange]
  rfl

/-- A list request is refused for its number of entries, a reserved byte, or an entry. -/
theorem listCheck_none {r : Req} {ix val : Nat × Nat → Bool} (hlist : ListOf 32 r) (h : ∀ e ∈ r.entries, ix e = false ∧ val e = false) :
    (if 32 < u8At r.pay 0 then some 0 else match listReserved r with | some f => some f | none => r.entryBad ix val) = none := by
  obtain ⟨hn, hzero⟩ := hlist
  rw [if_neg (Nat.not_lt.2 hn), hzero]
  show r.entryBad ix val = none
  rw [Req.entryBad, List.findIdx?_eq_none_iff.2 (fun e he => by simp [h e he]), Option.map_none]

end

/-! ### Rows -/

/-- A spec fits the row that says the same of its roles, tenants and length, and carries the same opcode and marks. -/
theorem fits_of {c : CmdSpec} {w : CmdRow} (role : ∀ r s, c.role r s = true ↔ w.roles r.role ∧ w.may r s) (len : ∀ r, c.len r = true ↔ w.len r.pay)
    (ten : ∀ r s, c.tenant r s = true ↔ w.ten r s := by exact fun _ _ => iff_of_true rfl trivial) (notAuth : w.op ≠ 1 := by decide)
    (op : c.opcode = w.op := by rfl) (hold : c.hold = w.hold := by rfl) (idle : c.idle = w.idle := by rfl) (gcp1 : c.gcp1 = w.gcp1 := by rfl) :
    c.Fits w := ⟨op, notAuth, role, ten, len, hold, idle, gcp1⟩

/-- A reading command without a payload shows its status block to every role (12 R320). -/
theorem shows_status {ctor : Packet → Instr} {op : Nat} {f : Req → State → List Byte} {gcp1 : Bool} (hop : op ≠ 1)
    (he : ∀ p s, exec (ctor p) s = s.command { statusSpec op f with gcp1 := gcp1 } p) :
    Shows ctor { op := op, roles := Users, idle := true, gcp1 := gcp1 } :=
  shows_of _ (fits_of roleAny_iff lenIs_zero_iff (notAuth := hop)) rfl he
    (fun _ _ _ _ => ⟨rfl, rfl, _, rfl⟩)

end Sys2Proof.Proofs.CommandRows
end

section
/-! PROOFS. The commands of acquisition, plans, the solution, the ports and the streams (07 R162, R170, R173; 08 R199, R202, R203, R209–R211; 10 R242,
R258, R261; 11 R269, R273, R274, R279, R281, R291; 21 R506, R509, R517, R518): for each command whose checks or effect need an argument the lemmas about
its spec, then the statement. -/

namespace Sys2Proof.Proofs.OutputCommands

open Sys2Proof Sys2Proof.Machine Sys2Proof.Proofs.Assay Sys2Proof.Proofs.Acquisition Sys2Proof.Proofs.CommandRows

/-! ### Acquisition -/

/-- A search queued stands in the queue, itself or joined to an earlier one of its signal, at its priority or a higher one (07 R163, R172). -/
theorem exists_mem_enqueue (x : Search) (q : List Search) : ∃ y ∈ enqueue x q, y.sigid = x.sigid ∧ y.glok = x.glok ∧ y.cls ≤ x.cls := by
  unfold enqueue
  split
  · exact ⟨x, (mem_sortBy ..).2 (by simp), rfl, rfl, Nat.le_refl _⟩
  · next y hy =>
    have hyq := List.mem_of_find?_eq_some hy
    have hsame : y.same x = true := by simpa using List.find?_some hy
    obtain ⟨⟨hsig, hglok⟩, -⟩ : (y.sigid = x.sigid ∧ y.glok = x.glok) ∧ y.cand = x.cand := by simpa [Search.same] using hsame
    dsimp only
    split
    · exact ⟨_, List.mem_map.2 ⟨y, hyq, if_pos hsame⟩, hsig, hglok, Nat.min_le_left x.cls y.cls⟩
    · exact ⟨_, (mem_sortBy ..).2 (List.mem_append_right _ List.mem_cons_self), hsig, hglok, Nat.min_le_left x.cls y.cls⟩

section
variable {r : Req} {s : State}

/-- A request with no system named queues no search. -/
theorem acqStart_no_system (h : u8At r.pay 0 = 0) : (specAcqStart.run r s).2 = s := by
  have hnone : coldTypes.filter (fun t => bit (u8At r.pay 0) (sigSys (256 * t))) = [] :=
    List.filter_eq_nil_iff.2 (fun t _ => by rw [h, bit, Nat.zero_testBit]; exact Bool.false_ne_true)
  simp only [specAcqStart, hnone, List.map_nil, List.flatten_nil, List.foldl_nil]

theorem acqStart_run (r : Req) (s : State) : ∃ t, specAcqStart.run r s = (.ok t.queued, t) ∧ t.ses = s.ses ∧ t.trk.acq.results = s.trk.acq.results :=
  ⟨_, rfl, foldl_keeps (f := fun t (x : Search) => t.search { x with host := true }) (fun t : State => t.ses) (fun _ _ _ => rfl) s,
    foldl_keeps (f := fun t (x : Search) => t.search { x with host := true }) (fun t : State => t.trk.acq.results) (fun _ _ _ => rfl) s⟩

theorem acqSearch_param (hsig : sigOkIndex (u16At r.pay 0) (i8At r.pay 2) = true) (hsite : (s.site (u8At r.pay 3)).isSome = true)
    (hindex : u8At r.pay 3 < 12) (hsect : u8At r.pay 4 = 0xFF ∨ u8At r.pay 4 < vgetD s.trk.acq.nsect (u8At r.pay 3) 0) (hlo : 1 ≤ u8At r.pay 5)
    (hhi : u8At r.pay 5 ≤ 64) (hclear : Clear r 6 2) (haz : u16At r.pay 8 < 36000) (hello : -9000 ≤ i16At r.pay 10)
    (helhi : i16At r.pay 10 ≤ 9000) (hdopp : u32At r.pay 24 ≤ 10000) : specAcqSearch.param r s = none := by
  refine (firstBad_none _).2 ?_
  simpa [hsig, ← Option.not_isSome, hsite, hindex, hhi, not_zeroAt hclear, hello, helhi, hdopp, Nat.le_of_lt_succ haz] using
    And.intro hsect.resolve_left (Nat.one_le_iff_ne_zero.1 hlo)

/-- With room among the host's 64 a search of the signal named is queued in class 3. -/
theorem acqSearch_run (hroom : (s.trk.acq.queue.filter (fun x => x.host && x.cls == 3)).length < 64) : ∃ x : Search,
    specAcqSearch.run r s = (.ok (s.search x).queued, s.search x) ∧ x.sigid = u16At r.pay 0 ∧ x.glok = i8At r.pay 2 ∧ x.cls = 3 :=
  ⟨_, if_neg (Nat.not_le.2 hroom), rfl, rfl, rfl⟩

end

/-! ### Plans -/

section
variable {r : Req} {s : State}

theorem swapFrom_false {k : Nat} (h : s.fab.swap.map (·.slot) ≠ some k) : s.swapFrom k = false := by simpa [State.swapFrom] using h

theorem planRead_role_iff (r : Req) (s : State) :
    specPlanRead.role r s = true ↔ Users r.role ∧ (r.role = 2 ∨ r.role = 3 ∨ r.role = 1 ∧ s.inCert r = true) := by
  have hrole : specPlanRead.role r s = true ↔ (r.role = 2 ∨ r.role = 3) ∨ r.role = 1 ∧ s.inCert r = true := by simp [specPlanRead]
  rw [hrole]
  constructor
  · rintro ((h | h) | ⟨h, hcert⟩) <;> simp [Users, *]
  · rintro ⟨-, h | h | h⟩ <;> simp [h]

theorem planModel_param {q : Plan} (hver : (s.slot (u8At r.pay 0)).verified = true) (hclear : Clear r 2 2) (hn : u8At r.pay 1 ≤ 32)
    (hq : (s.slot (u8At r.pay 0)).plan = some q) (hentries : ∀ i, i < u8At r.pay 1 → u8At r.pay (4 + 4 * i) < q.nlst ∧ Clear r (5 + 4 * i) 1 ∧
      300 ≤ u16At r.pay (6 + 4 * i) ∧ u16At r.pay (6 + 4 * i) ≤ 1000) : specPlanModel.param r s = none := by
  refine (firstBad_none _).2 (List.forall_mem_append.2 ⟨by simp [hver, hn, not_zeroAt hclear], List.forall_mem_flatten.2 ?_⟩)
  refine List.forall_mem_map.2 (fun i hi => ?_)
  obtain ⟨hstope, hzero, hlo, hhi⟩ := hentries i (List.mem_range.1 hi)
  simp [hq, hstope, hlo, hhi, not_zeroAt hzero]

end

/-! ### The solution -/

/-- A signal index that is good with some k is good with k 0: k lies in a range about 0 for an FDMA type and is 0 for every other. -/
theorem sigOkIndex_zero {g : Nat} {k : Int} (h : sigOkIndex g k = true) : sigOkIndex g 0 = true := by
  unfold sigOkIndex at h ⊢
  split at h <;> simp_all

/-! ### Ports -/

theorem ports_below (f : Nat → Bool) : ((List.range 32).filter f).filter (fun n => decide (n < 32)) = (List.range 32).filter f :=
  List.filter_eq_self.2 (fun _ hn => decide_eq_true (List.mem_range.1 (List.mem_filter.1 hn).1))

section
variable {r : Req} {s : State}

/-- Staging the enables of ports leaves the clocks alone. -/
theorem nextBoundary_foldl_mapPort (l : List (Nat × Nat)) (f : Nat × Nat → PortState → PortState) (s : State) :
    (l.foldl (fun t e => t.mapPort e.1 (f e)) s).nextBoundary = s.nextBoundary :=
  foldl_keeps (f := fun t e => t.mapPort e.1 (f e)) State.nextBoundary (fun _ _ _ => rfl) s

/-- A block command of a port asks for a port of the device, reserved bytes that are 0, and a block without a fault. -/
theorem portCheck_none {c : PortCfg} (hport : r.index < 32) (hclear : Clear r 2 2) (hblock : s.portBad r.index (r.pay.drop 4) c = none) :
    (if 32 ≤ r.index then some 0 else if !zeroAt r.pay 2 2 then some 2 else (s.portBad r.index (r.pay.drop 4) c).map (· + 4)) = none := by
  rw [if_neg (Nat.not_le.2 hport), not_zeroAt hclear, if_neg Bool.false_ne_true, hblock, Option.map_none]

/-- `PORT_SET` and `PORT_CABLE` are one command but for the fields they write and for who may send them (11 R273, R291). -/
theorem stages_portSpec {ctor : Packet → Instr} {op : Nat} {role : Req → State → Bool} {f : List Byte → PortCfg → PortCfg} {roles : Nat → Prop}
    {gcp1 : Bool} (hrole : ∀ r s, role r s = true ↔ roles r.role ∧ True) (hop : op ≠ 1)
    (he : ∀ p s, exec (ctor p) s = s.command { portSpec op role f with gcp1 := gcp1 } p) :
    Stages ctor { op := op, roles := roles, len := Long 52, gcp1 := gcp1, ten := fun r u => r.ownsPort u r.index = true }
      (fun r u => u.mapPort r.index (fun x => { x with staged := some (f (r.pay.drop 4) ((u.port r.index).staged.getD (u.port r.index).cfg)) }))
      (fun r u => r.index < 32 ∧ Clear r 2 2 ∧
        u.portBad r.index (r.pay.drop 4) (f (r.pay.drop 4) ((u.port r.index).staged.getD (u.port r.index).cfg)) = none) Req.index := by
  refine stages_of _ (fits_of hrole (lenIs_iff · 52) (fun _ _ => Iff.rfl) (notAuth := hop)) rfl he (fun r u _ h => ?_)
  obtain ⟨hport, hclear, hblock⟩ := h
  exact ⟨portCheck_none hport hclear hblock, rfl, rfl, rfl⟩

theorem portCal_role_iff (r : Req) (s : State) : specPortCal.role r s = true ↔ Hosts r.role ∧ (r.role = 2 ∨ r.arg = 0) := by
  have hrole : specPortCal.role r s = true ↔ r.role = 2 ∨ r.role = 1 ∧ r.arg = 0 := by simp [specPortCal]
  exact hrole.trans or_and_left

theorem portCal_param (hport : r.index < 32) (harg : r.arg = 0 ∨ r.arg = 1 ∧ (s.port r.index).jumped.isSome = true ∨ r.arg = 2) :
    specPortCal.param r s = none := by
  refine (firstBad_none _).2 ?_
  rcases harg with h | ⟨h, hjump⟩ | h
  · simp [h, hport]
  · simp [h, hport, ← Option.not_isSome, hjump]
  · simp [h, hport]

/-- A port that is off starts its calibration burst (11 R279). -/
theorem portCal_start (harg : r.arg = 0) (hen : (s.port r.index).cfg.enable = false) (hoff : (s.port r.index).pstate = .off)
    (hrun : s.clk.runs = true) : specPortCal.run r s = ({ status := 0, interim := true }, s.mapPort r.index (fun x =>
      { x with pstate := .cal, burst := some [], burstFrom := s.clk.tick, burstReq := some (r.x.sid, r.p.seq) })) := by
  simp [specPortCal, harg, hen, hoff, hrun, stOk]

/-- The jump of a calibration is accepted (11 R281). -/
theorem portCal_accept {d : Int} (harg : r.arg = 1) (hjump : (s.port r.index).jumped = some d) : specPortCal.run r s =
    (.ok [], (s.mapPort r.index (fun x => { x with jumped := none, calJump := false, uncal := false })).useForward r.index d) := by
  simp [specPortCal, harg, hjump]

theorem portCal_clear (harg : r.arg = 2) : specPortCal.run r s = (.ok [], s.mapPort r.index (fun x => { x with echoMiss := 0 })) := by
  simp [specPortCal, harg]

theorem synDither_param (hclear : Clear r 1 3) (hentries : ∀ i, i < u8At r.pay 0 →
      ((ditherEntry r i).1 < 5 ∨ 16 ≤ (ditherEntry r i).1 ∧ (ditherEntry r i).1 < 48) ∧ u8At r.pay (6 + 8 * i) ≤ 1 ∧ Clear r (7 + 8 * i) 1) :
    specSynDither.param r s = none := by
  refine (firstSome_cons _ _).2 ⟨if_pos hclear, (firstSome_cons _ _).2 ⟨Option.map_eq_none_iff.2 (List.find?_eq_none.2 (fun i hi => ?_)), rfl⟩⟩
  obtain ⟨hmod, hen, hzero⟩ := hentries i (List.mem_range.1 hi)
  simp [not_zeroAt hzero]
  omega

end

/-! ### Streams -/

section
variable {r : Req} {s : State}

/-- A stream opens while there is room for it among the 64 and in its tenant's share, and every port carries its load (21 R509, R514). -/
theorem openStream_ok {x : StreamState} (hn : s.por.streams.length < 64) (hroom : RoomFor s x)
    (hload : timedKind x.kind = true → s.overload s.fab.active s.quotaOf (s.loads ++ [⟨x.kind, x.port, x.ten⟩]) = none) :
    s.openStream x = (.ok (b16 x.stid ++ bz 2 ++ b32 x.wep),
      { s with por := { s.por with streams := insertStream x s.por.streams, nextStid := (x.stid + 1) % 65536 } }) := by
  have hfree : ¬ (64 ≤ s.por.streams.length ∨
      (x.ten < 8 ∧ (s.quotaOf x.ten).qStreams ≤ (s.por.streams.filter (fun y => y.ten == x.ten)).length)) := by
    rintro (h | ⟨hten, h⟩)
    · exact Nat.not_le.2 hn h
    · exact Nat.not_le.2 (hroom hten) h
  have hcarried : (if timedKind x.kind then s.overload s.fab.active s.quotaOf (s.loads ++ [⟨x.kind, x.port, x.ten⟩]) else none) = none := by
    split
    · next h => exact hload h
    · rfl
  simp only [State.openStream]
  rw [if_neg hfree, hcarried]

theorem streamOpen_role_iff (r : Req) (s : State) : specStreamOpen.role r s = true ↔
    Hosts r.role ∧ (r.role = 2 ∨ ¬ (u8At r.pay 0 = 3 ∧ bit (u8At r.pay 3) 0 = true)) := by
  have hrole : specStreamOpen.role r s = true ↔ r.role = 2 ∨ r.role = 1 ∧ ¬ (u8At r.pay 0 = 3 ∧ bit (u8At r.pay 3) 0 = true) := by
    by_cases h : u8At r.pay 0 = 3 <;> simp [specStreamOpen, h]
  exact hrole.trans or_and_left

theorem streamOpen_param (hkind : u8At r.pay 0 ≤ 6) (hsnap : u8At r.pay 0 ≠ 5) (hcommon : ∀ c ∈ streamBad r.pay, c.1 = false)
    (hassay : bit (u8At r.pay 3) 0 = true → u8At r.pay 0 = 3) (harg : if u8At r.pay 0 = 4 then u32At r.pay 24 < 256 else u32At r.pay 24 = 0)
    (hclear : Clear r 28 4) : specStreamOpen.param r s = none := by
  refine (firstBad_none _).2 (List.forall_mem_append.2 ⟨List.forall_mem_append.2 ⟨by simp [hkind, hsnap], hcommon⟩, ?_⟩)
  have hsarg : (if u8At r.pay 0 = 4 then decide (256 ≤ u32At r.pay 24) else u32At r.pay 24 != 0) = false := by
    split at harg <;> simp_all
  simpa [hsarg, not_zeroAt hclear] using hassay

theorem snapExport_tenant_iff (r : Req) (s : State) :
    specSnapExport.tenant r s = true ↔ (r.role = 1 → (s.region (u8At r.pay 0)).owner = r.x.tenant + 1) := by
  by_cases h : r.role = 1 <;> simp [specSnapExport, exportable, Req.ownerCode, h]

theorem snapExport_param (hregion : u8At r.pay 0 < 8) (hcommon : ∀ c ∈ streamBad r.pay, c.1 = false) (hassay : bit (u8At r.pay 3) 0 = false)
    (hsome : u16At r.pay 26 ≠ 0)
    (hheld : u16At r.pay 24 + u16At r.pay 26 ≤ min (s.region (u8At r.pay 0)).written (s.region (u8At r.pay 0)).nblk)
    (hclear : Clear r 28 4) : specSnapExport.param r s = none := by
  refine (firstBad_none _).2 (List.forall_mem_append.2 ⟨List.forall_mem_append.2 ⟨by simp [hregion], hcommon⟩, ?_⟩)
  simp [hassay, hsome, Nat.not_lt.2 hheld, not_zeroAt hclear]

theorem snapExport_run (hst : (s.region (u8At r.pay 0)).cstate = .held) (hn : s.por.streams.length < 64)
    (hroom : RoomFor s (s.newStream r 5 (some (u8At r.pay 0, 0)))) : ∃ (data : List Byte) (n : Nat), specSnapExport.run r s =
      (.ok data, { s with por := { s.por with
        streams := insertStream (s.newStream r 5 (some (u8At r.pay 0, 0))) s.por.streams, nextStid := n } }.mapRegion (u8At r.pay 0)
          (fun g => { g with cstate := .reading })) := by
  have hopen := openStream_ok (x := s.newStream r 5 (some (u8At r.pay 0, 0))) hn hroom (fun h => absurd h Bool.false_ne_true)
  have hrun : specSnapExport.run r s =
      (let a := s.openStream (s.newStream r 5 (some (u8At r.pay 0, 0)))
       if a.1.good then (a.1, a.2.mapRegion (u8At r.pay 0) (fun g => { g with cstate := .reading })) else a) := if_neg (fun h => h hst)
  rw [hrun, hopen]
  exact ⟨_, _, rfl⟩

theorem streamClose_tenant_iff (r : Req) (s : State) : specStreamClose.tenant r s = true ↔
    (r.role = 1 → ∀ x ∈ s.por.streams, x.stid = r.index → x.ten = r.x.tenant) := by
  by_cases h : r.role = 1 <;> simp [specStreamClose, ownStream, h]

end

/-! ### The statement -/

/-- Settles O41: each command's spec fits its row, its checks pass under the row's conditions, and its effect is the one stated. Choices of the model:
status layouts and those of `HOLD_FORCE` and `SYN_DITHER` (logs 7, 32, 33), the shape of `ACQ_SECTORS` (log 28), `PLAN_VERIFY` one at a time, `PLAN_LOAD`
keeping the slot's other bytes, `PLAN_READ` open to the maker (log 30), a `SAT_EXCLUDE` list replacing the one before (log 32), the answers of `PORT_CAL`
(log 33), the refusals of `STREAM_OPEN` and `SNAP_EXPORT` (log 41). -/
theorem acquisitionPlanAndOutputCommandsAnswer : Obligations.AcquisitionPlanAndOutputCommandsAnswer := by
  unfold Obligations.AcquisitionPlanAndOutputCommandsAnswer
  refine ⟨?acqStatus, ?acqResults, ?acqStart, ?acqAssist, ?acqSectors, ?acqSearch, ?planStatus, ?planLoad, ?planVerify, ?planDiscard, ?planRead,
    ?planDerated, ?planModel, ?measStatus, ?solStatus, ?integStatus, ?surveyStart, ?holdForce, ?satExclude, ?synStatus, ?portStatus, ?portSet,
    ?portEnable, ?portCable, ?portCal, ?synDither, ?streamOpen, ?snapExport, ?streamClose, ?streamStatus⟩
  case acqStatus => exact shows_status (gcp1 := false) (by decide) (fun _ _ => rfl)
  case planStatus => exact shows_status (gcp1 := false) (by decide) (fun _ _ => rfl)
  case measStatus => exact shows_status (gcp1 := true) (by decide) (fun _ _ => rfl)
  case solStatus => exact shows_status (gcp1 := true) (by decide) (fun _ _ => rfl)
  case integStatus => exact shows_status (gcp1 := false) (by decide) (fun _ _ => rfl)
  case synStatus => exact shows_status (gcp1 := true) (by decide) (fun _ _ => rfl)
  case acqResults =>
    exact reads_of specAcqResults (fits_of roleAny_iff (lenIs_iff · 8)) rfl (fun _ _ => rfl) (fun _ _ _ hclear => ⟨if_pos hclear, rfl, rfl⟩)
  case acqStart =>
    refine answers_of specAcqStart (fits_of roleInstaller_iff (lenIs_iff · 4)) rfl (fun _ _ => rfl) (fun r u _ h => ?_)
    obtain ⟨hbit, hmode, hwarm, hhot, hclear⟩ := h
    obtain ⟨t, hrun, hses, hres⟩ := acqStart_run r u
    refine ⟨(firstBad_none _).2 ?_, rfl, ⟨?_, ?_, ?_, acqStart_no_system⟩, ?_⟩
    · simpa [hbit, hmode, not_zeroAt hclear] using ⟨hwarm, hhot⟩
    · rw [hrun]; rfl
    · rw [hrun]; exact hses
    · rw [hrun]; exact hres
    · rw [hrun]; exact fun _ => rfl
  case acqAssist =>
    refine sets_of specAcqAssist (fits_of roleInstaller_iff (lenIs_iff · 48)) rfl (fun _ _ => rfl) (fun r u _ h => ?_)
    obtain ⟨hns, hlo, hhi, hpos, hclear⟩ := h
    refine ⟨(firstBad_none _).2 ?_, rfl, rfl⟩
    simpa [hpos, hhi, not_zeroAt hclear] using And.intro hns (Nat.one_le_iff_ne_zero.1 hlo)
  case acqSectors =>
    refine stages_of specAcqSectors (fits_of roleInstaller_iff (lenIs_iff · 4)) rfl (fun _ _ => rfl) (fun r u _ h => ?_)
    obtain ⟨hsite, hindex, harg⟩ := h
    have hcount : (!([1, 4, 8, 16].contains r.arg)) = false := congrArg Bool.not (List.contains_iff_mem.2 harg)
    have hfits : ((u.site r.index).isNone || decide (12 ≤ r.index)) = false := by simp [← Option.not_isSome, hsite, hindex]
    exact ⟨(firstBad_none _).2 (List.forall_mem_cons.2 ⟨hfits, List.forall_mem_singleton.2 hcount⟩), rfl, rfl, rfl⟩
  case acqSearch =>
    refine answers_of specAcqSearch (fits_of roleInstaller_iff (lenIs_iff · 28)) rfl (fun _ _ => rfl) (fun r u _ h => ?_)
    obtain ⟨hsig, hsite, hindex, hsect, hnlo, hnhi, hclear, haz, hello, helhi, hdopp, hroom⟩ := h
    refine ⟨acqSearch_param hsig hsite hindex hsect hnlo hnhi hclear haz hello helhi hdopp, rfl, ?_⟩
    obtain ⟨x, hrun, hsig, hglok, hcls⟩ := acqSearch_run hroom
    obtain ⟨y, hy, hysig, hyglok, hycls⟩ := exists_mem_enqueue x u.trk.acq.queue
    rw [hrun]
    exact ⟨⟨rfl, rfl, y, hy, hysig.trans hsig, hyglok.trans hglok, hcls ▸ hycls⟩, fun _ => rfl⟩
  case planLoad =>
    refine sets_of specPlanLoad (fits_of roleInstaller_iff lenWrite_iff) rfl (fun _ _ => rfl) (fun r u _ h => ?_)
    obtain ⟨hobj, hrange, hswap⟩ := h
    exact ⟨rangeCheck_none (by simpa using hobj) hrange, rfl, if_neg (by simp [swapFrom_false hswap])⟩
  case planVerify =>
    refine answers_of specPlanVerify (fits_of roleInstaller_iff (lenIs_iff · 4)) rfl (fun _ _ => rfl) (fun r u _ h => ?_)
    obtain ⟨hindex, harg, hidle, hroom⟩ := h
    have hrun : specPlanVerify.run r u = _ := if_neg (by simp [hidle, hroom])
    exact ⟨(firstBad_none _).2 (by simp [hindex, harg]), rfl, by rw [hrun]; exact ⟨rfl, rfl⟩, fun h => absurd h Bool.false_ne_true⟩
  case planDiscard =>
    refine sets_of specPlanDiscard (fits_of roleInstaller_iff (lenIs_iff · 4)) rfl (fun _ _ => rfl) (fun r u _ h => ?_)
    obtain ⟨hindex, harg, hswap⟩ := h
    exact ⟨(firstBad_none _).2 (by simpa [harg] using hindex.resolve_left), rfl, if_neg (by simp [swapFrom_false hswap])⟩
  case planRead =>
    refine reads_of specPlanRead (fits_of planRead_role_iff (lenIs_iff · 8)) rfl (fun _ _ => rfl) (fun r u _ h => ?_)
    obtain ⟨hobj, hrange⟩ := h
    exact ⟨rangeCheck_none (decide_eq_true hobj) hrange, rfl, rfl⟩
  case planDerated =>
    refine sets_of specPlanDerated (fits_of roleInstaller_iff (lenIs_iff · 4)) rfl (fun _ _ => rfl) (fun r u _ h => ?_)
    obtain ⟨hindex, harg⟩ := h
    refine ⟨(firstBad_none _).2 ?_, rfl, rfl⟩
    rcases harg with harg | ⟨harg, hver, d, a, hplan, hactive, hderated, hof⟩
    · simp [hindex, harg]
    · simp [hindex, harg, hver, hplan, hactive, hderated, hof]
  case planModel =>
    refine answers_of specPlanModel (fits_of roleAny_iff (fun _ => lenCounted_iff ..)) rfl (fun _ _ => rfl) (fun r u _ h => ?_)
    obtain ⟨hver, hclear, hn, q, hq, hentries⟩ := h
    refine ⟨planModel_param hver hclear hn hq hentries, rfl, ?_, fun h => absurd h Bool.false_ne_true⟩
    simp [specPlanModel, hq]
  case surveyStart =>
    exact stages_of specSurveyStart (fits_of roleInstaller_iff lenIs_zero_iff) rfl (fun _ _ => rfl)
      (fun r u _ h => ⟨if_neg (by simpa using h), rfl, rfl, rfl⟩)
  case holdForce =>
    refine stages_of specHoldForce (fits_of roleInstaller_iff (lenIs_iff · 4)) rfl (fun _ _ => rfl) (fun r u _ h => ?_)
    obtain ⟨hval, hclear⟩ := h
    exact ⟨(firstBad_none _).2 (by simp [hval, not_zeroAt hclear]), rfl, rfl, rfl⟩
  case satExclude =>
    refine stages_of specSatExclude (fits_of roleInstaller_iff lenList_iff) rfl (fun _ _ => rfl) (fun r u _ h => ?_)
    obtain ⟨hlist, hsig⟩ := h
    exact ⟨listCheck_none hlist (fun e he => by simp [hsig e he, sigOkIndex_zero (hsig e he)]), rfl, rfl, rfl⟩
  case portStatus =>
    refine reads_of specPortStatus (fits_of roleAny_iff (lenIs_iff · 4)) rfl (fun _ _ => rfl) (fun r u _ h => ⟨if_neg (Nat.not_le.2 h), rfl, ?_⟩)
    show (Reply.ok (rangeReply (((List.range 32).filter (r.ownsPort u)).filter _) _ _ _), u) = _
    rw [ports_below]
    rfl
  case portSet => exact stages_portSpec (f := PortCfg.withMode) (gcp1 := true) roleInstOp_iff (by decide) (fun _ _ => rfl)
  case portCable => exact stages_portSpec (f := PortCfg.withCable) (gcp1 := false) roleInstaller_iff (by decide) (fun _ _ => rfl)
  case portEnable =>
    refine stages_of specPortEnable (fits_of roleInstOp_iff lenList_iff (fun _ _ => List.all_eq_true)) rfl (fun _ _ => rfl) (fun r u _ h => ?_)
    obtain ⟨hlist, hentries⟩ := h
    exact ⟨listCheck_none hlist (fun e he => by simp [hentries e he]), rfl, rfl, nextBoundary_foldl_mapPort ..⟩
  case portCal =>
    refine answers_of specPortCal (fits_of portCal_role_iff (lenIs_iff · 4) (fun _ _ => Iff.rfl)) rfl (fun _ _ => rfl) (fun r u _ h => ?_)
    obtain ⟨hport, ⟨harg, hen, hoff, hrun⟩ | ⟨harg, hjump⟩ | harg⟩ := h
    · rw [portCal_start harg hen hoff hrun]
      exact ⟨portCal_param hport (.inl harg), rfl, by simp [harg], fun _ => rfl⟩
    · obtain ⟨d, hd⟩ := Option.isSome_iff_exists.1 hjump
      rw [portCal_accept harg hd]
      exact ⟨portCal_param hport (.inr (.inl ⟨harg, hjump⟩)), rfl, by simp [harg, hd], fun _ => rfl⟩
    · rw [portCal_clear harg]
      exact ⟨portCal_param hport (.inr (.inr harg)), rfl, by simp [harg], fun _ => rfl⟩
  case synDither =>
    refine stages_of specSynDither (fits_of roleInstaller_iff (fun _ => lenCounted_iff ..)) rfl (fun _ _ => rfl) (fun r u _ h => ?_)
    obtain ⟨hclear, hentries⟩ := h
    exact ⟨synDither_param hclear hentries, rfl, rfl, rfl⟩
  case streamOpen =>
    refine answers_of specStreamOpen (fits_of streamOpen_role_iff (lenIs_iff · 32)) rfl (fun _ _ => rfl) (fun r u _ h => ?_)
    obtain ⟨hkind, hsnap, hcommon, hassay, harg, hclear, hn, hroom, hload⟩ := h
    have hrun : specStreamOpen.run r u = _ := openStream_ok hn hroom (fun _ => hload)
    refine ⟨streamOpen_param hkind hsnap hcommon hassay harg hclear, rfl, ?_⟩
    rw [hrun]
    exact ⟨⟨rfl, rfl⟩, fun _ => rfl⟩
  case snapExport =>
    refine answers_of specSnapExport (fits_of roleInstOp_iff (lenIs_iff · 32) snapExport_tenant_iff) rfl (fun _ _ => rfl) (fun r u _ h => ?_)
    obtain ⟨hregion, hcommon, hassay, hst, hsome, hheld, hclear, hn, hroom⟩ := h
    obtain ⟨data, n, hrun⟩ := snapExport_run hst hn hroom
    refine ⟨snapExport_param hregion hcommon hassay hsome hheld hclear, rfl, ?_⟩
    rw [hrun]
    refine ⟨⟨rfl, ?_, rfl, fun c hc => ?_⟩, fun _ => rfl⟩
    · rw [region_mapRegion _ _ _ _ hregion, if_pos rfl]
    · rw [region_mapRegion _ _ _ _ hregion, if_neg hc]
      rfl
  case streamClose =>
    refine sets_of specStreamClose (fits_of roleInstOp_iff (lenIs_iff · 4) streamClose_tenant_iff) rfl (fun _ _ => rfl) (fun r u _ h => ?_)
    obtain ⟨hstream, harg⟩ := h
    exact ⟨(firstBad_none _).2 (by simpa [harg] using hstream), rfl, rfl⟩
  case streamStatus =>
    exact reads_of specStreamStatus (fits_of roleAny_iff (lenIs_iff · 4)) rfl (fun _ _ => rfl) (fun _ _ _ _ => ⟨rfl, rfl, rfl⟩)

end Sys2Proof.Proofs.OutputCommands
end

section
/-! PROOFS. The strides of a logical stope (08 R175–R181, R184). What a stride does to the beams, the channels, the assay and the searches leaves time
and the stopes' places in their strides alone; so the stope's next stride and the moment it stands at follow from the stride's start and its end. -/

namespace Sys2Proof.Proofs.Strides

open Sys2Proof Sys2Proof.Machine Sys2Proof.Proofs.Assay

/-! ### What the ops of a stride leave alone -/

/-- Time, a stope's place in its strides, and the run figures of every other stope. -/
structure StrideView (ls : Nat) where
  tick : Nat
  stride : Nat
  at_ : Nat
  others : { j : Nat // j ≠ ls } → StopeRun

/-- The view of a state from a logical stope. -/
def strideView (ls : Nat) (s : State) : StrideView ls :=
  { tick := s.clk.tick, stride := (s.runOf ls).stride, at_ := (s.runOf ls).at_, others := fun j => s.runOf j }

section
variable {ls : Nat}

/-- Changes of other parts than time and fabric leave the view. -/
theorem strideView_congr {s t : State} (hclk : t.clk = s.clk) (hfab : t.fab = s.fab) : strideView ls t = strideView ls s := by
  simp only [strideView, State.runOf, hclk, hfab]

/-- An update of the stope's own run figures shows in the view by the stride and the epoch it leaves. -/
theorem strideView_mapRun (hls : ls < 32) (f : StopeRun → StopeRun) (s : State) : strideView ls (s.mapRun ls f) =
    { strideView ls s with stride := (f (s.runOf ls)).stride, at_ := (f (s.runOf ls)).at_ } := by
  simp only [strideView, mapRun_keeps, runOf_mapRun _ _ _ _ hls, if_true, StrideView.mk.injEq, true_and]
  exact funext fun j => if_neg j.property

theorem strideView_mapRun_same (hls : ls < 32) {f : StopeRun → StopeRun} (hf : ∀ r, (f r).stride = r.stride ∧ (f r).at_ = r.at_) (s : State) :
    strideView ls (s.mapRun ls f) = strideView ls s := by
  rw [strideView_mapRun hls, (hf _).1, (hf _).2]
  rfl

theorem strideView_mapBeam (n : Nat) (f : BeamState → BeamState) (s : State) : strideView ls (s.mapBeam n f) = strideView ls s :=
  strideView_congr rfl rfl

theorem strideView_mapChan (n : Nat) (f : ChanState → ChanState) (s : State) : strideView ls (s.mapChan n f) = strideView ls s :=
  strideView_congr rfl rfl

theorem strideView_mapAssay (f : AssayState → AssayState) (s : State) : strideView ls (s.mapAssay f) = strideView ls s :=
  strideView_congr rfl rfl

theorem strideView_form (g : StrideAt) (acc : State × List (Nat × List BeamOut)) (x : BeamSlot) :
    strideView ls (g.form acc x).1 = strideView ls acc.1 := strideView_mapBeam ..

theorem strideView_arm (g : StrideAt) (outs : List (Nat × List BeamOut)) (s : State) (x : ChanSlot) :
    strideView ls (g.arm outs s x) = strideView ls s := by
  unfold StrideAt.arm
  dsimp only
  split
  · split
    · exact strideView_mapChan ..
    · rfl
  · rfl

theorem strideView_asy (g : StrideAt) (s : State) (x : AssaySlot) : strideView ls (g.asy s x) = strideView ls s := by
  unfold StrideAt.asy
  dsimp only
  split
  · rfl
  · split
    · rfl
    · split
      · exact strideView_mapAssay ..
      · rfl

theorem strideView_sweepSum (g : StrideAt) (s : State) (n : Nat) : strideView ls (g.sweepSum s n) = strideView ls s := by
  unfold StrideAt.sweepSum
  dsimp only
  split
  · rfl
  · exact strideView_mapAssay ..

theorem strideView_slice (g : StrideAt) (cyc at_ : Nat) (s : State) : strideView ls (g.slice cyc at_ s) = strideView ls s :=
  strideView_congr rfl rfl

/-- Each op of the template works on the slots of its kind; a background slice on the sweep and the searches (08 R177, R182). -/
theorem strideView_op (g : StrideAt) (acc : OpsDone) (o : TmplOp) : strideView ls (g.op acc o).s = strideView ls acc.s := by
  unfold StrideAt.op
  dsimp only
  split
  · exact foldl_keeps (fun a : State × List (Nat × List BeamOut) => strideView ls a.1) (fun a x _ => strideView_form g a x) _
  · exact foldl_keeps (strideView ls) (fun t x _ => strideView_arm g _ t x) _
  · exact foldl_keeps (strideView ls) (fun t x _ => strideView_asy g t x) _
  · exact (strideView_slice ..).trans (foldl_keeps (strideView ls) (fun t n _ => strideView_sweepSum g t n) _)
  · rfl

/-- The ops of a template, from the state that the stride starts in. -/
theorem strideView_ops (g : StrideAt) (l : List TmplOp) (s : State) : strideView ls (l.foldl g.op { s := s }).s = strideView ls s :=
  foldl_keeps (fun a : OpsDone => strideView ls a.s) (fun a o _ => strideView_op g a o) _

/-! ### What the end of an epoch leaves alone -/

theorem strideView_closeLive (t0 : Nat) (s : State) (x : BeamSlot) : strideView ls (s.closeLive t0 x) = strideView ls s := by
  unfold State.closeLive
  split
  · rfl
  · exact strideView_congr rfl rfl

theorem strideView_landChan (g : StrideAt) (bank : Nat) (s : State) (x : ChanSlot) :
    strideView ls (g.landChan bank s x) = strideView ls s := strideView_mapChan ..

theorem strideView_landAssay (g : StrideAt) (bank : Nat) (s : State) (x : AssaySlot) :
    strideView ls (g.landAssay bank s x) = strideView ls s := strideView_mapAssay ..

theorem strideView_landSweep (g : StrideAt) (bank : Nat) (lands : Bool) (s : State) :
    strideView ls (g.landSweep bank lands s) = strideView ls s := strideView_mapAssay ..

end

/-- Where the epoch's results land, or are lost, the stope keeps its place in its strides. -/
theorem strideView_landEpoch (g : StrideAt) (hls : g.ls < 32) (cmp : Nat) (s : State) :
    strideView g.ls (s.landEpoch g cmp) = strideView g.ls s := by
  have hclosed : strideView g.ls (g.beams.foldl (fun s x => (s.mapBeam x.bnum (fun y => y.closeEpoch (g.beamSet y).1)).closeLive g.t0 x) s) =
      strideView g.ls s :=
    foldl_keeps (strideView g.ls) (fun t x _ => (strideView_closeLive ..).trans (strideView_mapBeam ..)) s
  have hrun := fun f hf => (strideView_mapRun_same (f := f) hls hf _).trans hclosed
  unfold State.landEpoch
  dsimp only
  split
  · rw [strideView_mapRun_same hls (by simp), strideView_landSweep, foldl_keeps (strideView g.ls) (fun t x _ => strideView_landAssay g _ t x),
      foldl_keeps (strideView g.ls) (fun t x _ => strideView_landChan g _ t x), hrun _ (by simp)]
  · rw [strideView_mapAssay, strideView_landSweep]
    exact (foldl_keeps (strideView g.ls) (fun _ _ _ => strideView_mapChan ..) _).trans (hrun _ (by simp))

/-! ### A stride -/

/-- The ms of the epoch that a stope's next stride belongs to: its own, or, at the first stride, the first whose samples are not ready yet. -/
def strideEpoch (h : StopeHdr) (ls : Nat) (s : State) : Nat :=
  if (s.runOf ls).stride = 0 then ceilDiv (s.clk.tick - readyTick h.sg 0) epochTicks else (s.runOf ls).at_

theorem follow_wait_runOf (phys frep n ls : Nat) (s : State) : (State.follow phys frep (s.wait n)).runOf ls = s.runOf ls := rfl

/-- A stride starts when its samples are ready and leaves the stope at the next one, the last at the first; the other stopes stay (08 R179, R184). -/
theorem strideView_stride {ls : Nat} (hls : ls < 32) (p : Plan) (h : StopeHdr) (frep : Nat) (s : State) :
    strideView ls (s.stride p h ls frep) =
      { tick := (s.wait (strideEpoch h ls s * epochTicks + readyTick h.sg (s.runOf ls).stride - s.clk.tick)).clk.tick
        stride := if (s.runOf ls).stride + 1 < strides h.sg then (s.runOf ls).stride + 1 else 0
        at_ := strideEpoch h ls s
        others := fun j => s.runOf j } := by
  unfold State.stride
  extract_lets i rt t0 phys s1 m isl f late runs slack band g s2 s3 cyc
  have ht0 : t0 = strideEpoch h ls s * epochTicks := by
    simp only [t0, rt, i, strideEpoch]
    split
    · next hi => rw [hi]
    · rfl
  have hms : t0 / epochTicks = strideEpoch h ls s := by
    rw [ht0, Nat.mul_div_cancel _ (by decide)]
  have hs1 : strideView ls s1 =
      { tick := (s.wait (strideEpoch h ls s * epochTicks + rt - s.clk.tick)).clk.tick, stride := i, at_ := strideEpoch h ls s
        others := fun j => s.runOf j } := by
    refine (strideView_mapRun hls _ _).trans ?_
    rw [follow_wait_runOf, ← ht0]
    split
    · rw [hms]
      rfl
    · next hi =>
      rw [show strideEpoch h ls s = (s.runOf ls).at_ from if_neg hi]
      rfl
  have hs2 : strideView ls s2 = strideView ls s1 := by
    simp only [s2]
    split
    · exact strideView_ops ..
    · rfl
  have hs3 : strideView ls s3 = { strideView ls s1 with stride := if i + 1 < strides h.sg then i + 1 else 0 } := by
    rw [← hs2]
    exact strideView_mapRun hls _ _
  rw [hs1] at hs3
  refine Eq.trans ?_ hs3
  split
  · rfl
  · exact (strideView_landEpoch g hls _ _).trans (strideView_mapRun_same hls (by simp) s3)

/-! ### The event -/

/-- Without a plan no stride runs. -/
theorem strideStart_idle {ls : Fin 32} {frep : Nat} {s : State} (ha : s.fab.active = none) (hs : s.fab.swap = none) :
    exec (.evStrideStart ls frep) s = .next s := by
  show execEvStrideStart ls frep s = _
  simp [execEvStrideStart, State.program, ha, hs]

/-- With no swap under way the stride is the active plan's. -/
theorem strideStart_runs {ls : Fin 32} {frep : Nat} {s : State} {p : Plan} {h : StopeHdr} (hup : s.fabricUp = true) (hs : s.fab.swap = none)
    (ha : s.fab.active = some p) (hh : p.stopes[ls.val]? = some h) :
    exec (.evStrideStart ls frep) s = .next (s.stride p h ls frep) := by
  show execEvStrideStart ls frep s = _
  simp [execEvStrideStart, State.program, hup, hs, ha, hh]

/-- Where the time base counts, a wait for a moment ends at it, or at once where it has passed. -/
theorem wait_until_tick {s : State} (hr : s.clk.runs = true) (t : Nat) : (s.wait (t - s.clk.tick)).clk.tick = max s.clk.tick t := by
  rw [wait_tick _ _ hr]
  omega

/-- `RDY(i)` lies 32 µs and i + 1 strides after T0, rounded up to a tick (08 R184). -/
theorem readyTick_eq (sg i : Nat) : readyTick sg i = (261888 + 1600 * sg * (i + 1) + 99) / 100 := rfl

/-- Settles O28: of all that a stride does, only its start moves time and only its end the stope's place in its strides. -/
theorem stridesRunInTurn : Obligations.StridesRunInTurn := by
  unfold Obligations.StridesRunInTurn
  refine fun ls frep s => ⟨strideStart_idle, fun p h hup hs ha hh => ⟨_, strideStart_runs hup hs ha hh, ?_⟩⟩
  have hr : s.clk.runs = true := (Bool.and_eq_true_iff.1 hup).2
  have hview := strideView_stride ls.isLt p h frep s
  rw [wait_until_tick hr] at hview
  have htick : (s.stride p h ls frep).clk.tick = _ := congrArg StrideView.tick hview
  have hat : ((s.stride p h ls frep).runOf ls).at_ = strideEpoch h ls s := congrArg StrideView.at_ hview
  simp only [readyTick_eq, epochTicks, Nat.mul_comm _ 81840] at htick
  refine ⟨congrArg StrideView.stride hview, fun hi => ?_, fun hi => ?_, fun j hj => ?_⟩
  · have hsame : strideEpoch h ls s = (s.runOf ls).at_ := if_neg (Nat.ne_of_gt hi)
    rw [hsame] at htick hat
    exact ⟨htick, hat⟩
  · rw [hat]
    simp only [hi] at htick
    simpa using htick
  · exact congrFun (congrArg StrideView.others hview) ⟨j, fun e => hj (Fin.ext e)⟩

end Sys2Proof.Proofs.Strides
end

section
/-! PROOFS. The ends of what runs beside the plan: the copy of a deputy substitution, a deep test, and the checks of a plan slot (09 R223, 16 R405,
22 R524, 08 R199). First what the end of an activity and a final reply leave of the fabric, then the three events. -/

namespace Sys2Proof.Proofs.Completions

open Sys2Proof Sys2Proof.Machine Sys2Proof.Proofs.AditsAndLode Sys2Proof.Proofs.DeputyLoop

/-! ### A deputy's copy -/

/-- As `getElem_vupdN`, for positions given as numbers; the one updated may lie outside the vector. -/
@[simp] theorem getElem_vupdN_nat {α : Type} {n : Nat} (v : Vector α n) (i j : Nat) (f : α → α) (hj : j < n) :
    (vupdN v i f)[j] = if j = i then f v[j] else v[j] := by
  unfold vupdN
  split
  · rw [Vector.getElem_set]
    split
    · next h => subst h; rw [if_pos rfl]
    · next h => rw [if_neg (Ne.symm h)]
  · rw [if_neg (by omega)]

/-- Updates at two positions show each at its own. -/
theorem getElem_foldl_vupdN_pair {α : Type} {n : Nat} (v : Vector α n) {i k : Nat} (hne : i ≠ k) (j : Fin n) (f : α → α) :
    ([i, k].foldl (fun v m => vupdN v m f) v)[j] = if j.val = i ∨ j.val = k then f v[j] else v[j] := by
  by_cases hi : j.val = i
  · simp [hi, hne]
  · simp [hi]

theorem deputyCopyComplete_idle {s : State} (h : s.fab.dpSub = none) : exec .evDeputyCopyComplete s = .next s := by
  show execEvDeputyCopyComplete s = _
  simp [execEvDeputyCopyComplete, h]

/-- The copy is complete, and line 2 is signalled to the deputy replaced and to the one that replaces it (16 R405). That the notice comes with the
copy's completion is the model's choice (log 9). -/
theorem deputyCopyComplete_signals {s : State} {u : DepSub} (h : s.fab.dpSub = some u) : exec .evDeputyCopyComplete s =
    .next { s with
      fab := { s.fab with dpSub := some { u with copied := true } }
      cor := { s.cor with core := [vgetD s.fab.ldMap u.ld 99, u.phys].foldl (fun v k => vupdN v k (CoreState.signal 2)) s.cor.core } } := by
  show execEvDeputyCopyComplete s = _
  simp only [execEvDeputyCopyComplete, h]

/-! ### A deep test -/

/-- While no request waits, the end of an activity leaves time and all of the fabric but the list of activities (09 R226). -/
theorem endAct_fab_clk {s : State} (h : NoQueue s) (f : Activity → Bool) (outcome : Nat) : ∃ acts : List Activity,
    (s.endAct f outcome).fab = { s.fab with acts := acts } ∧ (s.endAct f outcome).clk = s.clk := by
  unfold State.endAct
  split
  · exact ⟨_, rfl, rfl⟩
  · rw [walkQueue_of_noQueue (by simpa [NoQueue, State.maintRecord] using h)]
    exact ⟨_, rfl, rfl⟩

/-- The verdict on a stope: its result stands; it is no longer suspect, or retired (22 R524). -/
theorem tested_stope_fab (n : Nat) (pass : Bool) (s : State) : (s.tested 0 n pass).fab =
    { s.fab with
      testing := none, stTest := vupdN s.fab.stTest n (fun _ => if pass then 1 else 2)
      stSuspect := if pass then s.fab.stSuspect.filter (· != n) else s.fab.stSuspect
      stRetired := if pass then s.fab.stRetired else s.fab.stRetired ++ [n] } := by
  cases pass <;> simp [State.tested]

/-- The verdict on a deputy (22 R524). -/
theorem tested_deputy_fab (n : Nat) (pass : Bool) (s : State) : (s.tested 1 n pass).fab =
    { s.fab with
      testing := none, dpTest := vupdN s.fab.dpTest n (fun _ => if pass then 1 else 2)
      dpSuspect := if pass then s.fab.dpSuspect.filter (· != n) else s.fab.dpSuspect
      dpRetired := if pass then s.fab.dpRetired else s.fab.dpRetired ++ [n] } := by
  cases pass <;> simp [State.tested]

theorem tested_clk (kind n : Nat) (pass : Bool) (s : State) : (s.tested kind n pass).clk = s.clk := by
  cases pass <;> simp [State.tested, State.canary, report_clk, State.noteTest]

/-- A verdict touches no request that waits. -/
theorem tested_noQueue (kind n : Nat) (pass : Bool) {s : State} (h : NoQueue s) : NoQueue (s.tested kind n pass) := by
  by_cases hk : kind = 0 <;> cases pass <;> simpa [NoQueue, State.tested, hk] using h

/-- How long a deep test lasts, in ms: a stope's 2 s, a deputy's 1 s (22 R524). -/
def testMs (kind : Nat) : Nat := if kind = 0 then 2000 else 1000

/-- Every result matched, and the unit's clock reached what it must: 5 % above the floor for a stope, 840 MHz for a deputy (22 R524). -/
def testPasses (kind : Nat) (matched : Bool) (frep : Nat) (s : State) : Bool :=
  matched && decide ((if kind = 0 then s.testClock else 84000) ≤ 100 * frep)

/-- The frequency found stands in the tested stope's island. -/
def probed (kind n frep : Nat) (s : State) : State :=
  if kind = 0 then { s with clk := { s.clk with isl := vupdN s.clk.isl n (fun i => { i with frep := frep }) } } else s

theorem probed_fab (kind n frep : Nat) (s : State) : (probed kind n frep s).fab = s.fab := by
  unfold probed
  split <;> rfl

section
variable {kind n : Nat} {a : Activity} {s : State}

theorem exec_deepTestComplete (ht : s.fab.testing = some (kind, n)) (ha : s.fab.acts.find? (fun a => a.code == 6) = some a)
    (matched : Bool) (frep : Nat) : exec (.evDeepTestComplete matched frep) s =
      .next (if s.ms < a.startMs + testMs kind then s
        else ((probed kind n frep s).tested kind n (testPasses kind matched frep s)).endAct (fun a => a.code == 6)
          (if testPasses kind matched frep s then 1 else 2)) := by
  show execEvDeepTestComplete matched frep s = _
  simp only [execEvDeepTestComplete, ht, ha]
  rfl

/-- Before its time nothing of a deep test completes: the model's choice (log 31). -/
theorem deepTestComplete_early (ht : s.fab.testing = some (kind, n)) (ha : s.fab.acts.find? (fun a => a.code == 6) = some a)
    (he : s.ms < a.startMs + testMs kind) (matched : Bool) (frep : Nat) : exec (.evDeepTestComplete matched frep) s = .next s := by
  rw [exec_deepTestComplete ht ha, if_pos he]

/-- From then on the verdict stands; of the fabric the end of the activity then changes the list of activities only. -/
theorem deepTestComplete_ends (hq : NoQueue s) (ht : s.fab.testing = some (kind, n))
    (ha : s.fab.acts.find? (fun a => a.code == 6) = some a) (he : a.startMs + testMs kind ≤ s.ms) (matched : Bool) (frep : Nat) :
    Gives (.evDeepTestComplete matched frep) s (fun t => t.clk = (probed kind n frep s).clk ∧
      ∃ acts : List Activity, t.fab = { ((probed kind n frep s).tested kind n (testPasses kind matched frep s)).fab with acts := acts }) := by
  rw [Gives, exec_deepTestComplete ht ha, if_neg (Nat.not_lt.2 he)]
  obtain ⟨acts, hfab, hclk⟩ := endAct_fab_clk
    (tested_noQueue kind n (testPasses kind matched frep s) (noQueue_of_fab hq (probed_fab kind n frep s))) (fun a => a.code == 6)
    (if testPasses kind matched frep s then 1 else 2)
  exact ⟨_, rfl, hclk.trans (tested_clk ..), acts, hfab⟩

end

theorem testPasses_stope (matched : Bool) (frep : Nat) (s : State) :
    testPasses 0 matched frep s = decide (matched = true ∧ s.testClock ≤ 100 * frep) := by
  simp [testPasses]

theorem testPasses_deputy (matched : Bool) (frep : Nat) (s : State) :
    testPasses 1 matched frep s = decide (matched = true ∧ 840 ≤ frep) := by
  simp [testPasses, show 84000 ≤ 100 * frep ↔ 840 ≤ frep by omega]

theorem probed_stope_frep {n : Nat} (hn : n < 156) (frep : Nat) (s : State) : ((probed 0 n frep s).clk.isl[n]).frep = frep := by
  simp [probed]

/-- A deputy's test: 1 s, and 840 MHz (22 R524). -/
theorem deputyTest_verdict {n : Fin 18} {a : Activity} {s : State} (hq : NoQueue s) (ht : s.fab.testing = some (1, n.val))
    (ha : s.fab.acts.find? (fun a => a.code == 6) = some a) (he : a.startMs + 1000 ≤ s.ms) (matched : Bool) (frep : Nat) :
    Gives (.evDeepTestComplete matched frep) s (fun t => t.fab.testing = none ∧
      (let pass := matched = true ∧ 840 ≤ frep
       t.fab.dpTest[n] = (if pass then 1 else 2) ∧ (pass → n.val ∉ t.fab.dpSuspect ∧ t.fab.dpRetired = s.fab.dpRetired) ∧
        (¬ pass → t.fab.dpRetired = s.fab.dpRetired ++ [n.val]))) := by
  obtain ⟨t, hexec, -, acts, hfab⟩ := deepTestComplete_ends hq ht ha he matched frep
  rw [tested_deputy_fab, probed_fab, testPasses_deputy] at hfab
  refine ⟨t, hexec, ?_⟩
  by_cases hp : matched = true ∧ 840 ≤ frep <;> simp [hfab, hp]

/-- A stope's test: 2 s, and the clock that the plans ask for; the frequency found stands in its island (22 R524). -/
theorem stopeTest_verdict {m : Fin 36} {a : Activity} {s : State} (hq : NoQueue s) (ht : s.fab.testing = some (0, m.val))
    (ha : s.fab.acts.find? (fun a => a.code == 6) = some a) (he : a.startMs + 2000 ≤ s.ms) (matched : Bool) (frep : Nat) :
    Gives (.evDeepTestComplete matched frep) s (fun t => t.fab.testing = none ∧ (t.clk.isl[m.val]'(by omega)).frep = frep ∧
      (let pass := matched = true ∧ s.testClock ≤ 100 * frep
       t.fab.stTest[m] = (if pass then 1 else 2) ∧ (pass → m.val ∉ t.fab.stSuspect ∧ t.fab.stRetired = s.fab.stRetired) ∧
        (¬ pass → t.fab.stRetired = s.fab.stRetired ++ [m.val]))) := by
  obtain ⟨t, hexec, hclk, acts, hfab⟩ := deepTestComplete_ends hq ht ha he matched frep
  rw [tested_stope_fab, probed_fab, testPasses_stope] at hfab
  have hfrep := probed_stope_frep (n := m.val) (by omega) frep s
  rw [← hclk] at hfrep
  refine ⟨t, hexec, by rw [hfab], hfrep, ?_⟩
  by_cases hp : matched = true ∧ s.testClock ≤ 100 * frep <;> simp [hfab, hp]

/-! ### The checks of a plan slot -/

/-- A final reply goes out in its session only (12 R299, R313). -/
theorem finalReply_fab (opcode sid seq : Nat) (r : Reply) (s : State) : (s.finalReply opcode sid seq r).fab = s.fab := by
  unfold State.finalReply
  split
  · rfl
  · simp

theorem finalReply_boo (opcode sid seq : Nat) (r : Reply) (s : State) : (s.finalReply opcode sid seq r).boo = s.boo := by
  unfold State.finalReply
  split
  · rfl
  · simp

section
variable {sid seq k : Nat} {s : State}

/-- A check that fails changes nothing of the fabric, where the slots are (08 R199). -/
theorem planVerifyResult_fails (hv : s.boo.planVerify = some (sid, seq, k)) {c : Nat × Nat}
    (hc : s.planChecks (imageOf (s.slot k).image) = some c) :
    Gives .evPlanVerifyResult s (fun t => t.boo.planVerify = none ∧ t.fab = s.fab) := by
  refine ⟨_, rfl, ?_⟩
  simp [hv, hc, finalReply_fab, finalReply_boo]

/-- A slot whose checks all pass is verified with the plan that its image holds (08 R199). -/
theorem planVerifyResult_passes (hv : s.boo.planVerify = some (sid, seq, k)) (hc : s.planChecks (imageOf (s.slot k).image) = none) :
    Gives .evPlanVerifyResult s (fun t => t.boo.planVerify = none ∧ t.fab = (s.verifySlot k).fab) := by
  refine ⟨_, rfl, ?_, ?_⟩
  · simp [hv, hc, finalReply_boo, State.verifySlot]
  · simp only [hv, hc, finalReply_fab, tally_keeps]
    rfl

end

theorem slot_of_fab {s t : State} (h : t.fab = s.fab) (k : Nat) : t.slot k = s.slot k := by rw [State.slot, State.slot, h]

theorem slot_verifySlot {k : Nat} (h : k < 3) (s : State) :
    (s.verifySlot k).slot k = { s.slot k with verified := true, plan := some (planOf (imageOf (s.slot k).image)) } := by
  rw [State.verifySlot, slot_mapSlot _ _ _ _ h, if_pos rfl]

/-! ### The three events -/

/-- Settles O30: two deputies take the line's bit, a verdict outlives the end of its activity while no request waits, and of a plan's checks only a
pass reaches the slot. The moment of the notice and a test's lack of effect before its time are the model's choices (logs 9 and 31). -/
theorem copiesTestsAndChecksComplete : Obligations.CopiesTestsAndChecksComplete := by
  unfold Obligations.CopiesTestsAndChecksComplete
  refine ⟨fun s => ⟨deputyCopyComplete_idle, fun u hu => ?copy⟩, fun n m matched frep a s hq ha => ⟨fun ht => ?deputy, fun ht => ?stope⟩,
    fun sid seq k s hv => ?plan⟩
  case copy =>
    exact fun hne => ⟨_, deputyCopyComplete_signals hu, fun j => getElem_foldl_vupdN_pair _ hne j _, rfl⟩
  case deputy =>
    exact ⟨fun he => deepTestComplete_early ht ha he matched frep, fun he => deputyTest_verdict hq ht ha he matched frep⟩
  case stope =>
    exact ⟨fun he => deepTestComplete_early ht ha he matched frep, fun he => stopeTest_verdict hq ht ha he matched frep⟩
  case plan =>
    cases hc : s.planChecks (imageOf (s.slot k.val).image) with
    | some c =>
      obtain ⟨t, hexec, hboo, hfab⟩ := planVerifyResult_fails hv hc
      exact ⟨t, hexec, hboo, fun _ => hfab, nofun⟩
    | none =>
      obtain ⟨t, hexec, hboo, hfab⟩ := planVerifyResult_passes hv hc
      refine ⟨t, hexec, hboo, nofun, fun _ => ?_⟩
      rw [slot_of_fab hfab, slot_verifySlot k.isLt]
      exact ⟨rfl, rfl, rfl⟩

end Sys2Proof.Proofs.Completions
end

section
/-! PROOFS. The deadlines D1 and D2 (09 R212, R213). Of time, the marks of the two deadlines and the channels, all that a deadline does beside voiding
changes nothing: reports, escalation, proposals, and the requests that wait and start where a substitution ends. So what the deadline's first pass over
the stopes or the deputies makes of a channel stands at its end. -/

namespace Sys2Proof.Proofs.Deadlines

open Sys2Proof Sys2Proof.Machine Sys2Proof.Proofs.AditsAndLode Sys2Proof.Proofs.Assay Sys2Proof.Proofs.Channels Sys2Proof.Proofs.DeputyLoop
  Sys2Proof.Proofs.Acquisition

/-! ### What a deadline shows -/

/-- Device time, and the boundaries whose D1 and whose D2 have been checked last. -/
structure Moment where
  tick : Nat
  d1At : Option Nat
  d2At : Option Nat

/-- The moment and the channels. -/
structure DeadlineView extends Moment where
  ch : Vector ChanState 384

/-- The view of a state from its deadlines. -/
def deadlineView (s : State) : DeadlineView :=
  { tick := s.clk.tick, d1At := s.fab.d1At, d2At := s.fab.d2At, ch := s.trk.ch }

theorem ms_of_moment {s t : State} (h : (deadlineView t).toMoment = (deadlineView s).toMoment) : t.ms = s.ms :=
  congrArg (fun m : Moment => m.tick / epochTicks) h

theorem chan_of_deadlineView {s t : State} (h : deadlineView t = deadlineView s) (n : Nat) : t.chan n = s.chan n :=
  congrArg (fun v : DeadlineView => vgetD v.ch n {}) h

/-- A change of other parts than device time, the deadlines' marks and the channels leaves the view. -/
theorem deadlineView_congr {s t : State} (htick : t.clk.tick = s.clk.tick) (hd1 : t.fab.d1At = s.fab.d1At) (hd2 : t.fab.d2At = s.fab.d2At)
    (hch : t.trk.ch = s.trk.ch) : deadlineView t = deadlineView s := by
  simp only [deadlineView, htick, hd1, hd2, hch]

/-! ### Escalation (09 R216) -/

theorem deadlineView_mapEscLs (ls : Nat) (f : Esc → Esc) (s : State) : deadlineView (s.mapEscLs ls f) = deadlineView s := rfl

theorem deadlineView_mapEscLd (ld : Nat) (f : Esc → Esc) (s : State) : deadlineView (s.mapEscLd ld f) = deadlineView s := rfl

theorem deadlineView_mapEscCh (n : Nat) (f : Esc → Esc) (s : State) : deadlineView (s.mapEscCh n f) = deadlineView s := rfl

theorem deadlineView_mapEscAs (n : Nat) (f : Esc → Esc) (s : State) : deadlineView (s.mapEscAs n f) = deadlineView s := rfl

/-! ### Reports and proposals (12 R326, 22 R525) -/

theorem deadlineView_report (code sev ten unit : Nat) (body : List Byte) (s : State) :
    deadlineView (s.report code sev ten unit body) = deadlineView s :=
  deadlineView_congr (by rw [report_clk]) (by rw [report_fab]) (by rw [report_fab]) (by rw [report_trk])

theorem deadlineView_proposeAs (sact sclass sindex sres scause : Nat) (s : State) :
    deadlineView (s.proposeAs sact sclass sindex sres scause) = deadlineView s := by
  unfold State.proposeAs
  split
  · rfl
  · dsimp only
    split <;> rfl

theorem deadlineView_proposeStope (ls scause : Nat) (s : State) : deadlineView (s.proposeStope ls scause) = deadlineView s := by
  unfold State.proposeStope
  split
  · exact deadlineView_proposeAs ..
  · split
    · exact deadlineView_proposeAs ..
    · rfl

theorem deadlineView_proposeDeputy (ld scause : Nat) (s : State) : deadlineView (s.proposeDeputy ld scause) = deadlineView s :=
  deadlineView_proposeAs ..

/-! ### Activities and the queue of requests (09 R226–R228) -/

theorem deadlineView_beginAct (sid code a b : Nat) (s : State) : deadlineView (s.beginAct sid code a b) = deadlineView s := rfl

/-- The reset of a block reaches neither time nor a channel. -/
theorem blockClear_keeps (cls idx : Nat) (s : State) : (s.blockClear cls idx).clk.tick = s.clk.tick ∧
    (s.blockClear cls idx).trk.ch = s.trk.ch := by
  unfold State.blockClear
  split <;> exact ⟨rfl, rfl⟩

theorem deadlineView_leaveBeams (n : Nat) (s : State) : deadlineView (s.leaveBeams n) = deadlineView s := rfl

theorem deadlineView_bringUp (n : Nat) (s : State) : deadlineView (s.bringUp n) = deadlineView s := by
  unfold State.bringUp
  split <;> rfl

/-- An activity that starts moves neither time nor a channel: the cases are a sweep, a substitution, a plan swap, the renegotiation of a lane, the
copy of a lode bank and a deep test (09 R226). -/
theorem deadlineView_startReq {q : MaintReq} {s t : State} (h : s.startReq q = some t) : deadlineView t = deadlineView s := by
  unfold State.startReq at h
  split at h
  case h_1 =>
    cases h
    rfl
  case h_2 =>
    split at h
    · split at h
      · cases h
      · cases h
        rfl
    · split at h
      · cases h
      · cases h
        rfl
  case h_3 =>
    split at h
    · cases h
    · dsimp only at h
      split at h
      · cases h
        rw [deadlineView_beginAct]
        split <;> rfl
      · cases h
  case h_4 =>
    split at h
    · cases h
      exact (deadlineView_bringUp ..).trans (deadlineView_leaveBeams ..)
    · cases h
  case h_5 =>
    split at h
    · cases h
    · cases h
      rfl
  case h_6 =>
    obtain ⟨-, h⟩ := Option.ite_none_right_eq_some.1 h
    cases h
    obtain ⟨htick, hch⟩ := blockClear_keeps q.arg q.arg2 s
    exact deadlineView_congr htick rfl rfl hch

theorem deadlineView_reportStarted (s : State) : deadlineView s.reportStarted = deadlineView s := by
  unfold State.reportStarted
  split <;> rfl

theorem deadlineView_startWaiting (q : MaintReq) (s : State) : deadlineView (s.startWaiting q) = deadlineView s := by
  unfold State.startWaiting
  split
  · next t ht => exact (deadlineView_reportStarted t).trans (deadlineView_startReq ht)
  · split <;> rfl

theorem deadlineView_walkStep (acc : List MaintReq × State) (q : MaintReq) : deadlineView (walkStep acc q).2 = deadlineView acc.2 := by
  unfold walkStep
  dsimp only
  split
  · exact deadlineView_startWaiting ..
  · rfl

theorem deadlineView_walkQueue (s : State) : deadlineView s.walkQueue = deadlineView s := by
  unfold State.walkQueue
  extract_lets _ s1 r
  have hr : deadlineView r.2 = deadlineView s1 :=
    foldl_keeps (fun a : List MaintReq × State => deadlineView a.2) (fun a q _ => deadlineView_walkStep a q) _
  refine Eq.trans hr ?_
  simp only [s1]
  split
  · split
    · exact deadlineView_startWaiting ..
    · rfl
  · rfl

theorem deadlineView_endAct (f : Activity → Bool) (outcome : Nat) (s : State) : deadlineView (s.endAct f outcome) = deadlineView s := by
  unfold State.endAct
  split
  · rfl
  · exact deadlineView_walkQueue _

theorem deadlineView_releaseStope (s : State) : deadlineView s.releaseStope = deadlineView s := by
  unfold State.releaseStope
  split
  · split
    · exact deadlineView_endAct ..
    · rfl
  · rfl

/-! ### Channels that a deadline voids -/

/-- Each step of a pass does `f` to one channel and nothing else that a deadline shows. -/
def Marks (f : ChanState → ChanState) (g : State → Nat → State) : Prop :=
  ∀ t n, deadlineView (g t n) = deadlineView (t.mapChan n f)

section
variable {f : ChanState → ChanState} {g : State → Nat → State}

/-- What `f` keeps of a channel, a change of any channel by `f` keeps of it. -/
theorem chan_mapChan_keeps {P : ChanState → Prop} (hf : ∀ c, P c → P (f c)) (m : Nat) {s : State} {n : Nat} (h : P (s.chan n)) :
    P ((s.mapChan m f).chan n) := by
  by_cases hm : m < 384
  · rw [chan_mapChan _ _ _ _ hm]
    split
    · next e => exact hf _ (e ▸ h)
    · exact h
  · rwa [State.chan, State.mapChan, vupdN_outside _ _ _ (Nat.not_lt.1 hm)]

theorem chan_foldl_keeps (hg : Marks f g) {P : ChanState → Prop} (hf : ∀ c, P c → P (f c)) (l : List Nat) {s : State} {n : Nat}
    (h : P (s.chan n)) : P ((l.foldl g s).chan n) := by
  refine List.foldlRecOn (motive := fun t => P (t.chan n)) l g h (fun t ht m _ => ?_)
  rw [chan_of_deadlineView (hg t m)]
  exact chan_mapChan_keeps hf m ht

theorem moment_foldl (hg : Marks f g) (l : List Nat) (s : State) :
    (deadlineView (l.foldl g s)).toMoment = (deadlineView s).toMoment :=
  foldl_keeps (fun t => (deadlineView t).toMoment) (fun t m _ => by rw [hg]; rfl) s

end

/-- What one step of a fold brings about and the others keep stands at its end; `I` is what the step needs and every step keeps. -/
theorem foldl_reaches {σ α : Type} {I P : σ → Prop} {f : σ → α → σ} {x : α} {l : List α} (hx : x ∈ l) (hI : ∀ t y, I t → I (f t y))
    (hP : ∀ t y, P t → P (f t y)) (h : ∀ t, I t → P (f t x)) {s : σ} (hs : I s) : P (l.foldl f s) := by
  obtain ⟨before, after, rfl⟩ := List.append_of_mem hx
  rw [List.foldl_append, List.foldl_cons]
  have hbefore : I (before.foldl f s) := List.foldlRecOn before f hs (fun t ht y _ => hI t y ht)
  exact List.foldlRecOn after f (h _ hbefore) (fun t ht y _ => hP t y ht)

theorem chan_foldl_of_mem {f : ChanState → ChanState} {g : State → Nat → State} (hg : Marks f g) {P : ChanState → Prop} (hf : ∀ c, P (f c))
    {l : List Nat} {n : Nat} (hn : n < 384) (hmem : n ∈ l) (s : State) : P ((l.foldl g s).chan n) := by
  refine foldl_reaches (I := fun _ => True) (P := fun t : State => P (t.chan n)) hmem (fun _ _ _ => trivial) (fun t m ht => ?_) (fun t _ => ?_) trivial
  · rw [chan_of_deadlineView (hg t m)]
    exact chan_mapChan_keeps (fun c _ => hf c) m ht
  · rw [chan_of_deadlineView (hg t n), chan_mapChan _ _ _ _ hn, if_pos rfl]
    exact hf _

/-! ### D1 (09 R212) -/

/-- A channel whose entry in a bank is void. -/
def VoidAt (bank : Nat) (c : ChanState) : Prop :=
  c.voided = true ∧ (vgetD c.entry bank {}).void = true ∧ (vgetD c.entry bank {}).valid = false

theorem voidAt_voidEntry {bank : Nat} (hb : bank < 2) (c : ChanState) : VoidAt bank (c.voidEntry bank) := by
  simp [VoidAt, ChanState.voidEntry, vgetD_vupdN _ _ _ _ _ hb]

theorem marks_voidEntry (bank : Nat) : Marks (ChanState.voidEntry bank) (fun t n => t.mapChan n (ChanState.voidEntry bank)) :=
  fun _ _ => rfl

/-- At D1 a stope voids the entries of its slots; the rest is the history of misses. -/
theorem deadlineView_d1Stope (p : Plan) (s : State) (ls : Nat) : deadlineView (s.d1Stope p ls) =
    deadlineView ((s.voidSlots p ls).1.foldl (fun t n => t.mapChan n (ChanState.voidEntry (s.ms % 2))) s) := by
  unfold State.d1Stope
  extract_lets bank v miss s1 s2 s3 s4 e
  calc deadlineView s4 = deadlineView s3 := foldl_keeps deadlineView (fun _ _ _ => deadlineView_mapEscAs ..) _
    _ = deadlineView s2 := foldl_keeps deadlineView (fun _ _ _ => deadlineView_mapEscCh ..) _

theorem mem_voidSlots {p : Plan} {c : ChanSlot} (hc : c ∈ p.chans) {s : State} (hl : (s.chan c.cnum).landed ≠ some s.ms) :
    c.cnum ∈ (s.voidSlots p c.lst).1 := by
  have hof : c ∈ p.chansOf c.lst := (mem_sortBy ..).2 (List.mem_filter.2 ⟨hc, beq_self_eq_true _⟩)
  exact List.mem_filter.2 ⟨List.mem_map_of_mem hof, by simpa using hl⟩

theorem moment_d1Stope (p : Plan) (s : State) (ls : Nat) :
    (deadlineView (s.d1Stope p ls)).toMoment = (deadlineView s).toMoment := by
  rw [deadlineView_d1Stope]
  exact moment_foldl (marks_voidEntry _) _ s

/-- A channel keeps in every stope's turn what a void entry keeps of it. -/
theorem chan_d1Stope_keeps {P : ChanState → Prop} {s : State} (hP : ∀ c, P c → P (c.voidEntry (s.ms % 2))) (p : Plan) (ls : Nat) {n : Nat}
    (h : P (s.chan n)) : P ((s.d1Stope p ls).chan n) := by
  rw [chan_of_deadlineView (deadlineView_d1Stope p s ls)]
  exact chan_foldl_keeps (marks_voidEntry _) hP _ h

/-- In its stope's turn a slot whose results have not landed becomes void. -/
theorem chan_d1Stope_late {p : Plan} {c : ChanSlot} (hc : c ∈ p.chans) (hn : c.cnum < 384) {s : State}
    (hl : (s.chan c.cnum).landed ≠ some s.ms) : VoidAt (s.ms % 2) ((s.d1Stope p c.lst).chan c.cnum) := by
  rw [chan_of_deadlineView (deadlineView_d1Stope p s c.lst)]
  exact chan_foldl_of_mem (marks_voidEntry _) (voidAt_voidEntry (Nat.mod_lt _ (by decide))) hn (mem_voidSlots hc hl) s

theorem ms_d1Stope (p : Plan) (s : State) (ls : Nat) : (s.d1Stope p ls).ms = s.ms := ms_of_moment (moment_d1Stope p s ls)

/-- After the turns of all stopes the entry of every slot whose results have not landed is void. -/
theorem chan_d1Stopes {p : Plan} {c : ChanSlot} (hc : c ∈ p.chans) (hlst : c.lst < p.nlst) (hn : c.cnum < 384) {s : State}
    (hl : (s.chan c.cnum).landed ≠ some s.ms) :
    VoidAt (s.ms % 2) (((List.range p.nlst).foldl (State.d1Stope p) s).chan c.cnum) := by
  have hsteps := foldl_reaches (I := fun t => t.ms = s.ms ∧ (t.chan c.cnum).landed ≠ some s.ms)
    (P := fun t => t.ms = s.ms ∧ VoidAt (s.ms % 2) (t.chan c.cnum)) (f := State.d1Stope p) (List.mem_range.2 hlst) ?_ ?_ ?_ ⟨rfl, hl⟩
  · exact hsteps.2
  · rintro t ls ⟨hms, hlate⟩
    exact ⟨(ms_d1Stope ..).trans hms, chan_d1Stope_keeps (P := fun c => c.landed ≠ some s.ms) (fun _ h => h) p ls hlate⟩
  · rintro t ls ⟨hms, hvoid⟩
    refine ⟨(ms_d1Stope ..).trans hms, chan_d1Stope_keeps (fun c _ => ?_) p ls hvoid⟩
    rw [hms]
    exact voidAt_voidEntry (Nat.mod_lt _ (by decide)) c
  · rintro t ⟨hms, hlate⟩
    refine ⟨(ms_d1Stope ..).trans hms, ?_⟩
    rw [← hms] at hlate ⊢
    exact chan_d1Stope_late hc hn hlate

theorem deadlineView_massAtD1 (p : Plan) (s : State) : deadlineView (s.massAtD1 p) = deadlineView s := by
  unfold State.massAtD1
  dsimp only
  split
  · exact foldl_keeps deadlineView (fun _ _ _ => deadlineView_mapEscLs ..) s
  · rfl

theorem deadlineView_reportD1 (ls : Nat) (chs as : List Nat) (level : Nat) (s : State) :
    deadlineView (s.reportD1 ls chs as level) = deadlineView s := by
  unfold State.reportD1
  extract_lets r f e t
  have ht : deadlineView t = deadlineView s := by
    simp only [t]
    split <;> rfl
  refine Eq.trans ?_ ht
  split <;> rfl

theorem deadlineView_d1Report (before : State) (p : Plan) (s : State) (ls : Nat) :
    deadlineView (State.d1Report before p s ls) = deadlineView s := by
  unfold State.d1Report
  extract_lets v e slots t
  have ht : deadlineView t = deadlineView s := by
    simp only [t]
    split
    · rfl
    · exact deadlineView_reportD1 ..
  refine Eq.trans ?_ ht
  split
  · exact deadlineView_proposeStope ..
  · split <;> rfl

theorem deadlineView_d1Slack (p : Plan) (s : State) (ls : Nat) : deadlineView (s.d1Slack p ls) = deadlineView s := by
  unfold State.d1Slack
  extract_lets late thin r r'
  split
  · rfl
  · split
    · exact deadlineView_report ..
    · rfl

theorem deadlineView_d1Slow (p : Plan) (s : State) (ls : Nat) : deadlineView (s.d1Slow p ls) = deadlineView s := by
  unfold State.d1Slow
  dsimp only
  split
  · exact (deadlineView_proposeStope ..).trans (deadlineView_report ..)
  · split <;> rfl

theorem deadlineView_thermal (cause : Nat) (s : State) : deadlineView (s.thermal cause) = deadlineView s := by
  unfold State.thermal
  split <;> rfl

theorem deadlineView_applyCap (s : State) : deadlineView s.applyCap = deadlineView s := by
  unfold State.applyCap
  dsimp only
  split
  · rfl
  · exact (deadlineView_thermal ..).trans (deadlineView_congr rfl rfl rfl rfl)

/-- D1 has been checked at the present boundary. -/
def d1Checked (s : State) : State := { s with fab := { s.fab with d1At := some s.ms } }

theorem d1_noPlan {s : State} (h : s.closingPlan = none) : deadlineView s.d1 = deadlineView (d1Checked s) := by
  have hp : (d1Checked s).closingPlan = none := h
  refine (deadlineView_releaseStope _).trans ?_
  split
  · rfl
  · next q hq => exact absurd (hp.symm.trans hq) (by simp)

/-- Under a plan D1 is the stopes' turns; the reports, the slack and the clocks come after them. -/
theorem d1_plan {s : State} {p : Plan} (h : s.closingPlan = some p) :
    deadlineView s.d1 = deadlineView ((List.range p.nlst).foldl (State.d1Stope p) (d1Checked s)) := by
  have hp : (d1Checked s).closingPlan = some p := h
  refine (deadlineView_releaseStope _).trans ?_
  split
  · next hq => exact absurd (hp.symm.trans hq) (by simp)
  · next q hq =>
    obtain rfl : p = q := Option.some.inj (hp.symm.trans hq)
    exact (foldl_keeps deadlineView (fun t ls _ => deadlineView_d1Slow p t ls) _).trans <|
      (foldl_keeps deadlineView (fun t ls _ => deadlineView_d1Slack p t ls) _).trans <|
      (foldl_keeps deadlineView (fun t ls _ => deadlineView_d1Report _ p t ls) _).trans (deadlineView_massAtD1 ..)

theorem moment_d1 (s : State) : (deadlineView s.d1).toMoment = (deadlineView (d1Checked s)).toMoment := by
  cases h : s.closingPlan with
  | none => rw [d1_noPlan h]
  | some p =>
    rw [d1_plan h]
    exact foldl_keeps (fun t => (deadlineView t).toMoment) (fun t ls _ => moment_d1Stope p t ls) _

/-! ### D2 (09 R213) -/

/-- A channel that awaits an update at D2 and has none: it holds a signal and a valid entry, and nothing is staged. -/
def Forgotten (bank : Nat) (c : ChanState) : Prop :=
  c.setNow.on = true ∧ (vgetD c.entry bank {}).valid = true ∧ c.staged = none

/-- The channel-epoch is void. -/
def voidEpoch (c : ChanState) : ChanState := { c with voided := true }

/-- The channels of a deputy that D2 voids: those that await an update without one, or with one that came too late. -/
def lateAtD2 (p : Plan) (s : State) (ld : Nat) : List Nat :=
  (s.awaiting p ld).filter (fun n => (s.chan n).staged.isNone || s.fab.lateCommits.any (fun x => x.1 == n))

/-- D2 voids a channel, and its slot's history takes the miss. -/
def missD2 (t : State) (n : Nat) : State := (t.mapChan n voidEpoch).mapEscCh n (fun e => e.amend.slot)

theorem marks_missD2 : Marks voidEpoch missD2 := fun _ _ => rfl

theorem deadlineView_holdDeputy (ld : Nat) (s : State) : deadlineView (s.holdDeputy ld) = deadlineView s := by
  unfold State.holdDeputy
  split <;> rfl

/-- At D2 a deputy voids the channels that are late; the rest is reductions, the history of misses and proposals. -/
theorem deadlineView_d2Deputy (p : Plan) (s : State) (ld : Nat) :
    deadlineView (s.d2Deputy p ld) = deadlineView ((lateAtD2 p s ld).foldl missD2 s) := by
  unfold State.d2Deputy
  extract_lets l late passed lost miss s1 s2 e e' s3 _ s4
  have hs4 : deadlineView s4 = deadlineView s1 := by
    calc deadlineView s4 = deadlineView s2 := by simp only [s4]; split <;> rfl
      _ = deadlineView s1 := by
        simp only [s2]
        split
        · exact deadlineView_holdDeputy ..
        · rfl
  refine Eq.trans ?_ hs4
  split
  · exact deadlineView_proposeDeputy ..
  · split <;> rfl

theorem mem_lateAtD2 {p : Plan} {c : ChanSlot} (hc : c ∈ p.chans) {s : State} (h : Forgotten (s.ms % 2) (s.chan c.cnum)) :
    c.cnum ∈ lateAtD2 p s c.ldep := by
  obtain ⟨hon, hvalid, hstaged⟩ := h
  have hof : c.cnum ∈ (p.chans.filter (fun x => x.ldep == c.ldep)).map (·.cnum) :=
    List.mem_map_of_mem (List.mem_filter.2 ⟨hc, beq_self_eq_true _⟩)
  exact List.mem_filter.2 ⟨List.mem_filter.2 ⟨hof, by simp [hon, hvalid]⟩, by simp [hstaged]⟩

theorem moment_d2Deputy (p : Plan) (s : State) (ld : Nat) :
    (deadlineView (s.d2Deputy p ld)).toMoment = (deadlineView s).toMoment := by
  rw [deadlineView_d2Deputy]
  exact moment_foldl marks_missD2 _ s

theorem ms_d2Deputy (p : Plan) (s : State) (ld : Nat) : (s.d2Deputy p ld).ms = s.ms := ms_of_moment (moment_d2Deputy p s ld)

/-- A channel keeps in every deputy's turn what a void epoch keeps of it. -/
theorem chan_d2Deputy_keeps {P : ChanState → Prop} (hP : ∀ c, P c → P (voidEpoch c)) (p : Plan) (ld : Nat) {s : State} {n : Nat}
    (h : P (s.chan n)) : P ((s.d2Deputy p ld).chan n) := by
  rw [chan_of_deadlineView (deadlineView_d2Deputy p s ld)]
  exact chan_foldl_keeps marks_missD2 hP _ h

theorem chan_d2Deputy_late {p : Plan} {c : ChanSlot} (hc : c ∈ p.chans) (hn : c.cnum < 384) {s : State}
    (h : Forgotten (s.ms % 2) (s.chan c.cnum)) : ((s.d2Deputy p c.ldep).chan c.cnum).voided = true := by
  rw [chan_of_deadlineView (deadlineView_d2Deputy p s c.ldep)]
  exact chan_foldl_of_mem (P := fun c => c.voided = true) marks_missD2 (fun _ => rfl) hn (mem_lateAtD2 hc h) s

/-- After the turns of all deputies every channel that awaits an update and has none is void. -/
theorem chan_d2Deputies {p : Plan} {c : ChanSlot} (hc : c ∈ p.chans) (hldep : c.ldep < p.nldep) (hn : c.cnum < 384) {s : State}
    (h : Forgotten (s.ms % 2) (s.chan c.cnum)) : (((List.range p.nldep).foldl (State.d2Deputy p) s).chan c.cnum).voided = true := by
  refine foldl_reaches (I := fun t => t.ms = s.ms ∧ Forgotten (s.ms % 2) (t.chan c.cnum)) (P := fun t => (t.chan c.cnum).voided = true)
    (f := State.d2Deputy p) (List.mem_range.2 hldep) ?_ ?_ ?_ ⟨rfl, h⟩
  · rintro t ld ⟨hms, hlate⟩
    exact ⟨(ms_d2Deputy ..).trans hms, chan_d2Deputy_keeps (P := Forgotten (s.ms % 2)) (fun _ h => h) p ld hlate⟩
  · exact fun t ld hvoid => chan_d2Deputy_keeps (P := fun c => c.voided = true) (fun _ _ => rfl) p ld hvoid
  · rintro t ⟨hms, hlate⟩
    rw [← hms] at hlate
    exact chan_d2Deputy_late hc hn hlate

/-- Lost ambiguities are the assay's, and reported (05 R118). -/
theorem deadlineView_phaseSteps (l : List AssayEntry) (s : State) : deadlineView (s.phaseSteps l) = deadlineView s := by
  refine foldl_keeps deadlineView (fun t x _ => ?_) s
  dsimp only
  split
  · exact deadlineView_report ..
  · rfl

theorem deadlineView_signatures10 (l : List AssayEntry) (s : State) : deadlineView (s.signatures10 l) = deadlineView s := rfl

theorem deadlineView_powers (l : List AssayEntry) (s : State) : deadlineView (s.powers l) = deadlineView s := rfl

theorem deadlineView_siteChecks (p : Plan) (s : State) : deadlineView (s.siteChecks p) = deadlineView s :=
  (deadlineView_powers ..).trans <| (deadlineView_signatures10 ..).trans (deadlineView_phaseSteps ..)

theorem deadlineView_nullsAtD2 (s : State) : deadlineView s.nullsAtD2 = deadlineView s := rfl

theorem deadlineView_mapBeam (n : Nat) (f : BeamState → BeamState) (s : State) : deadlineView (s.mapBeam n f) = deadlineView s := rfl

theorem deadlineView_compute (b : Band) (ok : Nat → Bool) (aim : Aim) (ms : Nat) (plain : Bool) (s : State) :
    deadlineView (s.compute b ok aim ms plain).2 = deadlineView s := rfl

theorem deadlineView_writeWeights (s : State) (n : Nat) : deadlineView (s.writeWeights n) = deadlineView s := by
  unfold State.writeWeights
  dsimp only
  split
  · rfl
  · exact (deadlineView_mapBeam ..).trans (deadlineView_compute ..)

theorem deadlineView_massMiss (p : Plan) (s : State) : deadlineView (s.massMiss p) = deadlineView s := by
  unfold State.massMiss
  extract_lets st dp n _ t
  split
  · exact (foldl_keeps deadlineView (fun _ _ _ => deadlineView_mapEscLd ..) _).trans
      (foldl_keeps deadlineView (fun _ _ _ => deadlineView_mapEscLs ..) _)
  · rfl

/-- D2 has been checked at the present boundary. -/
def d2Checked (s : State) : State := { s with fab := { s.fab with d2At := some s.ms } }

theorem d2_noPlan {s : State} (h : s.closingPlan = none) : s.d2 = d2Checked s := by
  have hp : (d2Checked s).closingPlan = none := h
  unfold State.d2
  extract_lets _ t
  rw [show t.closingPlan = none from hp]
  rfl

/-- Under a plan D2 is the deputies' turns; the sites, the weights and the count of mass misses come after them. -/
theorem d2_plan {s : State} {p : Plan} (h : s.closingPlan = some p) :
    deadlineView s.d2 = deadlineView ((List.range p.nldep).foldl (State.d2Deputy p) (d2Checked s)) := by
  have hp : (d2Checked s).closingPlan = some p := h
  unfold State.d2
  extract_lets _ t
  rw [show t.closingPlan = some p from hp]
  exact (deadlineView_massMiss ..).trans <| (foldl_keeps deadlineView (fun t n _ => deadlineView_writeWeights t n) _).trans <|
    (deadlineView_nullsAtD2 _).trans (deadlineView_siteChecks ..)

theorem moment_d2 (s : State) : (deadlineView s.d2).toMoment = (deadlineView (d2Checked s)).toMoment := by
  cases h : s.closingPlan with
  | none => rw [d2_noPlan h]
  | some p =>
    rw [d2_plan h]
    exact foldl_keeps (fun t => (deadlineView t).toMoment) (fun t ld _ => moment_d2Deputy p t ld) _

/-! ### The two events -/

/-- With no swap under way the plan that closes its epoch is the active one. -/
theorem closingPlan_noSwap {s : State} (h : s.fab.swap = none) : s.closingPlan = s.fab.active := by
  simp [State.closingPlan, h]

/-- Where device time counts, a wait for a moment of the epoch ends at it, or at once where it has passed. -/
theorem waitTo_tick {s : State} (hr : s.clk.runs = true) (off : Nat) :
    (s.waitTo off).clk.tick = max s.clk.tick (epochTicks * s.ms + off) := by
  rw [State.waitTo, wait_tick _ _ hr, State.ms]
  have := Nat.div_add_mod s.clk.tick epochTicks
  omega

/-- A moment of the present epoch still to come, and the present one, lie in the present millisecond. -/
theorem ms_at_deadline {s t : State} {off : Nat} (htick : t.clk.tick = max s.clk.tick (epochTicks * s.ms + off)) (h : off < epochTicks) :
    t.ms = s.ms := by
  rw [State.ms, htick]
  simp only [State.ms, epochTicks] at h ⊢
  omega

theorem waitTo_ms {s : State} (hr : s.clk.runs = true) {off : Nat} (h : off < epochTicks) : (s.waitTo off).ms = s.ms :=
  ms_at_deadline (waitTo_tick hr off) h

theorem d1Deadline_again {s : State} (h : s.fab.d1At = some s.ms) : exec .evD1Deadline s = .next s :=
  congrArg Host.Outcome.next (if_pos (.inl h))

theorem d2Deadline_again {s : State} (h : s.fab.d2At = some s.ms) : exec .evD2Deadline s = .next s :=
  congrArg Host.Outcome.next (if_pos (.inl h))

section
variable {s : State} (hup : s.fabricUp = true)
include hup

theorem exec_d1Deadline (h : s.fab.d1At ≠ some s.ms) : exec .evD1Deadline s = .next (s.waitTo d1Ticks).d1.applyCap :=
  congrArg Host.Outcome.next (if_neg (by simp [h, hup]))

theorem exec_d2Deadline (h : s.fab.d2At ≠ some s.ms) : exec .evD2Deadline s = .next (s.waitTo d2Ticks).d2 :=
  congrArg Host.Outcome.next (if_neg (by simp [h, hup]))

theorem runs_of_fabricUp : s.clk.runs = true := (Bool.and_eq_true_iff.1 hup).2

/-- D1 at its moment: 24 552 ticks, 300 µs, after the boundary. -/
theorem d1Deadline_moment : (deadlineView (s.waitTo d1Ticks).d1.applyCap).toMoment =
    { tick := max s.clk.tick (81840 * s.ms + 24552), d1At := some s.ms, d2At := s.fab.d2At } := by
  have hr := runs_of_fabricUp hup
  rw [deadlineView_applyCap, moment_d1]
  exact (Moment.mk.injEq ..).mpr ⟨waitTo_tick hr _, congrArg some (waitTo_ms hr (by decide)), rfl⟩

/-- D2 at its moment: 61 380 ticks, 750 µs, after the boundary. -/
theorem d2Deadline_moment : (deadlineView (s.waitTo d2Ticks).d2).toMoment =
    { tick := max s.clk.tick (81840 * s.ms + 61380), d1At := s.fab.d1At, d2At := some s.ms } := by
  have hr := runs_of_fabricUp hup
  rw [moment_d2]
  exact (Moment.mk.injEq ..).mpr ⟨waitTo_tick hr _, rfl, congrArg some (waitTo_ms hr (by decide))⟩

variable {p : Plan} {c : ChanSlot} (hswap : s.fab.swap = none) (hactive : s.fab.active = some p) (hc : c ∈ p.chans) (hn : c.cnum < 384)
include hswap hactive hc hn

theorem d1Deadline_voids (hlst : c.lst < p.nlst) (hl : (s.chan c.cnum).landed ≠ some s.ms) :
    VoidAt (s.ms % 2) (((s.waitTo d1Ticks).d1.applyCap).chan c.cnum) := by
  have hms : (s.waitTo d1Ticks).ms = s.ms := waitTo_ms (runs_of_fabricUp hup) (by decide)
  have hplan : (s.waitTo d1Ticks).closingPlan = some p := (closingPlan_noSwap hswap).trans hactive
  rw [chan_of_deadlineView ((deadlineView_applyCap _).trans (d1_plan hplan))]
  rw [← hms] at hl ⊢
  exact chan_d1Stopes (s := d1Checked (s.waitTo d1Ticks)) hc hlst hn hl

theorem d2Deadline_voids (hldep : c.ldep < p.nldep) (h : Forgotten (s.ms % 2) (s.chan c.cnum)) :
    (((s.waitTo d2Ticks).d2).chan c.cnum).voided = true := by
  have hms : (s.waitTo d2Ticks).ms = s.ms := waitTo_ms (runs_of_fabricUp hup) (by decide)
  have hplan : (s.waitTo d2Ticks).closingPlan = some p := (closingPlan_noSwap hswap).trans hactive
  rw [chan_of_deadlineView (d2_plan hplan)]
  rw [← hms] at h
  exact chan_d2Deputies (s := d2Checked (s.waitTo d2Ticks)) hc hldep hn h

end

/-- Settles O29: a channel that the stopes' turns at D1, or the deputies' at D2, have voided stays so, for nothing else that the deadline does
reaches time, the deadlines' marks or a channel. -/
theorem deadlinesVoidWhatIsLate : Obligations.DeadlinesVoidWhatIsLate := by
  unfold Obligations.DeadlinesVoidWhatIsLate
  refine fun s hup hswap => ⟨d1Deadline_again, d2Deadline_again, fun h => ⟨_, exec_d1Deadline hup h, ?d1⟩,
    fun h => ⟨_, exec_d2Deadline hup h, ?d2⟩⟩
  case d1 =>
    obtain ⟨htick, hd1, -⟩ := Moment.mk.inj (d1Deadline_moment hup)
    exact ⟨hd1, ms_at_deadline htick (by decide), htick, fun p c hactive hc hlst hn hl => d1Deadline_voids hup hswap hactive hc hn hlst hl⟩
  case d2 =>
    obtain ⟨htick, -, hd2⟩ := Moment.mk.inj (d2Deadline_moment hup)
    exact ⟨hd2, ms_at_deadline htick (by decide), htick, fun p c hactive hc hldep hn hon hvalid hstaged =>
      d2Deadline_voids hup hswap hactive hc hn hldep ⟨hon, hvalid, hstaged⟩⟩

end Sys2Proof.Proofs.Deadlines
end

section
/-! PROOFS. The timing ports and the synthesizers (11 R271, R274–R280, R284–R286, R289; 23 R546). Each of the ports' events comes down to a change of
its own port, beside reports and replies, which reach neither the ports nor the synthesizers. A loss of reference and its end go over the banks and
over each bank's ports; every bank and every port has one turn in such a pass, which settles what stands at its end. -/

namespace Sys2Proof.Proofs.TimingPorts

open Sys2Proof Sys2Proof.Machine Sys2Proof.Proofs.AditsAndLode Sys2Proof.Proofs.Assay Sys2Proof.Proofs.DeputyLoop Sys2Proof.Proofs.Completions

/-! ### What leaves the synthesizers and their ports -/

@[simp] theorem report_syn (code sev ten unit : Nat) (body : List Byte) (s : State) : (s.report code sev ten unit body).syn = s.syn := by
  rcases report_cases code sev ten unit body s with ⟨-, h⟩ | ⟨-, h⟩ <;> simp [h]

@[simp] theorem faultClear_syn (code unit : Nat) (s : State) : (s.faultClear code unit).syn = s.syn := report_syn ..

theorem faultClear_clk (code unit : Nat) (s : State) : (s.faultClear code unit).clk = s.clk := report_clk ..

theorem finalReply_syn (opcode sid seq : Nat) (r : Reply) (s : State) : (s.finalReply opcode sid seq r).syn = s.syn := by
  unfold State.finalReply
  split
  · rfl
  · simp

@[simp] theorem calReply_syn (n res ncal : Nat) (s : State) : (s.calReply n res ncal).syn = s.syn := by
  unfold State.calReply
  split
  · rfl
  · exact finalReply_syn ..

/-! ### Wear monitors (22 R519–R522, R525) -/

@[simp] theorem proposeAs_syn (sact sclass sindex sres scause : Nat) (s : State) : (s.proposeAs sact sclass sindex sres scause).syn = s.syn := by
  unfold State.proposeAs
  split
  · rfl
  · simp only [reportNow_keeps]
    split <;> rfl

@[simp] theorem proposeStope_syn (ls scause : Nat) (s : State) : (s.proposeStope ls scause).syn = s.syn := by
  unfold State.proposeStope
  split
  · exact proposeAs_syn ..
  · split
    · exact proposeAs_syn ..
    · rfl

@[simp] theorem remedyFor_syn (n cause : Nat) (s : State) : (s.remedyFor n cause).syn = s.syn := by
  simp only [State.remedyFor]
  split
  · split <;> simp
  · split <;> simp
  · split <;> simp [State.proposeDeputy]
  · split <;> simp [State.proposeDeputy]
  · split <;> simp [State.proposeBank]
  · rfl

@[simp] theorem canary_syn (cause n : Nat) (s : State) : (s.canary cause n).syn = s.syn := report_syn ..

@[simp] theorem withdraw_syn (n cause : Nat) (s : State) : (s.withdraw n cause).syn = s.syn := rfl

theorem predict_syn (n : Nat) (s : State) : (s.predict n).syn = s.syn := by
  simp [State.predict, apply_ite State.syn]

theorem measure_syn (n : Nat) (reading : Int) (s : State) : (s.measure n reading).syn = s.syn := by
  unfold State.measure
  split
  · simp [State.badReading, apply_ite State.syn]
  · exact predict_syn ..

theorem pathMonitors_syn (paths : List Int) (s : State) : (s.pathMonitors paths).syn = s.syn := by
  refine foldl_keeps State.syn (fun t n _ => ?_) s
  split
  · rfl
  · exact measure_syn ..

/-! ### One port -/

theorem port_of_syn {s t : State} (h : t.syn = s.syn) (j : Nat) : t.port j = s.port j :=
  congrArg (fun v : SynState => vgetD v.ports j {}) h

theorem port_mapPort_self (n : Fin 32) (f : PortState → PortState) (s : State) : (s.mapPort n f).port n = f (s.port n) :=
  (port_mapPort _ _ _ _ n.isLt).trans (if_pos rfl)

/-- A change of a port leaves every other one, and all of them where there is no such port. -/
theorem samePorts_mapPort (n : Nat) (f : PortState → PortState) (s : State) : SamePorts n s (s.mapPort n f) := by
  intro j hj
  by_cases hn : n < 32
  · rw [port_mapPort _ _ _ _ hn, if_neg hj]
  · rw [State.port, State.mapPort, vupdN_outside _ _ _ (Nat.not_lt.1 hn)]
    rfl

theorem samePorts_of_syn {s t : State} (n : Nat) (h : t.syn = s.syn) : SamePorts n s t := fun j _ => port_of_syn h j

theorem samePorts_trans {n : Nat} {s t u : State} (hst : SamePorts n s t) (htu : SamePorts n t u) : SamePorts n s u :=
  fun j hj => (htu j hj).trans (hst j hj)

/-- The end of a burst, in its port: the request has its reply and the port is off (11 R279). -/
theorem samePorts_endBurst (n res ncal : Nat) (s : State) : SamePorts n s (s.endBurst n res ncal) :=
  samePorts_trans (samePorts_of_syn n (calReply_syn ..)) (samePorts_mapPort _ _ _)

theorem port_endBurst (n : Fin 32) (res ncal : Nat) (s : State) : ((s.endBurst n res ncal).port n).rtt = (s.port n).rtt ∧
    ((s.endBurst n res ncal).port n).pstate = .off ∧ ((s.endBurst n res ncal).port n).burst = none ∧
    ((s.endBurst n res ncal).port n).uncal = (s.port n).uncal := by
  rw [State.endBurst, port_mapPort_self, port_of_syn (calReply_syn ..)]
  exact ⟨rfl, rfl, rfl, rfl⟩

/-- A new D moves a port's D and nothing else of what its calibration found (11 R275). -/
theorem port_moveD (n : Fin 32) (d : Int) (s : State) : ((s.moveD n d).port n).rtt = (s.port n).rtt ∧
    ((s.moveD n d).port n).pstate = (s.port n).pstate ∧ ((s.moveD n d).port n).burst = (s.port n).burst ∧
    ((s.moveD n d).port n).uncal = (s.port n).uncal ∧ ((s.moveD n d).port n).dfwd = (s.port n).dfwd := by
  rw [State.moveD, port_mapPort_self]
  split
  · exact ⟨rfl, rfl, rfl, rfl, rfl⟩
  · split
    · exact ⟨rfl, rfl, rfl, rfl, rfl⟩
    · split <;> exact ⟨rfl, rfl, rfl, rfl, rfl⟩

/-- A forward delay taken into use stands in the port (11 R277). -/
theorem port_useForward (n : Fin 32) (d : Int) (s : State) : ((s.useForward n d).port n).rtt = (s.port n).rtt ∧
    ((s.useForward n d).port n).pstate = (s.port n).pstate ∧ ((s.useForward n d).port n).burst = (s.port n).burst ∧
    ((s.useForward n d).port n).uncal = (s.port n).uncal ∧ ((s.useForward n d).port n).dfwd = d := by
  rw [State.useForward]
  simpa using port_moveD n _ (s.mapPort n (fun x => { x with dfwd := d, calMs := s.ms }))

theorem samePorts_useForward (n : Nat) (d : Int) (s : State) : SamePorts n s (s.useForward n d) :=
  samePorts_trans (samePorts_mapPort _ _ _) (samePorts_mapPort _ _ _)

/-! ### Edges (11 R271, R274, R275) -/

@[simp] theorem atEdge_level (ms : Nat) (e : Int) (x : PortState) : (x.atEdge ms e).level = true := rfl

/-- An edge moves the level, the last edge and what a pending step of D moves; the configuration and the port's state stay. -/
@[simp] theorem atEdge_keeps (ms : Nat) (e : Int) (x : PortState) : (x.atEdge ms e).pstate = x.pstate ∧ (x.atEdge ms e).startAt = x.startAt ∧
    (x.atEdge ms e).cfg = x.cfg := by
  unfold PortState.atEdge
  split
  · split <;> exact ⟨rfl, rfl, rfl⟩
  · exact ⟨rfl, rfl, rfl⟩

/-- Without a step of D pending the edge leaves with the D in force. -/
theorem atEdge_noStep {x : PortState} (h : x.dStep = none) (ms : Nat) (e : Int) :
    x.atEdge ms e = { x with level := true, lastEdge := some (e.toNat, x.instant e), offAt := e + x.cfg.width } := by
  simp [PortState.atEdge, h]

/-- A port that begins to run at instant `e` (11 R274): its echoes count from here, and a pulse or a clock puts its first edge out. -/
def startedAt (ms : Nat) (e : Int) (x : PortState) : PortState :=
  let y := { x with pstate := .running, startAt := none, necho := 0, missRun := 0, echoes := [], lastEdge := none }
  if y.cfg.pmode = 3 then y else y.atEdge ms e

theorem startedAt_runs (ms : Nat) (e : Int) (x : PortState) : (startedAt ms e x).pstate = .running ∧ (startedAt ms e x).startAt = none ∧
    (startedAt ms e x).cfg = x.cfg ∧ (x.cfg.pmode ≠ 3 → (startedAt ms e x).level = true) := by
  unfold startedAt
  dsimp only
  split
  · next h => exact ⟨rfl, rfl, rfl, fun hne => absurd h hne⟩
  · simp

section
variable {n : Fin 32} {s : State}

theorem portStart_idle (h : (s.port n).startAt = none) : exec (.evPortStart n) s = .next s := by
  show execEvPortStart n s = _
  simp [execEvPortStart, h]

theorem portStart_due {sec : Nat} (hat : (s.port n).startAt = some sec) (hst : (s.port n).pstate = .starting)
    (hdue : sec * 10 ^ 12 + s.scaleOff (s.port n).cfg ≤ s.edgePs (s.port n) + tickPs) :
    exec (.evPortStart n) s = .next (s.mapPort n (startedAt s.ms (sec * 10 ^ 12 + s.scaleOff (s.port n).cfg))) := by
  show execEvPortStart n s = _
  simp only [execEvPortStart, hat]
  rw [if_pos ⟨hst, hdue⟩]
  rfl

theorem portEdge_off (h : (s.port n).pstate = .off) : exec (.evPortEdge n) s = .next s := by
  show execEvPortEdge n s = _
  simp [execEvPortEdge, h]

section
variable (hrun : (s.port n).pstate = .running) (hmode : (s.port n).cfg.pmode = 1 ∨ (s.port n).cfg.pmode = 2)
include hrun hmode

/-- A running pulse or clock has edges. -/
theorem hasEdges : ¬ (((s.port n).pstate ≠ .running ∧ (s.port n).pstate ≠ .coasting) ∨
    ((s.port n).cfg.pmode ≠ 1 ∧ (s.port n).cfg.pmode ≠ 2 ∧ (s.port n).stopTo = none)) := by
  rcases hmode with h | h <;> simp [hrun, h]

theorem portEdge_early (hl : (s.port n).level = true) (h : s.edgePs (s.port n) + tickPs < (s.port n).offAt) :
    exec (.evPortEdge n) s = .next s := by
  show execEvPortEdge n s = _
  simp only [execEvPortEdge]
  rw [if_neg (hasEdges hrun hmode), if_pos hl, if_pos h]

theorem portEdge_falls (hl : (s.port n).level = true) (h : (s.port n).offAt ≤ s.edgePs (s.port n) + tickPs) (hstop : (s.port n).stopTo = none) :
    exec (.evPortEdge n) s = .next (s.mapPort n (fun y => { y with level := false })) := by
  show execEvPortEdge n s = _
  simp only [execEvPortEdge]
  rw [if_neg (hasEdges hrun hmode), if_pos hl, if_neg (Int.not_lt.2 h), hstop]

theorem portEdge_rises (hl : (s.port n).level = false) (h : ∀ l, (s.port n).lastEdge = some l → (l.1 : Int) < s.activeEdge (s.port n)) :
    exec (.evPortEdge n) s = .next (s.mapPort n (PortState.atEdge s.ms (s.activeEdge (s.port n)))) := by
  show execEvPortEdge n s = _
  simp only [execEvPortEdge]
  rw [if_neg (hasEdges hrun hmode), if_neg (by simp [hl]), if_neg]
  split
  · next l hlast => simpa using h l hlast
  · simp

end

/-! ### Echoes (11 R277, R280) -/

theorem echo_burst {l : List Nat} (hb : (s.port n).burst = some l) (hl : l.length < 256) (hbank : s.bankCoasts n = false) (rt : Nat) :
    exec (.evEcho n rt) s = .next (s.mapPort n (fun y => { y with burst := some (rt :: l) })) := by
  show Host.Outcome.next (s.echoPort n rt) = _
  simp [State.echoPort, hb, hl, hbank]

theorem echo_noReturn (hb : (s.port n).burst = none) (hr : (s.port n).cfg.rmode = 0) (rt : Nat) : exec (.evEcho n rt) s = .next s := by
  show Host.Outcome.next (s.echoPort n rt) = _
  simp [State.echoPort, hb, hr]

/-- An echo of round trip `v` accepted in millisecond `ms`: newest of those that the mean is taken over, and the run of missing ones ends (11 R277). -/
def acceptEcho (ms v : Nat) (x : PortState) : PortState :=
  let l := (v :: x.echoes).take x.cfg.echoN
  { x with lastEcho := some ms, echoes := l, necho := (x.necho + 1) % 2 ^ 32, missRun := 0, fresh := true, echoSig := min 0xFFFF (scatter l) }

/-- Two changes of a port one after the other are one. -/
theorem mapPort_mapPort (n : Fin 32) (f g : PortState → PortState) (s : State) :
    (s.mapPort n f).mapPort n g = s.mapPort n (g ∘ f) := by
  simp [State.mapPort, vupdN]

theorem echo_accepted {rt m v : Nat} (hb : (s.port n).burst = none) (hr : (s.port n).cfg.rmode = 1) (hrun : (s.port n).pstate = .running)
    (hbank : s.bankCoasts n = false) (hlast : (s.port n).lastEcho ≠ some s.ms) (hv : s.unwrap (s.port n).cfg rt = some (v : Int))
    (hf : (s.port n).echoFault = false) (hm : (s.port n).rtt = some m) (hwin : ((v : Int) - m).natAbs ≤ s.syn.params.echoWin) :
    exec (.evEcho n rt) s = .next (s.mapPort n (acceptEcho s.ms v)) := by
  have hmeasures : ¬ ((s.port n).cfg.rmode ≠ 1 ∨ ((s.port n).pstate ≠ .running ∧ (s.port n).pstate ≠ .coasting) ∨ s.bankCoasts n = true ∨
      (s.port n).lastEcho = some s.ms) := by simp [hr, hrun, hbank, hlast]
  show Host.Outcome.next (s.echoPort n rt) = _
  simp only [State.echoPort, hb, hv, hf, hm, Int.toNat_natCast, hwin, mapPort_mapPort]
  rw [if_neg hmeasures]
  rfl

/-- A port that runs and measures: what an expected echo that does not come, or a return that is stuck, concerns (11 R280). -/
theorem echoMissing_measuring (hr : (s.port n).cfg.rmode = 1) (hrun : (s.port n).pstate = .running) (hbank : s.bankCoasts n = false) :
    exec (.evEchoMissing n) s = .next (s.echoMissed n) :=
  congrArg Host.Outcome.next (if_pos ⟨hr, .inl hrun, hbank⟩)

theorem returnStuck_clock (hr : (s.port n).cfg.rmode = 1) (hmode : (s.port n).cfg.pmode = 2) (hrun : (s.port n).pstate = .running) (active : Bool) :
    exec (.evReturnStuck n active) s = .next (s.echoFault n) :=
  congrArg Host.Outcome.next (if_pos ⟨hr, hmode, .inl hrun⟩)

/-- A missing echo is counted (11 R280). -/
def missedEcho (x : PortState) : PortState := { x with echoMiss := satAdd 0xFFFF x.echoMiss 1, missRun := x.missRun + 1 }

theorem echoMissed_few (h : (s.port n).missRun + 1 < s.syn.params.echoLoss) : s.echoMissed n = s.mapPort n missedEcho := by
  refine if_neg ?_
  rw [port_mapPort_self]
  exact Nat.not_le.2 h

theorem echoMissed_loss (h : s.syn.params.echoLoss ≤ (s.port n).missRun + 1) : s.echoMissed n = (s.mapPort n missedEcho).echoFault n := by
  refine if_pos ?_
  rw [port_mapPort_self]
  exact h

/-- A port with an echo fault holds its forward delay (11 R280). -/
theorem port_echoFault (n : Fin 32) (s : State) : ((s.echoFault n).port n).echoFault = true ∧
    ((s.echoFault n).port n).dfwd = (s.port n).dfwd ∧ SamePorts n s (s.echoFault n) := by
  unfold State.echoFault
  split
  · next h => exact ⟨h, rfl, fun _ _ => rfl⟩
  · refine ⟨?_, ?_, samePorts_trans (samePorts_mapPort _ _ _) (samePorts_of_syn n (report_syn ..))⟩
    · rw [port_of_syn (report_syn ..), port_mapPort_self]
    · rw [port_of_syn (report_syn ..), port_mapPort_self]

/-! ### The calibration burst (11 R279) -/

theorem portCalResult_none (h : (s.port n).burst = none) : exec (.evPortCalResult n) s = .next s := by
  show execEvPortCalResult n s = _
  simp [execEvPortCalResult, h]

/-- The state in which the burst of a port has ended. -/
def burstOver (n : Fin 32) (s : State) : State := s.wait ((s.port n).burstFrom + burstTicks - s.clk.tick)

theorem port_burstOver (n : Fin 32) (s : State) (j : Nat) : (burstOver n s).port j = s.port j := rfl

/-- The round trip that a burst found, over the echoes within the window. -/
def calibrated (ok : List Nat) (x : PortState) : PortState :=
  { x with rtt := some (meanNat ok), uncal := decide (x.cfg.rmode ≠ 1), echoSig := min 0xFFFF (scatter ok) }

section
variable {l ok : List Nat} (hb : (s.port n).burst = some l) (hok : within s.syn.params.echoWin (medianNat l) l = ok)
include hb hok

theorem portCalResult_some : exec (.evPortCalResult n) s = .next (
    if 16 ≤ ok.length then
      (((burstOver n s).mapPort n (calibrated ok)).endBurst n 1 ok.length).useForward n
        (if (s.port n).cfg.rmode = 1 then (s.port n).cfg.forward (meanNat ok) else (s.port n).nominal)
    else (burstOver n s).endBurst n 2 ok.length) := by
  subst hok
  show execEvPortCalResult n s = _
  simp only [execEvPortCalResult, hb]
  rfl

/-- A burst with 16 good echoes calibrates its port (11 R279). -/
theorem portCal_calibrates (hr : (s.port n).cfg.rmode = 1) (h : 16 ≤ ok.length) : Gives (.evPortCalResult n) s (fun t =>
    (t.port n).rtt = some (meanNat ok) ∧ (t.port n).pstate = .off ∧ (t.port n).burst = none ∧ (t.port n).uncal = false ∧
    (t.port n).dfwd = (s.port n).cfg.forward (meanNat ok) ∧ SamePorts n s t) := by
  refine ⟨_, by rw [portCalResult_some hb hok, if_pos h, if_pos hr], ?_⟩
  obtain ⟨hrtt, hst, hburst, huncal, hdfwd⟩ := port_useForward n ((s.port n).cfg.forward (meanNat ok))
    (((burstOver n s).mapPort n (calibrated ok)).endBurst n 1 ok.length)
  obtain ⟨hrtt', hst', hburst', huncal'⟩ := port_endBurst n 1 ok.length ((burstOver n s).mapPort n (calibrated ok))
  rw [port_mapPort_self, port_burstOver] at hrtt' huncal'
  have hcal : (calibrated ok (s.port n)).uncal = false := decide_eq_false (not_not_intro hr)
  refine ⟨hrtt.trans hrtt', hst.trans hst', hburst.trans hburst', huncal.trans (huncal'.trans hcal), hdfwd, ?_⟩
  exact samePorts_trans (samePorts_mapPort n (calibrated ok) (burstOver n s)) (samePorts_trans (samePorts_endBurst _ _ _ _) (samePorts_useForward _ _ _))

/-- A burst with fewer leaves the round trip as it was. -/
theorem portCal_fails (h : ok.length < 16) : Gives (.evPortCalResult n) s (fun t => (t.port n).rtt = (s.port n).rtt ∧
    (t.port n).pstate = .off ∧ (t.port n).burst = none ∧ SamePorts n s t) := by
  refine ⟨_, by rw [portCalResult_some hb hok, if_neg (Nat.not_le.2 h)], ?_⟩
  obtain ⟨hrtt, hst, hburst, -⟩ := port_endBurst n 2 ok.length (burstOver n s)
  exact ⟨hrtt, hst, hburst, samePorts_endBurst n 2 ok.length (burstOver n s)⟩

end

/-! ### Time of day (11 R289) -/

theorem todMessage_otherMode (h : (s.port n).cfg.pmode ≠ 3) : exec (.evTodMessage n) s = .next s :=
  congrArg Host.Outcome.next (if_neg (fun hc => h hc.1))

/-- The port once its message of instant `e` has gone out. -/
def afterMessage (ms : Nat) (e : Int) (x : PortState) : PortState :=
  { x.atEdge ms e with level := false, tseq := (x.tseq + 1) % 65536 }

/-- A message joins those put out. -/
def tellTod (m : Nat × List Byte) (s : State) : State := { s with syn := { s.syn with todOut := s.syn.todOut ++ [m] } }

theorem todMessage_first (hmode : (s.port n).cfg.pmode = 3) (hrun : (s.port n).pstate = .running) (hlast : (s.port n).lastEdge = none)
    (hdue : s.todSecond (s.port n) * 10 ^ 12 + s.scaleOff (s.port n).cfg + 10 ^ 9 * (s.port n).cfg.todoff ≤ s.edgePs (s.port n)) :
    exec (.evTodMessage n) s = .next (tellTod (n.val, s.todMessage n (s.todSecond (s.port n)) (s.port n).cfg.todf)
      (s.mapPort n (afterMessage s.ms (s.todSecond (s.port n) * 10 ^ 12 + s.scaleOff (s.port n).cfg + 10 ^ 9 * (s.port n).cfg.todoff)))) :=
  congrArg Host.Outcome.next (if_pos ⟨hmode, .inl hrun, hdue, by simp [hlast]⟩)

end

/-! ### Internal paths (11 R276) -/

theorem pathCalibration_first {s : State} (h : s.syn.pathAt = none) (paths skews : List Int) : exec (.evPathCalibration paths skews) s =
    .next ((s.measurePaths paths skews).pathMonitors paths) :=
  congrArg Host.Outcome.next (if_neg (by simp [h]))

/-- Inside a list its default does not matter. -/
theorem getD_eq_getD {α : Type} {l : List α} {i : Nat} (h : i < l.length) (a b : α) : l.getD i a = l.getD i b := by
  rw [List.getD_eq_getElem?_getD, List.getD_eq_getElem?_getD, List.getElem?_eq_getElem h]
  rfl

theorem pathCalibration_gives {s : State} {paths skews : List Int} (hp : paths.length = 32) (hk : skews.length = 4) (h : s.syn.pathAt = none) :
    Gives (.evPathCalibration paths skews) s (fun t => t.syn.pathAt = some s.upMs ∧
      (∀ n : Fin 32, (t.syn.ports[n]).path = paths.getD n 0) ∧ ∀ k : Fin 4, t.syn.skew[k] = skews.getD k 0) := by
  refine ⟨_, pathCalibration_first h paths skews, ?_⟩
  have hsyn := pathMonitors_syn paths (s.measurePaths paths skews)
  refine ⟨congrArg SynState.pathAt hsyn, fun n => ?_, fun k => ?_⟩
  · rw [hsyn]
    simp only [State.measurePaths, Fin.getElem_fin, Vector.getElem_ofFn]
    exact getD_eq_getD (by omega) _ _
  · rw [hsyn]
    simp only [State.measurePaths, Fin.getElem_fin, Vector.getElem_ofFn]
    exact getD_eq_getD (by omega) _ _

/-! ### Passes over banks and ports -/

/-- What one element's turn alone can change stands after the pass as that turn left it, from the value that it had before the pass. -/
theorem foldl_once {σ α β : Type} (P : σ → β) {R : β → β → Prop} {f : σ → α → σ} {x : α} {l : List α} (hx : x ∈ l) (hl : l.Nodup)
    (hne : ∀ t y, y ≠ x → P (f t y) = P t) (h : ∀ t, R (P t) (P (f t x))) (s : σ) : R (P s) (P (l.foldl f s)) := by
  obtain ⟨before, after, rfl⟩ := List.append_of_mem hx
  obtain ⟨hb, ha⟩ : x ∉ before ∧ x ∉ after := by
    obtain ⟨-, hafter, hdisjoint⟩ := List.nodup_append.1 hl
    exact ⟨fun hx => hdisjoint x hx x List.mem_cons_self rfl, (List.nodup_cons.1 hafter).1⟩
  rw [List.foldl_append, List.foldl_cons, foldl_keeps P (fun t y hy => hne t y (ne_of_mem_of_not_mem hy ha)),
    ← foldl_keeps P (fun t y hy => hne t y (ne_of_mem_of_not_mem hy hb)) s]
  exact h _

section
variable {g : Nat → State → State} (hg : ∀ m t, SamePorts m t (g m t))
include hg

/-- The turns of the eight ports of a bank leave the ports of the others. -/
theorem port_foldl_otherBank {n k : Nat} (hk : k ≠ n / 8) (s : State) : ((List.range 8).foldl (fun t i => g (8 * k + i) t) s).port n = s.port n := by
  refine foldl_keeps (fun t => t.port n) (fun t i hi => hg _ _ n ?_) s
  have := List.mem_range.1 hi
  omega

theorem port_foldl_bank {n : Nat} {R : PortState → PortState → Prop} (h : ∀ t, R (t.port n) ((g n t).port n)) (s : State) :
    R (s.port n) (((List.range 8).foldl (fun t i => g (8 * (n / 8) + i) t) s).port n) := by
  have hmem : n % 8 ∈ List.range 8 := List.mem_range.2 (by omega)
  refine foldl_once (fun t => t.port n) hmem List.nodup_range (fun t i hi => hg (8 * (n / 8) + i) t n (by omega)) (fun t => ?_) s
  rw [show 8 * (n / 8) + n % 8 = n by omega]
  exact h t

end

/-- The synthesizers' state without the ports. -/
def besidePorts (s : State) : SynState := { s.syn with ports := Vector.replicate 32 {} }

theorem besidePorts_of_syn {s t : State} (h : t.syn = s.syn) : besidePorts t = besidePorts s :=
  congrArg (fun v : SynState => { v with ports := Vector.replicate 32 {} }) h

/-- States that agree beside the ports agree in the locks. -/
theorem locks_of_besidePorts {s t : State} (h : besidePorts t = besidePorts s) :
    t.syn.bank = s.syn.bank ∧ t.syn.synA = s.syn.synA ∧ t.syn.refValid = s.syn.refValid := by
  simp only [besidePorts, SynState.mk.injEq] at h
  simp only [h, and_self]

theorem besidePorts_mapPort (n : Nat) (f : PortState → PortState) (s : State) : besidePorts (s.mapPort n f) = besidePorts s := rfl

/-- A bank's lock set, and the moment of its loss noted or cleared. -/
def setBank (k : Nat) (x : SynLock) (lost : Option Nat) (s : State) : State :=
  { s with syn := { s.syn with bank := vupdN s.syn.bank k (fun _ => x), refLostAt := lost } }

/-! ### A bank coasts (11 R284, R285) -/

/-- A port's turn when its bank is lost. -/
def portLost (n : Nat) (t : State) : State :=
  match (t.port n).pstate with
  | .running => if n < 4 then t.mapPort n (fun x => { x with pstate := .coasting }) else t.gateOff n .gated
  | .coasting => if n < 4 then t else t.gateOff n .gated
  | .starting => t.mapPort n (fun x => x.settle .gated none)
  | .cal => t.endBurst n 3 (within t.syn.params.echoWin (medianNat ((t.port n).burst.getD [])) ((t.port n).burst.getD [])).length
  | _ => t

theorem bankLost_eq (k : Nat) (s : State) : s.bankLost k = (List.range 8).foldl (fun t i => portLost (8 * k + i) t)
    (setBank k .coasting (if k = 0 ∧ s.syn.refLostAt = none then some s.upMs else s.syn.refLostAt) s) := rfl

/-- A port gates off: it is gated, or it will be at its edge toward the inactive level (11 R274). -/
def GatesOff (x : PortState) : Prop := x.pstate = .gated ∨ x.stopTo = some .gated

theorem gatesOff_gateOff (n : Fin 32) (s : State) : GatesOff ((s.gateOff n .gated).port n) := by
  rw [State.gateOff, port_mapPort_self]
  split
  · exact .inr rfl
  · exact .inl rfl

theorem samePorts_portLost (n : Nat) (s : State) : SamePorts n s (portLost n s) := by
  unfold portLost
  split
  · split <;> exact samePorts_mapPort _ _ _
  · split
    · exact fun _ _ => rfl
    · exact samePorts_mapPort _ _ _
  · exact samePorts_mapPort _ _ _
  · exact samePorts_endBurst _ _ _ _
  · exact fun _ _ => rfl

theorem besidePorts_portLost (n : Nat) (s : State) : besidePorts (portLost n s) = besidePorts s := by
  unfold portLost
  split
  · split <;> rfl
  · split <;> rfl
  · rfl
  · exact (besidePorts_mapPort ..).trans (besidePorts_of_syn (calReply_syn ..))
  · rfl

/-- What the loss of its bank makes of a running port: TP0–TP3 coast, the others gate off (11 R285). -/
def LostPort (n : Nat) (x : PortState) : Prop := x.pstate = (if n < 4 then .coasting else .gated) ∨ x.stopTo = some .gated

theorem lostPort_portLost (n : Fin 32) (s : State) (h : (s.port n).pstate = .running) : LostPort n ((portLost n s).port n) := by
  simp only [portLost, h, LostPort]
  split
  · rw [port_mapPort_self]
    exact .inl rfl
  · exact gatesOff_gateOff n s

theorem besidePorts_bankLost (k : Nat) (s : State) : besidePorts (s.bankLost k) =
    besidePorts (setBank k .coasting (if k = 0 ∧ s.syn.refLostAt = none then some s.upMs else s.syn.refLostAt) s) := by
  rw [bankLost_eq]
  exact foldl_keeps besidePorts (fun t i _ => besidePorts_portLost _ t) _

theorem locks_bankLost (k : Nat) (s : State) : (s.bankLost k).syn.bank = vupdN s.syn.bank k (fun _ => .coasting) ∧
    (s.bankLost k).syn.synA = s.syn.synA ∧ (s.bankLost k).syn.refValid = s.syn.refValid :=
  locks_of_besidePorts (besidePorts_bankLost k s)

theorem port_bankLost_other {n k : Nat} (h : k ≠ n / 8) (s : State) : (s.bankLost k).port n = s.port n := by
  rw [bankLost_eq]
  exact port_foldl_otherBank samePorts_portLost h _

theorem lostPort_bankLost (n : Fin 32) (s : State) (h : (s.port n).pstate = .running) : LostPort n ((s.bankLost (n / 8)).port n) := by
  rw [bankLost_eq]
  exact port_foldl_bank (R := fun x y => x.pstate = .running → LostPort n y) samePorts_portLost (lostPort_portLost n) _ h

/-! ### A bank relocks (11 R286) -/

/-- A port's turn when its bank relocks. -/
def portBack (n : Nat) (t : State) : State := t.mapPort n (fun x => if x.pstate = .coasting then { x with pstate := .running } else x)

theorem bankBack_eq (k : Nat) (s : State) : s.bankBack k = (List.range 8).foldl (fun t i => portBack (8 * k + i) t)
    (setBank k .locked (if k = 0 then none else s.syn.refLostAt) s) := rfl

theorem samePorts_portBack (n : Nat) (s : State) : SamePorts n s (portBack n s) := samePorts_mapPort _ _ _

theorem locks_bankBack (k : Nat) (s : State) : (s.bankBack k).syn.bank = vupdN s.syn.bank k (fun _ => .locked) ∧
    (s.bankBack k).syn.synA = s.syn.synA ∧ (s.bankBack k).syn.refValid = s.syn.refValid := by
  rw [bankBack_eq]
  exact locks_of_besidePorts (foldl_keeps besidePorts (fun t i _ => besidePorts_mapPort _ _ t) _)

theorem bankBack_clk (k : Nat) (s : State) : (s.bankBack k).clk = s.clk := by
  rw [bankBack_eq]
  exact foldl_keeps State.clk (fun t i _ => show (portBack (8 * k + i) t).clk = t.clk from rfl) _

theorem port_bankBack_other {n k : Nat} (h : k ≠ n / 8) (s : State) : (s.bankBack k).port n = s.port n := by
  rw [bankBack_eq]
  exact port_foldl_otherBank samePorts_portBack h _

theorem portBack_runs (n : Fin 32) (s : State) : ((portBack n s).port n).pstate ≠ .coasting := by
  rw [portBack, port_mapPort_self]
  split
  · simp
  · assumption

theorem bankBack_runs (n : Fin 32) (s : State) : ((s.bankBack (n / 8)).port n).pstate ≠ .coasting := by
  rw [bankBack_eq]
  exact port_foldl_bank (R := fun _ y => y.pstate ≠ .coasting) samePorts_portBack (portBack_runs n) _

/-! ### One synthesizer (11 R284, R286) -/

/-- What concerns one bank leaves SYN-A and the other banks. -/
theorem oneBank {s t : State} {x : SynLock} (k : Fin 4) (hbank : t.syn.bank = vupdN s.syn.bank k (fun _ => x)) (hA : t.syn.synA = s.syn.synA) :
    t.syn.bank[k] = x ∧ t.syn.synA = s.syn.synA ∧ ∀ j : Fin 4, j ≠ k → t.syn.bank[j] = s.syn.bank[j] := by
  rw [hbank]
  exact ⟨by rw [getElem_vupdN, if_pos rfl], hA, fun j hj => by rw [getElem_vupdN, if_neg hj]⟩

theorem synUnlock_bank {s : State} {k : Fin 4} (hv : s.syn.refValid = true) (hk : s.syn.bank[k] = .locked) : exec (.evSynUnlock k.succ) s =
    .next ((s.report 0x1202 3 0xFF k.succ (b8 k.succ ++ bz 3)).bankLost k) := by
  have hlock : vgetD s.syn.bank (k.succ.val - 1) .coasting = .locked := (dif_pos k.isLt).trans hk
  show execEvSynUnlock k.succ s = _
  simp only [execEvSynUnlock, hv, hlock]
  rfl

theorem synRelock_bank {s : State} {k : Fin 4} (hv : s.syn.refValid = true) (hk : s.syn.bank[k] = .coasting) : exec (.evSynRelock k.succ) s =
    .next ((s.bankBack k).faultClear 0x1202 k.succ) := by
  have hlock : vgetD s.syn.bank (k.succ.val - 1) .locked = .coasting := (dif_pos k.isLt).trans hk
  show execEvSynRelock k.succ s = _
  simp only [execEvSynRelock, hv, hlock]
  rfl

theorem synUnlock_gives {s : State} {k : Fin 4} (hv : s.syn.refValid = true) (hk : s.syn.bank[k] = .locked) :
    Gives (.evSynUnlock k.succ) s (fun t => t.syn.bank[k] = .coasting ∧ t.syn.synA = s.syn.synA ∧
      ∀ j : Fin 4, j ≠ k → t.syn.bank[j] = s.syn.bank[j]) := by
  obtain ⟨hbank, hA, -⟩ := locks_bankLost k (s.report 0x1202 3 0xFF k.succ (b8 k.succ ++ bz 3))
  rw [report_syn] at hbank hA
  exact ⟨_, synUnlock_bank hv hk, oneBank k hbank hA⟩

theorem synRelock_gives {s : State} {k : Fin 4} (hv : s.syn.refValid = true) (hk : s.syn.bank[k] = .coasting) :
    Gives (.evSynRelock k.succ) s (fun t => t.syn.bank[k] = .locked ∧ t.syn.synA = s.syn.synA ∧
      ∀ j : Fin 4, j ≠ k → t.syn.bank[j] = s.syn.bank[j]) := by
  obtain ⟨hbank, hA, -⟩ := locks_bankBack k s
  rw [← faultClear_syn 0x1202 k.succ (s.bankBack k)] at hbank hA
  exact ⟨_, synRelock_bank hv hk, oneBank k hbank hA⟩

/-! ### All banks -/

section
variable {f : State → Nat → State}

/-- A pass over the banks that sets each one's lock sets all of them. -/
theorem bank_foldl {x : SynLock} (h : ∀ t k, (f t k).syn.bank = vupdN t.syn.bank k (fun _ => x)) (k : Fin 4) (s : State) :
    ((List.range 4).foldl f s).syn.bank[k] = x := by
  refine foldl_once (fun t => t.syn.bank[k]) (R := fun _ y => y = x) (List.mem_range.2 k.isLt) List.nodup_range (fun t j hj => ?_) (fun t => ?_) s
  · rw [h]
    exact (getElem_vupdN_nat ..).trans (if_neg (Ne.symm hj))
  · rw [h, getElem_vupdN, if_pos rfl]

/-- A pass over the banks does to a port what its own bank's turn does. -/
theorem port_foldl_banks {n : Fin 32} {R : PortState → PortState → Prop} (hother : ∀ t k, k ≠ n.val / 8 → (f t k).port n = t.port n)
    (hown : ∀ t, R (t.port n) ((f t (n.val / 8)).port n)) (s : State) : R (s.port n) (((List.range 4).foldl f s).port n) :=
  foldl_once (fun t => t.port n) (List.mem_range.2 (by omega)) List.nodup_range hother hown s

end

/-! ### The reference is lost (11 R284, R285) -/

/-- The reference is gone: SYN-A coasts, and the loss is reported. -/
def refGone (s : State) : State := ({ s with syn := { s.syn with refValid := false, synA := .coasting } }).report 0x1201 3 0xFF 0 []

theorem refGone_syn (s : State) : (refGone s).syn = { s.syn with refValid := false, synA := .coasting } := report_syn ..

theorem refLoss_valid {s : State} (h : s.syn.refValid = true) :
    exec .evRefLoss s = .next ((List.range 4).foldl (fun t k => t.bankLost k) (refGone s)) :=
  congrArg Host.Outcome.next (if_pos h)

theorem refLoss_again {s : State} (h : s.syn.refValid = false) : exec .evRefLoss s = .next s :=
  congrArg Host.Outcome.next (if_neg (by simp [h]))

theorem refLoss_gives {s : State} (h : s.syn.refValid = true) : Gives .evRefLoss s (fun t => t.syn.refValid = false ∧ t.syn.synA = .coasting ∧
    (∀ k : Fin 4, t.syn.bank[k] = .coasting) ∧ ∀ n : Fin 32, (s.port n).pstate = .running → LostPort n (t.port n)) := by
  refine ⟨_, refLoss_valid h, ?_, ?_, fun k => ?_, fun n => ?_⟩
  · rw [foldl_keeps (fun t => t.syn.refValid) (fun t k _ => (locks_bankLost k t).2.2), refGone_syn]
  · rw [foldl_keeps (fun t => t.syn.synA) (fun t k _ => (locks_bankLost k t).2.1), refGone_syn]
  · exact bank_foldl (fun t k => (locks_bankLost k t).1) k _
  · have hport : (refGone s).port n = s.port n := by
      rw [State.port, refGone_syn]
      rfl
    rw [← hport]
    exact port_foldl_banks (R := fun x y => x.pstate = .running → LostPort n y) (fun t _ hk => port_bankLost_other hk t) (lostPort_bankLost n) _

/-! ### The reference comes back (11 R286, 23 R546) -/

theorem bringUp_syn (n : Nat) (s : State) : (s.bringUp n).syn = s.syn := by
  unfold State.bringUp
  split <;> rfl

theorem bringUp_runs (n : Nat) (s : State) : (s.bringUp n).clk.runs = s.clk.runs := by
  unfold State.bringUp
  split <;> rfl

theorem startLanes_syn (s : State) : s.startLanes.syn = s.syn := foldl_keeps State.syn (fun t n _ => bringUp_syn n t) s

theorem startLanes_runs (s : State) : s.startLanes.clk.runs = s.clk.runs := foldl_keeps (fun t => t.clk.runs) (fun t n _ => bringUp_runs n t) s

theorem bootTime_syn (s : State) : s.bootTime.syn = s.syn := by
  unfold State.bootTime
  split <;> rfl

/-- The load of TCNT sets the count, the boundary before it and its own mark. -/
theorem bootTime_clk (s : State) : ∃ tick bnd loaded, s.bootTime.clk = { s.clk with tick := tick, bnd := bnd, loaded := loaded } := by
  unfold State.bootTime
  split
  · exact ⟨_, _, _, rfl⟩
  · exact ⟨_, _, _, rfl⟩

theorem bootTime_runs (s : State) : s.bootTime.clk.runs = s.clk.runs := by
  obtain ⟨tick, bnd, loaded, h⟩ := bootTime_clk s
  rw [h]

theorem firstLock_syn (s : State) : s.firstLock.syn = s.syn := by
  unfold State.firstLock
  split
  · rfl
  · dsimp only
    split
    · rw [startLanes_syn, bootTime_syn]
    · rfl

/-- From the first lock on TCNT counts (23 R546, log 61). -/
theorem firstLock_runs (s : State) : s.firstLock.clk.runs = true := by
  unfold State.firstLock
  split
  · assumption
  · dsimp only
    split
    · rw [startLanes_runs, bootTime_runs]
    · rfl

theorem firstLock_later {s : State} (h : s.clk.runs = true) : s.firstLock = s := if_pos h

/-- SYN-A and the banks have locked to a valid reference. -/
def relocked (s : State) : State :=
  (List.range 4).foldl (fun t k => t.bankBack k) { s with syn := { s.syn with refValid := true, synA := .locked } }

theorem relocked_clk (s : State) : (relocked s).clk = s.clk :=
  foldl_keeps State.clk (fun t k _ => bankBack_clk k t) { s with syn := { s.syn with refValid := true, synA := .locked } }

theorem relocked_locks (s : State) : (relocked s).syn.refValid = true ∧ (relocked s).syn.synA = .locked ∧
    ∀ k : Fin 4, (relocked s).syn.bank[k] = .locked :=
  ⟨foldl_keeps (fun t => t.syn.refValid) (fun t k _ => (locks_bankBack k t).2.2) _,
    foldl_keeps (fun t => t.syn.synA) (fun t k _ => (locks_bankBack k t).2.1) _, fun j => bank_foldl (fun t k => (locks_bankBack k t).1) j _⟩

theorem relocked_runs (n : Fin 32) (s : State) : ((relocked s).port n).pstate ≠ .coasting :=
  port_foldl_banks (R := fun _ y => y.pstate ≠ .coasting) (fun t _ hk => port_bankBack_other hk t) (bankBack_runs n) _

theorem refRestore_valid {s : State} (h : s.syn.refValid = true) : exec .evRefRestore s = .next s :=
  congrArg Host.Outcome.next (if_pos h)

/-- The fault of the reference is cleared where it was reported; of the synthesizers and of time that changes nothing. -/
theorem refRestore_lost {s : State} (h : s.syn.refValid = false) : ∃ t, exec .evRefRestore s = .next t ∧
    t.syn = (relocked s).syn ∧ t.clk = (relocked s).firstLock.clk := by
  refine ⟨_, congrArg Host.Outcome.next (if_neg (by simp [h])), ?_⟩
  dsimp only
  split
  · exact ⟨(faultClear_syn ..).trans (firstLock_syn _), faultClear_clk ..⟩
  · exact ⟨firstLock_syn _, rfl⟩

theorem refRestore_gives {s : State} (h : s.syn.refValid = false) : Gives .evRefRestore s (fun t => t.syn.refValid = true ∧
    t.syn.synA = .locked ∧ (∀ k : Fin 4, t.syn.bank[k] = .locked) ∧ t.clk.runs = true ∧ (s.clk.runs = true → t.clk = s.clk) ∧
    ∀ n : Fin 32, (t.port n).pstate ≠ .coasting) := by
  obtain ⟨t, hexec, hsyn, hclk⟩ := refRestore_lost h
  obtain ⟨hvalid, hA, hbank⟩ := relocked_locks s
  refine ⟨t, hexec, hsyn ▸ hvalid, hsyn ▸ hA, hsyn ▸ hbank, hclk ▸ firstLock_runs _, fun hr => ?_, fun n => ?_⟩
  · rw [hclk, firstLock_later (by rw [relocked_clk, hr]), relocked_clk]
  · rw [port_of_syn hsyn]
    exact relocked_runs n s

/-! ### The end of coasting (11 R285) -/

/-- A port's turn when `REF_COAST` has passed. -/
def coastOver (u : State) (n : Nat) : State := if (u.port n).pstate = .coasting then u.gateOff n .gated else u

theorem refCoastExpiry_idle {s : State} (h : s.syn.refLostAt = none) : exec .evRefCoastExpiry s = .next s := by
  show execEvRefCoastExpiry s = _
  simp [execEvRefCoastExpiry, h]

theorem refCoastExpiry_due {s : State} {since : Nat} (h : s.syn.refLostAt = some since) (hdue : since + s.syn.params.refCoast ≤ s.upMs) :
    exec .evRefCoastExpiry s = .next ((List.range 4).foldl coastOver s) := by
  show execEvRefCoastExpiry s = _
  simp only [execEvRefCoastExpiry, h]
  rw [if_pos hdue]
  rfl

theorem samePorts_coastOver (s : State) (n : Nat) : SamePorts n s (coastOver s n) := by
  unfold coastOver
  split
  · exact samePorts_mapPort _ _ _
  · exact fun _ _ => rfl

theorem coastOver_gates (n : Fin 32) (s : State) (h : (s.port n).pstate = .coasting) : GatesOff ((coastOver s n).port n) := by
  rw [coastOver, if_pos h]
  exact gatesOff_gateOff n s

theorem refCoastExpiry_gives {s : State} {since : Nat} (h : s.syn.refLostAt = some since) (hdue : since + s.syn.params.refCoast ≤ s.upMs) :
    Gives .evRefCoastExpiry s (fun t => ∀ n : Fin 32, (n.val < 4 → (s.port n).pstate = .coasting → GatesOff (t.port n)) ∧
      (4 ≤ n.val → t.port n = s.port n)) := by
  refine ⟨_, refCoastExpiry_due h hdue, fun n => ⟨fun hn => ?_, fun hn => ?_⟩⟩
  · exact foldl_once (fun t => t.port n) (R := fun x y => x.pstate = .coasting → GatesOff y) (List.mem_range.2 hn) List.nodup_range
      (fun t j hj => samePorts_coastOver t j n (Ne.symm hj)) (coastOver_gates n) s
  · refine foldl_keeps (fun t => t.port n) (fun t j hj => samePorts_coastOver t j n ?_) s
    have := List.mem_range.1 hj
    omega

/-! ### The statement -/

/-- A port whose event changes it alone. -/
theorem port_after (n : Fin 32) (f : PortState → PortState) (s : State) : (s.mapPort n f).port n = f (s.port n) ∧ SamePorts n s (s.mapPort n f) :=
  ⟨port_mapPort_self n f s, samePorts_mapPort _ _ _⟩

/-- Settles O37: each event of a port comes down to a change of that port, and a loss of reference, its end and the end of coasting to passes in which
every bank and every port has one turn. The round trip that stays and the window that slides (log 57) and TCNT's start at the first lock (log 61) are
the model's choices. -/
theorem portsStartMeasureAndCoast : Obligations.PortsStartMeasureAndCoast := by
  unfold Obligations.PortsStartMeasureAndCoast
  refine ⟨fun n s => ?ports, fun paths skews s => pathCalibration_gives, fun s => ⟨refLoss_gives, refLoss_again, refRestore_gives, refRestore_valid,
    fun _ => synUnlock_gives, fun _ => synRelock_gives, refCoastExpiry_idle, fun since => refCoastExpiry_gives⟩⟩
  extract_lets x
  refine ⟨?start, portStart_idle, fun hrun hmode => ⟨portEdge_early hrun hmode, portEdge_falls hrun hmode, ?rise⟩, portEdge_off,
    fun l rt hb hl hbank => echo_burst hb hl hbank rt, fun rt hb hr => echo_noReturn hb hr rt, ?echo, fun hr hrun hbank => ⟨?few, ?loss, ?stuck⟩,
    portCalResult_none, fun l hb hr => ⟨portCal_calibrates hb rfl hr, portCal_fails hb rfl⟩, ?tod, todMessage_otherMode⟩
  case start =>
    intro sec hat hst hdue
    refine ⟨_, portStart_due hat hst hdue, ?_⟩
    obtain ⟨hport, hsame⟩ := port_after n (startedAt s.ms (sec * 10 ^ 12 + s.scaleOff x.cfg)) s
    obtain ⟨hruns, hstart, hcfg, hlevel⟩ := startedAt_runs s.ms (sec * 10 ^ 12 + s.scaleOff x.cfg) x
    rw [hport]
    exact ⟨hruns, hstart, hcfg, hlevel, hsame⟩
  case rise =>
    intro hl hlast hstep
    refine ⟨_, portEdge_rises hrun hmode hl hlast, ?_⟩
    obtain ⟨hport, hsame⟩ := port_after n (PortState.atEdge s.ms (s.activeEdge x)) s
    rw [hport, atEdge_noStep hstep]
    exact ⟨rfl, rfl, rfl, hsame⟩
  case echo =>
    intro rt m v hb hr hrun hbank hlast hv hf hm hwin
    refine ⟨_, echo_accepted hb hr hrun hbank hlast hv hf hm hwin, ?_⟩
    obtain ⟨hport, hsame⟩ := port_after n (acceptEcho s.ms v) s
    rw [hport]
    exact ⟨rfl, rfl, rfl, hsame⟩
  case few =>
    intro hfew
    refine ⟨_, echoMissing_measuring hr hrun hbank, ?_⟩
    obtain ⟨hport, hsame⟩ := port_after n missedEcho s
    rw [echoMissed_few hfew, hport]
    exact ⟨rfl, rfl, hsame⟩
  case loss =>
    intro hloss
    refine ⟨_, echoMissing_measuring hr hrun hbank, ?_⟩
    obtain ⟨hport, hsame⟩ := port_after n missedEcho s
    obtain ⟨hfault, hdfwd, hsame'⟩ := port_echoFault n (s.mapPort n missedEcho)
    rw [hport] at hdfwd
    rw [echoMissed_loss hloss]
    exact ⟨hfault, hdfwd, samePorts_trans hsame hsame'⟩
  case stuck =>
    intro hmode active
    obtain ⟨hfault, hdfwd, -⟩ := port_echoFault n s
    exact ⟨_, returnStuck_clock hr hmode hrun active, hfault, hdfwd⟩
  case tod =>
    intro hmode hrun hlast hdue
    refine ⟨_, todMessage_first hmode hrun hlast hdue, rfl, ?_⟩
    obtain ⟨hport, hsame⟩ := port_after n (afterMessage s.ms (s.todSecond x * 10 ^ 12 + s.scaleOff x.cfg + 10 ^ 9 * x.cfg.todoff)) s
    exact ⟨congrArg PortState.tseq hport, hsame⟩

end Sys2Proof.Proofs.TimingPorts
end
